-- ==== Sys2Proof/Word.lean ====
section
/-!
DEFINITION. The word types of the LS4810 and their plainest arithmetic.
Every register is 32 bits wide and memory is addressed in bytes (R4).
-/
namespace Sys2Proof

/-- A 32-bit word: the contents of one register, or of one word of memory. -/
abbrev Word := BitVec 32

/-- One byte of memory. -/
abbrev Byte := BitVec 8

/-- The word that holds `n` modulo 2^32. -/
abbrev word (n : Nat) : Word := BitVec.ofNat 32 n

end Sys2Proof
end

