-- ==== Sys2Proof/Syntax.lean ====
section
/-!
DEFINITION. The commands of the LS4810: one constructor per row of the table of operations and events, those with
operands first, each part in the table's order.
The table gives a row no operand fields; the operands here are what the row's rules take from outside the part
(log 3): for a register write the value and the writer, for a tick or an analogue event what the clocks, the converters
and the balls bring, for a core instruction its register numbers and immediates (R191).
-/
namespace Sys2Proof

/-- Who issues a register access: the master and the agent of the request (Table 08.3, R224). -/
structure Writer where
  /-- Master ID. -/
  mid : Nat
  /-- Agent ID. -/
  aid : Nat
  deriving DecidableEq, Repr

/-- The three supplies of VSYS (R53). -/
inductive Source where
  | main | bellows | bat
  deriving DecidableEq, Repr

/-- The levels at the supply inputs in mV: VHIN, VMAIN, VBEL and VBAT (R56, R60, R67). -/
structure Levels where
  vhin : Nat
  vmain : Nat
  vbel : Nat
  vbat : Nat
  deriving DecidableEq, Repr

/-- What the supplies have done since the last sample: the inputs kept their levels for `us` microseconds, and now stand at
`now`. -/
structure SupplySample where
  us : Nat
  now : Levels
  deriving DecidableEq, Repr

/-- The wake sources of Table 04.4. `interrupt` is any interrupt the EIC would take. -/
inductive WakeSource where
  | interrupt | main | rtc | wkey | gpio (pin : Fin 4) | lke | limit | hrv | hdp
  deriving DecidableEq, Repr

/-- The power domains of Table 01.1. -/
inductive Domain where
  | saddle | core | store | sys | meas | hmi | link | sec
  deriving DecidableEq, Repr

/-- What the monitors of R418 watch: VCORE, and the supply of a bank that carries SOUT outputs. -/
inductive SupplyMonitor where
  | vcore | vio (bank : Fin 4)
  deriving DecidableEq, Repr

/-- What the end of a Cycle brings to the part: the ticks of the tick clock since the last step, the modulator clocks
of the ended Cycle, the ones each converter counted, the channels that were overloaded, and the SFB levels. -/
structure BoundaryInput where
  ticks : Nat
  /-- Modulator clocks of the ended Cycle (N of R381). -/
  modClocks : Nat
  /-- Clocks of the low-power modulators in it (R385). -/
  lpClocks : Nat
  /-- Ones counted on MCH0 to MCH47. -/
  ones : List Nat
  /-- Bit k: MCHk was overloaded in the Cycle. -/
  overload : Nat
  /-- SFB0 to SFB15 at the boundary (R417). -/
  sfb : Nat
  deriving DecidableEq, Repr

/-- What the end of a Drone slot brings: the ticks that run up to it, the modulator clocks of the slot, the ones counted on the two channels and on
the two Drone converters, whether an overload detector fired in either pair, the reference code and the die temperature
in 1/16 °C (R403 to R405, R420). -/
structure DroneInput where
  ticks : Nat
  n : Nat
  c0 : Nat
  d0 : Nat
  c1 : Nat
  d1 : Nat
  void0 : Bool
  void1 : Bool
  ref : BitVec 16
  temp : Int
  deriving DecidableEq, Repr

/-- A row that the silicon makes fail in a march run: its array, its number (512 and up for a spare row), the element of the
program in which it fails first, and the columns of its failing words. -/
structure MarchFail where
  arr : Nat
  row : Nat
  elem : Nat
  cols : List Nat
  deriving DecidableEq, Repr

/-- What the silicon adds to a march run, beside what the arrays hold (R307, R310): the failing reads, the rows, the bits that
differ in the two signatures of a transparent run, and the ECC events of its passes: the single-bit errors, and for each
uncorrectable one its slot, its offset and its syndrome. -/
structure MarchResult where
  failReads : Nat
  fails : List MarchFail
  sigP : Word
  sigA : Word
  ces : Nat
  ues : List (Nat × Nat × Nat)
  deriving DecidableEq, Repr

/-- A frame on the field link. -/
structure CanFrame where
  /-- 29-bit identifier, or 11-bit when `ext` is false. -/
  id : Nat
  ext : Bool
  remote : Bool
  /-- FD format. -/
  fd : Bool
  /-- Bit-rate switch flag. -/
  brs : Bool
  /-- Error-state indicator. -/
  esi : Bool
  /-- The data length code on the bus. -/
  dlc : Nat
  data : List Byte
  deriving DecidableEq, Repr

/-- The kinds of bus error of R505, as ISO 11898-1 counts them: a bit error, a stuff error (`stuffArb`: of a transmitter in
arbitration that sent the stuff bit recessive), a form, CRC or acknowledge error, a bit error while an active error flag or an
overload flag is sent (`flag`), and a dominant bit after an error flag, or a run of dominant bits after a flag (`dominant`). -/
inductive CanError where
  | bit | stuff | stuffArb | form | crc | ack | flag | dominant
  deriving DecidableEq, Repr

/-- What the board puts on a ball: a level, or nothing. -/
inductive BoardDrive where
  | low | high | open
  deriving DecidableEq, Repr

/-- What the board puts on a pin, and how many samples in a row a filter has taken of the level that the ball then has. -/
structure PinSample where
  drive : BoardDrive
  samples : Nat
  deriving DecidableEq, Repr

/-- The transmit slots beside the posted queue (R513). -/
inductive SlotKind where
  | heartbeat | response | abort
  deriving DecidableEq, Repr

/-- How the packet of the debug port arrived (R556): decoded, with an address or data parity error or the reserved OP, or
with a bad header. -/
inductive PacketCheck where
  | good | bad | header
  deriving DecidableEq, Repr

/-- The commands. -/
inductive Instr where
  /-- CYCLE_BOUNDARY (R35; `b` is what the converters and clocks bring to the boundary). -/
  | cycleBoundary (b : BoundaryInput)
  /-- BREATH_BOUNDARY (R28; ticks of the tick clock since the last step, and the sixteen SFB levels (R417)). -/
  | breathBoundary (ticks sfb : Nat)
  /-- BRT_DONE_WRITE (R38). -/
  | brtDoneWrite (v : Word) (wr : Writer)
  /-- MAINS_CROSSING (R30). -/
  | mainsCrossing (ticks : Nat)
  /-- MAINS_MISS (R33). -/
  | mainsMiss (ticks : Nat)
  /-- LXO_STOP (R45). -/
  | lxoStop (ticks : Nat)
  /-- MONITOR_WINDOW_END (R46; W, the HFO and LRC counts, and whether the window is one on LXO). -/
  | monitorWindowEnd (win hfo lrc : Nat) (onLxo : Bool)
  /-- CLK_OP_WRITE (R47). -/
  | clkOpWrite (v : Word) (wr : Writer)
  /-- RTC_SUB_READ (R50). -/
  | rtcSubRead (wr : Writer)
  /-- RTC_SEC_WRITE (R50). -/
  | rtcSecWrite (v : Word) (wr : Writer)
  /-- SOURCE_INVALID (R56; a sample of the supplies). -/
  | sourceInvalid (x : SupplySample)
  /-- SOURCE_VALID (R56; a sample of the supplies). -/
  | sourceValid (x : SupplySample)
  /-- OFF_EXIT (R79; a sample of the supplies, and whether the cold-start circuit charged the Bellows). -/
  | offExit (x : SupplySample) (hcold : Bool)
  /-- HARVEST_SAMPLE (R69; V(MPPSET) and VHIN in mV). -/
  | harvestSample (mv vhin : Nat)
  /-- HRV_THR_WRITE (R58). -/
  | hrvThrWrite (v : Word) (wr : Writer)
  /-- HRV_CFG_WRITE (R58). -/
  | hrvCfgWrite (v : Word) (wr : Writer)
  /-- HRV_LEVEL_UPDATE (R85; the inputs in mV). -/
  | hrvLevelUpdate (vhin vmain vbel vbat : Nat)
  /-- WAKE_EVENT (R99). -/
  | wakeEvent (src : WakeSource)
  /-- DOMAIN_USABLE (R109). -/
  | domainUsable (d : Domain)
  /-- POWER_DOWN_START (R108; the PWR_DOMCTL write). -/
  | powerDownStart (v : Word) (wr : Writer)
  /-- POWER_DOWN_DONE (R108). -/
  | powerDownDone (d : Domain)
  /-- GPIO_WAKE_EDGE (R100; what the board has put on the pin for two ticks). -/
  | gpioWakeEdge (pin : Fin 4) (drive : BoardDrive)
  /-- WAKE_KEY_SCAN (R101; the raw count of the scanned node). -/
  | wakeKeyScan (count : Nat)
  /-- NRESET_ASSERT (R120; how long nRESET has been low, in nanoseconds). -/
  | nresetAssert (ns : Nat)
  /-- RST_SYSRST (R122). -/
  | rstSysrst (v : Word) (wr : Writer)
  /-- RST_DOMRST (R122). -/
  | rstDomrst (v : Word) (wr : Writer)
  /-- BOOT_COLD_MATS (R141; what the silicon does to the reads of the test). -/
  | bootColdMats (r : MarchResult)
  /-- LIFECYCLE_REQUEST (R145). -/
  | lifecycleRequest (v : Word) (wr : Writer)
  /-- LCS_RESPONSE_WRITE (R146; the write of LCS_RESP7). -/
  | lcsResponseWrite (v : Word) (wr : Writer)
  /-- KEY_LOAD (R155; the write of LCS_KEYCTL). -/
  | keyLoad (v : Word) (wr : Writer)
  /-- STM_MATCH (R190; microseconds since the last step). -/
  | stmMatch (us : Nat)
  /-- STM_CNTLO_READ (R190). -/
  | stmCntloRead (wr : Writer)
  /-- STM_CMPHI_WRITE (R190). -/
  | stmCmphiWrite (v : Word) (wr : Writer)
  /-- EIC_SWSET_WRITE (R182). -/
  | eicSwsetWrite (v : Word) (wr : Writer)
  /-- EIC_SWCLR_WRITE (R182). -/
  | eicSwclrWrite (v : Word) (wr : Writer)
  /-- WCALL (R217). -/
  | wcall (svc : BitVec 20)
  /-- BRK (R173). -/
  | brk (code : BitVec 20)
  /-- CSRR (R218). -/
  | csrr (rd : Fin 16) (csr : BitVec 12)
  /-- CSRW (R218). -/
  | csrw (csr : BitVec 12) (ra : Fin 16)
  /-- CSRS (R218). -/
  | csrs (csr : BitVec 12) (ra : Fin 16)
  /-- CSRC (R218). -/
  | csrc (csr : BitVec 12) (ra : Fin 16)
  /-- ADD (R200). -/
  | add (rd ra rb : Fin 16)
  /-- ADC (R200). -/
  | adc (rd ra rb : Fin 16)
  /-- SUB (R200). -/
  | sub (rd ra rb : Fin 16)
  /-- SBC (R200). -/
  | sbc (rd ra rb : Fin 16)
  /-- NEG (R201). -/
  | neg (rd ra : Fin 16)
  /-- ADDSAT (R201). -/
  | addsat (rd ra rb : Fin 16)
  /-- SUBSAT (R201). -/
  | subsat (rd ra rb : Fin 16)
  /-- MUL (R200). -/
  | mul (rd ra rb : Fin 16)
  /-- MULHS (R200). -/
  | mulhs (rd ra rb : Fin 16)
  /-- MULHU (R200). -/
  | mulhu (rd ra rb : Fin 16)
  /-- DIVS (R202). -/
  | divs (rd ra rb rc : Fin 16)
  /-- DIVU (R202). -/
  | divu (rd ra rb rc : Fin 16)
  /-- CLZ (R200). -/
  | clz (rd ra : Fin 16)
  /-- MINS (R200). -/
  | mins (rd ra rb : Fin 16)
  /-- MAXS (R200). -/
  | maxs (rd ra rb : Fin 16)
  /-- MINU (R200). -/
  | minu (rd ra rb : Fin 16)
  /-- MAXU (R200). -/
  | maxu (rd ra rb : Fin 16)
  /-- ADDI (R200). -/
  | addi (rd ra : Fin 16) (imm : BitVec 16)
  /-- RSBI (R200). -/
  | rsbi (rd ra : Fin 16) (imm : BitVec 16)
  /-- AND (R203). -/
  | and (rd ra rb : Fin 16)
  /-- OR (R203). -/
  | or (rd ra rb : Fin 16)
  /-- XOR (R203). -/
  | xor (rd ra rb : Fin 16)
  /-- ANDN (R203). -/
  | andn (rd ra rb : Fin 16)
  /-- NOT (R203). -/
  | not (rd ra : Fin 16)
  /-- ANDI (R203). -/
  | andi (rd ra : Fin 16) (imm : BitVec 16)
  /-- ORI (R203). -/
  | ori (rd ra : Fin 16) (imm : BitVec 16)
  /-- XORI (R203). -/
  | xori (rd ra : Fin 16) (imm : BitVec 16)
  /-- LSL (R204). -/
  | lsl (rd ra rb : Fin 16)
  /-- LSR (R204). -/
  | lsr (rd ra rb : Fin 16)
  /-- ASR (R204). -/
  | asr (rd ra rb : Fin 16)
  /-- ROR (R205). -/
  | ror (rd ra rb : Fin 16)
  /-- LSLI (R204). -/
  | lsli (rd ra : Fin 16) (n : BitVec 5)
  /-- LSRI (R204). -/
  | lsri (rd ra : Fin 16) (n : BitVec 5)
  /-- ASRI (R204). -/
  | asri (rd ra : Fin 16) (n : BitVec 5)
  /-- RORI (R205). -/
  | rori (rd ra : Fin 16) (n : BitVec 5)
  /-- BSET (R203). -/
  | bset (rd ra : Fin 16) (b : BitVec 5)
  /-- BCLR (R203). -/
  | bclr (rd ra : Fin 16) (b : BitVec 5)
  /-- BTST (R203). -/
  | btst (ra : Fin 16) (b : BitVec 5)
  /-- BEXT (R203; `w` is the field W - 1). -/
  | bext (rd ra : Fin 16) (pos w : BitVec 5) (sgn : Bool)
  /-- BINS (R203; `w` is the field W - 1). -/
  | bins (rd ra : Fin 16) (pos w : BitVec 5)
  /-- CMP (R206). -/
  | cmp (ra rb : Fin 16)
  /-- CMN (R206). -/
  | cmn (ra rb : Fin 16)
  /-- TST (R206). -/
  | tst (ra rb : Fin 16)
  /-- MOV (R206). -/
  | mov (rd ra : Fin 16)
  /-- CMPI (R206). -/
  | cmpi (ra : Fin 16) (imm : BitVec 16)
  /-- MOVI (R206). -/
  | movi (rd : Fin 16) (imm : BitVec 20)
  /-- MOVHI (R206). -/
  | movhi (rd : Fin 16) (imm : BitVec 16)
  /-- ADR (R206). -/
  | adr (rd : Fin 16) (off : BitVec 20)
  /-- LDW (R207). -/
  | ldw (rd ra : Fin 16) (off : BitVec 16)
  /-- LDH (R207). -/
  | ldh (rd ra : Fin 16) (off : BitVec 16)
  /-- LDHU (R207). -/
  | ldhu (rd ra : Fin 16) (off : BitVec 16)
  /-- LDB (R207). -/
  | ldb (rd ra : Fin 16) (off : BitVec 16)
  /-- LDBU (R207). -/
  | ldbu (rd ra : Fin 16) (off : BitVec 16)
  /-- LDD (R209). -/
  | ldd (rd ra : Fin 16) (off : BitVec 16)
  /-- STW (R207). -/
  | stw (rd ra : Fin 16) (off : BitVec 16)
  /-- STH (R207). -/
  | sth (rd ra : Fin 16) (off : BitVec 16)
  /-- STB (R207). -/
  | stb (rd ra : Fin 16) (off : BitVec 16)
  /-- STD (R209). -/
  | std (rd ra : Fin 16) (off : BitVec 16)
  /-- PUSHM (R210). -/
  | pushm (mask : BitVec 16)
  /-- POPM (R210). -/
  | popm (mask : BitVec 16)
  /-- LRSV (R212). -/
  | lrsv (rd ra : Fin 16)
  /-- SCND (R212). -/
  | scnd (rd rb ra : Fin 16)
  /-- AMOADD (R213). -/
  | amoadd (rd rb ra : Fin 16)
  /-- AMOSWP (R213). -/
  | amoswp (rd rb ra : Fin 16)
  /-- BCC (R216). -/
  | bcc (cond : Fin 16) (off : BitVec 20)
  /-- CBZ (R216). -/
  | cbz (rt : Fin 16) (off : BitVec 20)
  /-- CBNZ (R216). -/
  | cbnz (rt : Fin 16) (off : BitVec 20)
  /-- BL (R216). -/
  | bl (off : BitVec 20)
  /-- BLR (R216). -/
  | blr (ra : Fin 16)
  /-- JR (R216). -/
  | jr (ra : Fin 16)
  /-- REGISTER_WRITE (R6). -/
  | registerWrite (addr : Nat) (v : Word) (wr : Writer)
  /-- POSTED_STORE_ISSUE (R230; the entry of the write buffer, oldest first). -/
  | postedStoreIssue (k : Nat)
  /-- ICT_ERRPOP (R253). -/
  | ictErrpop (v : Word) (wr : Writer)
  /-- DMA_START (R254). -/
  | dmaStart (ch : Fin 8) (v : Word) (wr : Writer)
  /-- DMA_ABORT (R261). -/
  | dmaAbort (ch : Fin 8) (v : Word) (wr : Writer)
  /-- DMA_DESC_FETCH (R255). -/
  | dmaDescFetch (ch : Fin 8)
  /-- DMA_COPY (R256). -/
  | dmaCopy (ch : Fin 8)
  /-- DMA_FILL (R256). -/
  | dmaFill (ch : Fin 8)
  /-- DMA_AMOADD (R256). -/
  | dmaAmoadd (ch : Fin 8)
  /-- DMA_AMOSWP (R256). -/
  | dmaAmoswp (ch : Fin 8)
  /-- DMA_ALLOC (R256). -/
  | dmaAlloc (ch : Fin 8)
  /-- DMA_WAITPOOL_RETRY (R258). -/
  | dmaWaitpoolRetry (ch : Fin 8)
  /-- DMA_DESC_COMPLETE (R259). -/
  | dmaDescComplete (ch : Fin 8)
  /-- GPIO_EDGE (R266, R267). -/
  | gpioEdge (pin : Fin 16) (x : PinSample)
  /-- GATE_RULE_COMMIT (R286). -/
  | gateRuleCommit (gate : Fin 8) (entry : Fin 16) (v : Word) (wr : Writer)
  /-- GTC_LOCKG3 (R288). -/
  | gtcLockg3 (v : Word) (wr : Writer)
  /-- GATE_VCNT_CLR (R284). -/
  | gateVcntClr (gate : Fin 8) (v : Word) (wr : Writer)
  /-- STC_RUN (R312). -/
  | stcRun (v : Word) (wr : Writer)
  /-- STC_SWAP (R315). -/
  | stcSwap (v : Word) (wr : Writer)
  /-- STC_RETURN (R320). -/
  | stcReturn (v : Word) (wr : Writer)
  /-- STC_ABORT (R321). -/
  | stcAbort (v : Word) (wr : Writer)
  /-- STC_XCHG (R314). -/
  | stcXchg (v : Word) (wr : Writer)
  /-- STC_RUN_DONE (R311). -/
  | stcRunDone (r : MarchResult)
  /-- SWAP_PRETEST_DONE (R315). -/
  | swapPretestDone (r : MarchResult)
  /-- SWAP_TEST_DONE (R315). -/
  | swapTestDone (r : MarchResult)
  /-- STC_ECC_CLR (R299). -/
  | stcEccClr (v : Word) (wr : Writer)
  /-- POOL_ENABLE (R329). -/
  | poolEnable (v : Word) (wr : Writer)
  /-- POOL_ALLOC (R334). -/
  | poolAlloc (cls : Fin 4) (wr : Writer)
  /-- POOL_FREE (R337). -/
  | poolFree (v : Word) (wr : Writer)
  /-- POOL_RELEASE (R337). -/
  | poolRelease (v : Word) (wr : Writer)
  /-- POOL_DONE (R337). -/
  | poolDone (v : Word) (wr : Writer)
  /-- POOL_SHAREH (R338). -/
  | poolShareh (v : Word) (wr : Writer)
  /-- POOL_SHARE (R338). -/
  | poolShare (v : Word) (wr : Writer)
  /-- POOL_THR_WRITE (R343; `second` names POOL_THRB). -/
  | poolThrWrite (cls : Fin 4) (second : Bool) (v : Word) (wr : Writer)
  /-- POOL_ERR_CLR (R347). -/
  | poolErrClr (v : Word) (wr : Writer)
  /-- TEN_ENABLE (R355). -/
  | tenEnable (v : Word) (wr : Writer)
  /-- TEN_RECORD_WRITE (R356). -/
  | tenRecordWrite (t : Fin 1024) (k : Fin 8) (v : Word) (wr : Writer)
  /-- TEN_CREATE (R359). -/
  | tenCreate (v : Word) (wr : Writer)
  /-- TEN_SUSPEND (R359). -/
  | tenSuspend (v : Word) (wr : Writer)
  /-- TEN_RESUME (R359). -/
  | tenResume (v : Word) (wr : Writer)
  /-- TEN_FAULT (R362). -/
  | tenFault (v : Word) (wr : Writer)
  /-- TEN_RESET (R370). -/
  | tenReset (v : Word) (wr : Writer)
  /-- TEN_REMOVE (R370). -/
  | tenRemove (v : Word) (wr : Writer)
  /-- VIR_ROUTE_WRITE (R364). -/
  | virRouteWrite (n : Fin 128) (v : Word) (wr : Writer)
  /-- VIR_INJECT (R366). -/
  | virInject (v : Word) (wr : Writer)
  /-- MSR_RING_ENABLE (R391). -/
  | msrRingEnable (v : Word) (wr : Writer)
  /-- MSR_RINGREL (R393; `saddle` names MSR_HRINGREL). -/
  | msrRingrel (saddle : Bool) (v : Word) (wr : Writer)
  /-- FAST_TAP_UPDATE (R401; the bitstream of the last eight modulator clocks, newest in bit 0). -/
  | fastTapUpdate (ch : Fin 48) (bits : BitVec 8)
  /-- DRONE_SLOT (R403). -/
  | droneSlot (d : DroneInput)
  /-- MSR_SENTREL (R407). -/
  | msrSentrel (v : Word) (wr : Writer)
  /-- OUTPUT_REQUEST (R415). -/
  | outputRequest (v : Word) (wr : Writer)
  /-- SUPPLY_MONITOR_FAULT (R418). -/
  | supplyMonitorFault (m : SupplyMonitor)
  /-- SAFE_ACK (R424). -/
  | safeAck (v : Word) (wr : Writer)
  /-- SAFE_CLEAR (R423). -/
  | safeClear (v : Word) (wr : Writer)
  /-- FORCED_TRIP (R419). -/
  | forcedTrip (v : Word) (wr : Writer)
  /-- TOUCH_BURST (R437; the eight RX counts). -/
  | touchBurst (tx : Fin 8) (counts : List Nat)
  /-- TOUCH_ENABLE (R449). -/
  | touchEnable (v : Word) (wr : Writer)
  /-- KEY_CONFIG_WRITE (R445; `thr` names TCH_KTHRj). -/
  | keyConfigWrite (key : Fin 32) (thr : Bool) (v : Word) (wr : Writer)
  /-- TCH_BURST_WRITE (R436). -/
  | tchBurstWrite (v : Word) (wr : Writer)
  /-- TCH_RAW_ENABLE (R453). -/
  | tchRawEnable (v : Word) (wr : Writer)
  /-- FB_ROW_READ (R462; whether the read missed its slot). -/
  | fbRowRead (late : Bool)
  /-- PANEL_ENABLE (R470). -/
  | panelEnable (v : Word) (wr : Writer)
  /-- LEDGER_WINDOW_WRITE (R469). -/
  | ledgerWindowWrite (px : Fin 2048) (v : Word) (wr : Writer)
  /-- LEDGER_INIT (R469). -/
  | ledgerInit (v : Word) (wr : Writer)
  /-- LEDGER_MARK (R469). -/
  | ledgerMark (v : Word) (wr : Writer)
  /-- MAXBAL_READ (R467). -/
  | maxbalRead (wr : Writer)
  /-- VPANEL_SHORT (R473; the ticks of the row slot or of the catch-up in progress that had begun, if it cuts one short
(R468)). -/
  | vpanelShort (cut : Option (Fin 32))
  /-- VPANEL_LATCH_CLEAR (R474). -/
  | vpanelLatchClear (v : Word) (wr : Writer)
  /-- DGS_CLAIM (R482). -/
  | dgsClaim (v : Word) (wr : Writer)
  /-- DGS_RELEASE (R482). -/
  | dgsRelease (v : Word) (wr : Writer)
  /-- DGS_START (R486). -/
  | dgsStart (v : Word) (wr : Writer)
  /-- DGS_FINISH (R490). -/
  | dgsFinish (v : Word) (wr : Writer)
  /-- DGS_ABORT (R494). -/
  | dgsAbort (v : Word) (wr : Writer)
  /-- DGS_COMPARE (R493). -/
  | dgsCompare (v : Word) (wr : Writer)
  /-- DGS_DIN_WRITE (R489). -/
  | dgsDinWrite (ctx : Fin 16) (v : Word) (wr : Writer)
  /-- DGS_LAST_WRITE (R490; `count` is the offset's count of bytes, less one). -/
  | dgsLastWrite (ctx : Fin 16) (count : Fin 4) (v : Word) (wr : Writer)
  /-- DGS_LIST_START (R495). -/
  | dgsListStart (v : Word) (wr : Writer)
  /-- CAN_FRAME_RECEIVED (R508). -/
  | canFrameReceived (f : CanFrame)
  /-- LNK_RXQ_READ (R511). -/
  | lnkRxqRead (wr : Writer)
  /-- LNK_TXPOST (R512). -/
  | lnkTxpost (v : Word) (wr : Writer)
  /-- LNK_RECOVER (R505). -/
  | lnkRecover (v : Word) (wr : Writer)
  /-- HDP_RD (R557). -/
  | hdpRd (ap : Fin 4) (addr : Word) (q : PacketCheck)
  /-- HDP_WR (R557). -/
  | hdpWr (ap : Fin 4) (addr v : Word) (q : PacketCheck)
  /-- HDP_RDBUF (R558). -/
  | hdpRdbuf (ap : Fin 4) (q : PacketCheck)
  /-- HDP_ACCESS_DONE (R559). -/
  | hdpAccessDone (ap : Fin 4)
  /-- DBG_HALT (R563). -/
  | dbgHalt (v : Word) (wr : Writer)
  /-- DBG_STEP (R567). -/
  | dbgStep (v : Word) (wr : Writer)
  /-- DBG_RESUME (R569). -/
  | dbgResume (v : Word) (wr : Writer)
  /-- DBG_REG_ACCESS (R568). -/
  | dbgRegAccess (write : Bool) (addr : Nat) (v : Word) (wr : Writer)
  /-- HDP_WAKE (R571). -/
  | hdpWake (v : Word)
  /-- HDP_UNLOCK_REQUEST (R573). -/
  | hdpUnlockRequest (v : Word)
  /-- HDP_RESPONSE_WRITE (R573; the write of HDP_RESP7). -/
  | hdpResponseWrite (v : Word)
  /-- HDP_RELOCK (R574). -/
  | hdpRelock (v : Word)
  /-- HDP_CAUSE_CLR (R559). -/
  | hdpCauseClr (v : Word)
  /-- SUPPLY_MONITOR_CLEAR (R418). -/
  | supplyMonitorClear (m : SupplyMonitor)
  /-- VIO_BANK_CROSSING (R590). -/
  | vioBankCrossing (bank : Fin 4) (above testen : Bool)
  /-- PWR_DOMCTL_SET (R110). -/
  | pwrDomctlSet (v : Word) (wr : Writer)
  /-- CAN_BUS_ERROR (R505). -/
  | canBusError (transmitting : Bool) (e : CanError)
  /-- SLOT_FRAME_SENT (R513). -/
  | slotFrameSent (slot : SlotKind)
  /-- OP_CHANGE_DONE (R48). -/
  | opChangeDone
  /-- RTC_SECOND (R50). -/
  | rtcSecond
  /-- RTC_TRIM (R51). -/
  | rtcTrim
  /-- OVERLAP_END (R63). -/
  | overlapEnd
  /-- SETTLE_END (R64). -/
  | settleEnd
  /-- SOURCE_RETURN_IN_SHUTDOWN (R76; the end of 10 µs in which the inputs have kept their levels). -/
  | sourceReturnInShutdown
  /-- BELLOWS_FULL (R67; VBEL comes up to BEL_MAX). -/
  | bellowsFull
  /-- BELLOWS_RESUME (R67; VBEL falls below BEL_MAX − 50 mV). -/
  | bellowsResume
  /-- COLD_START_HANDOFF (R70). -/
  | coldStartHandoff
  /-- DEEP_ENTRY_COMMIT (R96). -/
  | deepEntryCommit
  /-- STAGGER_STEP (R103). -/
  | staggerStep
  /-- NRESET_RELEASE (R120). -/
  | nresetRelease
  /-- SYSTEM_RESET (R119). -/
  | systemReset
  /-- CHALLENGE_READY (R146). -/
  | challengeReady
  /-- CHALLENGE_CHECK_DONE (R148). -/
  | challengeCheckDone
  /-- CHALLENGE_EXPIRY (R147). -/
  | challengeExpiry
  /-- LOCKOUT_END (R148). -/
  | lockoutEnd
  /-- JOURNAL_WRITE (R150). -/
  | journalWrite
  /-- KEY_LOAD_DONE (R155). -/
  | keyLoadDone
  /-- LOCKSTEP_MISMATCH (R158). -/
  | lockstepMismatch
  /-- INTERRUPT_ENTRY (R180). -/
  | interruptEntry
  /-- SAFETY_NMI (R176). -/
  | safetyNmi
  /-- TENANT_EXCEPTION_ENTRY (R185). -/
  | tenantExceptionEntry
  /-- TENANT_NOT_READY_EXIT (R363). -/
  | tenantNotReadyExit
  /-- NOP (R217). -/
  | nop
  /-- WRET (R178). -/
  | wret
  /-- WFI (R91). -/
  | wfi
  /-- BAR_W (R214). -/
  | barW
  /-- BAR_RW (R214). -/
  | barRw
  /-- BAR_IO (R214). -/
  | barIo
  /-- BAR_SYNC (R214). -/
  | barSync
  /-- NVM_WORD_WRITE (R247). -/
  | nvmWordWrite
  /-- SCND_GUARD_EXPIRY (R240). -/
  | scndGuardExpiry
  /-- DMA_BEAT (R257; the next ready channel of the rotation). -/
  | dmaBeat
  /-- GATE_CRC_DONE (R290). -/
  | gateCrcDone
  /-- STC_REPAIR_DONE (R304). -/
  | stcRepairDone
  /-- COPY_BEAT (R316). -/
  | copyBeat
  /-- SWAP_FLIP (R318). -/
  | swapFlip
  /-- SWAP_KEEP_DONE (R315). -/
  | swapKeepDone
  /-- SCRUB_READ (R323). -/
  | scrubRead
  /-- POOL_INIT_DONE (R329). -/
  | poolInitDone
  /-- TEN_INIT_DONE (R355). -/
  | tenInitDone
  /-- TENANT_RESET_DRAINED (R370). -/
  | tenantResetDrained
  /-- TENANT_RESET_STOPPED (R371). -/
  | tenantResetStopped
  /-- POOL_TENANT_SCAN (R349). -/
  | poolTenantScan
  /-- ZEROISE_BEAT (R373). -/
  | zeroiseBeat
  /-- TENANT_RESET_DONE (R370). -/
  | tenantResetDone
  /-- FRAME_PUBLISH (R392). -/
  | framePublish
  /-- REF_SAMPLE (R386). -/
  | refSample
  /-- SENTINEL_RECORD (R407). -/
  | sentinelRecord
  /-- SAFETY_ESCALATION (R424). -/
  | safetyEscalation
  /-- TOUCH_RAW_BEAT (R452). -/
  | touchRawBeat
  /-- ROW_SLOT (R459). -/
  | rowSlot
  /-- QUIET_SLOT (R460). -/
  | quietSlot
  /-- CATCHUP (R466). -/
  | catchup
  /-- LEDGER_INIT_DONE (R469). -/
  | ledgerInitDone
  /-- VPANEL_SOFT_START (R472). -/
  | vpanelSoftStart
  /-- VPANEL_READY (R472). -/
  | vpanelReady
  /-- VPANEL_RETRY (R474). -/
  | vpanelRetry
  /-- VPANEL_RETRIES_RESET (R474). -/
  | vpanelRetriesReset
  /-- DGS_COMPRESSION (R480; the core serves the next context of its rotation). -/
  | dgsCompression
  /-- DGS_LIST_ENTRY (R496). -/
  | dgsListEntry
  /-- RING_EXAMINE (R509). -/
  | ringExamine
  /-- LKE_RESPONSE_SEND (R529). -/
  | lkeResponseSend
  /-- CAN_DMA_MOVE (R509). -/
  | canDmaMove
  /-- FRAME_TRANSMITTED (R513). -/
  | frameTransmitted
  /-- BUS_OFF (R505). -/
  | busOff
  /-- BUSOFF_RECOVERY (R505). -/
  | busoffRecovery
  /-- BUS_OWNERSHIP_CHANGE (R503). -/
  | busOwnershipChange
  /-- LKE_HEARTBEAT (R522). -/
  | lkeHeartbeat
  /-- HDP_LINE_RESET (R555). -/
  | hdpLineReset
  /-- CORE_HALT (R564). -/
  | coreHalt
  /-- HDP_UNLOCK_CHECK_DONE (R573). -/
  | hdpUnlockCheckDone
  /-- LXO_RESTART (R43). -/
  | lxoRestart
  /-- REFERENCE_SETTLED (R386). -/
  | referenceSettled
  /-- CAN_CLOCK_READY (R503). -/
  | canClockReady
  /-- CAN_PROTOCOL_EXCEPTION (R504). -/
  | canProtocolException
  deriving DecidableEq, Repr

end Sys2Proof
end

