-- ==== Sys2Proof/WellFormed.lean ====
section
/-!
DEFINITION. Which commands are well formed. A core instruction is well formed when its word is not illegal under R194;
the operand types already exclude every non-zero field that no operand names, so four kinds of check remain.
Other commands carry what the outside brings, within the ranges of its source.
-/
namespace Sys2Proof

/-- A bit field of `w + 1` bits at `pos` lies inside a word (R194: POS + W > 32 is illegal). -/
def fieldFits (pos w : BitVec 5) : Bool := decide (pos.toNat + (w.toNat + 1) ≤ 32)

/-- A register pair begins at an even register (R194: an LDD or STD that names an odd RD is illegal). -/
def pairEven (rd : Fin 16) : Bool := decide (rd.val % 2 = 0)

/-- A master ID is one of Table 08.3 and an agent ID has 11 bits. -/
def Writer.wf (w : Writer) : Bool := decide (w.mid < 11) && decide (w.aid < 2048)

/-- The data bytes that a data length code stands for (ISO 11898-1). -/
def dlcBytes (fd : Bool) (dlc : Nat) : Nat :=
  if dlc ≤ 8 ∨ fd = false then min 8 dlc else ([12, 16, 20, 24, 32, 48, 64] : List Nat).getD (dlc - 9) 64

/-- The frames a CAN FD bus carries: an identifier of 11 or 29 bits, and the data bytes of its length code; a remote frame has
none, and no FD format. -/
def CanFrame.wf (f : CanFrame) : Bool :=
  decide (f.id < (if f.ext then 2 ^ 29 else 2 ^ 11)) && decide (f.dlc < 16) &&
    decide (f.data.length = if f.remote then 0 else dlcBytes f.fd f.dlc) && !(f.remote && f.fd)

/-- Well-formedness of a command. -/
def Instr.wf (i : Instr) : Bool :=
  match i with
  | .ldd rd _ _ => pairEven rd
  | .std rd _ _ => pairEven rd
  | .popm mask => !mask.getLsbD 15
  | .bext _ _ pos w _ => fieldFits pos w
  | .bins _ _ pos w => fieldFits pos w
  | .bcc cond _ => decide (cond.val ≠ 15)
  | .cycleBoundary b => decide (b.ones.length = 48)
  | .touchBurst _ counts => decide (counts.length = 8)
  | .canFrameReceived f => f.wf
  | .registerWrite a _ w => decide (a % 4 = 0) && w.wf
  | _ => true

end Sys2Proof
end

