-- ==== Sys2Proof/Decode.lean ====
section
/-!
DEFINITION. The table of operations and events gives no row any bits (every row's fields are empty), so no word spells a
command: `decodeTableWord` answers none for every word. The words of the Ehrane instructions (R191) have their own
encoder and decoder in Machine/Isa.lean.
-/
namespace Sys2Proof

/-- The command that a word spells by the table's bits: none, for the table gives no row any. -/
def decodeTableWord (_nbits _w : Nat) : Option Instr := none

end Sys2Proof
end

