-- ==== Sys2Proof/Machine/Bits.lean ====
section
/-!
DEFINITION. Bit fields of words, sign extension and byte order (R4): the helpers every block uses.
-/
namespace Sys2Proof.Machine

/-- The field of `w` whose lowest bit is `lo` and whose width is `n`, as a number. -/
def fld (w : Word) (lo n : Nat) : Nat := (w.toNat >>> lo) % 2 ^ n

/-- A mask of `n` ones starting at bit `lo`. -/
def fmask (lo n : Nat) : Word := word ((2 ^ n - 1) <<< lo)

/-- `w` with the field at `lo` of width `n` set to `v` modulo 2^n. -/
def setFld (w : Word) (lo n v : Nat) : Word :=
  (w &&& ~~~(fmask lo n)) ||| word ((v % 2 ^ n) <<< lo)

/-- Bit `i` of `w`. -/
def wbit (w : Word) (i : Nat) : Bool := w.getLsbD i

/-- `w` with bit `i` set to `b`. -/
def wputBit (w : Word) (i : Nat) (b : Bool) : Word := setFld w i 1 b.toNat

/-- A number of `n` bits read as a two's-complement integer. -/
def signed (n v : Nat) : Int :=
  if v % 2 ^ n < 2 ^ (n - 1) then ((v % 2 ^ n : Nat) : Int) else ((v % 2 ^ n : Nat) : Int) - ((2 ^ n : Nat) : Int)

/-- An integer stored in `n` bits in two's complement. -/
def unsign (n : Nat) (i : Int) : Nat := (i % ((2 ^ n : Nat) : Int)).toNat

/-- `i` held within `lo … hi`. -/
def clampInt (lo hi i : Int) : Int := if i < lo then lo else if hi < i then hi else i

/-- `n` held within `lo … hi`. -/
def clampNat (lo hi n : Nat) : Nat := if n < lo then lo else if hi < n then hi else n

/-- `n + 1`, stopping at `top` (a saturating counter). -/
def satInc (top n : Nat) : Nat := if n < top then n + 1 else top

/-- Integer division truncated toward zero, with 0 for a zero divisor (R30: all divisions truncate toward zero). -/
def truncDiv (a : Int) (b : Int) : Int := Int.tdiv a b

/-- Byte `i` of a word, least significant first (R4). -/
def byteOf (w : Word) (i : Nat) : Byte := BitVec.ofNat 8 (w.toNat >>> (8 * i))

/-- The word with the given bytes, least significant first (R4). -/
def wordOf (b0 b1 b2 b3 : Byte) : Word :=
  word (b0.toNat + b1.toNat * 0x100 + b2.toNat * 0x10000 + b3.toNat * 0x1000000)

/-- The bytes of a number, least significant first, `n` of them (R4). -/
def bytesLE (n v : Nat) : List Byte := (List.range n).map fun i => BitVec.ofNat 8 (v >>> (8 * i))

/-- The number whose little-endian bytes are given (R4). -/
def numLE : List Byte → Nat
  | [] => 0
  | b :: bs => b.toNat + 0x100 * numLE bs

/-- The number whose big-endian bytes are given. -/
def numBE (bs : List Byte) : Nat := numLE bs.reverse

/-- A number as `n` bytes, most significant first. -/
def bytesBE (n v : Nat) : List Byte := (bytesLE n v).reverse

/-- `b` as 0 or 1. -/
def b2n (b : Bool) : Nat := if b then 1 else 0

/-- Bits set in the low `n` bits of `w`, lowest first. -/
def bitList (n : Nat) (w : Word) : List Nat := (List.range n).filter fun i => wbit w i

/-- The number of ones in the low `n` bits. -/
def popCount (n : Nat) (w : Word) : Nat := (bitList n w).length

end Sys2Proof.Machine
end

