-- ==== Sys2Proof/Machine/Isa.lean ====
section
/-!
DEFINITION. The words of the Ehrane instructions: formats and opcodes of Tables 07.1 to 07.11 (R191, R193), the illegal
words of R194, and the reading of immediates of R195.
-/
namespace Sys2Proof.Machine

/-- A word of format RRR (Table 07.1). -/
def rrr (op d a b c : Nat) : Word := word (op * 0x1000000 + d * 0x100000 + a * 0x10000 + b * 0x1000 + c * 0x100)

/-- A word of format RRI or MEM. -/
def rri (op d a imm : Nat) : Word := word (op * 0x1000000 + d * 0x100000 + a * 0x10000 + imm)

/-- A word of format RI20 or BR. -/
def ri20 (op d imm : Nat) : Word := word (op * 0x1000000 + d * 0x100000 + imm)

/-- The word of a core instruction; none for a command that is no core instruction. -/
def encode (i : Instr) : Option Word :=
  match i with
  | .nop => some (rrr 0x01 0 0 0 0)
  | .wcall svc => some (ri20 0x02 0 svc.toNat)
  | .wret => some (rrr 0x03 0 0 0 0)
  | .wfi => some (rrr 0x04 0 0 0 0)
  | .brk code => some (ri20 0x05 0 code.toNat)
  | .csrr rd csr => some (rri 0x08 rd 0 csr.toNat)
  | .csrw csr ra => some (rri 0x09 0 ra csr.toNat)
  | .csrs csr ra => some (rri 0x0A 0 ra csr.toNat)
  | .csrc csr ra => some (rri 0x0B 0 ra csr.toNat)
  | .add rd ra rb => some (rrr 0x10 rd ra rb 0)
  | .adc rd ra rb => some (rrr 0x11 rd ra rb 0)
  | .sub rd ra rb => some (rrr 0x12 rd ra rb 0)
  | .sbc rd ra rb => some (rrr 0x13 rd ra rb 0)
  | .neg rd ra => some (rrr 0x14 rd ra 0 0)
  | .addsat rd ra rb => some (rrr 0x15 rd ra rb 0)
  | .subsat rd ra rb => some (rrr 0x16 rd ra rb 0)
  | .mul rd ra rb => some (rrr 0x18 rd ra rb 0)
  | .mulhs rd ra rb => some (rrr 0x19 rd ra rb 0)
  | .mulhu rd ra rb => some (rrr 0x1A rd ra rb 0)
  | .divs rd ra rb rc => some (rrr 0x1C rd ra rb rc)
  | .divu rd ra rb rc => some (rrr 0x1D rd ra rb rc)
  | .clz rd ra => some (rrr 0x20 rd ra 0 0)
  | .mins rd ra rb => some (rrr 0x21 rd ra rb 0)
  | .maxs rd ra rb => some (rrr 0x22 rd ra rb 0)
  | .minu rd ra rb => some (rrr 0x23 rd ra rb 0)
  | .maxu rd ra rb => some (rrr 0x24 rd ra rb 0)
  | .addi rd ra imm => some (rri 0x28 rd ra imm.toNat)
  | .rsbi rd ra imm => some (rri 0x29 rd ra imm.toNat)
  | .and rd ra rb => some (rrr 0x30 rd ra rb 0)
  | .or rd ra rb => some (rrr 0x31 rd ra rb 0)
  | .xor rd ra rb => some (rrr 0x32 rd ra rb 0)
  | .andn rd ra rb => some (rrr 0x33 rd ra rb 0)
  | .not rd ra => some (rrr 0x34 rd ra 0 0)
  | .andi rd ra imm => some (rri 0x38 rd ra imm.toNat)
  | .ori rd ra imm => some (rri 0x39 rd ra imm.toNat)
  | .xori rd ra imm => some (rri 0x3A rd ra imm.toNat)
  | .lsl rd ra rb => some (rrr 0x40 rd ra rb 0)
  | .lsr rd ra rb => some (rrr 0x41 rd ra rb 0)
  | .asr rd ra rb => some (rrr 0x42 rd ra rb 0)
  | .ror rd ra rb => some (rrr 0x43 rd ra rb 0)
  | .lsli rd ra n => some (rri 0x44 rd ra n.toNat)
  | .lsri rd ra n => some (rri 0x45 rd ra n.toNat)
  | .asri rd ra n => some (rri 0x46 rd ra n.toNat)
  | .rori rd ra n => some (rri 0x47 rd ra n.toNat)
  | .bset rd ra b => some (rri 0x48 rd ra b.toNat)
  | .bclr rd ra b => some (rri 0x49 rd ra b.toNat)
  | .btst ra b => some (rri 0x4A 0 ra b.toNat)
  | .bext rd ra pos w sgn => some (rri 0x4B rd ra (b2n sgn * 0x400 + w.toNat * 0x20 + pos.toNat))
  | .bins rd ra pos w => some (rri 0x4C rd ra (w.toNat * 0x20 + pos.toNat))
  | .cmp ra rb => some (rrr 0x50 0 ra rb 0)
  | .cmn ra rb => some (rrr 0x51 0 ra rb 0)
  | .tst ra rb => some (rrr 0x52 0 ra rb 0)
  | .mov rd ra => some (rrr 0x54 rd ra 0 0)
  | .cmpi ra imm => some (rri 0x58 0 ra imm.toNat)
  | .movi rd imm => some (ri20 0x5C rd imm.toNat)
  | .movhi rd imm => some (ri20 0x5D rd imm.toNat)
  | .adr rd off => some (ri20 0x5E rd off.toNat)
  | .ldw rd ra off => some (rri 0x60 rd ra off.toNat)
  | .ldh rd ra off => some (rri 0x61 rd ra off.toNat)
  | .ldhu rd ra off => some (rri 0x62 rd ra off.toNat)
  | .ldb rd ra off => some (rri 0x63 rd ra off.toNat)
  | .ldbu rd ra off => some (rri 0x64 rd ra off.toNat)
  | .ldd rd ra off => some (rri 0x65 rd ra off.toNat)
  | .stw rd ra off => some (rri 0x68 rd ra off.toNat)
  | .sth rd ra off => some (rri 0x69 rd ra off.toNat)
  | .stb rd ra off => some (rri 0x6A rd ra off.toNat)
  | .std rd ra off => some (rri 0x6B rd ra off.toNat)
  | .pushm mask => some (ri20 0x6C 0 mask.toNat)
  | .popm mask => some (ri20 0x6D 0 mask.toNat)
  | .lrsv rd ra => some (rrr 0x70 rd ra 0 0)
  | .scnd rd rb ra => some (rrr 0x71 rd ra rb 0)
  | .amoadd rd rb ra => some (rrr 0x72 rd ra rb 0)
  | .amoswp rd rb ra => some (rrr 0x73 rd ra rb 0)
  | .barW => some (rrr 0x78 0 0 0 0)
  | .barRw => some (rrr 0x79 0 0 0 0)
  | .barIo => some (rrr 0x7A 0 0 0 0)
  | .barSync => some (rrr 0x7B 0 0 0 0)
  | .bcc cond off => some (ri20 0x80 cond off.toNat)
  | .cbz rt off => some (ri20 0x81 rt off.toNat)
  | .cbnz rt off => some (ri20 0x82 rt off.toNat)
  | .bl off => some (ri20 0x83 0 off.toNat)
  | .blr ra => some (rrr 0x84 0 ra 0 0)
  | .jr ra => some (rrr 0x85 0 ra 0 0)
  | _ => none

/-- The word of a core instruction, 0 for any other command: EVAL of an exception that holds the instruction word. -/
def encodeWord (i : Instr) : Word := (encode i).getD 0

/-- The register field whose lowest bit is `lo`. -/
def regField (w : Word) (lo : Nat) : Fin 16 := Fin.ofNat 16 (fld w lo 4)

/-- Decoding of the words whose opcode lies below 0x40: system, arithmetic and logic (Tables 07.4, 07.5, 07.11). -/
def decodeLow (w : Word) : Option Instr :=
  let op := fld w 24 8
  let rd := regField w 20
  let ra := regField w 16
  let rb := regField w 12
  let rc := regField w 8
  let imm : BitVec 16 := BitVec.ofNat 16 (fld w 0 16)
  let imm20 : BitVec 20 := BitVec.ofNat 20 (fld w 0 20)
  let csr : BitVec 12 := BitVec.ofNat 12 (fld w 0 12)
  let r3 := decide (fld w 0 12 = 0)
  let r2 := decide (fld w 0 16 = 0)
  if op = 0x01 then if fld w 0 24 = 0 then some .nop else none
  else if op = 0x02 then if fld w 20 4 = 0 then some (.wcall imm20) else none
  else if op = 0x03 then if fld w 0 24 = 0 then some .wret else none
  else if op = 0x04 then if fld w 0 24 = 0 then some .wfi else none
  else if op = 0x05 then if fld w 20 4 = 0 then some (.brk imm20) else none
  else if op = 0x08 then if fld w 16 4 = 0 ∧ fld w 12 4 = 0 then some (.csrr rd csr) else none
  else if op = 0x09 then if fld w 20 4 = 0 ∧ fld w 12 4 = 0 then some (.csrw csr ra) else none
  else if op = 0x0A then if fld w 20 4 = 0 ∧ fld w 12 4 = 0 then some (.csrs csr ra) else none
  else if op = 0x0B then if fld w 20 4 = 0 ∧ fld w 12 4 = 0 then some (.csrc csr ra) else none
  else if op = 0x10 then if r3 then some (.add rd ra rb) else none
  else if op = 0x11 then if r3 then some (.adc rd ra rb) else none
  else if op = 0x12 then if r3 then some (.sub rd ra rb) else none
  else if op = 0x13 then if r3 then some (.sbc rd ra rb) else none
  else if op = 0x14 then if r2 then some (.neg rd ra) else none
  else if op = 0x15 then if r3 then some (.addsat rd ra rb) else none
  else if op = 0x16 then if r3 then some (.subsat rd ra rb) else none
  else if op = 0x18 then if r3 then some (.mul rd ra rb) else none
  else if op = 0x19 then if r3 then some (.mulhs rd ra rb) else none
  else if op = 0x1A then if r3 then some (.mulhu rd ra rb) else none
  else if op = 0x1C then if fld w 0 8 = 0 then some (.divs rd ra rb rc) else none
  else if op = 0x1D then if fld w 0 8 = 0 then some (.divu rd ra rb rc) else none
  else if op = 0x20 then if r2 then some (.clz rd ra) else none
  else if op = 0x21 then if r3 then some (.mins rd ra rb) else none
  else if op = 0x22 then if r3 then some (.maxs rd ra rb) else none
  else if op = 0x23 then if r3 then some (.minu rd ra rb) else none
  else if op = 0x24 then if r3 then some (.maxu rd ra rb) else none
  else if op = 0x28 then some (.addi rd ra imm)
  else if op = 0x29 then some (.rsbi rd ra imm)
  else if op = 0x30 then if r3 then some (.and rd ra rb) else none
  else if op = 0x31 then if r3 then some (.or rd ra rb) else none
  else if op = 0x32 then if r3 then some (.xor rd ra rb) else none
  else if op = 0x33 then if r3 then some (.andn rd ra rb) else none
  else if op = 0x34 then if r2 then some (.not rd ra) else none
  else if op = 0x38 then some (.andi rd ra imm)
  else if op = 0x39 then some (.ori rd ra imm)
  else if op = 0x3A then some (.xori rd ra imm)
  else none

/-- Decoding of the shifts, bit fields, compares and moves (Tables 07.5 to 07.7). -/
def decodeMid (w : Word) : Option Instr :=
  let op := fld w 24 8
  let rd := regField w 20
  let ra := regField w 16
  let rb := regField w 12
  let imm : BitVec 16 := BitVec.ofNat 16 (fld w 0 16)
  let imm20 : BitVec 20 := BitVec.ofNat 20 (fld w 0 20)
  let n5 : BitVec 5 := BitVec.ofNat 5 (fld w 0 5)
  let w5 : BitVec 5 := BitVec.ofNat 5 (fld w 5 5)
  let r3 := decide (fld w 0 12 = 0)
  let r2 := decide (fld w 0 16 = 0)
  let s5 := decide (fld w 5 11 = 0)
  if op = 0x40 then if r3 then some (.lsl rd ra rb) else none
  else if op = 0x41 then if r3 then some (.lsr rd ra rb) else none
  else if op = 0x42 then if r3 then some (.asr rd ra rb) else none
  else if op = 0x43 then if r3 then some (.ror rd ra rb) else none
  else if op = 0x44 then if s5 then some (.lsli rd ra n5) else none
  else if op = 0x45 then if s5 then some (.lsri rd ra n5) else none
  else if op = 0x46 then if s5 then some (.asri rd ra n5) else none
  else if op = 0x47 then if s5 then some (.rori rd ra n5) else none
  else if op = 0x48 then if s5 then some (.bset rd ra n5) else none
  else if op = 0x49 then if s5 then some (.bclr rd ra n5) else none
  else if op = 0x4A then if s5 ∧ fld w 20 4 = 0 then some (.btst ra n5) else none
  else if op = 0x4B then
    if fld w 11 5 = 0 ∧ fieldFits n5 w5 = true then some (.bext rd ra n5 w5 (wbit w 10)) else none
  else if op = 0x4C then
    if fld w 10 6 = 0 ∧ fieldFits n5 w5 = true then some (.bins rd ra n5 w5) else none
  else if op = 0x50 then if r3 ∧ fld w 20 4 = 0 then some (.cmp ra rb) else none
  else if op = 0x51 then if r3 ∧ fld w 20 4 = 0 then some (.cmn ra rb) else none
  else if op = 0x52 then if r3 ∧ fld w 20 4 = 0 then some (.tst ra rb) else none
  else if op = 0x54 then if r2 then some (.mov rd ra) else none
  else if op = 0x58 then if fld w 20 4 = 0 then some (.cmpi ra imm) else none
  else if op = 0x5C then some (.movi rd imm20)
  else if op = 0x5D then if fld w 16 4 = 0 then some (.movhi rd imm) else none
  else if op = 0x5E then some (.adr rd imm20)
  else none

/-- Decoding of the loads, stores, atomics, barriers and branches (Tables 07.8 to 07.10). -/
def decodeHigh (w : Word) : Option Instr :=
  let op := fld w 24 8
  let rd := regField w 20
  let ra := regField w 16
  let rb := regField w 12
  let imm : BitVec 16 := BitVec.ofNat 16 (fld w 0 16)
  let imm20 : BitVec 20 := BitVec.ofNat 20 (fld w 0 20)
  let r3 := decide (fld w 0 12 = 0)
  let r2 := decide (fld w 0 16 = 0)
  let all0 := decide (fld w 0 24 = 0)
  if op = 0x60 then some (.ldw rd ra imm)
  else if op = 0x61 then some (.ldh rd ra imm)
  else if op = 0x62 then some (.ldhu rd ra imm)
  else if op = 0x63 then some (.ldb rd ra imm)
  else if op = 0x64 then some (.ldbu rd ra imm)
  else if op = 0x65 then if pairEven rd then some (.ldd rd ra imm) else none
  else if op = 0x68 then some (.stw rd ra imm)
  else if op = 0x69 then some (.sth rd ra imm)
  else if op = 0x6A then some (.stb rd ra imm)
  else if op = 0x6B then if pairEven rd then some (.std rd ra imm) else none
  else if op = 0x6C then if fld w 16 8 = 0 then some (.pushm imm) else none
  else if op = 0x6D then if fld w 15 9 = 0 then some (.popm imm) else none
  else if op = 0x70 then if r2 then some (.lrsv rd ra) else none
  else if op = 0x71 then if r3 then some (.scnd rd rb ra) else none
  else if op = 0x72 then if r3 then some (.amoadd rd rb ra) else none
  else if op = 0x73 then if r3 then some (.amoswp rd rb ra) else none
  else if op = 0x78 then if all0 then some .barW else none
  else if op = 0x79 then if all0 then some .barRw else none
  else if op = 0x7A then if all0 then some .barIo else none
  else if op = 0x7B then if all0 then some .barSync else none
  else if op = 0x80 then if fld w 20 4 = 15 then none else some (.bcc rd imm20)
  else if op = 0x81 then some (.cbz rd imm20)
  else if op = 0x82 then some (.cbnz rd imm20)
  else if op = 0x83 then if fld w 20 4 = 0 then some (.bl imm20) else none
  else if op = 0x84 then if r2 ∧ fld w 20 4 = 0 then some (.blr ra) else none
  else if op = 0x85 then if r2 ∧ fld w 20 4 = 0 then some (.jr ra) else none
  else none

/-- The instruction of a word; none where the word is illegal (R193, R194). -/
def decodeWord (w : Word) : Option Instr :=
  if fld w 24 8 < 0x40 then decodeLow w
  else if fld w 24 8 < 0x60 then decodeMid w
  else decodeHigh w

end Sys2Proof.Machine
end

