-- ==== Sys2Proof/Config.lean ====
section
/-!
DEFINITION. What the manual leaves open and an implementation fixes.
Each constant here is opaque: nothing in Lean can evaluate it, so every claim holds for every value of it.
notes/assumptions/2.md says which open point of the manual each one stands for.
-/
namespace Sys2Proof.Config

/-- A word that the manual leaves undefined; applied to the counter `State.freeCtr` so that each use is a fresh one.
DESIGN CHOICE (log 2): the form of the free value, not a value. -/
opaque freeWord : Nat → Word

/-- A choice between two outcomes that the manual leaves open; applied to `State.freeCtr`. -/
opaque freeBool : Nat → Bool

/-- A number that the manual leaves open; applied to `State.freeCtr`. -/
opaque freeNat : Nat → Nat

/-- The byte an unwritten cell of a memory reads as after a loss of content: which loss, memory number, address (R300,
R618). -/
opaque coldByte : Nat → Nat → Nat → Byte

/-- The error class of a word whose check bits nothing has written after a cold start: 0 no error, 1 single-bit,
2 uncorrectable (R300, R618); applied to the loss of content, the memory number and the word's address. -/
opaque coldEcc : Nat → Nat → Nat → Fin 3

/-- The syndrome of the code word: memory number, address and stored error pattern (R297 names no code). -/
opaque syndrome : Nat → Nat → Nat → BitVec 7

/-- The bytes of the boot ROM (Table 08.1); the manual gives its behaviour (R136) and not its image. -/
opaque romByte : Nat → Byte

/-- LCS_UID0 and LCS_UID1, set at manufacture. -/
opaque uid : Nat → Word

/-- Words of the pool metadata RAM that no defined operation has written (Table 11.1 marks them undefined). -/
opaque metaWord : Nat → Word

end Sys2Proof.Config
end

