-- ==== Sys2Proof/Machine/State.lean ====
section
/-!
DEFINITION. The state of the LS4810, as plain data.

A register field of the chapters' register entries lives in `State.regs`, under its bus address (the AP2 and AP3
registers of the debug port under addresses of this model's own, log 5). What the spec gives the machine beside its
registers (the core's registers, memories, queues, the progress of an engine) has a typed home in the structures below.
-/
namespace Sys2Proof.Machine

/-- What an unlisted byte of a memory reads as. -/
inductive MemBase where
  /-- Nothing: the content is undefined (R300, R618); `seed` tells one loss of content from another. -/
  | undefined (seed : Nat)
  /-- Zero. -/
  | zeros
  /-- The NVM array as it leaves the factory: zero but for the BLANK life-cycle word (R142; log 6). -/
  | factory
  /-- The last background a march left: element data D0 or its inverse, background number and custom word (R307). -/
  | march (inverse : Bool) (bg : Nat) (custom : Word)
  deriving DecidableEq, Repr

/-- A memory: listed bytes at strictly rising addresses, none of them equal to what an unlisted address reads as. `ecc`
lists, at rising addresses, the aligned words whose check bits are known to be wrong: 0 for a single-bit error, else the
syndrome of an uncorrectable one (R300, R316). -/
structure Mem where
  base : MemBase
  cells : List Host.Cell
  ecc : List (Nat × Nat)
  deriving DecidableEq, Repr

/-- A memory without a listed byte. -/
def Mem.blank (b : MemBase) : Mem := { base := b, cells := [], ecc := [] }

/-- The states of a power domain (R86), as PWR_DOMSTAT codes them. -/
inductive DomState where
  | retention | on | transition | reset
  deriving DecidableEq, Repr

/-- The sleep levels other than OFF (R86). -/
inductive Level where
  | run | doze | nap | hibernate | shelf
  deriving DecidableEq, Repr

/-- The power-path states of Table 03.2; which source is connected is a field of its own. -/
inductive PState where
  | on | handover | settle | shutdown | off
  deriving DecidableEq, Repr

/-- The kinds of SYSTEM trigger, in the order of R121. -/
inductive ResetCause where
  | lockstep | safetyEsc | lifecycle | nreset | software
  deriving DecidableEq, Repr

/-- The kinds of request (Table 09.2, R213). -/
inductive ReqKind where
  | read | write | fetch | amoAdd | amoSwap | scnd
  deriving DecidableEq, Repr

/-- One request on the interconnect. -/
structure Req where
  mid : Nat
  aid : Nat
  /-- The tenant whose window an AID of 0x400 uses (R223, R224). -/
  tid : Nat
  /-- QoS class at issue (R249). -/
  cls : Nat
  kind : ReqKind
  addr : Nat
  /-- Bytes: 1, 2, 4 or 8. -/
  size : Nat
  /-- Write data, least significant byte first in memory (R4). -/
  data : Nat
  /-- Issued by an instruction fetched from the boot ROM (R134). -/
  rom : Bool
  deriving DecidableEq, Repr

/-- An entry of the posted write buffer (R230); `epoch` counts the BAR.W executed before it. -/
structure Posted where
  req : Req
  epoch : Nat
  deriving DecidableEq, Repr

/-- The four flags of CC. -/
structure CC where
  n : Bool
  z : Bool
  c : Bool
  v : Bool
  deriving DecidableEq, Repr

/-- What the core waits with: a memory instruction, `n` of whose stores have been issued (R109, R183, R210); the fetch of the next
instruction, which a command named or a debug step asked for; the vector read of an entry (R174). -/
inductive Stall where
  | instr (i : Instr) (n : Nat)
  | fetch (i : Option Instr)
  | vector (vec : Nat)
  deriving DecidableEq, Repr

/-- The Ehrane core (Tables 06.1 and 06.2). -/
structure Core where
  g : Vector Word 16
  pc : Word
  cc : CC
  status : Word
  astat : Word
  tid : Word
  epc : Word
  ecause : Word
  eval : Word
  estatus : Word
  wscratch : Word
  nepc : Word
  nstatus : Word
  vbase : Word
  splim : Word
  tstatus : Word
  tepc : Word
  tcause : Word
  tvec : Word
  tscratch : Word
  /-- The reservation: base of the 32-byte granule and agent ID (R212). -/
  resv : Option (Nat × Nat)
  /-- Banks at which an SCND has failed and no LRSV has armed the guard since (R240). -/
  scndFailed : List Nat
  /-- Banks whose guard is armed, in the order of their LRSV (R240). -/
  guard : List Nat
  /-- A safety NMI is raised and not yet taken, one deep (R176). -/
  nmi : Bool
  /-- Halted by the debug port (R564). -/
  halted : Bool
  /-- Stopped until a reset: lockstep mismatch, a third fault, SHUTDOWN or a SYSTEM reset (R158, R175, R73, R119). -/
  stopped : Bool
  /-- Waiting in WFI (R91). -/
  asleep : Bool
  /-- What the core waits with. -/
  stalled : Option Stall
  /-- The posted write buffer, oldest first (R230). -/
  buf : List Posted
  /-- BAR.W executed so far, as an order among buffered stores (R214). -/
  epoch : Nat
  /-- Words held by the instruction cache (R215). -/
  icache : List (Nat × Word)
  /-- Software lines 96 to 127 (R182). -/
  swLines : Word
  deriving DecidableEq, Repr

/-- What the tracker, the watchdog and the clocks hold beside their registers (chapter 02). -/
structure Tmb where
  /-- Ticks of the tick clock since the cold start (Table 18.2). -/
  ticks : Nat
  /-- The phase accumulator; the wrap through 2^24 is taken at the Cycle boundary. -/
  acc : Nat
  /-- Ticks of the Cycle in progress. -/
  cycTicks : Nat
  /-- Ticks since the last accepted crossing. -/
  sinceCross : Nat
  /-- A crossing has been accepted since acquisition began. -/
  crossSeen : Bool
  /-- The interval in progress contains a tick-clock switch (R31). -/
  intervalSwitched : Bool
  /-- N_last of R33. -/
  nLast : Nat
  /-- Ticks left until the next miss (R33). -/
  missLeft : Nat
  validRun : Nat
  lockRun : Nat
  unlockRun : Nat
  missRun : Nat
  /-- inc_target of R30, computed since the last boundary. -/
  target : Option Int
  /-- FREE is due at the next boundary (R34). -/
  freeDue : Bool
  /-- SHELF has been entered since the last boundary: the tracker does not run by Table 02.2 until that boundary puts it in
  FREE, and acquires from FREE once SHELF is left (R34). -/
  fromShelf : Bool
  /-- Consecutive good LXO edges in units of 1/125 edge, to 1,024 edges (R43). -/
  lxoGood : Nat
  /-- LXO runs. -/
  lxoRuns : Bool
  /-- LXO has been the tick clock, without a stop, since the Breath in progress began (R46). -/
  lxoWhole : Bool
  /-- The Cycle in progress contains a clock switch (R45). -/
  cycleSwitched : Bool
  /-- BREATHDIV in force (R25). -/
  breathDiv : Nat
  /-- A counting write has been seen in this Breath (R39). -/
  brtDone : Bool
  /-- The Breath in progress began fully after the watchdog's activation (R40). -/
  brtWhole : Bool
  /-- The Breath overrun escalation condition holds (R39). -/
  escalated : Bool
  /-- CLK_STAT.BUSY was 1 at some time of the window in progress (R46). -/
  busySeen : Bool
  /-- Consecutive windows with a failing LRC check, and the two monitor faults while they hold (Table 02.5). -/
  lrcRun : Nat
  lrcFail : Bool
  hfoFail : Bool
  /-- Ticks counted toward the next trim (R51). -/
  trimTicks : Nat
  /-- The operating point a change in progress leads to (R48). -/
  opTarget : Word
  /-- Fraction of a microsecond, in 1/512 µs (R189). -/
  usFrac : Nat
  deriving DecidableEq, Repr

/-- A supply comparator: the outcome its last sample showed, and for how many microseconds its samples have shown it (R57). -/
structure Cmp where
  raw : Bool
  held : Nat
  deriving DecidableEq, Repr

/-- The power path (chapter 03). -/
structure Hrv where
  pstate : PState
  /-- The connected source; in HANDOVER the old one. -/
  src : Source
  /-- The new source of a hand-over. -/
  newSrc : Source
  /-- The SETTLE in progress ends a completed hand-over (R63). -/
  completing : Bool
  /-- The levels at the supply inputs. -/
  levels : Levels
  /-- The comparators of VMAIN and VBAT, and those of VBEL against BEL_OK, BEL_LOW and BEL_CRIT (R56, R60). -/
  cMain : Cmp
  cBat : Cmp
  cOk : Cmp
  cLow : Cmp
  cCrit : Cmp
  /-- Microseconds since the last strobe in HIBERNATE and SHELF (R57). -/
  strobe : Nat
  /-- The outcomes in force: VMAIN and VBAT valid, VBEL > BEL_OK, VBEL ≥ BEL_LOW, VBEL ≥ BEL_CRIT. -/
  mainV : Bool
  batV : Bool
  belOk : Bool
  belLow : Bool
  belCrit : Bool
  /-- Charging is stopped at BEL_MAX (R67). -/
  belFull : Bool
  /-- Regulation point in mV, once the first sample is taken (R69). -/
  regPoint : Option Nat
  hcold : Bool
  /-- The boost has taken over from the cold-start circuit (R70). -/
  boostOn : Bool
  /-- The slot of the record that this shutdown wrote (R75). -/
  recordSlot : Option Nat
  /-- The resume word is due (R76). -/
  resumeDue : Bool
  /-- The shutdown before this cold start wrote a record (R77; Table 05.2, FRESH). -/
  fresh : Bool
  deriving DecidableEq, Repr

/-- Where the boot ROM stands (Table 05.4): before step 1, in the erasure of step 2, or in the cold MATS+ of step 5. -/
inductive BootStage where
  | first | erase | mats
  deriving DecidableEq, Repr

/-- Sleep control and the domain sequencer (chapter 04). -/
structure Pwr where
  level : Level
  /-- The target of a deep entry in progress, before step 4 (R96). -/
  entry : Option Level
  /-- Wake sequence in progress. -/
  waking : Bool
  /-- Staggered steps still to begin, in order (Table 04.5). -/
  stagger : List Nat
  /-- The staggered start in progress leads to the boot ROM: a cold one, or one after a SYSTEM reset (R105, R119). -/
  boot : Bool
  /-- It is a cold start. -/
  cold : Bool
  /-- Step 3 of Table 05.4 has not yet recorded that cold start. -/
  coldDue : Bool
  /-- Where the boot ROM stands, while `boot` holds. -/
  stage : BootStage
  /-- The deep level that the wake sequence in progress woke from (R97). -/
  wokenFrom : Level
  /-- Domains in power-down after step 1 (R108). -/
  pdown : List Domain
  /-- SYS has been powered since the last cold start (R74). -/
  sysPowered : Bool
  /-- First scans of the wake key, to four, and consecutive falls (R101). -/
  wkScans : List Nat
  wkFalls : Nat
  deriving DecidableEq, Repr

/-- Resets and the life cycle (chapter 05). -/
structure Lcs where
  /-- SYSTEM triggers that wait (R121, R150). -/
  pendingResets : List ResetCause
  /-- MID of the RST_CTL writer, and the DOMAIN of the fault word that escalated (Table 05.2). -/
  softMid : Nat
  escDomain : Nat
  nresetLow : Bool
  /-- History words pushed since the previous boot, newest first, each with RTC_SEC (R131). -/
  pushed : List (Word × Word)
  /-- More than eight were pushed (R131). -/
  pushLost : Bool
  /-- Target of the challenge or of the transition in progress. -/
  target : Nat
  /-- CHALCNT is being written (R146). -/
  chalWrite : Bool
  /-- A response is being checked (R148). -/
  checking : Bool
  /-- Blocks of the check in progress that wait for the compression core (R149, R480). -/
  checkBlocks : Nat
  /-- The journal is being written, or has been and its reset is to come (R150). -/
  journal : Bool
  /-- Steps 1 to 6 of that journal that are done. -/
  journalDone : Nat
  /-- Key slots KS0 to KS7; an empty list is an empty slot (R154). -/
  keys : List (List Byte)
  /-- Slot and length of a key load in progress (R155). -/
  keyLoad : Option (Nat × Nat)
  /-- The life-cycle code of the transition that asked for the LIFECYCLE reset. -/
  newState : Nat
  deriving DecidableEq, Repr

/-- One word queued at the NVM controller: its address, and per byte the value to write or none (R247). -/
structure NvmWrite where
  addr : Nat
  bytes : List (Option Byte)
  /-- The master that issued it (R214). -/
  mid : Nat
  deriving DecidableEq, Repr

/-- Who waits for a request. -/
inductive Waiter where
  | coreLoad | coreFetch | coreStore | dma (ch : Nat) | ap1
  deriving DecidableEq, Repr

/-- A request that waits: it has passed its gate as it was issued (R275), with its checked address, and waits for a domain or for
its turn at its target (R109, R229, R240, R247, R312). -/
structure Held where
  req : Req
  /-- The checked address (Table 09.1). -/
  addr : Nat
  who : Waiter
  dom : Domain
  /-- A DOMAIN reset of its domain has answered it with ABORT (R125). -/
  aborted : Bool
  deriving DecidableEq, Repr

/-- The arbiter of one target port or Store bank (R250): the class whose turn it is in the round and the grants it has used, the
ICT_QOSCFG and ICT_QOSMID of the round, and the MID granted last in each class. -/
structure Arb where
  port : Nat
  turn : Nat
  used : Nat
  cfg : Word
  mids : Word
  last0 : Nat
  last1 : Nat
  last2 : Nat
  last3 : Nat
  deriving DecidableEq, Repr

/-- The interconnect and the NVM controller (chapter 08). -/
structure Bus where
  arbs : List Arb
  /-- Error records, oldest first: ICT_ERRADDR and ICT_ERRINFO (R253). -/
  errs : List (Word × Word)
  /-- Requests that wait, in the order of their issue. -/
  held : List Held
  /-- Words queued or in progress at the NVM controller, oldest first (R247). -/
  nvmQ : List NvmWrite
  deriving DecidableEq, Repr

/-- One channel of the general DMA beside its registers (R254 to R259). -/
structure DmaCh where
  /-- TID captured with an AID of 0x400 (R224). -/
  tid : Nat
  /-- Words of the descriptor read so far. -/
  desc : List Word
  /-- Data of a COPY read that waits for its write. -/
  copy : Option Nat
  /-- The state from which a deep entry paused the channel (R90). -/
  pausedFrom : Nat
  /-- The operation has ended and its write-backs are due: 0 none, 1 RESULT next, 2 STAT next, 3 completion next. -/
  wb : Nat
  /-- The result of an operation that waits for its write to DST, for its write-back or for completion (R256, R259). -/
  handle : Option Word
  /-- The low word of a split write has landed (R226). -/
  half : Bool
  /-- The code with which the channel ends once its outstanding access has been answered (R261), and a pause due then (R90). -/
  stopDue : Option Nat
  pauseDue : Bool
  /-- The free count of the class and the usage of the AID that the last refusal found (R258). -/
  seen : Nat × Nat
  deriving DecidableEq, Repr

structure Dma where
  ch : List DmaCh
  /-- The channel that issued last (R257). -/
  last : Nat
  deriving DecidableEq, Repr

/-- The GPIO balls and the VIO banks (chapters 08 and 22). -/
structure Pins where
  /-- Levels the board drives on GPIO0 to GPIO15, one bit each; of a ball that it leaves open, the level that floats there. -/
  gpioExt : Word
  /-- The GPIO balls that the board leaves open. -/
  gpioOpen : Word
  /-- VIO0 to VIO3 above 1.62 V. -/
  vio : List Bool
  /-- A supply monitor sees VCORE, or the VIO of bank k, out of range (R418). -/
  vcoreBad : Bool
  vioBad : List Bool
  deriving DecidableEq, Repr

/-- The gates beside their registers: staged BASE, LIMIT and CLS words by address, and a CRC computation (R286, R290). -/
structure Gtc where
  staged : List (Nat × Word)
  crcRuns : Bool
  deriving DecidableEq, Repr

/-- The Stitch engine beside its registers (chapter 10). -/
structure Stc where
  /-- Remaps in force: 4 × array + spare row, and the row replaced (R301). -/
  remaps : List (Nat × Nat)
  /-- The bank named by the swap marker of the Saddle domain (R319). -/
  marker : Option Nat
  /-- Agent that programmed the operation in progress (R326). -/
  aid : Nat
  /-- Arrays under test, ascending, and the run's element words (R309, R312). -/
  arrays : List Nat
  prog : List Word
  custom : Word
  transp : Bool
  repair : Bool
  /-- The array unmapped and the array serving the bank at the start of the swap (R315). -/
  u : Nat
  f : Nat
  /-- Every failing (array, row) of the last test, and those still to repair (R304). -/
  fails : List (Nat × Nat)
  todo : List (Nat × Nat)
  /-- F has passed or been fully repaired in the present swap (R320). -/
  fGood : Bool
  /-- Copy beats done in MIRROR or RETMIRROR (R316). -/
  copyPos : Nat
  /-- Scrub reads owed (R323). -/
  scrubOwed : Nat
  /-- STORE has been in RETENTION since the last Cycle boundary; STORE changed since then (R323). -/
  storeOut : Bool
  storeMoved : Bool
  /-- Scrubbing was enabled, and was paused, when the Cycle in progress began (R323). -/
  scrubEn : Bool
  scrubPaused : Bool
  deriving DecidableEq, Repr

/-- The pool manager beside its registers (chapter 11). -/
structure Pool where
  /-- Metadata words that differ from what they read as by default, by number (Tables 11.1 to 11.3). -/
  words : List (Nat × Word)
  /-- The metadata RAM is uninitialised, with the free value it shows; none once initialised (R329, R352). -/
  undef : Option Nat
  /-- Staged handles with the writer's AID, by MID (R338). -/
  staged : List (Nat × Word × Nat)
  /-- Counts of the four classes as last initialised (R328). -/
  cnt : List Nat
  deriving DecidableEq, Repr

/-- Tenant control and the virtual interrupt router beside their registers (chapter 12). -/
structure Ten where
  /-- Words of the tenant table that are not 0: 8 × tenant + word. -/
  table : List (Nat × Word)
  /-- Injection latches that are set: 16 × tenant + line (R366). -/
  latches : List Nat
  /-- Lines deliverable when they were last looked at: 16 × tenant + line (R368). -/
  deliv : List Nat
  /-- The reset in progress ends in ABSENT (R370). -/
  remove : Bool
  /-- Window bytes zeroised so far (R373). -/
  zeroPos : Nat
  /-- A tenant left READY while it was current, and the exit is not yet taken (R363). -/
  exitDue : Bool
  deriving DecidableEq, Repr

/-- One measurement channel beside its registers (chapter 13). -/
structure MsrCh where
  /-- MSR_CHCFGn in force (R383). -/
  cfg : Word
  /-- The channel was enabled or reconfigured at the start of the Cycle in progress (R384, R403). -/
  fresh : Bool
  /-- The integration in progress is valid so far (R384); the sums of a low-power one (R385). -/
  good : Bool
  sumD : Int
  sumN : Nat
  clip : Bool
  /-- A Drone check passed in this Cycle (R388). -/
  checked : Bool
  /-- Bits of the fast tap, newest in bit 0, and how many clocks ran (R401). -/
  hist : Nat
  filled : Nat
  /-- The fast condition holds (R401). -/
  trip : Bool
  deriving DecidableEq, Repr

/-- The measurement subsystem beside its registers (chapter 13). -/
structure Msr where
  chs : List MsrCh
  /-- N of the previous Cycle (R401). -/
  nLast : Nat
  /-- LPCYC in force (R383). -/
  lpcyc : Nat
  /-- MEAS has returned to ON since the last boundary but one: N_last is 40,000 (R401). -/
  nFirst : Bool
  /-- The Drone slot in progress, 0 to 15, and whether its checks and its conversions are still to be judged (R403). -/
  slot : Nat
  slotDrone : Bool
  slotRef : Bool
  /-- A reference check failed and the next frame reports it (R405); a Drone check failed in this Cycle. -/
  refBad : Bool
  droneBad : Bool
  /-- The tracker was not LOCKED at the start of the Cycle (Table 13.3). -/
  unlocked : Bool
  /-- Latched frames not yet written, oldest first, at most two (R396). -/
  held : List (List Word)
  /-- A frame was lost to the ring since the last one written (R394). -/
  ovr : Bool
  hovr : Bool
  /-- The sentinel's sums, the integrations in them, and whether the next one is discarded (R406, R407). -/
  sum46 : Int
  sum47 : Int
  sumCnt : Nat
  discard : Bool
  /-- A record that is complete and not yet written (R407). -/
  sentRec : Option (Word × Word)
  deriving DecidableEq, Repr

/-- The safety block beside its registers (chapter 14). -/
structure Saf where
  /-- Groups whose slow-limit condition holds, with the fault word (R419). -/
  slow : List (Nat × Word)
  /-- Outputs whose readback condition holds (R417). -/
  readback : Word
  /-- Breath boundaries without a comparison still to come, per output (R417). -/
  settle : List Nat
  /-- Outputs on when they were last looked at (R417). -/
  lastOn : Word
  /-- Overtemperature holds (R420). -/
  hot : Bool
  /-- Cycle boundaries the escalation timer has counted (R424). -/
  esc : Nat
  /-- CODE of the CORE fault that stopped the core, 0 for none (R425). -/
  coreStop : Nat
  /-- A Breath boundary has come since the debug halt, so that its condition holds (R426). -/
  haltSeen : Bool
  /-- The SAFE fault that LASTFW shows of those of this clock, and whether the capture is of this clock (chapter 14, When things
  coincide). -/
  now : Option Word
  nowCaptured : Bool
  deriving DecidableEq, Repr

/-- What the raw copy still has to do, in order (R452): write half of a TX line's record, two counts a word, or publish
the record of a Cycle. -/
inductive RawItem where
  | beat (tx half data : Nat)
  | publish (cyc : Nat)
  deriving DecidableEq, Repr

/-- The touch engine beside its registers (chapter 15). -/
structure Tch where
  /-- Baselines in 16.8 fixed point, nodes 0 to 63 (R441). -/
  base : List Nat
  /-- Consecutive GROUND_LOW postings per node (R443). -/
  anti : List Nat
  /-- Debounce counts per key (Table 15.1). -/
  onCnt : List Nat
  offCnt : List Nat
  /-- Bursts of the Cycle in progress: TX line and its eight counts (R437). -/
  bursts : List (Nat × List Nat)
  /-- TCH_BURST in force (R439). -/
  burst : Word
  /-- The engine has scanned since the Cycle began (R455). -/
  whole : Bool
  /-- The next Cycle is a reference Cycle of an enable; the Cycle in progress is a reference Cycle; the next complete
  scan is a checked scan, a seed scan (R444, R449, R451). -/
  refDue : Bool
  inRef : Bool
  checkDue : Bool
  seedDue : Bool
  /-- What the raw copy has queued, oldest first. -/
  raw : List RawItem
  deriving DecidableEq, Repr

/-- The VPANEL boost (R472 to R475). -/
inductive Boost where
  | off | ramp | running | waiting
  deriving DecidableEq, Repr

/-- One ledger entry: FWD, residue and BAL (R464). -/
structure Pixel where
  fwd : Nat
  res : Nat
  bal : Int
  deriving DecidableEq, Repr

/-- The panel engine beside its registers (chapter 16). -/
structure Pnl where
  /-- Ledger entries that are not all 0, by pixel. -/
  ledger : List (Nat × Pixel)
  /-- The ledger content is undefined, with the free value it shows (R469). -/
  undef : Option Nat
  /-- Slot of the frame in progress, 36 after the last; S and K taken at the frame start (R458). -/
  slot : Nat
  s : Nat
  k : Nat
  /-- PNL_VP, PNL_DRV, PNL_DWK and PNL_FBBASE in force (R463, R470). -/
  vp : Word
  drv : Word
  dwk : Word
  fbBase : Word
  /-- The row of the row slot in progress, and the row fetched for the next slot; none drives dark (R462). -/
  rowBuf : Option (List Word)
  nextBuf : Option (List Word)
  /-- Modulator clocks of the touch window of the quiet slot in progress (R460). -/
  window : Nat
  /-- The frame of the Cycle in progress, and the quiet slot in progress, 0 to 7, whose catch-up is to come (R437). -/
  frame : Nat
  quiet : Option Nat
  /-- The frame buffer reads are stopped until the next frame start (R478). -/
  halted : Bool
  boost : Boost
  deriving DecidableEq, Repr

/-- One digest context (chapter 17). -/
structure DgsCtx where
  /-- Table 17.2. -/
  state : Nat
  owner : Nat
  cfg : Word
  len : Nat
  err : Nat
  isSealed : Bool
  mismatch : Bool
  isMatch : Bool
  underlen : Bool
  overlen : Bool
  count : Nat
  out : List Word
  expect : List Word
  /-- Key loaded at START (R486). -/
  key : List Byte
  /-- Hash state, blocks that wait for the compression core, and the block being filled (R480, R491). -/
  hash : List Nat
  blocks : List (List Byte)
  part : List Byte
  /-- The first waiting block is the inner key block. -/
  keyBlock : Bool
  /-- The outer hash of an HMAC is running. -/
  outer : Bool
  deriving DecidableEq, Repr

/-- The digest engine beside its registers (chapter 17). -/
structure Dgs where
  ctxs : List DgsCtx
  /-- DGS_CTX of each master that differs from 0 (R484). -/
  sel : List (Nat × Nat)
  /-- The context served last (R480). -/
  last : Nat
  /-- Context, base and entries of the list in progress, as its START found them (R495). -/
  feed : Nat
  listBase : Nat
  listLen : Nat
  deriving DecidableEq, Repr

/-- Who owns the bus (R503). -/
inductive Owner where
  | nobody | controller | lke
  deriving DecidableEq, Repr

/-- A queued transmit image with the poster's AID and its identifier (R512, R513). -/
structure TxPost where
  handle : Word
  aid : Nat
  id : Nat
  deriving DecidableEq, Repr

/-- An entry of the transaction table (R514). -/
structure Txn where
  tenant : Nat
  tag : Nat
  index : Nat
  sub : Nat
  /-- Marked by a tenant reset (R515). -/
  marked : Bool
  /-- The request came in FD format, with BRS (R518). -/
  fd : Bool
  brs : Bool
  deriving DecidableEq, Repr

/-- What the LKE has decided about the entry at RD (R509, R529). -/
inductive RdState where
  | unseen | pass | wake | respond
  deriving DecidableEq, Repr

/-- The field link beside its registers (chapter 18). -/
structure Lnk where
  owner : Owner
  txq : List TxPost
  rxq : List Word
  txns : List Txn
  /-- Ticks until the LKE engine may start its next response (R529). -/
  rate : Nat
  /-- Frames waiting in the heartbeat slot and in the LKE response slot (R513). -/
  hb : Option CanFrame
  resp : Option CanFrame
  rd : RdState
  /-- A bus-off recovery has been asked for (R505). -/
  recover : Bool
  /-- Error counters of the LKE engine, and its bus-off (R505). -/
  lkeTec : Nat
  lkeRec : Nat
  lkeOff : Bool
  /-- LKE_OBJ staged for the next Cycle boundary (R545), with its writer's AID. -/
  objNext : Option (Word × Nat)
  /-- The AIDs of the agents that wrote LKE_OBJ and LKE_DROPB, which the LKE's accesses carry (R224). -/
  objAid : Nat
  dropAid : Nat
  /-- Cycles since the LKE engine's last heartbeat (R522). -/
  hbCycles : Nat
  /-- Heartbeat bytes 2 to 7 latched at the last deep entry (R522). -/
  latched : List Byte
  /-- The frame that the LS4810 has sent last, as it stood on the bus (R501). -/
  sent : Option CanFrame
  deriving DecidableEq, Repr

/-- One access port of the HDP (R557 to R559). -/
structure Ap where
  /-- An error is pending. -/
  pending : Bool
  /-- The access outstanding: write or read, address and data. -/
  busy : Option (Bool × Word × Word)
  buf : Word
  deriving DecidableEq, Repr

/-- The debug port beside its registers (chapter 20). -/
structure Hdp where
  aps : List Ap
  /-- The target decodes nothing until a line reset (R555, R556). -/
  lost : Bool
  /-- An unlock check has passed (R574). -/
  unlocked : Bool
  /-- The challenge in progress is an unlock's (R573). -/
  unlocking : Bool
  /-- A halt is requested and not yet taken (R563). -/
  haltReq : Bool
  /-- A watchpoint matched, and the core halts before the next instruction (R566). -/
  wpHit : Option Nat
  /-- A step is in progress (R567). -/
  stepping : Bool
  /-- The acknowledge of the last packet (Table 20.3), 7 where the target drives nothing (R556). -/
  ack : Nat
  /-- The DATA phase of the last RD or RDBUF answered OK (R558). -/
  data : Word
  deriving DecidableEq, Repr

/-- The faults: where the spec gives the machine no behaviour at all. -/
inductive Fault where
  /-- TESTEN is high while bank VIO0 rises: the manual gives the factory test mode no behaviour (R593). Raised by
  VIO_BANK_CROSSING; safe. -/
  | factoryTest
  deriving DecidableEq, Repr

/-- The refusals. -/
inductive Refusal where
  /-- A row of the table that has no meaning yet; raised by Dispatch alone; safe. -/
  | notModelled (mnemonic : String)
  deriving DecidableEq, Repr

/-- The state of the LS4810. -/
structure State where
  /-- Registers that differ from their reset value, by address, addresses rising. -/
  regs : List (Nat × Word)
  /-- The commands that wait, first in, first out. -/
  pending : List Instr
  /-- Counter behind the free values: the model's own field (log 2). -/
  freeCtr : Nat
  core : Core
  tmb : Tmb
  hrv : Hrv
  pwr : Pwr
  lcs : Lcs
  bus : Bus
  dma : Dma
  pins : Pins
  gtc : Gtc
  stc : Stc
  pool : Pool
  ten : Ten
  msr : Msr
  saf : Saf
  tch : Tch
  pnl : Pnl
  dgs : Dgs
  lnk : Lnk
  hdp : Hdp
  /-- The seventeen arrays of the Store, 516 rows of 32 words each (R295). -/
  store : List Mem
  /-- Saddle RAM, 16 KiB. -/
  saddle : Mem
  /-- The NVM array, 4 MiB. -/
  nvm : Mem
  deriving DecidableEq, Repr

/-! ## The state after reset -/

/-- The core after a SYSTEM or COLD reset (R161, Tables 06.1 and 06.2); general registers the manual leaves undefined
hold 0 (DESIGN CHOICE, log 7). -/
def Core.reset : Core :=
  { g := Vector.replicate 16 0, pc := 0xF0000000, cc := ⟨false, false, false, false⟩, status := 0x80, astat := 0,
    tid := 0, epc := 0, ecause := 0, eval := 0, estatus := 0, wscratch := 0, nepc := 0, nstatus := 0,
    vbase := 0, splim := 0, tstatus := 0, tepc := 0, tcause := 0, tvec := 0, tscratch := 0, resv := none,
    scndFailed := [], guard := [], nmi := false, halted := false, stopped := false, asleep := false,
    stalled := none, buf := [], epoch := 0, icache := [], swLines := 0 }

/-- The tracker and the clocks after a reset of the Saddle domain. -/
def Tmb.reset : Tmb :=
  { ticks := 0, acc := 0, cycTicks := 0, sinceCross := 0, crossSeen := false, intervalSwitched := false, nLast := 0, missLeft := 0,
    validRun := 0, lockRun := 0, unlockRun := 0, missRun := 0, target := none, freeDue := false, fromShelf := false, lxoGood := 0,
    lxoRuns := false, lxoWhole := false, cycleSwitched := false, breathDiv := 16, brtDone := false, brtWhole := false,
    escalated := false, busySeen := false, lrcRun := 0, lrcFail := false, hfoFail := false, trimTicks := 0, opTarget := 0x10, usFrac := 0 }

/-- The power path in ON_MAIN (R54), with VMAIN at its threshold of 3.0 V for 1 ms and no other supply (log 1). -/
def Hrv.reset : Hrv :=
  { pstate := .on, src := .main, newSrc := .main, completing := false,
    levels := { vhin := 0, vmain := 3000, vbel := 0, vbat := 0 }, cMain := ⟨true, 1000⟩, cBat := ⟨false, 0⟩,
    cOk := ⟨false, 0⟩, cLow := ⟨false, 0⟩, cCrit := ⟨false, 0⟩, strobe := 0, mainV := true, batV := false, belOk := false,
    belLow := false, belCrit := false, belFull := false, regPoint := none,
    hcold := false, boostOn := true, recordSlot := none, resumeDue := false, fresh := false }

/-- Sleep control in RUN. -/
def Pwr.reset : Pwr :=
  { level := .run, entry := none, waking := false, stagger := [], boot := false, cold := false, coldDue := false,
    stage := .first, wokenFrom := .hibernate, pdown := [], sysPowered := true, wkScans := [], wkFalls := 0 }

/-- The life-cycle block, with every key slot empty (R154). -/
def Lcs.reset : Lcs :=
  { pendingResets := [], softMid := 0, escDomain := 0, nresetLow := false, pushed := [], pushLost := false, target := 0,
    chalWrite := false, checking := false, checkBlocks := 0, journal := false, journalDone := 0, keys := [[], [], [], [], [], [], [], []], keyLoad := none,
    newState := 0 }

/-- The interconnect with nothing in flight. -/
def Bus.reset : Bus := { arbs := [], errs := [], held := [], nvmQ := [] }

/-- One idle channel of the general DMA. -/
def DmaCh.reset : DmaCh :=
  { tid := 0, desc := [], copy := none, pausedFrom := 0, wb := 0, handle := none, half := false, stopDue := none,
    pauseDue := false, seen := (0, 0) }

/-- A channel between two descriptors, or ended. -/
def DmaCh.clear (c : DmaCh) : DmaCh :=
  { c with desc := [], copy := none, wb := 0, handle := none, half := false, stopDue := none, pauseDue := false }

/-- The general DMA. -/
def Dma.reset : Dma := { ch := List.replicate 8 DmaCh.reset, last := 7 }

/-- The balls, with every bank supplied. -/
def Pins.reset : Pins :=
  { gpioExt := 0, gpioOpen := 0, vio := [true, true, true, true], vcoreBad := false, vioBad := [false, false, false, false] }

/-- The gates with nothing staged. -/
def Gtc.reset : Gtc := { staged := [], crcRuns := false }

/-- The Stitch engine idle, without remaps (R296). -/
def Stc.reset : Stc :=
  { remaps := [], marker := none, aid := 0, arrays := [], prog := [], custom := 0, transp := false, repair := false,
    u := 16, f := 0, fails := [], todo := [], fGood := false, copyPos := 0, scrubOwed := 0, storeOut := false,
    storeMoved := false, scrubEn := false, scrubPaused := false }

/-- The pool with its metadata RAM uninitialised (R352). -/
def Pool.reset : Pool := { words := [], undef := some 0, staged := [], cnt := [0, 0, 0, 0] }

/-- Tenant control with every tenant ABSENT (R355). -/
def Ten.reset : Ten :=
  { table := [], latches := [], deliv := [], remove := false, zeroPos := 0, exitDue := false }

/-- A disabled channel. -/
def MsrCh.reset : MsrCh :=
  { cfg := 0, fresh := true, good := false, sumD := 0, sumN := 0, clip := false, checked := false, hist := 0, filled := 0,
    trip := false }

/-- The measurement subsystem after a reset of MEAS (R410); 40,000 is N_last of R401. -/
def Msr.reset : Msr :=
  { chs := List.replicate 48 MsrCh.reset, nLast := 40000, lpcyc := 0, nFirst := true, slot := 0,
    slotDrone := false, slotRef := false, refBad := false, droneBad := false, unlocked := true, held := [], ovr := false,
    hovr := false, sum46 := 0, sum47 := 0, sumCnt := 0, discard := true, sentRec := none }

/-- The safety block with no condition. -/
def Saf.reset : Saf :=
  { slow := [], readback := 0, settle := List.replicate 16 0, lastOn := 0, hot := false, esc := 0, coreStop := 0,
    haltSeen := false, now := none, nowCaptured := false }

/-- The touch engine disabled. -/
def Tch.reset : Tch :=
  { base := List.replicate 64 0, anti := List.replicate 64 0, onCnt := List.replicate 32 0, offCnt := List.replicate 32 0,
    bursts := [], burst := 0x41001, whole := false, refDue := false, inRef := false, checkDue := false, seedDue := false,
    raw := [] }

/-- The panel engine dark, with the ledger content undefined (R469). -/
def Pnl.reset : Pnl :=
  { ledger := [], undef := some 0, slot := 36, s := 0, k := 0, vp := 0x64, drv := 0x3C00, dwk := 0, fbBase := 0,
    rowBuf := none, nextBuf := none, window := 0, frame := 0, quiet := none, halted := false, boost := .off }

/-- A free context. -/
def DgsCtx.reset : DgsCtx :=
  { state := 0, owner := 0, cfg := 0, len := 0, err := 0, isSealed := false, mismatch := false, isMatch := false,
    underlen := false, overlen := false, count := 0, out := List.replicate 16 0, expect := List.replicate 16 0, key := [],
    hash := [], blocks := [], part := [], keyBlock := false, outer := false }

/-- The digest engine: contexts 0 to 14 FREE, context 15 IDLE and bound to 0x400 (R482). -/
def Dgs.reset : Dgs :=
  { ctxs := List.replicate 15 DgsCtx.reset ++ [{ DgsCtx.reset with state := 1, owner := 0x400 }], sel := [], last := 15,
    feed := 0, listBase := 0, listLen := 0 }

/-- The field link with nobody on the bus (R503). -/
def Lnk.reset : Lnk :=
  { owner := .nobody, txq := [], rxq := [], txns := [], rate := 0, hb := none, resp := none, rd := .unseen,
    recover := false, lkeTec := 0, lkeRec := 0, lkeOff := false, objNext := none, objAid := 0x400, dropAid := 0x400, hbCycles := 0,
    latched := List.replicate 6 0, sent := none }

/-- One idle access port; the read buffer is 0 after a COLD reset (R558). -/
def Ap.reset : Ap := { pending := false, busy := none, buf := 0 }

/-- The debug port, which expects a line reset after a COLD reset (R555). -/
def Hdp.reset : Hdp :=
  { aps := List.replicate 4 Ap.reset, lost := true, unlocked := false, unlocking := false, haltReq := false,
    wpHit := none, stepping := false, ack := 7, data := 0 }

/-- The machine right after reset: every register at its reset value, every domain ON, the core in RUN before its first
boot ROM instruction, MAIN connected, no command waiting. The Store and Saddle RAM are undefined (R300, R618) and the
NVM holds the factory content (log 6). -/
def State.reset : State :=
  { regs := [], pending := [], freeCtr := 0, core := Core.reset, tmb := Tmb.reset, hrv := Hrv.reset, pwr := Pwr.reset,
    lcs := Lcs.reset, bus := Bus.reset, dma := Dma.reset, pins := Pins.reset, gtc := Gtc.reset, stc := Stc.reset,
    pool := Pool.reset, ten := Ten.reset, msr := Msr.reset, saf := Saf.reset, tch := Tch.reset, pnl := Pnl.reset,
    dgs := Dgs.reset, lnk := Lnk.reset, hdp := Hdp.reset, store := List.replicate 17 (.blank (.undefined 0)),
    saddle := .blank (.undefined 0), nvm := .blank .factory }

end Sys2Proof.Machine
end

