-- ==== Sys2Proof/Machine/Flags.lean ====
section
/-!
DEFINITION. The condition flags (R196, R197, R199) and the results of shifts, saturating arithmetic and division
(R201, R202, R204, R205). Everything here is a function of words alone.
-/
namespace Sys2Proof.Machine

/-- N and Z follow the result (R196). -/
def ccNZ (cc : CC) (r : Word) : CC := { cc with n := r.msb, z := decide (r = 0) }

/-- The sum x + y + cin (R197). -/
def addcResult (x y : Word) (cin : Bool) : Word := x + y + word (b2n cin)

/-- The carry out of bit 31 of x + y + cin (R197). -/
def addcCarry (x y : Word) (cin : Bool) : Bool := decide (2 ^ 32 ≤ x.toNat + y.toNat + b2n cin)

/-- The overflow of x + y + cin: operands of one sign, result of the other (R197). -/
def addcOverflow (x y : Word) (cin : Bool) : Bool :=
  (x.msb == y.msb) && ((addcResult x y cin).msb != x.msb)

/-- The flags of an addition x + y + cin. -/
def ccAdd (x y : Word) (cin : Bool) : CC :=
  { n := (addcResult x y cin).msb, z := decide (addcResult x y cin = 0), c := addcCarry x y cin,
    v := addcOverflow x y cin }

/-- The difference x − y − bin, computed as x + NOT y + (1 − bin) (R197). -/
def subbResult (x y : Word) (bin : Bool) : Word := addcResult x (~~~y) (!bin)

/-- The flags of a subtraction: C is the carry of that sum, V is set when x and y differ in sign and the result's sign
differs from x's (R197). -/
def ccSub (x y : Word) (bin : Bool) : CC :=
  { n := (subbResult x y bin).msb, z := decide (subbResult x y bin = 0), c := addcCarry x (~~~y) (!bin),
    v := (x.msb != y.msb) && ((subbResult x y bin).msb != x.msb) }

/-- Whether a condition of Table 07.3 holds; 0xF never does (R199). -/
def condHolds (cc : CC) (cond : Fin 16) : Bool :=
  let base : Bool :=
    match cond.val % 8 with
    | 0 => cc.z
    | 1 => cc.c
    | 2 => cc.n
    | 3 => cc.v
    | 4 => cc.c && !cc.z
    | 5 => cc.n == cc.v
    | 6 => !cc.z && (cc.n == cc.v)
    | _ => true
  if cond.val < 8 then base else !base

/-- MIN, 0x8000_0000. -/
def wordMin : Word := 0x80000000

/-- MAX, 0x7FFF_FFFF. -/
def wordMax : Word := 0x7FFFFFFF

/-- An exact signed value held between MIN and MAX (R201). -/
def satWord (i : Int) : Word :=
  if i < -(2 ^ 31 : Int) then wordMin else if (2 ^ 31 : Int) ≤ i then wordMax else BitVec.ofInt 32 i

/-- Whether an exact signed value lies outside MIN to MAX (R201). -/
def satOut (i : Int) : Bool := decide (i < -(2 ^ 31 : Int)) || decide ((2 ^ 31 : Int) ≤ i)

/-- Signed quotient and remainder, overflow and division by zero of DIVS (R202). -/
def divsResult (a b : Word) : Word × Word :=
  if b = 0 then (0xFFFFFFFF, a)
  else if a = wordMin ∧ b = 0xFFFFFFFF then (wordMin, 0)
  else (BitVec.ofInt 32 (Int.tdiv a.toInt b.toInt), BitVec.ofInt 32 (Int.tmod a.toInt b.toInt))

/-- DIVS divides MIN by −1 (R202). -/
def divsOverflow (a b : Word) : Bool := decide (a = wordMin) && decide (b = 0xFFFFFFFF)

/-- Unsigned quotient and remainder of DIVU (R202). -/
def divuResult (a b : Word) : Word × Word :=
  if b = 0 then (0xFFFFFFFF, a) else (word (a.toNat / b.toNat), word (a.toNat % b.toNat))

/-- Result and carry of LSL by `n` (Table 07.6). -/
def lslResult (a : Word) (n : Nat) (c : Bool) : Word × Bool :=
  if n = 0 then (a, c)
  else if n < 32 then (a <<< n, wbit a (32 - n))
  else if n = 32 then (0, wbit a 0)
  else (0, false)

/-- Result and carry of LSR by `n` (Table 07.6). -/
def lsrResult (a : Word) (n : Nat) (c : Bool) : Word × Bool :=
  if n = 0 then (a, c)
  else if n < 32 then (a >>> n, wbit a (n - 1))
  else if n = 32 then (0, wbit a 31)
  else (0, false)

/-- Result and carry of ASR by `n` (Table 07.6). -/
def asrResult (a : Word) (n : Nat) (c : Bool) : Word × Bool :=
  if n = 0 then (a, c)
  else if n < 32 then (a.sshiftRight n, wbit a (n - 1))
  else (if a.msb then 0xFFFFFFFF else 0, a.msb)

/-- Result and carry of ROR by `n` (R205). -/
def rorResult (a : Word) (n : Nat) (c : Bool) : Word × Bool :=
  if n = 0 then (a, c) else (a.rotateRight (n % 32), (a.rotateRight (n % 32)).msb)

/-- The number of leading zeros (Table 07.4). -/
def leadingZeros (a : Word) : Nat := if a = 0 then 32 else 31 - Nat.log2 a.toNat

/-- A bit field of `a`: `w` bits from `pos`, sign-extended when `sgn` (BEXT, Table 07.5). -/
def bitField (a : Word) (pos w : Nat) (sgn : Bool) : Word :=
  if sgn then BitVec.ofInt 32 (signed w (fld a pos w)) else word (fld a pos w)

end Sys2Proof.Machine
end

