-- ==== Sys2Proof/Machine/RegTable.lean ====
section
/-!
DEFINITION. The register map: every register entry of the chapters' "Registers" sections, with its address, its reset
value, the masks of its access codes (R6, Table 00.2), the lock of its RWL fields and the domain that holds it (R10, R13).
A field that is RO, WO or RS stands in no mask: an ordinary write leaves it alone (R7).
-/
namespace Sys2Proof.Machine

/-- One register entry, or an array of equal entries `stride` bytes apart. -/
structure RegDef where
  base : Nat
  count : Nat
  stride : Nat
  /-- Reset value of entry 0. -/
  reset : Nat
  /-- What each further entry's reset value adds (0 but for STC_MAPk). -/
  resetStep : Nat
  rw : Nat
  w1c : Nat
  rwl : Nat
  /-- Address of the register that holds the lock of the RWL fields. -/
  lockAddr : Nat
  /-- Bit of the lock. -/
  lockBit : Nat
  dom : Domain
  deriving DecidableEq, Repr

namespace Reg

def TMB_CFG : Nat := 0x30002000
def TMB_TRK : Nat := 0x30002004
def TMB_STAT : Nat := 0x30002008
def TMB_CYCCNT : Nat := 0x3000200C
def TMB_LAST : Nat := 0x30002010
def BRT_DONE : Nat := 0x30002014
def BRT_CFG : Nat := 0x30002018
def TMB_IRQ : Nat := 0x3000201C
def TMB_IEN : Nat := 0x30002020
def RTC_SEC : Nat := 0x30002030
def RTC_SUB : Nat := 0x30002034
def RTC_SNAP : Nat := 0x30002038
def RTC_ALARM : Nat := 0x3000203C
def RTC_CAL : Nat := 0x30002040
def CLK_OP : Nat := 0x20000000
def CLK_STAT : Nat := 0x20000004
def CLK_MON : Nat := 0x20000008
def HRV_CFG : Nat := 0x30001000
def HRV_THR : Nat := 0x30001004
def HRV_STAT : Nat := 0x30001008
def HRV_LEVEL : Nat := 0x3000100C
def HRV_IRQ : Nat := 0x30001010
def HRV_IEN : Nat := 0x30001014
def HRV_HOCNT : Nat := 0x30001018
def HRV_SDSLOT : Nat := 0x3000101C
def SDL_CFG : Nat := 0x30000000
def SDL_WAKEEN : Nat := 0x30000004
def SDL_WCAUSE : Nat := 0x30000008
def SDL_STAT : Nat := 0x3000000C
def SDL_WKEY : Nat := 0x30000010
def SDL_WCNT : Nat := 0x30000014
def PWR_STAGGER : Nat := 0x20002000
def PWR_DOMCTL : Nat := 0x20002004
def PWR_DOMSTAT : Nat := 0x20002008
def PWR_POL : Nat := 0x2000200C
def PWR_EVT : Nat := 0x20002010
def RST_CTL : Nat := 0x20001000
def RST_STAT : Nat := 0x20001004
def LCS_STATE : Nat := 0x30003000
def LCS_REQ : Nat := 0x30003004
def LCS_STAT : Nat := 0x30003008
def LCS_CHAL (n : Nat) : Nat := 0x30003010 + 4 * n
def LCS_RESP (n : Nat) : Nat := 0x30003020 + 4 * n
def LCS_UID (n : Nat) : Nat := 0x30003040 + 4 * n
def LCS_KEYBUF (n : Nat) : Nat := 0x30003080 + 4 * n
def LCS_KEYCTL : Nat := 0x300030C0
def LCS_KEYSTAT : Nat := 0x300030C4
def LCS_RCHIST (n : Nat) : Nat := 0x30003100 + 4 * n
def LCS_BOOT : Nat := 0x30003120
def LCS_BOOTSEQ : Nat := 0x30003124
def EIC_EN (n : Nat) : Nat := 0xE0000000 + 4 * n
def EIC_PEND (n : Nat) : Nat := 0xE0000010 + 4 * n
def EIC_SWSET : Nat := 0xE0000020
def EIC_SWCLR : Nat := 0xE0000024
def EIC_TOP : Nat := 0xE0000028
def EIC_PRIO (n : Nat) : Nat := 0xE0000100 + 4 * n
def STM_CTL : Nat := 0xE0001000
def STM_STAT : Nat := 0xE0001004
def STM_CNTLO : Nat := 0xE0001008
def STM_CNTHI : Nat := 0xE000100C
def STM_CNTHS : Nat := 0xE0001010
def STM_CMPLO : Nat := 0xE0001014
def STM_CMPHI : Nat := 0xE0001018
def ICT_QOSCFG : Nat := 0x20005000
def ICT_QOSMID : Nat := 0x20005004
def ICT_ERRSTAT : Nat := 0x20005010
def ICT_ERRADDR : Nat := 0x20005014
def ICT_ERRINFO : Nat := 0x20005018
def ICT_ERRPOP : Nat := 0x2000501C
def NVC_STAT : Nat := 0x2001A000
def NVC_ERRADR : Nat := 0x2001A004
def DMA_STAT : Nat := 0x2000A000
def DMA_IRQ : Nat := 0x2000A004
def DMA_IEN : Nat := 0x2000A008
def DMA_CHCTL (n : Nat) : Nat := 0x2000A100 + 32 * n
def DMA_CHDESC (n : Nat) : Nat := 0x2000A104 + 32 * n
def DMA_CHSTAT (n : Nat) : Nat := 0x2000A108 + 32 * n
def DMA_CHCUR (n : Nat) : Nat := 0x2000A10C + 32 * n
def DMA_CHPOS (n : Nat) : Nat := 0x2000A110 + 32 * n
def DMA_CHRES (n : Nat) : Nat := 0x2000A114 + 32 * n
def DMA_CHERRA (n : Nat) : Nat := 0x2000A118 + 32 * n
def GPIO_DIR : Nat := 0x20019000
def GPIO_OUT : Nat := 0x20019004
def GPIO_IN : Nat := 0x20019008
def GPIO_PULL : Nat := 0x2001900C
def GPIO_ODRAIN : Nat := 0x20019010
def GPIO_IMODE : Nat := 0x20019014
def GPIO_LVL : Nat := 0x20019018
def GPIO_IRQ : Nat := 0x2001901C
def GPIO_IEN : Nat := 0x20019020
def GPIO_FILT : Nat := 0x20019024
def GPIO_LOCK : Nat := 0x20019028
def GATE_RULE_BASE (n : Nat) : Nat := 0x20004000 + 16 * n
def GATE_RULE_LIMIT (n : Nat) : Nat := 0x20004004 + 16 * n
def GATE_RULE_CTL (n : Nat) : Nat := 0x20004008 + 16 * n
def GATE_RULE_CLS (n : Nat) : Nat := 0x2000400C + 16 * n
def GATE_VSTAT (n : Nat) : Nat := 0x20004800 + 16 * n
def GATE_VADDR (n : Nat) : Nat := 0x20004804 + 16 * n
def GATE_VINFO (n : Nat) : Nat := 0x20004808 + 16 * n
def GTC_CTL : Nat := 0x20004A00
def GTC_CRCCTL : Nat := 0x20004A04
def GTC_CRCSTAT : Nat := 0x20004A08
def GTC_CRCREF : Nat := 0x20004A0C
def GTC_CRCLAST : Nat := 0x20004A10
def STC_CMD : Nat := 0x20007000
def STC_RUNCFG : Nat := 0x20007004
def STC_SWPCFG : Nat := 0x20007008
def STC_PROG : Nat := 0x2000700C
def STC_CUSTOM : Nat := 0x20007010
def STC_STAT : Nat := 0x20007014
def STC_IEN : Nat := 0x20007018
def STC_FAILCNT : Nat := 0x2000701C
def STC_SIGP : Nat := 0x20007020
def STC_SIGA : Nat := 0x20007024
def STC_SCRUB : Nat := 0x20007028
def STC_SCRPOS : Nat := 0x2000702C
def STC_ELEM (n : Nat) : Nat := 0x20007040 + 4 * n
def STC_FAIL (n : Nat) : Nat := 0x20007080 + 4 * n
def STC_RTNEXT : Nat := 0x200070A0
def STC_MAP (n : Nat) : Nat := 0x200070C0 + 4 * n
def STC_MAPU : Nat := 0x200070D0
def STC_MAPSTAT : Nat := 0x200070D4
def STC_SPRSEL : Nat := 0x200070E0
def STC_SPRD (n : Nat) : Nat := 0x200070E4 + 4 * n
def STC_ECCCNT : Nat := 0x20007100
def STC_ECCADDR : Nat := 0x20007104
def STC_ECCINFO : Nat := 0x20007108
def STC_ECCCTL : Nat := 0x2000710C
def POOL_CTL : Nat := 0x20006000
def POOL_BASE : Nat := 0x20006004
def POOL_CNT01 : Nat := 0x20006008
def POOL_CNT23 : Nat := 0x2000600C
def POOL_ALLOC (n : Nat) : Nat := 0x20006010 + 4 * n
def POOL_FREE : Nat := 0x20006020
def POOL_RELEASE : Nat := 0x20006024
def POOL_DONE : Nat := 0x20006028
def POOL_SHAREH : Nat := 0x2000602C
def POOL_SHARE : Nat := 0x20006030
def POOL_IRQ : Nat := 0x20006034
def POOL_IEN : Nat := 0x20006038
def POOL_ERRSTAT : Nat := 0x2000603C
def POOL_ERRH : Nat := 0x20006040
def POOL_ERRINFO : Nat := 0x20006044
def POOL_MSEL : Nat := 0x20006048
def POOL_MDATA : Nat := 0x2000604C
def POOL_STAT (n : Nat) : Nat := 0x20006050 + 4 * n
def POOL_THRA (n : Nat) : Nat := 0x20006060 + 4 * n
def POOL_THRB (n : Nat) : Nat := 0x20006070 + 4 * n
def POOL_WRES (n : Nat) : Nat := 0x20006080 + 4 * n
def POOL_HYST : Nat := 0x20006090
def POOL_SHUSE : Nat := 0x20006094
def POOL_CLSBASE (n : Nat) : Nat := 0x200060A0 + 4 * n
def POOL_DENY (n : Nat) : Nat := 0x200060B0 + 4 * n
def POOL_OPRES (n : Nat) : Nat := 0x200060C0 + 4 * n
def TEN_CTL : Nat := 0x20008000
def TEN_CMD : Nat := 0x20008004
def TEN_STAT : Nat := 0x20008008
def TEN_CUR : Nat := 0x2000800C
def VIR_CTL : Nat := 0x20009000
def VIR_INJECT : Nat := 0x20009004
def VIR_DBNEXT : Nat := 0x20009008
def VIR_DB (n : Nat) : Nat := 0x20009080 + 4 * n
def VIR_ROUTE (n : Nat) : Nat := 0x20009100 + 4 * n
def MSR_CFG : Nat := 0x20010000
def MSR_STAT : Nat := 0x20010004
def MSR_IRQ : Nat := 0x20010008
def MSR_IEN : Nat := 0x2001000C
def MSR_RINGCTL : Nat := 0x20010010
def MSR_RINGBASE : Nat := 0x20010014
def MSR_RINGLEN : Nat := 0x20010018
def MSR_RINGIDX : Nat := 0x2001001C
def MSR_RINGCNT : Nat := 0x20010020
def MSR_RINGREL : Nat := 0x20010024
def MSR_RINGSTAT : Nat := 0x20010028
def MSR_HRINGBASE : Nat := 0x20010030
def MSR_HRINGLEN : Nat := 0x20010034
def MSR_HRINGIDX : Nat := 0x20010038
def MSR_HRINGCNT : Nat := 0x2001003C
def MSR_HRINGREL : Nat := 0x20010040
def MSR_DRCTL : Nat := 0x20010050
def MSR_DRSTAT : Nat := 0x20010054
def MSR_REFSTAT : Nat := 0x20010058
def MSR_LIMEVT (n : Nat) : Nat := 0x20010060 + 4 * n
def MSR_FTRIP (n : Nat) : Nat := 0x20010068 + 4 * n
def MSR_DRMIS (n : Nat) : Nat := 0x20010070 + 4 * n
def MSR_SENTCFG : Nat := 0x20010080
def MSR_SENTBASE : Nat := 0x20010084
def MSR_SENTLEN : Nat := 0x20010088
def MSR_SENTIDX : Nat := 0x2001008C
def MSR_SENTCNT : Nat := 0x20010090
def MSR_SENTREL : Nat := 0x20010094
def MSR_SENTLIM (n : Nat) : Nat := 0x20010098 + 4 * n
def MSR_SENTSTAT : Nat := 0x200100A0
def MSR_CHCFG (n : Nat) : Nat := 0x20010100 + 16 * n
def MSR_CHHI (n : Nat) : Nat := 0x20010104 + 16 * n
def MSR_CHLO (n : Nat) : Nat := 0x20010108 + 16 * n
def MSR_CHFAST (n : Nat) : Nat := 0x2001010C + 16 * n
def MSR_RESULT (n : Nat) : Nat := 0x20010400 + 4 * n
def MSR_HDR : Nat := 0x200104C0
def SAF_CFG : Nat := 0x20014000
def SAF_STAT : Nat := 0x20014004
def SAF_OUTREQ : Nat := 0x20014008
def SAF_OUT : Nat := 0x2001400C
def SAF_TRIP : Nat := 0x20014010
def SAF_FACT : Nat := 0x20014014
def SAF_ACK : Nat := 0x20014018
def SAF_SFBCFG : Nat := 0x2001401C
def SAF_OTCFG : Nat := 0x20014020
def SAF_TEMP : Nat := 0x20014024
def SAF_TEST : Nat := 0x20014028
def SAF_IRQ : Nat := 0x2001402C
def SAF_IEN : Nat := 0x20014030
def SAF_GFW (n : Nat) : Nat := 0x20014040 + 4 * n
def SAF_FW : Nat := 0x20014080
def SAF_FCYC : Nat := 0x20014084
def SAF_FRTC : Nat := 0x20014088
def SAF_FINFO : Nat := 0x2001408C
def SAF_LASTFW : Nat := 0x20014090
def SAF_NOTEFW : Nat := 0x20014094
def TCH_CTL : Nat := 0x20015000
def TCH_STAT : Nat := 0x20015004
def TCH_BURST : Nat := 0x20015008
def TCH_ANTI : Nat := 0x2001500C
def TCH_SELF : Nat := 0x20015010
def TCH_RAWCTL : Nat := 0x20015014
def TCH_RAWBASE : Nat := 0x20015018
def TCH_RAWSTAT : Nat := 0x2001501C
def TCH_IRQ : Nat := 0x20015020
def TCH_IEN : Nat := 0x20015024
def TCH_KSTATE : Nat := 0x20015030
def TCH_KCHG : Nat := 0x20015034
def TCH_GLOW (n : Nat) : Nat := 0x20015038 + 4 * n
def TCH_STOPEN (n : Nat) : Nat := 0x20015040 + 4 * n
def TCH_STSHORT (n : Nat) : Nat := 0x20015048 + 4 * n
def TCH_REF (n : Nat) : Nat := 0x20015050 + 4 * n
def TCH_KCFG (n : Nat) : Nat := 0x20015100 + 8 * n
def TCH_KTHR (n : Nat) : Nat := 0x20015104 + 8 * n
def TCH_NODE (n : Nat) : Nat := 0x20015200 + 4 * n
def PNL_CTL : Nat := 0x20016000
def PNL_STAT : Nat := 0x20016004
def PNL_VP : Nat := 0x20016008
def PNL_FAULT : Nat := 0x2001600C
def PNL_DRV : Nat := 0x20016010
def PNL_DWK : Nat := 0x20016014
def PNL_FBBASE : Nat := 0x20016018
def PNL_IRQ : Nat := 0x2001601C
def PNL_IEN : Nat := 0x20016020
def PNL_LCTL : Nat := 0x20016024
def PNL_LSTAT : Nat := 0x20016028
def PNL_WEAR (n : Nat) : Nat := 0x20016100 + 4 * n
def DGS_CTX : Nat := 0x20017000
def DGS_CMD : Nat := 0x20017004
def DGS_CFG : Nat := 0x20017008
def DGS_LENLO : Nat := 0x2001700C
def DGS_LENHI : Nat := 0x20017010
def DGS_CSTAT : Nat := 0x20017014
def DGS_COUNTLO : Nat := 0x20017018
def DGS_COUNTHI : Nat := 0x2001701C
def DGS_IRQ : Nat := 0x20017020
def DGS_IEN : Nat := 0x20017024
def DGS_STAT : Nat := 0x20017028
def DGS_KPOL : Nat := 0x2001702C
def DGS_DMACTL : Nat := 0x20017030
def DGS_DMALIST : Nat := 0x20017034
def DGS_DMACNT : Nat := 0x20017038
def DGS_DMASTAT : Nat := 0x2001703C
def DGS_OUT (n : Nat) : Nat := 0x20017040 + 4 * n
def DGS_EXPECT (n : Nat) : Nat := 0x20017080 + 4 * n
def LNK_CTL : Nat := 0x20018000
def LNK_CFG : Nat := 0x20018004
def LNK_STAT : Nat := 0x20018008
def LNK_IRQ : Nat := 0x2001800C
def LNK_IEN : Nat := 0x20018010
def LNK_RXQ : Nat := 0x20018014
def LNK_RXCFG : Nat := 0x20018018
def LNK_TXPOST : Nat := 0x2001801C
def LNK_TXSTAT : Nat := 0x20018020
def LNK_TXN : Nat := 0x20018024
def LNK_CNT : Nat := 0x20018028
def LKE_CFG : Nat := 0x30004000
def LKE_HB : Nat := 0x30004004
def LKE_RING : Nat := 0x30004008
def LKE_RIDX : Nat := 0x3000400C
def LKE_OBJ : Nat := 0x30004010
def LKE_DROPB : Nat := 0x30004014
def LKE_RETRY : Nat := 0x30004018
def LKE_STAT : Nat := 0x3000401C
def LKE_LASTW : Nat := 0x30004020
def LKE_IRQ : Nat := 0x30004024
def LKE_IEN : Nat := 0x30004028
def LKE_TSSUB : Nat := 0x3000402C
def LKE_TSSEC : Nat := 0x30004030
def LKE_FLT_ID (n : Nat) : Nat := 0x30004100 + 8 * n
def LKE_FLT_MASK (n : Nat) : Nat := 0x30004104 + 8 * n
def DBG_CTL : Nat := 0xE0002000
def DBG_STAT : Nat := 0xE0002004
def DBG_PC : Nat := 0xE0002008
def DBG_REGSEL : Nat := 0xE000200C
def DBG_REGDATA : Nat := 0xE0002010
def DBG_WPADDR : Nat := 0xE0002014
def DBG_BPMODE : Nat := 0xE0002018
def DBG_BP (n : Nat) : Nat := 0xE0002020 + 4 * n
def DBG_WP_ADDR (n : Nat) : Nat := 0xE0002040 + 8 * n
def DBG_WP_CTL (n : Nat) : Nat := 0xE0002044 + 8 * n
def HDP_PWR : Nat := 0xA0002000
def HDP_LEVEL : Nat := 0xA0002004
def HDP_STAT : Nat := 0xA0003000
def HDP_IDR : Nat := 0xA0003004
def HDP_VER : Nat := 0xA0003008
def HDP_UID (n : Nat) : Nat := 0xA000300C + 4 * n
def HDP_UNLK : Nat := 0xA0003014
def HDP_CHAL (n : Nat) : Nat := 0xA0003020 + 4 * n
def HDP_RESP (n : Nat) : Nat := 0xA0003040 + 4 * n

end Reg

/-- The register entries of TMB. -/
def regsTMB : List RegDef := [
  ⟨0x30002000, 1, 4, 0x02116400, 0, 0x0713FFFF, 0x00000000, 0x00000000, 0, 0, .saddle⟩,
  ⟨0x30002004, 1, 4, 0x00000880, 0, 0x0000FFFF, 0x00000000, 0x00000000, 0, 0, .saddle⟩,
  ⟨0x30002008, 1, 4, 0x64001000, 0, 0x00000000, 0x00000000, 0x00000000, 0, 0, .saddle⟩,
  ⟨0x3000200C, 1, 4, 0x00000000, 0, 0x00000000, 0x00000000, 0x00000000, 0, 0, .saddle⟩,
  ⟨0x30002010, 1, 4, 0x00000000, 0, 0x00000000, 0x00000000, 0x00000000, 0, 0, .saddle⟩,
  ⟨0x30002014, 1, 4, 0x00000000, 0, 0x00000000, 0x00000000, 0x00000000, 0, 0, .saddle⟩,
  ⟨0x30002018, 1, 4, 0x00000002, 0, 0x00000000, 0x00000000, 0x00000087, 0x30002018, 7, .saddle⟩,
  ⟨0x3000201C, 1, 4, 0x00000000, 0, 0x00000000, 0x0000007F, 0x00000000, 0, 0, .saddle⟩,
  ⟨0x30002020, 1, 4, 0x00000000, 0, 0x0000007F, 0x00000000, 0x00000000, 0, 0, .saddle⟩,
  ⟨0x30002030, 1, 4, 0x00000000, 0, 0xFFFFFFFF, 0x00000000, 0x00000000, 0, 0, .saddle⟩,
  ⟨0x30002034, 1, 4, 0x00000000, 0, 0x00000000, 0x00000000, 0x00000000, 0, 0, .saddle⟩,
  ⟨0x30002038, 1, 4, 0x00000000, 0, 0x00000000, 0x00000000, 0x00000000, 0, 0, .saddle⟩,
  ⟨0x3000203C, 1, 4, 0xFFFFFFFF, 0, 0xFFFFFFFF, 0x00000000, 0x00000000, 0, 0, .saddle⟩,
  ⟨0x30002040, 1, 4, 0x00000000, 0, 0x000000FF, 0x00000000, 0x00000000, 0, 0, .saddle⟩]

/-- The register entries of CLK. -/
def regsCLK : List RegDef := [
  ⟨0x20000000, 1, 4, 0x00000010, 0, 0x0000017F, 0x00000000, 0x00000000, 0, 0, .sys⟩,
  ⟨0x20000004, 1, 4, 0x00001002, 0, 0x00000000, 0x00000004, 0x00000000, 0, 0, .sys⟩,
  ⟨0x20000008, 1, 4, 0x00000000, 0, 0x00000000, 0x00000000, 0x00000000, 0, 0, .sys⟩]

/-- The register entries of HRV. -/
def regsHRV : List RegDef := [
  ⟨0x30001000, 1, 4, 0x00000039, 0, 0x00000000, 0x00000000, 0x0000013B, 0x30001000, 8, .saddle⟩,
  ⟨0x30001004, 1, 4, 0x001A0E06, 0, 0x00000000, 0x00000000, 0x003F3F3F, 0x30001000, 8, .saddle⟩,
  ⟨0x30001008, 1, 4, 0x00000000, 0, 0x00000000, 0x00000000, 0x00000000, 0, 0, .saddle⟩,
  ⟨0x3000100C, 1, 4, 0x00000000, 0, 0x00000000, 0x00000000, 0x00000000, 0, 0, .saddle⟩,
  ⟨0x30001010, 1, 4, 0x00000000, 0, 0x00000000, 0x000001FF, 0x00000000, 0, 0, .saddle⟩,
  ⟨0x30001014, 1, 4, 0x00000000, 0, 0x000001FF, 0x00000000, 0x00000000, 0, 0, .saddle⟩,
  ⟨0x30001018, 1, 4, 0x00000000, 0, 0x00000000, 0x00000000, 0x00000000, 0, 0, .saddle⟩,
  ⟨0x3000101C, 1, 4, 0x00000000, 0, 0x0000FF3F, 0x00000000, 0x00000000, 0, 0, .saddle⟩]

/-- The register entries of SDL. -/
def regsSDL : List RegDef := [
  ⟨0x30000000, 1, 4, 0x00000020, 0, 0x00000073, 0x00000000, 0x00000000, 0, 0, .saddle⟩,
  ⟨0x30000004, 1, 4, 0x00000001, 0, 0x0000FF3F, 0x00000000, 0x00000000, 0, 0, .saddle⟩,
  ⟨0x30000008, 1, 4, 0x00000000, 0, 0x00000000, 0x00000FFF, 0x00000000, 0, 0, .saddle⟩,
  ⟨0x3000000C, 1, 4, 0x00000000, 0, 0x00000000, 0x00000010, 0x00000000, 0, 0, .saddle⟩,
  ⟨0x30000010, 1, 4, 0x00000000, 0, 0x0FFFFFF7, 0x00000000, 0x00000000, 0, 0, .saddle⟩,
  ⟨0x30000014, 1, 4, 0x00000000, 0, 0x00000000, 0x00000000, 0x00000000, 0, 0, .saddle⟩]

/-- The register entries of PWR. -/
def regsPWR : List RegDef := [
  ⟨0x20002000, 1, 4, 0x00000008, 0, 0x00000000, 0x00000000, 0x0000007F, 0x2000200C, 8, .sys⟩,
  ⟨0x20002004, 1, 4, 0x0000000F, 0, 0x0000000F, 0x00000000, 0x00000000, 0, 0, .sys⟩,
  ⟨0x20002008, 1, 4, 0x00001555, 0, 0x00000000, 0x00000000, 0x00000000, 0, 0, .sys⟩,
  ⟨0x2000200C, 1, 4, 0x00000000, 0, 0x00000000, 0x00000000, 0x0000010F, 0x2000200C, 8, .sys⟩,
  ⟨0x20002010, 1, 4, 0x00000000, 0, 0x00000000, 0x00000001, 0x00000000, 0, 0, .sys⟩]

/-- The register entries of RST. -/
def regsRST : List RegDef := [
  ⟨0x20001000, 1, 4, 0x00000000, 0, 0x00000000, 0x00000000, 0x00000000, 0, 0, .sys⟩,
  ⟨0x20001004, 1, 4, 0x00000000, 0, 0x00000000, 0x000001F0, 0x00000000, 0, 0, .sys⟩]

/-- The register entries of LCS. -/
def regsLCS : List RegDef := [
  ⟨0x30003000, 1, 4, 0x00000000, 0, 0x00000000, 0x00000000, 0x00000000, 0, 0, .saddle⟩,
  ⟨0x30003004, 1, 4, 0x00000000, 0, 0x00000000, 0x00000000, 0x00000000, 0, 0, .saddle⟩,
  ⟨0x30003008, 1, 4, 0x00000000, 0, 0x00000000, 0x00000070, 0x00000000, 0, 0, .saddle⟩,
  ⟨0x30003010, 4, 4, 0x00000000, 0, 0x00000000, 0x00000000, 0x00000000, 0, 0, .saddle⟩,
  ⟨0x30003020, 8, 4, 0x00000000, 0, 0x00000000, 0x00000000, 0x00000000, 0, 0, .saddle⟩,
  ⟨0x30003040, 2, 4, 0x00000000, 0, 0x00000000, 0x00000000, 0x00000000, 0, 0, .saddle⟩,
  ⟨0x30003080, 16, 4, 0x00000000, 0, 0x00000000, 0x00000000, 0x00000000, 0, 0, .saddle⟩,
  ⟨0x300030C0, 1, 4, 0x00000000, 0, 0x00000000, 0x00000000, 0x00000000, 0, 0, .saddle⟩,
  ⟨0x300030C4, 1, 4, 0x00000000, 0, 0x00000000, 0x00000200, 0x00000000, 0, 0, .saddle⟩,
  ⟨0x30003100, 8, 4, 0x00000000, 0, 0x00000000, 0x00000000, 0x00000000, 0, 0, .saddle⟩,
  ⟨0x30003120, 1, 4, 0x00000000, 0, 0x00000000, 0x00000000, 0x00000000, 0, 0, .saddle⟩,
  ⟨0x30003124, 1, 4, 0x00000000, 0, 0x00000000, 0x00000000, 0x00000000, 0, 0, .saddle⟩]

/-- The register entries of EIC. -/
def regsEIC : List RegDef := [
  ⟨0xE0000000, 4, 4, 0x00000000, 0, 0xFFFFFFFF, 0x00000000, 0x00000000, 0, 0, .core⟩,
  ⟨0xE0000010, 4, 4, 0x00000000, 0, 0x00000000, 0x00000000, 0x00000000, 0, 0, .core⟩,
  ⟨0xE0000020, 1, 4, 0x00000000, 0, 0x00000000, 0x00000000, 0x00000000, 0, 0, .core⟩,
  ⟨0xE0000024, 1, 4, 0x00000000, 0, 0x00000000, 0x00000000, 0x00000000, 0, 0, .core⟩,
  ⟨0xE0000028, 1, 4, 0x00000000, 0, 0x00000000, 0x00000000, 0x00000000, 0, 0, .core⟩,
  ⟨0xE0000100, 32, 4, 0x07070707, 0, 0x07070707, 0x00000000, 0x00000000, 0, 0, .core⟩]

/-- The register entries of STM. -/
def regsSTM : List RegDef := [
  ⟨0xE0001000, 1, 4, 0x00000000, 0, 0x00000003, 0x00000000, 0x00000000, 0, 0, .core⟩,
  ⟨0xE0001004, 1, 4, 0x00000000, 0, 0x00000000, 0x00000001, 0x00000000, 0, 0, .core⟩,
  ⟨0xE0001008, 1, 4, 0x00000000, 0, 0x00000000, 0x00000000, 0x00000000, 0, 0, .core⟩,
  ⟨0xE000100C, 1, 4, 0x00000000, 0, 0x00000000, 0x00000000, 0x00000000, 0, 0, .core⟩,
  ⟨0xE0001010, 1, 4, 0x00000000, 0, 0x00000000, 0x00000000, 0x00000000, 0, 0, .core⟩,
  ⟨0xE0001014, 1, 4, 0x00000000, 0, 0xFFFFFFFF, 0x00000000, 0x00000000, 0, 0, .core⟩,
  ⟨0xE0001018, 1, 4, 0x00000000, 0, 0xFFFFFFFF, 0x00000000, 0x00000000, 0, 0, .core⟩]

/-- The register entries of ICT. -/
def regsICT : List RegDef := [
  ⟨0x20005000, 1, 4, 0x00000124, 0, 0x00000000, 0x00000000, 0x80000FFF, 0x20005000, 31, .sys⟩,
  ⟨0x20005004, 1, 4, 0x0035E525, 0, 0x00000000, 0x00000000, 0x003FFF3F, 0x20005000, 31, .sys⟩,
  ⟨0x20005010, 1, 4, 0x00000000, 0, 0x00010000, 0x00000100, 0x00000000, 0, 0, .sys⟩,
  ⟨0x20005014, 1, 4, 0x00000000, 0, 0x00000000, 0x00000000, 0x00000000, 0, 0, .sys⟩,
  ⟨0x20005018, 1, 4, 0x00000000, 0, 0x00000000, 0x00000000, 0x00000000, 0, 0, .sys⟩,
  ⟨0x2000501C, 1, 4, 0x00000000, 0, 0x00000000, 0x00000000, 0x00000000, 0, 0, .sys⟩]

/-- The register entries of NVC. -/
def regsNVC : List RegDef := [
  ⟨0x2001A000, 1, 4, 0x00000000, 0, 0x00020000, 0x00010000, 0x00000000, 0, 0, .sys⟩,
  ⟨0x2001A004, 1, 4, 0x00000000, 0, 0x00000000, 0x00000000, 0x00000000, 0, 0, .sys⟩]

/-- The register entries of DMA. -/
def regsDMA : List RegDef := [
  ⟨0x2000A000, 1, 4, 0x00000000, 0, 0x00000000, 0x00000001, 0x00000000, 0, 0, .sys⟩,
  ⟨0x2000A004, 1, 4, 0x00000000, 0, 0x00000000, 0x000000FF, 0x00000000, 0, 0, .sys⟩,
  ⟨0x2000A008, 1, 4, 0x00000000, 0, 0x000000FF, 0x00000000, 0x00000000, 0, 0, .sys⟩,
  ⟨0x2000A100, 8, 32, 0x00000000, 0, 0x00000000, 0x00000000, 0x00000000, 0, 0, .sys⟩,
  ⟨0x2000A104, 8, 32, 0x00000000, 0, 0xFFFFFFE0, 0x00000000, 0x00000000, 0, 0, .sys⟩,
  ⟨0x2000A108, 8, 32, 0x00000000, 0, 0x00000000, 0x00000000, 0x00000000, 0, 0, .sys⟩,
  ⟨0x2000A10C, 8, 32, 0x00000000, 0, 0x00000000, 0x00000000, 0x00000000, 0, 0, .sys⟩,
  ⟨0x2000A110, 8, 32, 0x00000000, 0, 0x00000000, 0x00000000, 0x00000000, 0, 0, .sys⟩,
  ⟨0x2000A114, 8, 32, 0x00000000, 0, 0x00000000, 0x00000000, 0x00000000, 0, 0, .sys⟩,
  ⟨0x2000A118, 8, 32, 0x00000000, 0, 0x00000000, 0x00000000, 0x00000000, 0, 0, .sys⟩]

/-- The register entries of GPIO. -/
def regsGPIO : List RegDef := [
  ⟨0x20019000, 1, 4, 0x00000000, 0, 0x00000000, 0x00000000, 0x0000FFFF, 0x20019028, 0, .sys⟩,
  ⟨0x20019004, 1, 4, 0x00000000, 0, 0x0000FFFF, 0x00000000, 0x00000000, 0, 0, .sys⟩,
  ⟨0x20019008, 1, 4, 0x00000000, 0, 0x00000000, 0x00000000, 0x00000000, 0, 0, .sys⟩,
  ⟨0x2001900C, 1, 4, 0x00000000, 0, 0x00000000, 0x00000000, 0xFFFFFFFF, 0x20019028, 0, .sys⟩,
  ⟨0x20019010, 1, 4, 0x00000000, 0, 0x00000000, 0x00000000, 0x0000FFFF, 0x20019028, 0, .sys⟩,
  ⟨0x20019014, 1, 4, 0x00000000, 0, 0xFFFFFFFF, 0x00000000, 0x00000000, 0, 0, .sys⟩,
  ⟨0x20019018, 1, 4, 0x00000000, 0, 0xFFFFFFFF, 0x00000000, 0x00000000, 0, 0, .sys⟩,
  ⟨0x2001901C, 1, 4, 0x00000000, 0, 0x00000000, 0x0000FFFF, 0x00000000, 0, 0, .sys⟩,
  ⟨0x20019020, 1, 4, 0x00000000, 0, 0x0000FFFF, 0x00000000, 0x00000000, 0, 0, .sys⟩,
  ⟨0x20019024, 1, 4, 0x00000000, 0, 0x0F00FFFF, 0x00000000, 0x00000000, 0, 0, .sys⟩,
  ⟨0x20019028, 1, 4, 0x00000000, 0, 0x00000000, 0x00000000, 0x00000001, 0x20019028, 0, .sys⟩]

/-- The register entries of GTC. -/
def regsGTC : List RegDef := [
  ⟨0x20004000, 128, 16, 0x00000000, 0, 0x00000000, 0x00000000, 0x00000000, 0, 0, .sys⟩,
  ⟨0x20004004, 128, 16, 0x00000000, 0, 0x00000000, 0x00000000, 0x00000000, 0, 0, .sys⟩,
  ⟨0x20004008, 128, 16, 0x00000000, 0, 0x00000000, 0x00000000, 0x00000000, 0, 0, .sys⟩,
  ⟨0x2000400C, 128, 16, 0x00000000, 0, 0x00000000, 0x00000000, 0x00000000, 0, 0, .sys⟩,
  ⟨0x20004800, 8, 16, 0x00000000, 0, 0x00000100, 0x00000003, 0x00000000, 0, 0, .sys⟩,
  ⟨0x20004804, 8, 16, 0x00000000, 0, 0x00000000, 0x00000000, 0x00000000, 0, 0, .sys⟩,
  ⟨0x20004808, 8, 16, 0x00000000, 0, 0x00000000, 0x00000000, 0x00000000, 0, 0, .sys⟩,
  ⟨0x20004A00, 1, 4, 0x00000000, 0, 0x00000000, 0x00000000, 0x00000001, 0x20004A00, 0, .sys⟩,
  ⟨0x20004A04, 1, 4, 0x00000000, 0, 0x00000002, 0x00000000, 0x00000000, 0, 0, .sys⟩,
  ⟨0x20004A08, 1, 4, 0x00000000, 0, 0x00000000, 0x00000004, 0x00000000, 0, 0, .sys⟩,
  ⟨0x20004A0C, 1, 4, 0x00000000, 0, 0x00000000, 0x00000000, 0x00000000, 0, 0, .sys⟩,
  ⟨0x20004A10, 1, 4, 0x00000000, 0, 0x00000000, 0x00000000, 0x00000000, 0, 0, .sys⟩]

/-- The register entries of STC. -/
def regsSTC : List RegDef := [
  ⟨0x20007000, 1, 4, 0x00000000, 0, 0x00000000, 0x00000000, 0x00000000, 0, 0, .sec⟩,
  ⟨0x20007004, 1, 4, 0x00000001, 0, 0xFFFF1377, 0x00000000, 0x00000000, 0, 0, .sec⟩,
  ⟨0x20007008, 1, 4, 0x00000502, 0, 0x00000777, 0x00000000, 0x00000000, 0, 0, .sec⟩,
  ⟨0x2000700C, 1, 4, 0x00000000, 0, 0x0000000F, 0x00000000, 0x00000000, 0, 0, .sec⟩,
  ⟨0x20007010, 1, 4, 0x00000000, 0, 0xFFFFFFFF, 0x00000000, 0x00000000, 0, 0, .sec⟩,
  ⟨0x20007014, 1, 4, 0x00000000, 0, 0x00000000, 0x0000011E, 0x00000000, 0, 0, .sec⟩,
  ⟨0x20007018, 1, 4, 0x00000000, 0, 0x000001FE, 0x00000000, 0x00000000, 0, 0, .sec⟩,
  ⟨0x2000701C, 1, 4, 0x00000000, 0, 0x00000000, 0x00000000, 0x00000000, 0, 0, .sec⟩,
  ⟨0x20007020, 1, 4, 0x00000000, 0, 0x00000000, 0x00000000, 0x00000000, 0, 0, .sec⟩,
  ⟨0x20007024, 1, 4, 0x00000000, 0, 0x00000000, 0x00000000, 0x00000000, 0, 0, .sec⟩,
  ⟨0x20007028, 1, 4, 0x00000000, 0, 0x00000001, 0x00000000, 0x00000000, 0, 0, .sec⟩,
  ⟨0x2000702C, 1, 4, 0x00000000, 0, 0x00000000, 0x00000000, 0x00000000, 0, 0, .sec⟩,
  ⟨0x20007040, 16, 4, 0x00000000, 0, 0xFFFFFFFF, 0x00000000, 0x00000000, 0, 0, .sec⟩,
  ⟨0x20007080, 8, 4, 0x00000000, 0, 0x00000000, 0x00000000, 0x00000000, 0, 0, .sec⟩,
  ⟨0x200070A0, 1, 4, 0x00000000, 0, 0x000003FF, 0x00000000, 0x00000000, 0, 0, .store⟩,
  ⟨0x200070C0, 4, 4, 0x03020100, 0x04040404, 0x00000000, 0x00000000, 0x00000000, 0, 0, .store⟩,
  ⟨0x200070D0, 1, 4, 0x00000010, 0, 0x00000000, 0x00000000, 0x00000000, 0, 0, .store⟩,
  ⟨0x200070D4, 1, 4, 0x00000000, 0, 0x00000000, 0x00000000, 0x00000000, 0, 0, .store⟩,
  ⟨0x200070E0, 1, 4, 0x00000000, 0, 0x0000001F, 0x00000000, 0x00000000, 0, 0, .store⟩,
  ⟨0x200070E4, 2, 4, 0x00000000, 0, 0x00000000, 0x00000000, 0x00000000, 0, 0, .store⟩,
  ⟨0x20007100, 1, 4, 0x00000000, 0, 0x00000000, 0x00000000, 0x00000000, 0, 0, .store⟩,
  ⟨0x20007104, 1, 4, 0x00000000, 0, 0x00000000, 0x00000000, 0x00000000, 0, 0, .store⟩,
  ⟨0x20007108, 1, 4, 0x00000000, 0, 0x00000000, 0x80000000, 0x00000000, 0, 0, .store⟩,
  ⟨0x2000710C, 1, 4, 0x00000000, 0, 0x00000003, 0x00030000, 0x00000000, 0, 0, .store⟩]

/-- The register entries of POOL. -/
def regsPOOL : List RegDef := [
  ⟨0x20006000, 1, 4, 0x00000000, 0, 0x00000001, 0x0000000C, 0x00000100, 0x20006000, 8, .store⟩,
  ⟨0x20006004, 1, 4, 0x00000000, 0, 0x000000FF, 0x00000000, 0x00000000, 0, 0, .store⟩,
  ⟨0x20006008, 1, 4, 0x00000000, 0, 0x0FFF1FFF, 0x00000000, 0x00000000, 0, 0, .store⟩,
  ⟨0x2000600C, 1, 4, 0x00000000, 0, 0x00FF07FF, 0x00000000, 0x00000000, 0, 0, .store⟩,
  ⟨0x20006010, 4, 4, 0x00000000, 0, 0x00000000, 0x00000000, 0x00000000, 0, 0, .store⟩,
  ⟨0x20006020, 1, 4, 0x00000000, 0, 0x00000000, 0x00000000, 0x00000000, 0, 0, .store⟩,
  ⟨0x20006024, 1, 4, 0x00000000, 0, 0x00000000, 0x00000000, 0x00000000, 0, 0, .store⟩,
  ⟨0x20006028, 1, 4, 0x00000000, 0, 0x00000000, 0x00000000, 0x00000000, 0, 0, .store⟩,
  ⟨0x2000602C, 1, 4, 0x00000000, 0, 0x00000000, 0x00000000, 0x00000000, 0, 0, .store⟩,
  ⟨0x20006030, 1, 4, 0x00000000, 0, 0x00000000, 0x00000000, 0x00000000, 0, 0, .store⟩,
  ⟨0x20006034, 1, 4, 0x00000000, 0, 0x00000000, 0x00010FFF, 0x00000000, 0, 0, .store⟩,
  ⟨0x20006038, 1, 4, 0x00000000, 0, 0x00010FFF, 0x00000000, 0x00000000, 0, 0, .store⟩,
  ⟨0x2000603C, 1, 4, 0x00000000, 0, 0x00000000, 0x00000001, 0x00000000, 0, 0, .store⟩,
  ⟨0x20006040, 1, 4, 0x00000000, 0, 0x00000000, 0x00000000, 0x00000000, 0, 0, .store⟩,
  ⟨0x20006044, 1, 4, 0x00000000, 0, 0x00000000, 0x00000000, 0x00000000, 0, 0, .store⟩,
  ⟨0x20006048, 1, 4, 0x00000000, 0, 0x00001FFF, 0x00000000, 0x00000000, 0, 0, .store⟩,
  ⟨0x2000604C, 1, 4, 0x00000000, 0, 0x00000000, 0x00000000, 0x00000000, 0, 0, .store⟩,
  ⟨0x20006050, 4, 4, 0x00000000, 0, 0x00000000, 0x00000000, 0x00000000, 0, 0, .store⟩,
  ⟨0x20006060, 4, 4, 0x00000000, 0, 0x00000000, 0x00000000, 0x1FFF1FFF, 0x20006000, 8, .store⟩,
  ⟨0x20006070, 4, 4, 0x00000000, 0, 0x00000000, 0x00000000, 0x1FFF1FFF, 0x20006000, 8, .store⟩,
  ⟨0x20006080, 4, 4, 0x00000000, 0, 0x00000000, 0x00000000, 0x00001FFF, 0x20006000, 8, .store⟩,
  ⟨0x20006090, 1, 4, 0x04040404, 0, 0x00000000, 0x00000000, 0xFFFFFFFF, 0x20006000, 8, .store⟩,
  ⟨0x20006094, 1, 4, 0x00000000, 0, 0x00000000, 0x00000000, 0x00000000, 0, 0, .store⟩,
  ⟨0x200060A0, 4, 4, 0x00000000, 0, 0x00000000, 0x00000000, 0x00000000, 0, 0, .store⟩,
  ⟨0x200060B0, 4, 4, 0x00000000, 0, 0x00000000, 0x00000000, 0x00000000, 0, 0, .store⟩,
  ⟨0x200060C0, 16, 4, 0x00000000, 0, 0x00000000, 0x00000000, 0x00000000, 0, 0, .store⟩]

/-- The register entries of TEN. -/
def regsTEN : List RegDef := [
  ⟨0x20008000, 1, 4, 0x00000000, 0, 0x00000011, 0x00000000, 0x00000000, 0, 0, .sys⟩,
  ⟨0x20008004, 1, 4, 0x00000000, 0, 0x00000000, 0x00000000, 0x00000000, 0, 0, .sys⟩,
  ⟨0x20008008, 1, 4, 0x00000000, 0, 0x00000000, 0x0000000E, 0x00000000, 0, 0, .sys⟩,
  ⟨0x2000800C, 1, 4, 0x00000000, 0, 0x00000000, 0x00000000, 0x00000000, 0, 0, .sys⟩]

/-- The register entries of VIR. -/
def regsVIR : List RegDef := [
  ⟨0x20009000, 1, 4, 0x00000000, 0, 0x00000001, 0x00000002, 0x00000000, 0, 0, .sys⟩,
  ⟨0x20009004, 1, 4, 0x00000000, 0, 0x00000000, 0x00000000, 0x00000000, 0, 0, .sys⟩,
  ⟨0x20009008, 1, 4, 0x00000000, 0, 0x00000000, 0x00000000, 0x00000000, 0, 0, .sys⟩,
  ⟨0x20009080, 32, 4, 0x00000000, 0, 0x00000000, 0xFFFFFFFF, 0x00000000, 0, 0, .sys⟩,
  ⟨0x20009100, 128, 4, 0x00000000, 0, 0x83FF000F, 0x00000000, 0x00000000, 0, 0, .sys⟩]

/-- The register entries of MSR. -/
def regsMSR : List RegDef := [
  ⟨0x20010000, 1, 4, 0x0000A400, 0, 0x0000FF31, 0x00000000, 0x00010000, 0x20010000, 16, .meas⟩,
  ⟨0x20010004, 1, 4, 0x00000000, 0, 0x00000000, 0x00000006, 0x00000000, 0, 0, .meas⟩,
  ⟨0x20010008, 1, 4, 0x00000000, 0, 0x00000000, 0x000003FF, 0x00000000, 0, 0, .meas⟩,
  ⟨0x2001000C, 1, 4, 0x00000000, 0, 0x000003FF, 0x00000000, 0x00000000, 0, 0, .meas⟩,
  ⟨0x20010010, 1, 4, 0x00000000, 0, 0x00000303, 0x00000000, 0x00000000, 0, 0, .meas⟩,
  ⟨0x20010014, 1, 4, 0x00000000, 0, 0xFFFFFFE0, 0x00000000, 0x00000000, 0, 0, .meas⟩,
  ⟨0x20010018, 1, 4, 0x00000000, 0, 0x07FF07FF, 0x00000000, 0x00000000, 0, 0, .meas⟩,
  ⟨0x2001001C, 1, 4, 0x00000000, 0, 0x00000000, 0x00000000, 0x00000000, 0, 0, .meas⟩,
  ⟨0x20010020, 1, 4, 0x00000000, 0, 0x00000000, 0x00000000, 0x00000000, 0, 0, .meas⟩,
  ⟨0x20010024, 1, 4, 0x00000000, 0, 0x00000000, 0x00000000, 0x00000000, 0, 0, .meas⟩,
  ⟨0x20010028, 1, 4, 0x00000000, 0, 0x00000000, 0x00000003, 0x00000000, 0, 0, .meas⟩,
  ⟨0x20010030, 1, 4, 0x00000000, 0, 0x00003FF8, 0x00000000, 0x00000000, 0, 0, .meas⟩,
  ⟨0x20010034, 1, 4, 0x00000000, 0, 0x007F007F, 0x00000000, 0x00000000, 0, 0, .meas⟩,
  ⟨0x20010038, 1, 4, 0x00000000, 0, 0x00000000, 0x00000000, 0x00000000, 0, 0, .meas⟩,
  ⟨0x2001003C, 1, 4, 0x00000000, 0, 0x00000000, 0x00000000, 0x00000000, 0, 0, .meas⟩,
  ⟨0x20010040, 1, 4, 0x00000000, 0, 0x00000000, 0x00000000, 0x00000000, 0, 0, .meas⟩,
  ⟨0x20010050, 1, 4, 0x01000000, 0, 0xFFFF0001, 0x00000000, 0x00000000, 0, 0, .meas⟩,
  ⟨0x20010054, 1, 4, 0x00000000, 0, 0x00000000, 0x00000000, 0x00000000, 0, 0, .meas⟩,
  ⟨0x20010058, 1, 4, 0x00000000, 0, 0x00000000, 0x00000000, 0x00000000, 0, 0, .meas⟩,
  ⟨0x20010060, 2, 4, 0x00000000, 0, 0x00000000, 0xFFFFFFFF, 0x00000000, 0, 0, .meas⟩,
  ⟨0x20010068, 2, 4, 0x00000000, 0, 0x00000000, 0xFFFFFFFF, 0x00000000, 0, 0, .meas⟩,
  ⟨0x20010070, 2, 4, 0x00000000, 0, 0x00000000, 0xFFFFFFFF, 0x00000000, 0, 0, .meas⟩,
  ⟨0x20010080, 1, 4, 0x00000000, 0, 0x0000310F, 0x00000000, 0x00000000, 0, 0, .meas⟩,
  ⟨0x20010084, 1, 4, 0x00000000, 0, 0x00003FF8, 0x00000000, 0x00000000, 0, 0, .meas⟩,
  ⟨0x20010088, 1, 4, 0x00000000, 0, 0x000007FF, 0x00000000, 0x00000000, 0, 0, .meas⟩,
  ⟨0x2001008C, 1, 4, 0x00000000, 0, 0x00000000, 0x00000000, 0x00000000, 0, 0, .meas⟩,
  ⟨0x20010090, 1, 4, 0x00000000, 0, 0x00000000, 0x00000000, 0x00000000, 0, 0, .meas⟩,
  ⟨0x20010094, 1, 4, 0x00000000, 0, 0x00000000, 0x00000000, 0x00000000, 0, 0, .meas⟩,
  ⟨0x20010098, 2, 4, 0x7FFF8000, 0, 0xFFFFFFFF, 0x00000000, 0x00000000, 0, 0, .meas⟩,
  ⟨0x200100A0, 1, 4, 0x00000000, 0, 0x00000000, 0x00000003, 0x00000000, 0, 0, .meas⟩,
  ⟨0x20010100, 48, 16, 0x00000000, 0, 0x00000F7F, 0x00000000, 0x00000000, 0, 0, .meas⟩,
  ⟨0x20010104, 48, 16, 0x001FFFFF, 0, 0x003FFFFF, 0x00000000, 0x00000000, 0, 0, .meas⟩,
  ⟨0x20010108, 48, 16, 0x00200000, 0, 0x003FFFFF, 0x00000000, 0x00000000, 0, 0, .meas⟩,
  ⟨0x2001010C, 48, 16, 0x07FF0800, 0, 0x0FFF0FFF, 0x00000000, 0x00000000, 0, 0, .meas⟩,
  ⟨0x20010400, 48, 4, 0x00000000, 0, 0x00000000, 0x00000000, 0x00000000, 0, 0, .meas⟩,
  ⟨0x200104C0, 1, 4, 0x00000000, 0, 0x00000000, 0x00000000, 0x00000000, 0, 0, .meas⟩]

/-- The register entries of SAF. -/
def regsSAF : List RegDef := [
  ⟨0x20014000, 1, 4, 0x00010300, 0, 0x00000000, 0x00000000, 0x80010F30, 0x20014000, 31, .meas⟩,
  ⟨0x20014004, 1, 4, 0x00000000, 0, 0x00000000, 0x00000020, 0x00000000, 0, 0, .meas⟩,
  ⟨0x20014008, 1, 4, 0x00000000, 0, 0x0000FFFF, 0x00000000, 0x00000000, 0, 0, .meas⟩,
  ⟨0x2001400C, 1, 4, 0x00000000, 0, 0x00000000, 0x00000000, 0x00000000, 0, 0, .meas⟩,
  ⟨0x20014010, 1, 4, 0x00000000, 0, 0x00000000, 0x0000FFFF, 0x00000000, 0, 0, .meas⟩,
  ⟨0x20014014, 1, 4, 0x000000A9, 0, 0x00000000, 0x00000000, 0x000000FF, 0x20014000, 31, .meas⟩,
  ⟨0x20014018, 1, 4, 0x00000000, 0, 0x00000000, 0x00000000, 0x00000000, 0, 0, .meas⟩,
  ⟨0x2001401C, 1, 4, 0x00000000, 0, 0x00000000, 0x00000000, 0xFFFFFFFF, 0x20014000, 31, .meas⟩,
  ⟨0x20014020, 1, 4, 0x00010640, 0, 0x00000000, 0x00000000, 0x0001FFFF, 0x20014000, 31, .meas⟩,
  ⟨0x20014024, 1, 4, 0x00000000, 0, 0x00000000, 0x00000000, 0x00000000, 0, 0, .meas⟩,
  ⟨0x20014028, 1, 4, 0x00000000, 0, 0x00000000, 0x00000000, 0x00000000, 0, 0, .meas⟩,
  ⟨0x2001402C, 1, 4, 0x00000000, 0, 0x00000000, 0x0000000F, 0x00000000, 0, 0, .meas⟩,
  ⟨0x20014030, 1, 4, 0x00000000, 0, 0x0000000F, 0x00000000, 0x00000000, 0, 0, .meas⟩,
  ⟨0x20014040, 16, 4, 0x00000000, 0, 0x00000000, 0x00000000, 0x00000000, 0, 0, .meas⟩,
  ⟨0x20014080, 1, 4, 0x00000000, 0, 0x00000000, 0x00000000, 0x00000000, 0, 0, .saddle⟩,
  ⟨0x20014084, 1, 4, 0x00000000, 0, 0x00000000, 0x00000000, 0x00000000, 0, 0, .saddle⟩,
  ⟨0x20014088, 1, 4, 0x00000000, 0, 0x00000000, 0x00000000, 0x00000000, 0, 0, .saddle⟩,
  ⟨0x2001408C, 1, 4, 0x00000000, 0, 0x00000000, 0x80000000, 0x00000000, 0, 0, .saddle⟩,
  ⟨0x20014090, 1, 4, 0x00000000, 0, 0x00000000, 0x00000000, 0x00000000, 0, 0, .saddle⟩,
  ⟨0x20014094, 1, 4, 0x00000000, 0, 0x00000000, 0x00000000, 0x00000000, 0, 0, .meas⟩]

/-- The register entries of TCH. -/
def regsTCH : List RegDef := [
  ⟨0x20015000, 1, 4, 0x00040000, 0, 0x003F0003, 0x00000000, 0x00000000, 0, 0, .hmi⟩,
  ⟨0x20015004, 1, 4, 0x00000000, 0, 0x00000000, 0x00000031, 0x00000000, 0, 0, .hmi⟩,
  ⟨0x20015008, 1, 4, 0x00041001, 0, 0x000F3F07, 0x00000000, 0x00000000, 0, 0, .hmi⟩,
  ⟨0x2001500C, 1, 4, 0x00200100, 0, 0x00FFFFFF, 0x00000000, 0x00000000, 0, 0, .hmi⟩,
  ⟨0x20015010, 1, 4, 0x00000040, 0, 0x0000FFFF, 0x00000000, 0x00000000, 0, 0, .hmi⟩,
  ⟨0x20015014, 1, 4, 0x00000000, 0, 0x00007F01, 0x00000000, 0x00000000, 0, 0, .hmi⟩,
  ⟨0x20015018, 1, 4, 0x00000000, 0, 0xFFFFFFE0, 0x00000000, 0x00000000, 0, 0, .hmi⟩,
  ⟨0x2001501C, 1, 4, 0x00000000, 0, 0x00000000, 0x00000000, 0x00000000, 0, 0, .hmi⟩,
  ⟨0x20015020, 1, 4, 0x00000000, 0, 0x00000000, 0x0000007F, 0x00000000, 0, 0, .hmi⟩,
  ⟨0x20015024, 1, 4, 0x00000000, 0, 0x0000007F, 0x00000000, 0x00000000, 0, 0, .hmi⟩,
  ⟨0x20015030, 1, 4, 0x00000000, 0, 0x00000000, 0x00000000, 0x00000000, 0, 0, .hmi⟩,
  ⟨0x20015034, 1, 4, 0x00000000, 0, 0x00000000, 0xFFFFFFFF, 0x00000000, 0, 0, .hmi⟩,
  ⟨0x20015038, 2, 4, 0x00000000, 0, 0x00000000, 0x00000000, 0x00000000, 0, 0, .hmi⟩,
  ⟨0x20015040, 2, 4, 0x00000000, 0, 0x00000000, 0x00000000, 0x00000000, 0, 0, .hmi⟩,
  ⟨0x20015048, 2, 4, 0x00000000, 0, 0x00000000, 0x00000000, 0x00000000, 0, 0, .hmi⟩,
  ⟨0x20015050, 4, 4, 0x00000000, 0, 0x00000000, 0x00000000, 0x00000000, 0, 0, .hmi⟩,
  ⟨0x20015100, 32, 8, 0x00000000, 0, 0x8000FF3F, 0x00000000, 0x00000000, 0, 0, .hmi⟩,
  ⟨0x20015104, 32, 8, 0x00000000, 0, 0xFFFFFFFF, 0x00000000, 0x00000000, 0, 0, .hmi⟩,
  ⟨0x20015200, 64, 4, 0x00000000, 0, 0x00000000, 0x00000000, 0x00000000, 0, 0, .hmi⟩]

/-- The register entries of PNL. -/
def regsPNL : List RegDef := [
  ⟨0x20016000, 1, 4, 0x00000000, 0, 0x00000101, 0x00000000, 0x00000000, 0, 0, .hmi⟩,
  ⟨0x20016004, 1, 4, 0x00000000, 0, 0x00000000, 0x00000038, 0x00000000, 0, 0, .hmi⟩,
  ⟨0x20016008, 1, 4, 0x00000064, 0, 0x000000FF, 0x00000000, 0x00000000, 0, 0, .hmi⟩,
  ⟨0x2001600C, 1, 4, 0x00000000, 0, 0x00000000, 0x00000003, 0x00000000, 0, 0, .hmi⟩,
  ⟨0x20016010, 1, 4, 0x00003C00, 0, 0x0000FFFF, 0x00000000, 0x00000000, 0, 0, .hmi⟩,
  ⟨0x20016014, 1, 4, 0x00000000, 0, 0x0000FFFF, 0x00000000, 0x00000000, 0, 0, .hmi⟩,
  ⟨0x20016018, 1, 4, 0x00000000, 0, 0xFFFFFFE0, 0x00000000, 0x00000000, 0, 0, .hmi⟩,
  ⟨0x2001601C, 1, 4, 0x00000000, 0, 0x00000000, 0x000001FF, 0x00000000, 0, 0, .hmi⟩,
  ⟨0x20016020, 1, 4, 0x00000000, 0, 0x000001FF, 0x00000000, 0x00000000, 0, 0, .hmi⟩,
  ⟨0x20016024, 1, 4, 0x00000000, 0, 0x00000100, 0x00000000, 0x00000000, 0, 0, .hmi⟩,
  ⟨0x20016028, 1, 4, 0x00000000, 0, 0x00000000, 0x00000000, 0x00000000, 0, 0, .hmi⟩,
  ⟨0x20016100, 32, 4, 0x00001000, 0, 0x0000FFFF, 0x00000000, 0x00000000, 0, 0, .hmi⟩]

/-- The register entries of DGS. -/
def regsDGS : List RegDef := [
  ⟨0x20017000, 1, 4, 0x00000000, 0, 0x0000000F, 0x00000000, 0x00000000, 0, 0, .sec⟩,
  ⟨0x20017004, 1, 4, 0x00000000, 0, 0x00000000, 0x00000000, 0x00000000, 0, 0, .sec⟩,
  ⟨0x20017008, 1, 4, 0x00000000, 0, 0x00001F73, 0x00000000, 0x00000000, 0, 0, .sec⟩,
  ⟨0x2001700C, 1, 4, 0x00000000, 0, 0xFFFFFFFF, 0x00000000, 0x00000000, 0, 0, .sec⟩,
  ⟨0x20017010, 1, 4, 0x00000000, 0, 0xFFFFFFFF, 0x00000000, 0x00000000, 0, 0, .sec⟩,
  ⟨0x20017014, 1, 4, 0x00000000, 0, 0x00000000, 0x00000000, 0x00000000, 0, 0, .sec⟩,
  ⟨0x20017018, 1, 4, 0x00000000, 0, 0x00000000, 0x00000000, 0x00000000, 0, 0, .sec⟩,
  ⟨0x2001701C, 1, 4, 0x00000000, 0, 0x00000000, 0x00000000, 0x00000000, 0, 0, .sec⟩,
  ⟨0x20017020, 1, 4, 0x00000000, 0, 0x00000000, 0x0007FFFF, 0x00000000, 0, 0, .sec⟩,
  ⟨0x20017024, 1, 4, 0x00000000, 0, 0x0007FFFF, 0x00000000, 0x00000000, 0, 0, .sec⟩,
  ⟨0x20017028, 1, 4, 0x00000000, 0, 0x00000000, 0x00003000, 0x00000000, 0, 0, .sec⟩,
  ⟨0x2001702C, 1, 4, 0x00000000, 0, 0x00000000, 0x00000000, 0x000100FF, 0x2001702C, 16, .sec⟩,
  ⟨0x20017030, 1, 4, 0x00000000, 0, 0x00000F00, 0x00000000, 0x00000000, 0, 0, .sec⟩,
  ⟨0x20017034, 1, 4, 0x00000000, 0, 0xFFFFFFF8, 0x00000000, 0x00000000, 0, 0, .sec⟩,
  ⟨0x20017038, 1, 4, 0x00000000, 0, 0x000007FF, 0x00000000, 0x00000000, 0, 0, .sec⟩,
  ⟨0x2001703C, 1, 4, 0x00000000, 0, 0x00000000, 0x00010000, 0x00000000, 0, 0, .sec⟩,
  ⟨0x20017040, 16, 4, 0x00000000, 0, 0x00000000, 0x00000000, 0x00000000, 0, 0, .sec⟩,
  ⟨0x20017080, 16, 4, 0x00000000, 0, 0xFFFFFFFF, 0x00000000, 0x00000000, 0, 0, .sec⟩]

/-- The register entries of LNK. -/
def regsLNK : List RegDef := [
  ⟨0x20018000, 1, 4, 0x00000002, 0, 0x00000013, 0x00000000, 0x00000000, 0, 0, .link⟩,
  ⟨0x20018004, 1, 4, 0x00000000, 0, 0x00031F73, 0x00000000, 0x00000000, 0, 0, .link⟩,
  ⟨0x20018008, 1, 4, 0x00000000, 0, 0x00000000, 0x00000062, 0x00000000, 0, 0, .link⟩,
  ⟨0x2001800C, 1, 4, 0x00000000, 0, 0x00000000, 0x000000FC, 0x00000000, 0, 0, .link⟩,
  ⟨0x20018010, 1, 4, 0x00000000, 0, 0x000000FD, 0x00000000, 0x00000000, 0, 0, .link⟩,
  ⟨0x20018014, 1, 4, 0x00000000, 0, 0x00000000, 0x00000000, 0x00000000, 0, 0, .link⟩,
  ⟨0x20018018, 1, 4, 0x00000000, 0, 0x00000001, 0x00000000, 0x00000000, 0, 0, .link⟩,
  ⟨0x2001801C, 1, 4, 0x00000000, 0, 0x00000000, 0x00000000, 0x00000000, 0, 0, .link⟩,
  ⟨0x20018020, 1, 4, 0x00100000, 0, 0x00000000, 0x00000003, 0x00000000, 0, 0, .link⟩,
  ⟨0x20018024, 1, 4, 0x00000000, 0, 0x00000000, 0x00000000, 0x00000000, 0, 0, .link⟩,
  ⟨0x20018028, 1, 4, 0x00000000, 0, 0x00000000, 0x00000000, 0x00000000, 0, 0, .link⟩]

/-- The register entries of LKE. -/
def regsLKE : List RegDef := [
  ⟨0x30004000, 1, 4, 0x0023B042, 0, 0xFE3FFFFF, 0x00000000, 0x00000000, 0, 0, .saddle⟩,
  ⟨0x30004004, 1, 4, 0x80400001, 0, 0x807F007F, 0x00000000, 0x00000000, 0, 0, .saddle⟩,
  ⟨0x30004008, 1, 4, 0x00020000, 0, 0x1F0F3FF8, 0x00000000, 0x00000000, 0, 0, .saddle⟩,
  ⟨0x3000400C, 1, 4, 0x00000000, 0, 0x00000000, 0x00000000, 0x00000000, 0, 0, .saddle⟩,
  ⟨0x30004010, 1, 4, 0x00000000, 0, 0x03FF3FF0, 0x00000000, 0x00000000, 0, 0, .saddle⟩,
  ⟨0x30004014, 1, 4, 0x00000000, 0, 0x80003FFE, 0x00000000, 0x00000000, 0, 0, .saddle⟩,
  ⟨0x30004018, 1, 4, 0x00000000, 0, 0x0000FFFF, 0x00000000, 0x00000000, 0, 0, .saddle⟩,
  ⟨0x3000401C, 1, 4, 0x00000000, 0, 0x00000000, 0x00000000, 0x00000000, 0, 0, .saddle⟩,
  ⟨0x30004020, 1, 4, 0x00000000, 0, 0x00000000, 0x00000000, 0x00000000, 0, 0, .saddle⟩,
  ⟨0x30004024, 1, 4, 0x00000000, 0, 0x00000000, 0x00000037, 0x00000000, 0, 0, .saddle⟩,
  ⟨0x30004028, 1, 4, 0x00000000, 0, 0x00000037, 0x00000000, 0x00000000, 0, 0, .saddle⟩,
  ⟨0x3000402C, 1, 4, 0x00000000, 0, 0x00000000, 0x00000000, 0x00000000, 0, 0, .saddle⟩,
  ⟨0x30004030, 1, 4, 0x00000000, 0, 0x00000000, 0x00000000, 0x00000000, 0, 0, .saddle⟩,
  ⟨0x30004100, 32, 8, 0x00000000, 0, 0x9FFFFFFF, 0x00000000, 0x00000000, 0, 0, .saddle⟩,
  ⟨0x30004104, 32, 8, 0x00000000, 0, 0x1FFFFFFF, 0x00000000, 0x00000000, 0, 0, .saddle⟩]

/-- The register entries of DBG. -/
def regsDBG : List RegDef := [
  ⟨0xE0002000, 1, 4, 0x00000000, 0, 0x0000000F, 0x00000000, 0x00000000, 0, 0, .core⟩,
  ⟨0xE0002004, 1, 4, 0x00000000, 0, 0x00000000, 0x00000000, 0x00000000, 0, 0, .core⟩,
  ⟨0xE0002008, 1, 4, 0x00000000, 0, 0x00000000, 0x00000000, 0x00000000, 0, 0, .core⟩,
  ⟨0xE000200C, 1, 4, 0x00000000, 0, 0x00001FFF, 0x00000000, 0x00000000, 0, 0, .core⟩,
  ⟨0xE0002010, 1, 4, 0x00000000, 0, 0x00000000, 0x00000000, 0x00000000, 0, 0, .core⟩,
  ⟨0xE0002014, 1, 4, 0x00000000, 0, 0x00000000, 0x00000000, 0x00000000, 0, 0, .core⟩,
  ⟨0xE0002018, 1, 4, 0x00000000, 0, 0x0000FFFF, 0x00000000, 0x00000000, 0, 0, .core⟩,
  ⟨0xE0002020, 8, 4, 0x00000000, 0, 0xFFFFFFFD, 0x00000000, 0x00000000, 0, 0, .core⟩,
  ⟨0xE0002040, 4, 8, 0x00000000, 0, 0xFFFFFFFF, 0x00000000, 0x00000000, 0, 0, .core⟩,
  ⟨0xE0002044, 4, 8, 0x00000000, 0, 0x00001F37, 0x00000000, 0x00000000, 0, 0, .core⟩]

/-- The register entries of AP2. -/
def regsAP2 : List RegDef := [
  ⟨0xA0002000, 1, 4, 0x00000000, 0, 0x00000006, 0x00000000, 0x00000000, 0, 0, .saddle⟩,
  ⟨0xA0002004, 1, 4, 0x00000000, 0, 0x00000000, 0x00000000, 0x00000000, 0, 0, .saddle⟩]

/-- The register entries of AP3. -/
def regsAP3 : List RegDef := [
  ⟨0xA0003000, 1, 4, 0x00000000, 0, 0x00000000, 0x00000002, 0x00000000, 0, 0, .saddle⟩,
  ⟨0xA0003004, 1, 4, 0x4C534810, 0, 0x00000000, 0x00000000, 0x00000000, 0, 0, .saddle⟩,
  ⟨0xA0003008, 1, 4, 0x0000B001, 0, 0x00000000, 0x00000000, 0x00000000, 0, 0, .saddle⟩,
  ⟨0xA000300C, 2, 4, 0x00000000, 0, 0x00000000, 0x00000000, 0x00000000, 0, 0, .saddle⟩,
  ⟨0xA0003014, 1, 4, 0x00000000, 0, 0x00000000, 0x00000000, 0x00000000, 0, 0, .saddle⟩,
  ⟨0xA0003020, 4, 4, 0x00000000, 0, 0x00000000, 0x00000000, 0x00000000, 0, 0, .saddle⟩,
  ⟨0xA0003040, 8, 4, 0x00000000, 0, 0x00000000, 0x00000000, 0x00000000, 0, 0, .saddle⟩]

/-- The register entries of one 4 KiB page of the address space. -/
def regsOfPage (p : Nat) : List RegDef :=
  if p = 0x30002 then regsTMB
  else if p = 0x20000 then regsCLK
  else if p = 0x30001 then regsHRV
  else if p = 0x30000 then regsSDL
  else if p = 0x20002 then regsPWR
  else if p = 0x20001 then regsRST
  else if p = 0x30003 then regsLCS
  else if p = 0xe0000 then regsEIC
  else if p = 0xe0001 then regsSTM
  else if p = 0x20005 then regsICT
  else if p = 0x2001a then regsNVC
  else if p = 0x2000a then regsDMA
  else if p = 0x20019 then regsGPIO
  else if p = 0x20004 then regsGTC
  else if p = 0x20007 then regsSTC
  else if p = 0x20006 then regsPOOL
  else if p = 0x20008 then regsTEN
  else if p = 0x20009 then regsVIR
  else if p = 0x20010 then regsMSR
  else if p = 0x20014 then regsSAF
  else if p = 0x20015 then regsTCH
  else if p = 0x20016 then regsPNL
  else if p = 0x20017 then regsDGS
  else if p = 0x20018 then regsLNK
  else if p = 0x30004 then regsLKE
  else if p = 0xe0002 then regsDBG
  else if p = 0xa0002 then regsAP2
  else if p = 0xa0003 then regsAP3
  else []

/-- Whether the entry `d` covers address `a`. -/
def regCovers (d : RegDef) (a : Nat) : Bool :=
  decide (d.base ≤ a) && decide ((a - d.base) % d.stride = 0) && decide ((a - d.base) / d.stride < d.count)

/-- The register entry at a word address, if the spec gives one. -/
def regDef? (a : Nat) : Option RegDef := (regsOfPage (a / 0x1000)).find? fun d => regCovers d a

/-- The reset value of the register at `a` (R10), 0 where no register stands. -/
def regReset (a : Nat) : Word :=
  match regDef? a with
  | some d => word (d.reset + d.resetStep * ((a - d.base) / d.stride))
  | none => 0

/-- The domain that holds the register at `a` (R13); SYS where no register stands. -/
def regDomain (a : Nat) : Domain :=
  match regDef? a with
  | some d => d.dom
  | none => .sys

end Sys2Proof.Machine
end

