-- ==== Sys2Proof/Machine/Ops.lean ====
section
/-!
DEFINITION. The named operations over the register file, over the memories and over the core's registers, with the free
values. Every later file reads and writes the state through these.
-/
namespace Sys2Proof.Machine

/-! ## Sorted association lists -/

/-- The value listed for a key, the first one if there are more. -/
def alGet {α : Type} (l : List (Nat × α)) (k : Nat) : Option α :=
  match l with
  | [] => none
  | (k', v) :: t => if k' = k then some v else alGet t k

/-- The list without any entry for a key. -/
def alDel {α : Type} (l : List (Nat × α)) (k : Nat) : List (Nat × α) := l.filter fun p => decide (p.1 ≠ k)

/-- Insert before the first greater key. -/
def alInsert {α : Type} (l : List (Nat × α)) (k : Nat) (v : α) : List (Nat × α) :=
  match l with
  | [] => [(k, v)]
  | (k', v') :: t => if k < k' then (k, v) :: (k', v') :: t else (k', v') :: alInsert t k v

/-- Set the value of a key; a value equal to the key's default is not listed. -/
def alSet {α : Type} [DecidableEq α] (dflt : α) (l : List (Nat × α)) (k : Nat) (v : α) : List (Nat × α) :=
  if v = dflt then alDel l k else alInsert (alDel l k) k v

/-! ## The register file -/

/-- The word held by the register at an address. -/
def State.rd (s : State) (a : Nat) : Word := (alGet s.regs a).getD (regReset a)

/-- `s` with the register at an address holding `v`. -/
def State.wr (s : State) (a : Nat) (v : Word) : State := { s with regs := alSet (regReset a) s.regs a v }

/-- A field of a register: lowest bit and width. -/
def State.f (s : State) (a lo n : Nat) : Nat := fld (s.rd a) lo n

/-- Set a field of a register. -/
def State.setF (s : State) (a lo n v : Nat) : State := s.wr a (setFld (s.rd a) lo n v)

/-- A bit of a register. -/
def State.bit (s : State) (a i : Nat) : Bool := wbit (s.rd a) i

/-- Set a bit of a register to `b`. -/
def State.putBit (s : State) (a i : Nat) (b : Bool) : State := s.wr a (wputBit (s.rd a) i b)

/-- Set a bit of a register to 1: hardware sets an event bit. -/
def State.setBit (s : State) (a i : Nat) : State := s.putBit a i true

/-- Clear a bit of a register. -/
def State.clrBit (s : State) (a i : Nat) : State := s.putBit a i false

/-- Or a mask into a register. -/
def State.orReg (s : State) (a : Nat) (m : Word) : State := s.wr a (s.rd a ||| m)

/-- Add one to a counter field, stopping at its largest value. -/
def State.incSat (s : State) (a lo n : Nat) : State := s.setF a lo n (satInc (2 ^ n - 1) (s.f a lo n))

/-- Whether the RWL fields of a register are locked. -/
def State.locked (s : State) (d : RegDef) : Bool := s.bit d.lockAddr d.lockBit

/-- What an ordinary write of `v` leaves in a register (R6, R7, R9): RW fields take the value, W1C bits are cleared by a
1, RWL fields take the value while the lock is clear, every other bit keeps. -/
def State.written (s : State) (a : Nat) (v : Word) : Word :=
  match regDef? a with
  | none => s.rd a
  | some d =>
    let m := word d.rw ||| (if s.locked d then 0 else word d.rwl)
    ((s.rd a &&& ~~~m) ||| (v &&& m)) &&& ~~~(v &&& word d.w1c)

/-- An ordinary register write (R6). -/
def State.stdWrite (s : State) (a : Nat) (v : Word) : State := s.wr a (s.written a v)

/-- Drop every listed register whose domain is `d`: each then holds its reset value (R10, R13). -/
def State.resetRegs (s : State) (d : Domain) : State :=
  { s with regs := s.regs.filter fun p => decide (regDomain p.1 ≠ d) }

/-! ## Free values -/

/-- A fresh word the manual leaves undefined. -/
def State.freeWord (s : State) : Word := Config.freeWord s.freeCtr

/-- A fresh choice the manual leaves open. -/
def State.freeBool (s : State) : Bool := Config.freeBool s.freeCtr

/-- A fresh number the manual leaves open. -/
def State.freeNat (s : State) : Nat := Config.freeNat s.freeCtr

/-- Use up the fresh value. -/
def State.tickFree (s : State) : State := { s with freeCtr := s.freeCtr + 1 }

/-! ## Memories -/

/-- Store array numbers 0 to 16 stand for themselves; these are the numbers of the other memories. -/
def memSaddle : Nat := 17

/-- The number of the NVM array among the memories. -/
def memNvm : Nat := 18

/-- D0 of a data background (Table 10.3) at a row and column. -/
def backgroundWord (bg : Nat) (custom : Word) (row col : Nat) : Word :=
  match bg with
  | 0 => 0
  | 1 => if (row + col) % 2 = 0 then 0x55555555 else 0xAAAAAAAA
  | 2 => if row % 2 = 0 then 0 else 0xFFFFFFFF
  | 3 => 0x55555555
  | _ => custom

/-- The byte an unlisted address of a memory reads as, if its content is defined. -/
def baseByte (b : MemBase) (a : Nat) : Option Byte :=
  match b with
  | .undefined _ => none
  | .zeros => some 0
  | .factory => some (if 0x3F0104 ≤ a ∧ a < 0x3F0108 then 0xFF else 0)
  | .march inv bg custom =>
    let w := backgroundWord bg custom (a / 128) (a / 4 % 32)
    some (byteOf (if inv then ~~~w else w) (a % 4))

/-- The byte at an address, if its content is defined. -/
def Mem.get? (m : Mem) (a : Nat) : Option Byte :=
  match alGet m.cells a with
  | some b => some b
  | none => baseByte m.base a

/-- Which loss of content an undefined memory comes from. -/
def Mem.seed (m : Mem) : Nat :=
  match m.base with
  | .undefined n => n
  | _ => 0

/-- The byte at an address; an undefined one is the memory's free byte. -/
def Mem.byte (m : Mem) (id a : Nat) : Byte := (m.get? a).getD (Config.coldByte m.seed id a)

/-- Write one byte, keeping the canonical form. -/
def Mem.set (m : Mem) (a : Nat) (b : Byte) : Mem :=
  if baseByte m.base a = some b then { m with cells := alDel m.cells a }
  else { m with cells := alInsert (alDel m.cells a) a b }

/-- Write bytes at rising addresses. -/
def Mem.setBytes (m : Mem) (a : Nat) (bs : List Byte) : Mem :=
  match bs with
  | [] => m
  | b :: t => Mem.setBytes (m.set a b) (a + 1) t

/-- Write the four bytes of an aligned word with fresh check bits (R298). -/
def Mem.putWord (m : Mem) (a : Nat) (bs : List Byte) : Mem := { m.setBytes a bs with ecc := alDel m.ecc a }

/-- Read `n` bytes at rising addresses. -/
def Mem.bytes (m : Mem) (id a n : Nat) : List Byte := (List.range n).map fun i => m.byte id (a + i)

/-- Whether the four bytes of the aligned word that holds `a` are defined, so that its check bits are valid. -/
def Mem.wordDefined (m : Mem) (a : Nat) : Bool :=
  (List.range 4).all fun i => (m.get? (a - a % 4 + i)).isSome

/-- The canonical form: addresses strictly rising, no entry equal to what an unlisted address reads as, and marked
words at strictly rising addresses. -/
def Mem.wf (m : Mem) : Bool :=
  decide (m.cells.Pairwise fun p q => p.1 < q.1) && (m.cells.all fun p => decide (baseByte m.base p.1 ≠ some p.2)) &&
    decide (m.ecc.Pairwise fun p q => p.1 < q.1)

/-- The register file is in its canonical form: addresses strictly rising, no entry equal to its reset value. -/
def State.regsWf (s : State) : Bool :=
  decide (s.regs.Pairwise fun p q => p.1 < q.1) && s.regs.all fun p => decide (p.2 ≠ regReset p.1)

/-- Element `i` of a list set to `v`; the list is unchanged where it has no such element. -/
def listSet {α : Type} (l : List α) (i : Nat) (v : α) : List α := l.set i v

/-- Array `i` of the Store. -/
def State.array (s : State) (i : Nat) : Mem := s.store.getD i (.blank (.undefined 0))

/-! ## The core's registers -/

/-- Read a general register. -/
def State.g (s : State) (r : Fin 16) : Word := s.core.g[r]

/-- Write a general register. -/
def State.setG (s : State) (r : Fin 16) (v : Word) : State := { s with core := { s.core with g := s.core.g.set r v } }

/-- The program counter. -/
def State.pc (s : State) : Word := s.core.pc

/-- Set the program counter; bits [1:0] are always 0 (Table 06.1). -/
def State.setPc (s : State) (v : Word) : State := { s with core := { s.core with pc := v &&& 0xFFFFFFFC } }

/-- Continue at the next instruction; PC + 4 wraps modulo 2^32 (R195). -/
def State.advance (s : State) : State := s.setPc (s.core.pc + 4)

/-- Set the flags. -/
def State.setCC (s : State) (cc : CC) : State := { s with core := { s.core with cc := cc } }

/-- CC as the number of CSR 0x001. -/
def ccNum (c : CC) : Nat := 8 * b2n c.n + 4 * b2n c.z + 2 * b2n c.c + b2n c.v

/-- The flags of a 4-bit number. -/
def ccOf (n : Nat) : CC :=
  { n := decide (n / 8 % 2 = 1), z := decide (n / 4 % 2 = 1), c := decide (n / 2 % 2 = 1), v := decide (n % 2 = 1) }

/-- Tenant mode (STATUS.MODE). -/
def State.tenantMode (s : State) : Bool := wbit s.core.status 8

/-- The agent ID the core issues its requests under (R163). -/
def State.coreAid (s : State) : Nat := if s.tenantMode then fld s.core.tid 0 10 else 0x400

/-- TID[9:0]. -/
def State.tidNum (s : State) : Nat := fld s.core.tid 0 10

/-! ## Domains and levels -/

/-- Where PWR_DOMSTAT holds a domain; SADDLE has no field. -/
def domShift (d : Domain) : Nat :=
  match d with
  | .saddle => 14
  | .sys => 0
  | .store => 2
  | .core => 4
  | .link => 6
  | .meas => 8
  | .hmi => 10
  | .sec => 12

/-- The code of a domain state in PWR_DOMSTAT. -/
def domCode (x : DomState) : Nat :=
  match x with
  | .retention => 0
  | .on => 1
  | .transition => 2
  | .reset => 3

/-- The state of a domain; SADDLE is ON in every level other than OFF (R14). -/
def State.dom (s : State) (d : Domain) : DomState :=
  if d = .saddle then .on
  else
    match s.f Reg.PWR_DOMSTAT (domShift d) 2 with
    | 0 => .retention
    | 1 => .on
    | 2 => .transition
    | _ => .reset

/-- Set the state of a domain. -/
def State.setDom (s : State) (d : Domain) (x : DomState) : State :=
  if d = .saddle then s else s.setF Reg.PWR_DOMSTAT (domShift d) 2 (domCode x)

/-- A domain is ON. -/
def State.domOn (s : State) (d : Domain) : Bool := decide (s.dom d = .on)

/-- The part is powered: not OFF and not in the brown-out shutdown. -/
def State.powered (s : State) : Bool := decide (s.hrv.pstate ≠ .off) && decide (s.hrv.pstate ≠ .shutdown)

/-- The number of a sleep level in SDL_STAT. -/
def levelCode (l : Level) : Nat :=
  match l with
  | .run => 0
  | .doze => 1
  | .nap => 2
  | .hibernate => 3
  | .shelf => 4

/-- HIBERNATE or SHELF. -/
def State.deep (s : State) : Bool := decide (s.pwr.level = .hibernate) || decide (s.pwr.level = .shelf)

/-- The number of a source in HRV_STAT. -/
def srcCode (x : Source) : Nat :=
  match x with
  | .main => 0
  | .bellows => 1
  | .bat => 2

/-- The ten bits of PWR_DOMCTL, PWR_POL, RST_CTL.DOM and RST_STAT use this order: LINK, MEAS, HMI, SEC. -/
def domBit (d : Domain) : Nat :=
  match d with
  | .link => 0
  | .meas => 1
  | .hmi => 2
  | .sec => 3
  | _ => 4

/-- The four domains software controls, in bit order (R108). -/
def softDomains : List Domain := [.link, .meas, .hmi, .sec]

end Sys2Proof.Machine
end

