-- ==== Sys2Proof/Machine/Gpio.lean ====
section
/-!
DEFINITION. The GPIO block (R264 to R269): the balls with their pulls, the filter, GPIO_IN and its events.
-/
namespace Sys2Proof.Machine

/-- VIO1 is above 1.62 V (R269). -/
def State.gpioPowered (s : State) : Bool := s.pins.vio.getD 1 true

/-- The block follows its balls: SYS is ON (R268). -/
def State.gpioLive (s : State) : Bool := s.powered && s.domOn .sys

/-- Pins with a pull-up that acts (R265). -/
def State.gpioUp (s : State) : Word := s.rd Reg.GPIO_PULL &&& ~~~(s.rd Reg.GPIO_PULL >>> 16) &&& 0xFFFF

/-- Pins with a pull-down that acts (R265). -/
def State.gpioDown (s : State) : Word := (s.rd Reg.GPIO_PULL >>> 16) &&& ~~~(s.rd Reg.GPIO_PULL) &&& 0xFFFF

/-- The pins that the part drives (R264); an open-drain output that drives 1 is high impedance. -/
def State.gpioDrives (s : State) : Word :=
  s.rd Reg.GPIO_DIR &&& ~~~(s.rd Reg.GPIO_ODRAIN &&& s.rd Reg.GPIO_OUT) &&& 0xFFFF

/-- The level of each ball that the part does not drive: what the board drives, or where it leaves the ball open its pull; a ball
with neither floats. -/
def State.gpioUndriven (s : State) : Word :=
  (s.pins.gpioExt &&& ~~~(s.pins.gpioOpen &&& (s.gpioUp ||| s.gpioDown))) ||| (s.pins.gpioOpen &&& s.gpioUp)

/-- The level at each ball: a driven output reads its own level (R264 to R266). -/
def State.gpioBalls (s : State) : Word :=
  (s.rd Reg.GPIO_OUT &&& s.gpioDrives) ||| (s.gpioUndriven &&& ~~~s.gpioDrives &&& 0xFFFF)

/-- The board drives pin `n`, or leaves it open; the level that floats on an open ball is a free value. -/
def State.boardDrives (s : State) (n : Nat) (d : BoardDrive) : State :=
  let put (level isOpen : Bool) : Pins :=
    { s.pins with gpioExt := wputBit s.pins.gpioExt n level, gpioOpen := wputBit s.pins.gpioOpen n isOpen }
  match d with
  | .low => { s with pins := put false false }
  | .high => { s with pins := put true false }
  | .open => ({ s with pins := put s.freeBool true }).tickFree

/-- GPIO_IN shows a new level of pin `n`, with the event that IMODE names (R267). -/
def State.gpioShow (s : State) (n : Nat) (level : Bool) : State :=
  let was := s.bit Reg.GPIO_IN n
  let s := s.putBit Reg.GPIO_IN n level
  if was = level || s.bit Reg.GPIO_LVL n then s
  else if s.bit Reg.GPIO_IMODE (2 * n + b2n (!level)) then s.setBit Reg.GPIO_IRQ n
  else s

/-- Pins whose level GPIO_IN follows at once after a write: those without a filter (R266). -/
def State.gpioFollow (s : State) : State :=
  if s.gpioLive && s.gpioPowered then
    (List.range 16).foldl (fun s n => if s.bit Reg.GPIO_FILT n then s else s.gpioShow n (wbit s.gpioBalls n)) s
  else s

/-- The level at the ball of pin `n` reaches GPIO_IN, where the block follows its balls. -/
def State.gpioTake (s : State) (n : Nat) : State :=
  if s.gpioLive && s.gpioPowered then s.gpioShow n (wbit s.gpioBalls n) else s

/-- The row GPIO_EDGE: the board puts a level on pin `n`, or leaves it open. A filter lets the new level pass once it has taken
FILT.LEN + 2 samples of it in a row (R266). -/
def State.gpioEdge (s : State) (n : Nat) (x : PinSample) : State :=
  let s := s.boardDrives n x.drive
  if s.bit Reg.GPIO_FILT n && decide (x.samples < s.f Reg.GPIO_FILT 24 4 + 2) then s else s.gpioTake n

/-- SYS returns to ON: GPIO_IN is loaded from the balls, which is no edge (R268). -/
def State.gpioLoad (s : State) : State := s.wr Reg.GPIO_IN (if s.gpioPowered then s.gpioBalls else 0)

/-- A write of GPIO_DIR, GPIO_OUT, GPIO_ODRAIN or GPIO_PULL reaches the balls (R264, R265); a pin whose filter GPIO_FILT turns off
shows its ball. -/
def State.writeGpioPins (s : State) (a : Nat) (v : Word) : State := (s.stdWrite a v).gpioFollow

end Sys2Proof.Machine
end

