-- ==== Sys2Proof/Machine/Hash.lean ====
section
/-!
DEFINITION. SHA-256 and SHA-512 (FIPS 180-4), HMAC (FIPS 198-1) and the CRC-32 of IEEE 802.3, on bytes and numbers:
the algorithms R75, R149, R310, R389, R479 and R542 name.
-/
namespace Sys2Proof.Machine

/-- The round constants of SHA-256. -/
def sha256K : List Nat :=
  [0x428A2F98, 0x71374491, 0xB5C0FBCF, 0xE9B5DBA5, 0x3956C25B, 0x59F111F1, 0x923F82A4, 0xAB1C5ED5,
   0xD807AA98, 0x12835B01, 0x243185BE, 0x550C7DC3, 0x72BE5D74, 0x80DEB1FE, 0x9BDC06A7, 0xC19BF174] ++
  [0xE49B69C1, 0xEFBE4786, 0x0FC19DC6, 0x240CA1CC, 0x2DE92C6F, 0x4A7484AA, 0x5CB0A9DC, 0x76F988DA,
   0x983E5152, 0xA831C66D, 0xB00327C8, 0xBF597FC7, 0xC6E00BF3, 0xD5A79147, 0x06CA6351, 0x14292967] ++
  [0x27B70A85, 0x2E1B2138, 0x4D2C6DFC, 0x53380D13, 0x650A7354, 0x766A0ABB, 0x81C2C92E, 0x92722C85,
   0xA2BFE8A1, 0xA81A664B, 0xC24B8B70, 0xC76C51A3, 0xD192E819, 0xD6990624, 0xF40E3585, 0x106AA070] ++
  [0x19A4C116, 0x1E376C08, 0x2748774C, 0x34B0BCB5, 0x391C0CB3, 0x4ED8AA4A, 0x5B9CCA4F, 0x682E6FF3,
   0x748F82EE, 0x78A5636F, 0x84C87814, 0x8CC70208, 0x90BEFFFA, 0xA4506CEB, 0xBEF9A3F7, 0xC67178F2]

/-- The round constants of SHA-512. -/
def sha512K : List Nat :=
  [0x428A2F98D728AE22, 0x7137449123EF65CD, 0xB5C0FBCFEC4D3B2F, 0xE9B5DBA58189DBBC,
   0x3956C25BF348B538, 0x59F111F1B605D019, 0x923F82A4AF194F9B, 0xAB1C5ED5DA6D8118,
   0xD807AA98A3030242, 0x12835B0145706FBE, 0x243185BE4EE4B28C, 0x550C7DC3D5FFB4E2,
   0x72BE5D74F27B896F, 0x80DEB1FE3B1696B1, 0x9BDC06A725C71235, 0xC19BF174CF692694] ++
  [0xE49B69C19EF14AD2, 0xEFBE4786384F25E3, 0x0FC19DC68B8CD5B5, 0x240CA1CC77AC9C65,
   0x2DE92C6F592B0275, 0x4A7484AA6EA6E483, 0x5CB0A9DCBD41FBD4, 0x76F988DA831153B5,
   0x983E5152EE66DFAB, 0xA831C66D2DB43210, 0xB00327C898FB213F, 0xBF597FC7BEEF0EE4,
   0xC6E00BF33DA88FC2, 0xD5A79147930AA725, 0x06CA6351E003826F, 0x142929670A0E6E70] ++
  [0x27B70A8546D22FFC, 0x2E1B21385C26C926, 0x4D2C6DFC5AC42AED, 0x53380D139D95B3DF,
   0x650A73548BAF63DE, 0x766A0ABB3C77B2A8, 0x81C2C92E47EDAEE6, 0x92722C851482353B,
   0xA2BFE8A14CF10364, 0xA81A664BBC423001, 0xC24B8B70D0F89791, 0xC76C51A30654BE30,
   0xD192E819D6EF5218, 0xD69906245565A910, 0xF40E35855771202A, 0x106AA07032BBD1B8] ++
  [0x19A4C116B8D2D0C8, 0x1E376C085141AB53, 0x2748774CDF8EEB99, 0x34B0BCB5E19B48A8,
   0x391C0CB3C5C95A63, 0x4ED8AA4AE3418ACB, 0x5B9CCA4F7763E373, 0x682E6FF3D6B2B8A3,
   0x748F82EE5DEFB2FC, 0x78A5636F43172F60, 0x84C87814A1F0AB72, 0x8CC702081A6439EC,
   0x90BEFFFA23631E28, 0xA4506CEBDE82BDE9, 0xBEF9A3F7B2C67915, 0xC67178F2E372532B] ++
  [0xCA273ECEEA26619C, 0xD186B8C721C0C207, 0xEADA7DD6CDE0EB1E, 0xF57D4F7FEE6ED178,
   0x06F067AA72176FBA, 0x0A637DC5A2C898A6, 0x113F9804BEF90DAE, 0x1B710B35131C471B,
   0x28DB77F523047D84, 0x32CAAB7B40C72493, 0x3C9EBE0A15C9BEBC, 0x431D67C49C100D4C,
   0x4CC5D4BECB3E42B6, 0x597F299CFC657E2A, 0x5FCB6FAB3AD6FAEC, 0x6C44198C4A475817]

/-- The initial hash value of SHA-256. -/
def sha256H : List Nat :=
  [0x6A09E667, 0xBB67AE85, 0x3C6EF372, 0xA54FF53A, 0x510E527F, 0x9B05688C, 0x1F83D9AB, 0x5BE0CD19]

/-- The initial hash value of SHA-512. -/
def sha512H : List Nat :=
  [0x6A09E667F3BCC908, 0xBB67AE8584CAA73B, 0x3C6EF372FE94F82B, 0xA54FF53A5F1D36F1,
   0x510E527FADE682D1, 0x9B05688C2B3E6C1F, 0x1F83D9ABFB41BD6B, 0x5BE0CD19137E2179]

/-- Rotate a number of `w` bits right. -/
def rotr (w n x : Nat) : Nat := (x >>> n) ||| ((x <<< (w - n)) % 2 ^ w)

/-- What SHA-256 and SHA-512 differ in: word width, rotations and shifts of the four functions, initial value and
constants. -/
structure ShaForm where
  w : Nat
  big0 : Nat × Nat × Nat
  big1 : Nat × Nat × Nat
  small0 : Nat × Nat × Nat
  small1 : Nat × Nat × Nat
  init : List Nat
  k : List Nat

/-- SHA-256. -/
def sha256Form : ShaForm := ⟨32, (2, 13, 22), (6, 11, 25), (7, 18, 3), (17, 19, 10), sha256H, sha256K⟩

/-- SHA-512. -/
def sha512Form : ShaForm := ⟨64, (28, 34, 39), (14, 18, 41), (1, 8, 7), (19, 61, 6), sha512H, sha512K⟩

/-- The functions of three rotations. -/
def shaBig (w : Nat) (r : Nat × Nat × Nat) (x : Nat) : Nat := rotr w r.1 x ^^^ rotr w r.2.1 x ^^^ rotr w r.2.2 x

/-- The functions of two rotations and a shift. -/
def shaSmall (w : Nat) (r : Nat × Nat × Nat) (x : Nat) : Nat := rotr w r.1 x ^^^ rotr w r.2.1 x ^^^ (x >>> r.2.2)

/-- One more word of the message schedule, newest first. -/
def shaExtend (f : ShaForm) (ws : List Nat) : Nat :=
  (shaSmall f.w f.small1 (ws.getD 1 0) + ws.getD 6 0 + shaSmall f.w f.small0 (ws.getD 14 0) + ws.getD 15 0) % 2 ^ f.w

/-- The rounds: `k` constants still to use, the sixteen latest schedule words newest last, and the working variables. -/
def shaRounds (f : ShaForm) (ks : List Nat) (ws : List Nat) (v : List Nat) : List Nat :=
  match ks with
  | [] => v
  | k :: ks =>
    match ws, v with
    | w0 :: rest, [a, b, c, d, e, g, h, i] =>
      let t1 := i + shaBig f.w f.big1 e + ((e &&& g) ^^^ ((2 ^ f.w - 1 - e) &&& h)) + k + w0
      let t2 := shaBig f.w f.big0 a + ((a &&& b) ^^^ (a &&& c) ^^^ (b &&& c))
      shaRounds f ks (rest ++ [shaExtend f (w0 :: rest).reverse])
        [(t1 + t2) % 2 ^ f.w, a, b, c, (d + t1) % 2 ^ f.w, e, g, h]
    | _, _ => v

/-- The bytes of a block as big-endian words of `n` bytes. -/
def shaWords (n : Nat) (fuel : Nat) (bs : List Byte) : List Nat :=
  match fuel with
  | 0 => []
  | fuel + 1 => if bs.isEmpty then [] else numBE (bs.take n) :: shaWords n fuel (bs.drop n)

/-- The block size in bytes. -/
def ShaForm.block (f : ShaForm) : Nat := f.w * 2

/-- One compression of a block into a hash state. -/
def shaCompress (f : ShaForm) (h : List Nat) (blk : List Byte) : List Nat :=
  let v := shaRounds f f.k (shaWords (f.w / 8) 16 blk) h
  (h.zip v).map fun p => (p.1 + p.2) % 2 ^ f.w

/-- Cut bytes into blocks of `n`. -/
def cutBlocks (n fuel : Nat) (bs : List Byte) : List (List Byte) :=
  match fuel with
  | 0 => []
  | fuel + 1 => if bs.isEmpty then [] else bs.take n :: cutBlocks n fuel (bs.drop n)

/-- The last part of a message with its padding: `total` bytes were hashed in all, `tail` is what stands after the last
full block. -/
def shaPad (f : ShaForm) (total : Nat) (tail : List Byte) : List (List Byte) :=
  let lenBytes := f.w / 4
  let used := tail.length + 1 + lenBytes
  let zeros := (f.block - used % f.block) % f.block
  cutBlocks f.block 3 (tail ++ [0x80] ++ List.replicate zeros 0 ++ bytesBE lenBytes (8 * total))

/-- The digest bytes of a hash state. -/
def shaBytes (f : ShaForm) (h : List Nat) : List Byte := (h.map fun x => bytesBE (f.w / 8) x).flatten

/-- The hash of a message. -/
def shaHash (f : ShaForm) (m : List Byte) : List Byte :=
  let full := m.length / f.block
  let body := cutBlocks f.block full (m.take (full * f.block))
  shaBytes f ((body ++ shaPad f m.length (m.drop (full * f.block))).foldl (shaCompress f) f.init)

/-- A key padded with zeros to a block and combined with a pad byte (R479). -/
def hmacKeyBlock (f : ShaForm) (key : List Byte) (pad : Byte) : List Byte :=
  (key ++ List.replicate (f.block - key.length) 0).map fun b => b ^^^ pad

/-- HMAC of a message under a key no longer than a block. -/
def hmac (f : ShaForm) (key m : List Byte) : List Byte :=
  shaHash f (hmacKeyBlock f key 0x5C ++ shaHash f (hmacKeyBlock f key 0x36 ++ m))

/-- HMAC-SHA-256. -/
def hmacSha256 (key m : List Byte) : List Byte := hmac sha256Form key m

/-- One bit of the reflected CRC-32. -/
def crcBit (c : Nat) : Nat := if c % 2 = 1 then (c >>> 1) ^^^ 0xEDB88320 else c >>> 1

/-- One byte of the CRC-32. -/
def crcByte (c : Nat) (b : Byte) : Nat :=
  crcBit (crcBit (crcBit (crcBit (crcBit (crcBit (crcBit (crcBit (c ^^^ b.toNat))))))))

/-- CRC-32: IEEE 802.3 polynomial, reflected, initial value 0xFFFF_FFFF, final inversion (R75, R389, R542). -/
def crc32 (bs : List Byte) : Nat := bs.foldl crcByte 0xFFFFFFFF ^^^ 0xFFFFFFFF

end Sys2Proof.Machine
end

