-- ==== Sys2Proof/Machine/Saf.lean ====
section
/-!
DEFINITION. The safety block (chapter 14): fault reports and their actions, the outputs, the safe state, readback, and the
heartbeat that carries its status (R522).
-/
namespace Sys2Proof.Machine

/-- A fault word (R428). -/
def faultWord (dom code detail : Nat) : Word := word (dom % 16 * 0x10000000 + code % 4096 * 0x10000 + detail % 65536)

/-- The first group of MEAS is up: the Drone converters, the reference and the safety block (Table 04.5). It is usable 2 µs after
step 7 began, which is as step 8 begins (DESIGN CHOICE, log 47: GAP is at least 2 µs), and until MEAS enters RETENTION or
DOMAIN reset. -/
def State.measFirst (s : State) : Bool :=
  s.powered && (s.domOn .meas || (decide (s.dom .meas = .transition) && !(s.bit Reg.RST_STAT (domBit .meas)) &&
    !(s.pwr.stagger.contains 7) && !(s.pwr.stagger.contains 8)))

/-- The safety block is ON (R409, R621). -/
def State.safReady (s : State) : Bool := s.measFirst

/-- A SYSTEM trigger is raised; SYSTEM_RESET acts on it (R121). -/
def State.trigger (s : State) (c : ResetCause) : State :=
  if s.lcs.pendingResets.contains c then s
  else { s with lcs := { s.lcs with pendingResets := s.lcs.pendingResets ++ [c] } }

/-- The channel state of channel `n`. -/
def State.ch (s : State) (n : Nat) : MsrCh := s.msr.chs.getD n MsrCh.reset

/-- The safety group of a channel, if it reports to one: SEN and SGRP in force. -/
def State.sgrp? (s : State) (n : Nat) : Option Nat := if wbit (s.ch n).cfg 6 then some (fld (s.ch n).cfg 8 4) else none

/-! ## Outputs (R413 to R417) -/

/-- The outputs that are on (R414); while MEAS is not ON none is (R413). -/
def State.outputsOn (s : State) : Word :=
  if s.powered && s.domOn .meas && !(s.bit Reg.SAF_STAT 0) && s.bit Reg.BRT_CFG 0 then
    s.rd Reg.SAF_OUTREQ &&& ~~~(s.rd Reg.SAF_TRIP) &&& 0xFFFF
  else 0

/-- Bring SAF_OUT.ON up to date; a changed output starts its readback settle count (R414, R417). -/
def State.safOut (s : State) : State :=
  let on := s.outputsOn
  let changed := on ^^^ s.saf.lastOn
  let settle := (s.saf.settle.zipIdx).map fun p => if wbit changed p.2 then s.f Reg.SAF_CFG 4 2 + 1 else p.1
  let s := s.setF Reg.SAF_OUT 0 16 on.toNat
  { s with saf := { s.saf with lastOn := on, settle := settle } }

/-- SAF_OUT.ON follows every change of the conditions of R414 at once. -/
def State.outputsSettle (s : State) : State :=
  if s.outputsOn = s.saf.lastOn ∧ s.f Reg.SAF_OUT 0 16 = s.outputsOn.toNat then s else s.safOut

/-- Hardware clears REQ bits (R416). -/
def State.clearReq (s : State) (m : Word) : State := (s.wr Reg.SAF_OUTREQ (s.rd Reg.SAF_OUTREQ &&& ~~~m)).safOut

/-- A request, clear or test is refused. -/
def State.safRej (s : State) : State := s.setBit Reg.SAF_STAT 5

/-! ## Conditions (Table 14.1, R423) -/

/-- SAFE-class conditions that hold, as their fault words (R423, R621); VIO2 serves the SOUT and SFB balls (Table 22.3). -/
def State.safeConds (s : State) : List Word :=
  (if s.pins.vcoreBad then [faultWord 1 1 0] else []) ++
  (if s.pins.vioBad.getD 2 false then [faultWord 1 2 2] else []) ++
  (if s.tmb.hfoFail then [faultWord 2 1 0] else []) ++
  (if s.tmb.lrcFail then [faultWord 2 2 0] else []) ++
  (if s.tmb.escalated then [faultWord 2 0x10 (s.f Reg.BRT_CFG 8 4)] else []) ++
  (if s.bit Reg.GTC_CRCSTAT 1 then [faultWord 6 1 (s.rd Reg.GTC_CRCLAST).toNat] else []) ++
  ((bitList 16 s.saf.readback).map fun n =>
    let e := (wbit s.saf.lastOn n) != (s.bit Reg.SAF_SFBCFG (16 + n))
    faultWord 11 1 (16 * b2n e + n)) ++
  (if s.saf.hot then [faultWord 11 2 (s.rd Reg.SAF_TEMP).toNat] else []) ++
  (if s.bit Reg.SAF_STAT 4 then [faultWord 11 3 0] else [])

/-- Bring SAF_STAT.COND up to date (R423). -/
def State.safCond (s : State) : State := s.putBit Reg.SAF_STAT 3 (!s.safeConds.isEmpty)

/-- Groups whose GROUP condition holds: a fast trip line or a slow-limit condition (R401, R419). -/
def State.groupHold (s : State) : Word :=
  let fast := s.msr.chs.foldl
    (fun m c => if c.trip && wbit c.cfg 6 then m ||| (1#32 <<< fld c.cfg 8 4) else m) 0
  s.saf.slow.foldl (fun m p => m ||| (1#32 <<< p.1)) fast

/-! ## The heartbeat (R522) -/

/-- Tenant records not ABSENT. -/
def State.tenantCount (s : State) : Nat :=
  if s.bit Reg.TEN_CTL 0 && !(s.bit Reg.TEN_CTL 1) then
    (s.ten.table.filter fun p => decide (p.1 % 8 = 0 ∧ fld p.2 0 3 ≠ 0)).length
  else 0

/-- Bytes 2 to 7 of the heartbeat from the registers as they stand (Table 18.6). -/
def State.heartbeatTail (s : State) : List Byte :=
  let st := s.rd Reg.SAF_STAT
  let lfw := s.rd Reg.SAF_LASTFW
  [BitVec.ofNat 8 (b2n (wbit st 0) + 2 * b2n (wbit st 3) + 4 * b2n (wbit st 2) + 8 * b2n (s.bit Reg.BRT_CFG 0)),
   byteOf (s.rd Reg.SAF_OUT) 0, byteOf (s.rd Reg.SAF_OUT) 1,
   BitVec.ofNat 8 s.tenantCount, BitVec.ofNat 8 (s.tenantCount / 256 % 8),
   BitVec.ofNat 8 (fld lfw 28 4 + 16 * b2n (decide (lfw ≠ 0)) + 32 * b2n (s.bit Reg.GTC_CRCSTAT 1) +
     64 * b2n (decide (s.f Reg.STC_ECCCNT 16 16 ≠ 0)) + 128 * b2n (decide (s.f Reg.MSR_DRSTAT 16 16 ≠ 0)))]

/-- One byte from two: the bits of `m` from the latched byte. -/
def mixByte (m now latched : Byte) : Byte := (now &&& ~~~m) ||| (latched &&& m)

/-- Bytes 2 to 7, the fields of a domain in RETENTION as latched at the last deep entry (R522). -/
def State.heartbeatBytes (s : State) : List Byte :=
  let n := s.heartbeatTail
  let l := s.lnk.latched
  let ret (d : Domain) : Bool := decide (s.dom d = .retention)
  let pick (i : Nat) (m : Byte) : Byte := mixByte m (n.getD i 0) (l.getD i 0)
  [pick 0 (if ret .meas then 7 else 0), pick 1 (if ret .meas then 0xFF else 0), pick 2 (if ret .meas then 0xFF else 0),
   pick 3 (if ret .sys then 0xFF else 0), pick 4 (if ret .sys then 0xFF else 0),
   pick 5 ((if ret .sys then 0x20 else 0) ||| (if ret .store then 0x40 else 0) ||| (if ret .meas then 0x80 else 0))]

/-- The heartbeat frame (R522): a classic frame of KIND 0 with 8 data bytes. -/
def State.heartbeat (s : State) (lke extra : Bool) : CanFrame :=
  let hover := decide (s.hrv.pstate = .handover) || decide (s.hrv.pstate = .settle)
  { id := s.f Reg.LKE_CFG 25 7 * 0x200 + s.f Reg.TMB_CYCCNT 0 9, ext := true, remote := false, fd := false, brs := false,
    esi := false, dlc := 8,
    data := [BitVec.ofNat 8 (levelCode s.pwr.level + 8 * srcCode s.hrv.src + 32 * b2n hover + 64 * b2n lke +
               128 * b2n extra), BitVec.ofNat 8 (s.f Reg.LCS_STATE 0 3)] ++ s.heartbeatBytes }

/-- Queue a heartbeat at the controller; an unsent one is replaced (R522). -/
def State.queueHeartbeat (s : State) (extra : Bool) : State :=
  if s.bit Reg.LKE_HB 31 && decide (s.lnk.owner = .controller) then
    { s with lnk := { s.lnk with hb := some (s.heartbeat false extra) } }
  else s

/-! ## Actions (R419) -/

/-- GROUP on group `g`; `fw` is captured if TRIPPED[g] was 0 (R419). -/
def State.safGroup (s : State) (g : Nat) (fw : Word) : State :=
  let s1 := if s.bit Reg.SAF_TRIP g then s else s.wr (Reg.SAF_GFW g) fw
  ((s1.setBit Reg.SAF_TRIP g).setBit Reg.SAF_IRQ 0).clearReq (1#32 <<< g)

/-- The fault word `fw` comes before that of another SAFE fault of the same clock: the lower DOMAIN, then the lower CODE. -/
def State.safBefore (s : State) (fw : Word) : Bool :=
  match s.saf.now with
  | some w => decide (fld fw 16 16 < fld w 16 16)
  | none => true

/-- The capture of a SAFE fault, and LASTFW. Of two faults of one clock, which is one command here, both take the one with the
lower DOMAIN, then the lower CODE; of two alike LASTFW takes the later (log 20). -/
def State.safCapture (s : State) (fw : Word) (aid : Nat) : State :=
  let s1 :=
    if s.bit Reg.SAF_FINFO 31 && !(s.saf.nowCaptured && s.safBefore fw) then s
    else
      let s := (((s.wr Reg.SAF_FW fw).wr Reg.SAF_FCYC (s.rd Reg.TMB_CYCCNT)).wr Reg.SAF_FRTC (s.rd Reg.RTC_SEC)).wr
        Reg.SAF_FINFO (word (0x80000000 + aid % 2048))
      { s with saf := { s.saf with nowCaptured := true } }
  let last := s.safBefore fw || decide ((s.saf.now.map fun w => fld w 16 16) = some (fld fw 16 16))
  if last then { (s1.wr Reg.SAF_LASTFW fw) with saf := { s1.saf with now := some fw } } else s1

/-- SAFE: latch the safe state, clear every REQ, count, capture, raise the NMI and start the escalation timer (R419,
R424). ACKED is cleared when SAFE was 0 (DEDUCED, log 20). -/
def State.safSafe (s : State) (fw : Word) (aid : Nat) (nmi : Bool) : State :=
  let entry := !(s.bit Reg.SAF_STAT 0)
  let s := (s.setBit Reg.SAF_STAT 0).incSat Reg.SAF_STAT 16 16
  let s := if entry then s.clrBit Reg.SAF_STAT 2 else s
  let s := ((s.safCapture fw aid).setBit Reg.SAF_IRQ 1).clearReq 0xFFFF
  let s := if nmi && !s.core.stopped then { s with core := { s.core with nmi := true } } else s
  let s :=
    if s.bit Reg.SAF_STAT 8 then s else { (s.setBit Reg.SAF_STAT 8) with saf := { s.saf with esc := 0 } }
  let s := s.safCond
  if entry then s.queueHeartbeat true else s

/-- NOTE (R419). -/
def State.safNote (s : State) (fw : Word) : State := (s.wr Reg.SAF_NOTEFW fw).setBit Reg.SAF_IRQ 2

/-- The action of a SAF_FACT field: 0 NOTE, 1 GROUP, 2 SAFE; 0b11 acts as SAFE (R419). -/
def State.factAction (s : State) (lo : Nat) : Nat := min 2 (s.f Reg.SAF_FACT lo 2)

/-- The action Table 14.1 gives a fault word: 0 NOTE, 1 GROUP, 2 SAFE. -/
def State.faultAction (s : State) (fw : Word) : Nat :=
  match fld fw 28 4, fld fw 16 12 with
  | 7, 1 => s.factAction 4
  | 7, 2 => s.factAction 6
  | 7, 3 => s.factAction 6
  | 10, 1 => s.factAction 0
  | 10, 2 => s.factAction 2
  | 10, 0x10 => 1
  | 10, 0x11 => 1
  | 11, 4 => 1
  | _, _ => 2

/-- The group of a fault, if it has one: the channel's for MSR, the named one for a forced trip (R418). -/
def State.faultGroup (s : State) (fw : Word) : Option Nat :=
  match fld fw 28 4, fld fw 16 12 with
  | 10, 1 => s.sgrp? (fld fw 0 6)
  | 10, 0x10 => s.sgrp? (fld fw 0 6)
  | 10, 0x11 => s.sgrp? (fld fw 0 6)
  | 11, 4 => some (fld fw 0 4)
  | _, _ => none

/-- A fault is reported with the AID of the report, 0x7FF for none, and its group (R418, R428). While the safety block is not ON
the report is lost (R621). A lockstep mismatch or a stopped core also triggers its SYSTEM reset (R425). -/
def State.safReportIn (s : State) (fw : Word) (aid : Nat) (group : Option Nat) : State :=
  if !s.safReady then s
  else if fld fw 28 4 = 4 then
    let s := s.safSafe fw aid false
    if fld fw 16 12 = 1 then s.trigger .lockstep
    else { (s.trigger .safetyEsc) with lcs := { (s.trigger .safetyEsc).lcs with escDomain := 4 } }
  else
    match s.faultAction fw with
    | 2 => s.safSafe fw aid true
    | 1 =>
      match group with
      | some g => s.safGroup g fw
      | none => s.safNote fw
    | _ => s.safNote fw

/-- A fault is reported, in the group that its channel has now. -/
def State.safReport (s : State) (fw : Word) (aid : Nat) : State := s.safReportIn fw aid (s.faultGroup fw)

/-- Every condition that still holds is reported when the safety block becomes usable (R621): a debug halt too, once its Breath
boundary has come. -/
def State.safRestart (s : State) : State :=
  let s := if s.core.halted && s.saf.haltSeen then s.setBit Reg.SAF_STAT 4 else s
  let s := s.safeConds.foldl (fun s fw => s.safReport fw 0x7FF) s
  let s := (List.range 16).foldl
    (fun s g => if wbit s.groupHold g then s.safGroup g ((alGet s.saf.slow g).getD (faultWord 10 0x10
      (((List.range 48).find? fun n => (s.ch n).trip && decide (s.sgrp? n = some g)).getD 0))) else s) s
  let s := if s.saf.coreStop ≠ 0 then s.safReport (faultWord 4 s.saf.coreStop 0) 0x7FF else s
  s.safOut

/-! ## Register writes -/

/-- A write of SAF_OUTREQ (R415). -/
def State.writeOutreq (s : State) (v : Word) : State :=
  let old := s.rd Reg.SAF_OUTREQ
  let rising := v &&& ~~~old &&& 0xFFFF
  let all := s.bit Reg.SAF_STAT 0 || !(s.bit Reg.BRT_CFG 0) || !(s.bit Reg.GTC_CRCCTL 0) || !(s.bit Reg.MSR_STAT 0) ||
    s.pwr.entry.isSome
  let refused := if all then rising else rising &&& s.rd Reg.SAF_TRIP
  let s := s.wr Reg.SAF_OUTREQ (v &&& 0xFFFF &&& ~~~refused)
  (if refused = 0 then s else s.safRej).safOut

/-- A write of SAF_TRIP: a bit whose group condition holds stays set (R11, R419). -/
def State.writeTrip (s : State) (v : Word) : State :=
  (s.wr Reg.SAF_TRIP ((s.rd Reg.SAF_TRIP &&& ~~~v) ||| (s.groupHold &&& s.rd Reg.SAF_TRIP))).safOut

/-- A write of SAF_ACK with ACK = 1 (R424). -/
def State.safAck (s : State) : State := (s.setBit Reg.SAF_STAT 2).clrBit Reg.SAF_STAT 8

/-- A write of SAF_ACK with CLR = 1 (R423). -/
def State.safClear (s : State) : State :=
  if s.safeConds.isEmpty then
    let s1 := if s.bit Reg.SAF_STAT 0 then (s.clrBit Reg.SAF_STAT 0).setBit Reg.SAF_IRQ 3 else s
    (s1.clrBit Reg.SAF_STAT 8).safOut
  else s.safRej

/-- A write of SAF_ACK (R423, R424); another key is refused with REJ (DEDUCED, log 20). -/
def State.writeAck (s : State) (v : Word) : State :=
  if fld v 16 16 = 0x3C96 then
    let s := if wbit v 0 then s.safAck else s
    if wbit v 1 then s.safClear else s
  else s.safRej

/-- A write of SAF_TEST (SAF 0x004). -/
def State.writeTest (s : State) (v : Word) : State :=
  if fld v 16 16 = 0x7E57 then s.safReport (faultWord 11 4 (fld v 0 4)) 0x7FF else s.safRej

/-! ## Boundaries -/

/-- The level expected of SFBn (R417). -/
def State.sfbExpected (s : State) (n : Nat) : Bool := (wbit s.saf.lastOn n) != (s.bit Reg.SAF_SFBCFG (16 + n))

/-- Output `n` is compared at this Breath boundary: no boundary is left that makes no comparison (R417). -/
def State.sfbCompared (s : State) (n : Nat) : Bool := s.safReady && decide (s.saf.settle.getD n 0 = 0) && s.bit Reg.SAF_SFBCFG n

/-- The comparison of output `n` disagrees. -/
def State.sfbDiffers (s : State) (n sfb : Nat) : Bool :=
  s.sfbCompared n && decide (decide (sfb / 2 ^ n % 2 = 1) ≠ s.sfbExpected n)

/-- The readback faults of a Breath boundary: the outputs that disagree and did not before. -/
def State.readbackFaults (s : State) (sfb : Nat) : List Word :=
  ((List.range 16).filter fun n => s.sfbDiffers n sfb && !(wbit s.saf.readback n)).map fun n =>
    faultWord 11 1 (16 * b2n (s.sfbExpected n) + n)

/-- The SFB comparison of a Breath boundary (R417). It is made on the outputs as the boundary finds them: one that the boundary
itself changes is not compared at the boundaries after it. -/
def State.readbackAll (s : State) (sfb : Nat) : State :=
  if s.safReady then
    let readback := (List.range 16).foldl
      (fun w n => if s.sfbCompared n then wputBit w n (s.sfbDiffers n sfb) else w) s.saf.readback
    let s := s.setF Reg.SAF_OUT 16 16 sfb
    ({ s with saf := { s.saf with readback := readback, settle := s.saf.settle.map fun k => k - 1 } }).safCond
  else s

/-- The debug-halt fault of a Breath boundary, the first after the halt (R426). -/
def State.haltFault (s : State) : State :=
  if s.core.halted && !s.saf.haltSeen then
    let s := { s with saf := { s.saf with haltSeen := true } }
    if s.safReady then (s.setBit Reg.SAF_STAT 4).safReport (faultWord 11 3 0) 0x7FF else s
  else s

/-- The condition of a debug halt ends (R426). -/
def State.haltEnds (s : State) : State := { s.clrBit Reg.SAF_STAT 4 with saf := { s.saf with haltSeen := false } }

/-- The escalation timer at a Cycle boundary (R424): the count of a timer that runs as the boundary comes; the reset itself is the
row SAFETY_ESCALATION. -/
def State.escCount (s : State) : State :=
  if s.safReady && s.bit Reg.SAF_STAT 8 && s.bit Reg.SAF_CFG 16 && !s.deep then
    { s with saf := { s.saf with esc := s.saf.esc + 1 } }
  else s

/-- The escalation timer has reached ESCCYC + 1 (R424). -/
def State.escDue (s : State) : Bool :=
  s.safReady && s.bit Reg.SAF_STAT 8 && s.bit Reg.SAF_CFG 16 && decide (s.saf.esc ≥ s.f Reg.SAF_CFG 8 4 + 1)

/-- The escalation: a SYSTEM reset with cause SAFETY_ESC and the DOMAIN of SAF_FW (R424). -/
def State.escalate (s : State) : State :=
  let s := (s.clrBit Reg.SAF_STAT 8).trigger .safetyEsc
  { s with lcs := { s.lcs with escDomain := s.f Reg.SAF_FW 28 4 } }

/-- The die temperature of Drone slot 14 (R420). -/
def State.dieTemp (s : State) (t : Int) : State :=
  let s := s.setF Reg.SAF_TEMP 0 16 (unsign 16 (clampInt (-32768) 32767 t))
  let t := signed 16 (s.f Reg.SAF_TEMP 0 16)
  let lim := signed 16 (s.f Reg.SAF_OTCFG 0 16)
  if s.saf.hot then
    if t < lim - 80 then ({ s with saf := { s.saf with hot := false } }).safCond else s
  else if s.bit Reg.SAF_OTCFG 16 && decide (lim < t) then
    ({ s with saf := { s.saf with hot := true } }).safReport (faultWord 11 2 (s.f Reg.SAF_TEMP 0 16)) 0x7FF
  else s

end Sys2Proof.Machine
end

