-- ==== Sys2Proof/Machine/Irq.lean ====
section
/-!
DEFINITION. Interrupt lines: the level each block drives (Table 06.4), the EIC's choice (R180 to R182), the tenant record,
and the virtual interrupt router with its doorbells (R364 to R368).
-/
namespace Sys2Proof.Machine

/-! ## Lines (Table 06.4) -/

/-- An event register and its enables, over a mask of bits. -/
def State.ev (s : State) (irq ien : Nat) (m : Word) : Bool := decide (s.rd irq &&& s.rd ien &&& m ≠ 0)

/-- The level of line `n` as its source drives it (Table 06.4); reserved lines are never asserted (R178a). -/
def State.line (s : State) (n : Nat) : Bool :=
  match n with
  | 0 => s.ev Reg.TMB_IRQ Reg.TMB_IEN 5
  | 1 => s.ev Reg.TMB_IRQ Reg.TMB_IEN 2
  | 2 => s.ev Reg.TMB_IRQ Reg.TMB_IEN 8
  | 3 => s.ev Reg.HRV_IRQ Reg.HRV_IEN 0x1FF
  | 4 => decide (s.rd Reg.SDL_WCAUSE &&& 0xFFF ≠ 0)
  | 5 => s.ev Reg.TMB_IRQ Reg.TMB_IEN 0x60
  | 6 => s.bit Reg.STM_STAT 0 && s.bit Reg.STM_CTL 1
  | 8 => s.ev Reg.SAF_IRQ Reg.SAF_IEN 0xF
  | 9 => (List.range 8).any fun g => s.bit (Reg.GATE_VSTAT g) 1 && s.bit (Reg.GATE_VSTAT g) 8
  | 10 => (s.bit Reg.STC_ECCCTL 17 && s.bit Reg.STC_ECCCTL 1) || (s.bit Reg.STC_ECCCTL 16 && s.bit Reg.STC_ECCCTL 0)
  | 11 => !s.bus.errs.isEmpty && s.bit Reg.ICT_ERRSTAT 16
  | 16 => s.ev Reg.POOL_IRQ Reg.POOL_IEN 0xF
  | 17 => s.ev Reg.POOL_IRQ Reg.POOL_IEN 0xF0
  | 18 => s.ev Reg.POOL_IRQ Reg.POOL_IEN 0xF00
  | 19 => s.ev Reg.POOL_IRQ Reg.POOL_IEN 0x10000
  | 20 => s.ev Reg.STC_STAT Reg.STC_IEN 0x1FE
  | 32 => s.ev Reg.MSR_IRQ Reg.MSR_IEN 1
  | 33 => s.ev Reg.MSR_IRQ Reg.MSR_IEN 2
  | 34 => s.ev Reg.MSR_IRQ Reg.MSR_IEN 0x1C
  | 35 => s.ev Reg.MSR_IRQ Reg.MSR_IEN 0x60
  | 36 => s.ev Reg.MSR_IRQ Reg.MSR_IEN 0x80
  | 37 => s.ev Reg.MSR_IRQ Reg.MSR_IEN 0x300
  | 40 => s.ev Reg.TCH_IRQ Reg.TCH_IEN 0x41
  | 41 => s.ev Reg.TCH_IRQ Reg.TCH_IEN 2
  | 42 => s.ev Reg.TCH_IRQ Reg.TCH_IEN 0x1C
  | 43 => s.ev Reg.TCH_IRQ Reg.TCH_IEN 0x20
  | 44 => s.ev Reg.PNL_IRQ Reg.PNL_IEN 7
  | 45 => s.ev Reg.PNL_IRQ Reg.PNL_IEN 0x118
  | 46 => s.ev Reg.PNL_IRQ Reg.PNL_IEN 0x60
  | 47 => s.ev Reg.PNL_IRQ Reg.PNL_IEN 0x80
  | 48 => s.ev Reg.DGS_IRQ Reg.DGS_IEN 0xFFFF
  | 49 => s.ev Reg.DGS_IRQ Reg.DGS_IEN 0x10000
  | 50 => s.ev Reg.DGS_IRQ Reg.DGS_IEN 0x20000
  | 51 => s.ev Reg.DGS_IRQ Reg.DGS_IEN 0x40000
  | 52 => !s.lnk.rxq.isEmpty && s.bit Reg.LNK_IEN 0
  | 53 => s.ev Reg.LNK_IRQ Reg.LNK_IEN 4
  | 54 => s.ev Reg.LNK_IRQ Reg.LNK_IEN 0x18
  | 55 => s.ev Reg.LNK_IRQ Reg.LNK_IEN 0x20
  | 56 => s.ev Reg.LKE_IRQ Reg.LKE_IEN 1
  | 57 => s.ev Reg.LNK_IRQ Reg.LNK_IEN 0x40 || s.ev Reg.LKE_IRQ Reg.LKE_IEN 2
  | 58 => s.ev Reg.LKE_IRQ Reg.LKE_IEN 4
  | 59 => s.ev Reg.LNK_IRQ Reg.LNK_IEN 0x80
  | 60 => s.ev Reg.LKE_IRQ Reg.LKE_IEN 0x30
  | 80 => s.bit Reg.TEN_STAT 2 && s.bit Reg.TEN_CTL 4
  | 81 => s.bit Reg.VIR_CTL 0 && (List.range 32).any fun i => decide (s.rd (Reg.VIR_DB i) ≠ 0)
  | 82 => s.bit Reg.NVC_STAT 16 && s.bit Reg.NVC_STAT 17
  | n =>
    if 24 ≤ n ∧ n < 32 then s.bit Reg.DMA_IRQ (n - 24) && s.bit Reg.DMA_IEN (n - 24)
    else if 64 ≤ n ∧ n < 80 then s.bit Reg.GPIO_IRQ (n - 64) && s.bit Reg.GPIO_IEN (n - 64)
    else if 96 ≤ n ∧ n < 128 then wbit s.core.swLines (n - 96)
    else false

/-! ## Tenant records (Table 12.1) -/

/-- The tenant table is in use (R355). -/
def State.tenEnabled (s : State) : Bool := s.bit Reg.TEN_CTL 0 && !(s.bit Reg.TEN_CTL 1)

/-- Word `k` of the record of tenant `t` as stored. -/
def State.trec (s : State) (t k : Nat) : Word := (alGet s.ten.table (8 * t + k)).getD 0

/-- Store word `k` of the record of tenant `t`. -/
def State.setRec (s : State) (t k : Nat) (v : Word) : State :=
  { s with ten := { s.ten with table := alSet 0 s.ten.table (8 * t + k) v } }

/-- STATE of a tenant: 0 ABSENT, 1 READY, 2 SUSPENDED, 3 RESETTING, 4 FAULTED; ABSENT while the table is off (R355). -/
def State.tenState (s : State) (t : Nat) : Nat := if s.tenEnabled then fld (s.trec t 0) 0 3 else 0

/-- READY, SUSPENDED or FAULTED: translation, virtual lines, routes and injections work (Table 12.3). -/
def State.tenOpen (s : State) (t : Nat) : Bool :=
  decide (s.tenState t = 1) || decide (s.tenState t = 2) || decide (s.tenState t = 4)

/-- Tenant `t` is current (R363). -/
def State.isCurrent (s : State) (t : Nat) : Bool := s.tenantMode && decide (s.tidNum = t)

/-! ## The router -/

/-- Where line `n` is routed: tenant and virtual line (R364). -/
def State.route (s : State) (n : Nat) : Option (Nat × Nat) :=
  if 24 ≤ n ∧ n < 80 then
    let r := s.rd (Reg.VIR_ROUTE n)
    if wbit r 31 then some (fld r 16 10, fld r 0 4) else none
  else none

/-- The (tenant, line) pairs, as 16 × tenant + line, that a routed line asserts now. -/
def State.routedLines (s : State) : List Nat :=
  (s.regs.filterMap fun p =>
    if Reg.VIR_ROUTE 24 ≤ p.1 ∧ p.1 < Reg.VIR_ROUTE 80 ∧ wbit p.2 31 = true then
      if s.line ((p.1 - Reg.VIR_ROUTE 0) / 4) then some (16 * fld p.2 16 10 + fld p.2 0 4) else none
    else none).eraseDups

/-- Bit `v` of VPEND of tenant `t` (R365). -/
def State.vpendBit (s : State) (t v : Nat) : Bool :=
  s.tenOpen t && (s.ten.latches.contains (16 * t + v) || s.routedLines.contains (16 * t + v))

/-- VPEND of tenant `t` (R365). -/
def State.vpend (s : State) (t : Nat) : Nat :=
  (List.range 16).foldl (fun n v => n + b2n (s.vpendBit t v) * 2 ^ v) 0

/-- Deliverable lines, as 16 × tenant + line: pending and enabled (R367, R368). -/
def State.deliverable (s : State) : List Nat :=
  ((s.routedLines ++ s.ten.latches).eraseDups).filter fun c =>
    decide (c / 16 < 1024) && s.tenOpen (c / 16) && wbit (s.trec (c / 16) 5) (16 + c % 16)

/-- The lowest deliverable line of the current tenant (R367). -/
def State.tenantLine (s : State) : Option Nat :=
  if s.tenantMode then
    (List.range 16).find? fun v => s.deliverable.contains (16 * s.tidNum + v)
  else none

/-- Ring the doorbells of lines that became deliverable while their tenant was not current (R368). In HIBERNATE and SHELF
routed lines do not act (R369). -/
def State.doorbells (s : State) : State :=
  if s.deep then s
  else
    let now := s.deliverable
    let new := now.filter fun c => !(s.ten.deliv.contains c) && !(s.isCurrent (c / 16))
    let s := { s with ten := { s.ten with deliv := now } }
    new.foldl (fun s c => s.setBit (Reg.VIR_DB (c / 512)) (c / 16 % 32)) s

/-- The lowest tenant with its doorbell set. -/
def State.dbNext (s : State) : Option Nat :=
  match (List.range 32).find? fun i => decide (s.rd (Reg.VIR_DB i) ≠ 0) with
  | some i => ((List.range 32).find? fun k => s.bit (Reg.VIR_DB i) k).map fun k => 32 * i + k
  | none => none

/-! ## The EIC -/

/-- Line `n` as the EIC sees it: a line routed to a tenant does not reach it (R365). -/
def State.eicLine (s : State) (n : Nat) : Bool := (s.route n).isNone && s.line n

/-- The priority of line `n` (R180). -/
def State.prio (s : State) (n : Nat) : Nat := s.f (Reg.EIC_PRIO (n / 4)) (8 * (n % 4)) 3

/-- Lines that are asserted and enabled. -/
def State.enabledLines (s : State) : List Nat :=
  (List.range 4).flatMap fun i => ((bitList 32 (s.rd (Reg.EIC_EN i))).map fun k => 32 * i + k).filter s.eicLine

/-- Among asserted enabled lines, the one of highest priority and then of lowest number (R180). -/
def State.topLine (s : State) : Option Nat :=
  s.enabledLines.foldl (fun best n =>
    match best with
    | none => some n
    | some b => if s.prio n < s.prio b then some n else some b) none

/-- STATUS.PLVL. -/
def State.plvl (s : State) : Nat := fld s.core.status 4 4

/-- The line that is eligible and would be taken (R180). -/
def State.eligible (s : State) : Option Nat :=
  match s.topLine with
  | some n => if s.prio n < s.plvl then some n else none
  | none => none

/-- EIC_PENDn. -/
def State.eicPend (s : State) (i : Nat) : Word :=
  word ((List.range 32).foldl (fun m k => m + b2n (s.eicLine (32 * i + k)) * 2 ^ k) 0)

/-- EIC_TOP. -/
def State.eicTop (s : State) : Word :=
  match s.topLine with
  | some n => word (s.prio n * 0x10000 + 0x100 + n)
  | none => 0

/-! ## GPIO levels and the settling of derived events -/

/-- Level-sensitive pins set their event in every clock in which the level is active (R267). None is taken while VIO1 is
low (R269), and none while SYS is not ON (R268). -/
def State.gpioLevels (s : State) : State :=
  let lvl := s.rd Reg.GPIO_LVL
  if s.domOn .sys && s.pins.vio.getD 1 true && decide (lvl &&& 0xFFFF ≠ 0) then
    s.orReg Reg.GPIO_IRQ (lvl &&& 0xFFFF &&& ~~~(s.rd Reg.GPIO_IN ^^^ (lvl >>> 16)))
  else s

/-- The clock ends, and with it the order of its SAFE faults. -/
def State.clockEnds (s : State) : State := { s with saf := { s.saf with now := none, nowCaptured := false } }

/-- What follows at once from levels: the outputs, pin events and doorbells. -/
def State.settle (s : State) : State := s.clockEnds.outputsSettle.gpioLevels.doorbells

end Sys2Proof.Machine
end

