-- ==== Sys2Proof/Machine/Supply.lean ====
section
/-!
DEFINITION. The supply comparators (R56, R57, R60): what their samples show of the levels at the inputs, for how long they have
shown it, and the outcomes that follow. Levels are in mV and times in microseconds; a command that brings a sample says how
long the levels before it have lasted (log 59).
-/
namespace Sys2Proof.Machine

/-- The comparators of VBAT and VBEL are strobed once every 1 ms: HIBERNATE and SHELF (R57). -/
def State.strobed (s : State) : Bool := s.deep && s.powered

/-- A threshold of HRV_THR in mV: 2.0 V plus 50 mV for each code (R58). -/
def belMv (code : Nat) : Nat := 2000 + 50 * code

/-- BEL_MAX as a code of 50 mV above 2.0 V. -/
def belMaxCode (n : Nat) : Nat :=
  match n with
  | 0 => 26
  | 1 => 32
  | 2 => 38
  | _ => 42

/-- VMAIN against 3.0 V (Table 03.1). -/
def State.mainSees (s : State) : Bool := decide (3000 ≤ s.hrv.levels.vmain)

/-- VBAT against 2.0 V (Table 03.1). -/
def State.batSees (s : State) : Bool := decide (2000 ≤ s.hrv.levels.vbat)

/-- VBEL > BEL_OK, with the threshold in force (R59, R60). -/
def State.okSees (s : State) : Bool := decide (belMv (s.f Reg.HRV_THR 16 6) < s.hrv.levels.vbel)

/-- VBEL ≥ BEL_LOW. -/
def State.lowSees (s : State) : Bool := decide (belMv (s.f Reg.HRV_THR 8 6) ≤ s.hrv.levels.vbel)

/-- VBEL ≥ BEL_CRIT. -/
def State.critSees (s : State) : Bool := decide (belMv (s.f Reg.HRV_THR 0 6) ≤ s.hrv.levels.vbel)

/-- A sample shows an outcome: another one than before restarts the time (R57). -/
def Cmp.see (c : Cmp) (raw : Bool) : Cmp := if c.raw = raw then c else ⟨raw, 0⟩

/-- Time passes at a comparator that samples all the time. -/
def Cmp.age (c : Cmp) (us : Nat) : Cmp := { c with held := c.held + us }

/-- Time passes at a strobed comparator whose input shows `raw`; `wait` is the time to the first strobe (R57). -/
def Cmp.strobeFor (c : Cmp) (raw : Bool) (wait us : Nat) : Cmp :=
  if us < wait ∨ c.raw = raw then c.age us else ⟨raw, us - wait⟩

/-- The comparators that sample all the time see the inputs as they stand. -/
def State.cmpSee (s : State) : State :=
  let h := { s.hrv with cMain := s.hrv.cMain.see s.mainSees }
  if s.strobed then { s with hrv := h }
  else
    { s with hrv := { h with
        cBat := h.cBat.see s.batSees, cOk := h.cOk.see s.okSees, cLow := h.cLow.see s.lowSees, cCrit := h.cCrit.see s.critSees } }

/-- The levels last for `us` microseconds. -/
def State.cmpPass (s : State) (us : Nat) : State :=
  let h := { s.hrv with cMain := s.hrv.cMain.age us }
  if s.strobed then
    let wait := 1000 - h.strobe
    { s with hrv := { h with
        strobe := (h.strobe + us) % 1000, cBat := h.cBat.strobeFor s.batSees wait us, cOk := h.cOk.strobeFor s.okSees wait us,
        cLow := h.cLow.strobeFor s.lowSees wait us, cCrit := h.cCrit.strobeFor s.critSees wait us } }
  else
    { s with hrv := { h with
        cBat := h.cBat.age us, cOk := h.cOk.age us, cLow := h.cLow.age us, cCrit := h.cCrit.age us } }

/-- BEL_MAX in mV (R58). -/
def State.belMax (s : State) : Nat := belMv (belMaxCode (s.f Reg.HRV_CFG 4 2))

/-- Charging stops at BEL_MAX and resumes 50 mV below it (R67, R71). -/
def State.belMaxSees (s : State) : State :=
  let top := s.belMax
  let full := if top ≤ s.hrv.levels.vbel then true else if s.hrv.levels.vbel < top - 50 then false else s.hrv.belFull
  { s with hrv := { s.hrv with belFull := full } }

/-- The inputs take new levels. -/
def State.setLevels (s : State) (x : Levels) : State := ({ s with hrv := { s.hrv with levels := x } }).cmpSee.belMaxSees

/-- The outcome of a comparator: `was` until the samples have shown the other for long enough. -/
def Cmp.outcome (c : Cmp) (was : Bool) (up down : Nat) : Bool :=
  if c.raw then was || decide (up ≤ c.held) else was && decide (c.held < down)

/-- Every timer starts from zero (R76, R79). -/
def State.cmpRestart (s : State) : State :=
  let z (c : Cmp) : Cmp := { c with held := 0 }
  ({ s with hrv := { s.hrv with cMain := z s.hrv.cMain, cBat := z s.hrv.cBat, cOk := z s.hrv.cOk, cLow := z s.hrv.cLow,
                                cCrit := z s.hrv.cCrit, strobe := 0 } }).cmpSee

end Sys2Proof.Machine
end

