-- ==== Sys2Proof/Machine/Wake.lean ====
section
/-!
DEFINITION. Sleep levels as the events see them: the tracker and the watchdog at a change of level (R34, R40), the pause of
the DMA channels (R90), and wake events (R97, R99, R102, Table 04.4).
-/
namespace Sys2Proof.Machine

/-- MSTATE: 0 FREE, 1 ACQUIRE, 2 LOCKED. -/
def State.mstate (s : State) : Nat := s.f Reg.TMB_STAT 8 2

/-- Enter FREE, losing the runs and any target; from LOCKED by misses, MLOST is set. -/
def State.goFree (s : State) (lost : Bool) : State :=
  let was := s.mstate
  let s := s.setF Reg.TMB_STAT 8 2 0
  let s := { s with tmb := { s.tmb with target := none, validRun := 0, missRun := 0, lockRun := 0, unlockRun := 0 } }
  if lost && decide (was = 2) then s.setBit Reg.TMB_IRQ 3 else s

/-- The tracker forgets its crossings: SHELF is entered or left (R34). -/
def State.trackerForget (s : State) : State :=
  { s with tmb := { s.tmb with crossSeen := false, intervalSwitched := false, validRun := 0, lockRun := 0, unlockRun := 0,
                               missRun := 0 } }

/-- The watchdog is active (R40); step 2 of a deep entry ends it (Table 04.3). -/
def State.wdActive (s : State) : Bool :=
  s.bit Reg.BRT_CFG 0 && !s.deep && s.pwr.entry.isNone && s.powered && !s.core.halted

/-- What an activation or a deactivation since `old` does (R40): OVRCONS is 0 at activation, and the first Breath closed
begins fully after it. -/
def State.wdSync (s old : State) : State :=
  if s.wdActive && !old.wdActive then
    let s := s.setF Reg.BRT_CFG 8 4 0
    { s with tmb := { s.tmb with brtWhole := false, brtDone := false } }
  else if !s.wdActive && old.wdActive then { s with tmb := { s.tmb with brtWhole := false } }
  else s


/-! ## Who may act -/

/-- Masters issue requests: SYS is ON and no deep entry is in progress (Table 04.3 step 1). -/
def State.busUp (s : State) : Bool := s.powered && s.domOn .sys && s.pwr.entry.isNone

/-- The core executes instructions. -/
def State.coreRuns (s : State) : Bool :=
  s.powered && s.domOn .core && decide (s.pwr.level = .run) && s.pwr.entry.isNone && !s.core.asleep && !s.core.halted &&
    !s.core.stopped && s.core.stalled.isNone && !s.pwr.boot

/-- A request of the core's load, fetch or vector read. -/
def Waiter.loads (w : Waiter) : Bool := decide (w = .coreLoad) || decide (w = .coreFetch)

/-- What the core waits with is abandoned, and its request with it (R183). -/
def State.abandon (s : State) : State :=
  let held := s.bus.held.filter fun h => !h.who.loads
  { s with core := { s.core with stalled := none }, bus := { s.bus with held := held } }

/-! ## DMA channels at a deep entry (R90, R263) -/

/-- STATE of DMA channel `n`. -/
def State.dmaState (s : State) (n : Nat) : Nat := s.f (Reg.DMA_CHSTAT n) 28 4

/-- The state of DMA channel `n` beside its registers. -/
def State.dmaCh (s : State) (n : Nat) : DmaCh := s.dma.ch.getD n DmaCh.reset

/-- Update it. -/
def State.setDmaCh (s : State) (n : Nat) (c : DmaCh) : State := { s with dma := { s.dma with ch := s.dma.ch.set n c } }

/-- The access of channel `n` is outstanding. -/
def State.dmaWaits (s : State) (n : Nat) : Bool := s.bus.held.any fun h => decide (h.who = .dma n)

/-- An active channel pauses at its beat boundary: while an access is outstanding, once that has been answered. -/
def State.dmaPause (s : State) (n : Nat) : State :=
  let st := s.dmaState n
  if st = 1 ∨ st = 2 ∨ st = 3 then
    if s.dmaWaits n then s.setDmaCh n { s.dmaCh n with pauseDue := true }
    else (s.setDmaCh n { s.dmaCh n with pausedFrom := st }).setF (Reg.DMA_CHSTAT n) 28 4 4
  else s

/-- A paused channel resumes from the same beat; a pause that is still due is not made. -/
def State.dmaResume (s : State) (n : Nat) : State :=
  let s := if (s.dmaCh n).pauseDue then s.setDmaCh n { s.dmaCh n with pauseDue := false } else s
  if s.dmaState n = 4 then s.setF (Reg.DMA_CHSTAT n) 28 4 (s.dmaCh n).pausedFrom else s

/-- Every channel pauses. -/
def State.dmaPauseAll (s : State) : State := (List.range 8).foldl (fun s n => s.dmaPause n) s

/-- Every channel resumes. -/
def State.dmaResumeAll (s : State) : State := (List.range 8).foldl (fun s n => s.dmaResume n) s

/-! ## Levels -/

/-- Enter a sleep level. Every entry to SHELF puts the tracker in FREE at the next Cycle boundary, where a target computed since
the boundary before still acts; leaving it restarts acquisition from FREE (R34). In a deep level two of the supply
comparators are strobed, the first time 1 ms after the entry (R57; log 59). -/
def State.setLevel (s : State) (l : Level) : State :=
  let old := s
  let s := { s with pwr := { s.pwr with level := l } }
  let s :=
    if l = .shelf ∧ old.pwr.level ≠ .shelf then
      let s := s.trackerForget
      { s with tmb := { s.tmb with freeDue := true, fromShelf := true } }
    else if l ≠ .shelf ∧ old.pwr.level = .shelf then s.trackerForget
    else s
  let s := if old.strobed = s.strobed then s else ({ s with hrv := { s.hrv with strobe := 0 } }).cmpSee
  s.wdSync old

/-! ## Wake events (Table 04.4) -/

/-- The bit of a source in SDL_WAKEEN and SDL_WCAUSE. -/
def wakeBit (w : WakeSource) : Nat :=
  match w with
  | .main => 0
  | .rtc => 1
  | .wkey => 2
  | .lke => 3
  | .limit => 4
  | .hrv => 5
  | .hdp => 6
  | .gpio pin => 8 + pin.val
  | .interrupt => 31

/-- The column of Table 04.4 that counts now: the target of an entry, the level of a sleep, or the level woken from
(R97). -/
def State.wakeColumn (s : State) : Option Level :=
  match s.pwr.entry with
  | some l => some l
  | none =>
    if s.pwr.waking then some s.pwr.wokenFrom
    else if s.deep then some s.pwr.level
    else none

/-- A source is enabled for a deep level (Table 04.4). -/
def State.wakeEnabled (s : State) (w : WakeSource) (l : Level) : Bool :=
  match w with
  | .interrupt => false
  | .hdp => true
  | .lke => decide (l = .hibernate) && s.bit Reg.SDL_WAKEEN 3
  | .wkey => s.bit Reg.SDL_WAKEEN 2 && s.bit Reg.SDL_WKEY 7
  | .limit => s.bit Reg.SDL_WAKEEN 4 && (if l = .hibernate then s.bit Reg.SDL_CFG 4 else s.bit Reg.SDL_CFG 6)
  | w => s.bit Reg.SDL_WAKEEN (wakeBit w)

/-- SDL_WCAUSE.FROM of a level. -/
def State.wakeFrom (s : State) (l : Level) : State := s.setF Reg.SDL_WCAUSE 16 3 (levelCode l)

/-- A deep entry is cancelled: the channels resume and the core continues after its WFI in RUN (R97). -/
def State.cancelEntry (s : State) (l : Level) : State :=
  let old := s
  let s := { s with pwr := { s.pwr with entry := none }, core := { s.core with asleep := false } }
  let s := ((s.setBit Reg.SDL_WCAUSE 7).wakeFrom l).incSat Reg.SDL_WCNT 16 16
  (s.dmaResumeAll).wdSync old

/-- The staggered steps of Table 04.5. -/
def staggerSteps : List Nat := [0, 1, 2, 3, 4, 5, 6, 7, 8, 9, 10, 11, 12, 13, 14]

/-- A deep wake begins (R99, R103). -/
def State.beginWake (s : State) : State :=
  let s := (s.wakeFrom s.pwr.level).incSat Reg.SDL_WCNT 0 16
  { s with pwr := { s.pwr with
      waking := true, wokenFrom := s.pwr.level, stagger := staggerSteps, boot := false, cold := false } }

/-- The core wakes from DOZE or NAP (Table 04.2). -/
def State.lightWake (s : State) : State :=
  let s := if s.pwr.level = .nap then s.setDom .core .on else s
  let s := s.setLevel .run
  { s with core := { s.core with asleep := false } }

/-- DOZE or NAP. -/
def State.light (s : State) : Bool := decide (s.pwr.level = .doze) || decide (s.pwr.level = .nap)

/-- A source wakes the core from DOZE and NAP: an interrupt the EIC would take or a line that the router would deliver to the
current tenant (R184, R369), the wake key, or the debug port. -/
def State.lightEnabled (s : State) (w : WakeSource) : Bool :=
  match w with
  | .interrupt => s.eligible.isSome || s.tenantLine.isSome
  | .hdp => true
  | .wkey => s.bit Reg.SDL_WAKEEN 2 && s.bit Reg.SDL_WKEY 7
  | _ => false

/-- The event of a wake source (R97, R99, R102). SDL_WCAUSE records the events of a deep entry, a deep sleep and a wake
sequence, and an AP2 wake from every sleep level (R571; DEDUCED, log 21). -/
def State.wakeEvent (s : State) (w : WakeSource) : State :=
  if !s.powered then s
  else
    match s.wakeColumn with
    | some l =>
      if s.wakeEnabled w l then
        let s := s.setBit Reg.SDL_WCAUSE (wakeBit w)
        if s.pwr.entry.isSome then s.cancelEntry l
        else if s.pwr.waking then (if s.light && s.lightEnabled w then s.lightWake else s)
        else s.beginWake
      else if s.light && s.lightEnabled w then s.lightWake
      else s
    | none =>
      if s.light && s.lightEnabled w then
        (if w = .hdp then s.setBit Reg.SDL_WCAUSE 6 else s).lightWake
      else s

end Sys2Proof.Machine
end

