-- ==== Sys2Proof/Machine/Tmb.lean ====
section
/-!
DEFINITION. The timebase, the Breath watchdog, the RTC, the clocks and their monitors (chapter 02), and the system timer
(R189, R190).
-/
namespace Sys2Proof.Machine

/-- CURINC. -/
def State.curInc (s : State) : Nat := s.f Reg.TMB_STAT 16 16

/-- The tick clock is LRC. -/
def State.onLrc (s : State) : Bool := s.bit Reg.TMB_STAT 12

/-- Ticks in a second of the tick clock (R44). -/
def State.tickRate (s : State) : Nat := if s.onLrc then 32000 else 32768

/-- What one tick adds to the accumulator (R44). -/
def State.tickInc (s : State) : Nat := if s.onLrc then s.curInc * 128 / 125 else s.curInc

/-- CURINC held within 45 to 66 Hz (R26). -/
def clampInc (n : Int) : Nat := (clampInt 23040 33792 n).toNat

/-! ## RTC (R50 to R52) -/

/-- The combined count RTC_SEC:RTC_SUB moved by `d` ticks, raising the alarm where RTC_SEC becomes RTC_ALARM. -/
def State.rtcMove (s : State) (d : Int) : State :=
  let rate : Int := s.tickRate
  let total : Int := (s.f Reg.RTC_SUB 0 15 : Nat) + d
  let secs := total / rate
  let sec := (s.rd Reg.RTC_SEC).toNat
  let alarm := (s.rd Reg.RTC_ALARM).toNat
  let hit :=
    if 0 < secs then decide ((((alarm : Int) - sec - 1) % 4294967296) < secs)
    else decide ((((sec : Int) - 1 - alarm) % 4294967296) < -secs)
  let s := (s.wr Reg.RTC_SEC (word ((sec + secs) % 4294967296).toNat)).setF Reg.RTC_SUB 0 15 (total % rate).toNat
  if hit then (s.setBit Reg.TMB_IRQ 5).wakeEvent .rtc else s

/-- The end of a second (R50). -/
def State.rtcSecond (s : State) : State := s.rtcMove ((s.tickRate : Int) - (s.f Reg.RTC_SUB 0 15 : Nat))

/-- The trim of every 2^20 ticks (R51). -/
def State.rtcTrim (s : State) : State :=
  if 1048576 ≤ s.tmb.trimTicks then
    ({ s with tmb := { s.tmb with trimTicks := s.tmb.trimTicks - 1048576 } }).rtcMove (signed 8 (s.f Reg.RTC_CAL 0 8))
  else s

/-- A read of RTC_SUB latches RTC_SEC (R50). -/
def State.rtcSubRead (s : State) : State := s.wr Reg.RTC_SNAP (s.rd Reg.RTC_SEC)

/-- A write of RTC_SEC (R50); it raises no alarm (R52). -/
def State.writeRtcSec (s : State) (v : Word) : State := (s.wr Reg.RTC_SEC v).setF Reg.RTC_SUB 0 15 0

/-! ## System timer (R189, R190) -/

/-- STM_CNT. -/
def State.stmCnt (s : State) : Nat := (s.rd Reg.STM_CNTHI).toNat * 0x100000000 + (s.rd Reg.STM_CNTLO).toNat

/-- The comparator's value. -/
def State.stmCmp (s : State) : Nat := (s.rd Reg.STM_CMPHI).toNat * 0x100000000 + (s.rd Reg.STM_CMPLO).toNat

/-- An armed comparator that is reached sets MATCH and disarms (R190). -/
def State.stmCheck (s : State) : State :=
  if s.bit Reg.STM_STAT 1 && decide (s.stmCmp ≤ s.stmCnt) then (s.setBit Reg.STM_STAT 0).clrBit Reg.STM_STAT 1 else s

/-- The count runs: EN, RUN, DOZE or NAP with HFO running, and not stopped by a debug halt (R189, R563). -/
def State.stmRuns (s : State) : Bool :=
  s.bit Reg.STM_CTL 0 && !s.deep && s.powered && !(s.core.halted && s.bit Reg.DBG_CTL 2)

/-- The count advances by `us` microseconds. -/
def State.stmAdvance (s : State) (us : Nat) : State :=
  if s.stmRuns then
    let n := s.stmCnt + us
    ((s.wr Reg.STM_CNTLO (word n)).wr Reg.STM_CNTHI (word (n / 0x100000000))).stmCheck
  else s

/-- A read of STM_CNTLO latches STM_CNTHI (R190). -/
def State.stmLatch (s : State) : State := s.wr Reg.STM_CNTHS (s.rd Reg.STM_CNTHI)

/-- A write of STM_CMPHI arms the comparator (R190). -/
def State.writeCmpHi (s : State) (v : Word) : State := ((s.wr Reg.STM_CMPHI v).setBit Reg.STM_STAT 1).stmCheck

/-! ## Ticks -/

/-- `n` ticks of the tick clock: the accumulator, the counters of the tracker, the RTC, the trim count, the LXO edge count
on LRC, and the system timer. In OFF there is no tick. -/
def State.advanceTicks (s : State) (n : Nat) : State :=
  if s.hrv.pstate = .off then s
  else
    let t := s.tmb
    let us := t.usFrac + n * (if s.onLrc then 16000 else 15625)
    let good := if t.lxoRuns && s.onLrc then min 128000 (t.lxoGood + 128 * n) else t.lxoGood
    let t := { t with
      ticks := t.ticks + n, acc := t.acc + n * s.tickInc, cycTicks := t.cycTicks + n, sinceCross := t.sinceCross + n,
      missLeft := t.missLeft - n, trimTicks := t.trimTicks + n, lxoGood := good, usFrac := us % 512 }
    let s1 := { s with tmb := t, lnk := { s.lnk with rate := s.lnk.rate - n } }
    (s1.rtcMove n).stmAdvance (us / 512)

/-! ## The tracker (R29 to R34) -/

/-- A miss is counted (R33). -/
def State.miss (s : State) : State :=
  let s := { s with tmb := { s.tmb with missRun := s.tmb.missRun + 1 } }
  if s.tmb.missRun ≥ s.f Reg.TMB_CFG 24 3 + 1 then s.goFree true else s

/-- The state by which the tracker moves: that of MSTATE, but FREE from the entry to SHELF on, although MSTATE shows it from the
next boundary (R34). -/
def State.trackState (s : State) : Nat := if s.tmb.fromShelf then 0 else s.mstate

/-- The miss timer expired (R33): a miss in ACQUIRE and LOCKED, and the next one after N_last ticks. -/
def State.missTimer (s : State) : State :=
  if s.tmb.missLeft = 0 ∧ (s.trackState = 1 ∨ s.trackState = 2) then
    ({ s with tmb := { s.tmb with missLeft := s.tmb.nLast } }).miss
  else s

/-- The state changes of Table 02.2 at a crossing that gave a valid interval. Valid intervals seen in FREE while MSEN = 0 count
toward the four that leave it once MSEN = 1 (DESIGN CHOICE, log 58: the manual does not say). -/
def State.validInterval (s : State) (ph : Int) : State :=
  let win : Int := s.f Reg.TMB_TRK 8 8
  let s := { s with tmb := { s.tmb with missRun := 0 } }
  match s.trackState with
  | 0 =>
    let s := { s with tmb := { s.tmb with validRun := s.tmb.validRun + 1 } }
    if s.tmb.validRun ≥ 4 ∧ s.bit Reg.TMB_CFG 20 = true then
      { (s.setF Reg.TMB_STAT 8 2 1) with tmb := { s.tmb with validRun := 0, missRun := 0, lockRun := 0, unlockRun := 0 } }
    else s
  | 1 =>
    let s := { s with tmb := { s.tmb with lockRun := if ph.natAbs ≤ win.toNat then s.tmb.lockRun + 1 else 0 } }
    if s.tmb.lockRun ≥ 8 then
      let s1 := (s.setF Reg.TMB_STAT 8 2 2).setBit Reg.TMB_IRQ 4
      { s1 with tmb := { s.tmb with lockRun := 0, unlockRun := 0 } }
    else s
  | _ =>
    let s := { s with tmb := { s.tmb with unlockRun := if ph.natAbs > win.toNat then s.tmb.unlockRun + 1 else 0 } }
    if s.tmb.unlockRun ≥ 4 then
      { (s.setF Reg.TMB_STAT 8 2 1) with tmb := { s.tmb with lockRun := 0, unlockRun := 0 } }
    else s

/-- The target of R30, or of R31 on LRC. -/
def incTarget (lrc : Bool) (e n : Int) : Int :=
  if lrc then truncDiv 16384000 n - truncDiv (e * 125) (1024 * n) else truncDiv 16777216 n - truncDiv e (8 * n)

/-- A rising MSENSE crossing (R29 to R33). In SHELF the comparator is unpowered (R34). -/
def State.crossing (s : State) : State :=
  let t := s.tmb
  let gate := (if s.onLrc then 8192000 else 8388608) / s.curInc
  if s.hrv.pstate = .off ∨ s.pwr.level = .shelf ∨ (t.crossSeen = true ∧ t.sinceCross < gate) then s
  else
    let n := t.sinceCross
    let a := t.acc % 16777216
    let e : Int := if a < 8388608 then a else (a : Int) - 16777216
    let lo := if s.onLrc then 484 else 496
    let hi := if s.onLrc then 712 else 729
    let measured := t.crossSeen && !t.intervalSwitched
    let s0 := { s with tmb := { t with sinceCross := 0, crossSeen := true, intervalSwitched := false } }
    if measured then
      if lo ≤ n ∧ n ≤ hi then
        let ph := clampInt (-32768) 32767 (truncDiv (e * n) 16777216)
        let s1 := (s0.setF Reg.TMB_LAST 16 16 (unsign 16 ph)).validInterval ph
        let tgt := if s1.mstate = 0 then none else some (incTarget s.onLrc e n)
        { s1 with tmb := { s1.tmb with nLast := n, missLeft := (3 * n + 1) / 2, target := tgt } }
      else
        let s1 := { s0 with tmb := { s0.tmb with missLeft := (3 * t.nLast + 1) / 2 } }
        if s1.trackState = 0 then { s1 with tmb := { s1.tmb with validRun := 0 } } else s1.miss
    else { s0 with tmb := { s0.tmb with missLeft := (3 * t.nLast + 1) / 2 } }

/-! ## The tick clock (R43 to R45) -/

/-- Move the tick clock; the miss timer restarts with N_last scaled (R31). -/
def State.switchClock (s : State) (lrc : Bool) : State :=
  let n := if lrc then s.tmb.nLast * 125 / 128 else s.tmb.nLast * 128 / 125
  let s := s.putBit Reg.TMB_STAT 12 lrc
  { s with tmb := { s.tmb with nLast := n, missLeft := (3 * n + 1) / 2, intervalSwitched := true } }

/-- An LXO stop is detected (R45): of an LXO that ran, or of one that has given no edge since the cold start. A stop that
LXOFAIL shows already is no new one. -/
def State.lxoStop (s : State) : State :=
  if s.tmb.lxoRuns || !s.bit Reg.TMB_STAT 13 then
    let s := ({ s with tmb := { s.tmb with lxoRuns := false, lxoWhole := false, lxoGood := 0 } }).setBit Reg.TMB_STAT 13
    let s := s.setBit Reg.TMB_IRQ 6
    if s.onLrc then s
    else
      let s := s.switchClock true
      { s with tmb := { s.tmb with cycleSwitched := true } }
  else s

/-- LXO starts or resumes (R43). -/
def State.lxoRestart (s : State) : State :=
  ({ s with tmb := { s.tmb with lxoRuns := true, lxoGood := 0 } }).clrBit Reg.TMB_STAT 13

/-! ## The Breath watchdog (R38 to R42) -/

/-- A counting write (R38, R39). -/
def State.brtDone (s : State) : State :=
  let s := { s with tmb := { s.tmb with brtDone := true } }
  if s.tmb.escalated then
    (({ s with tmb := { s.tmb with escalated := false } }).setF Reg.BRT_CFG 8 4 0).safCond
  else s

/-- The watchdog closes the Breath that ends (R39). The escalation is signalled at each boundary at which OVRCONS comes to
ESCLIM + 1, again where a new activation or a raised ESCLIM let it come there anew. -/
def State.wdClose (s : State) : State :=
  if s.wdActive && s.tmb.brtWhole then
    if s.tmb.brtDone then s.setF Reg.BRT_CFG 8 4 0
    else
      let lim := s.f Reg.BRT_CFG 1 2 + 1
      let cur := s.f Reg.BRT_CFG 8 4
      let cons := if lim ≤ cur then cur else cur + 1
      let s := ((s.setF Reg.BRT_CFG 8 4 cons).incSat Reg.BRT_CFG 16 16).setBit Reg.TMB_IRQ 2
      if lim ≤ cons ∧ (cur < lim ∨ s.tmb.escalated = false) then
        ({ s with tmb := { s.tmb with escalated := true } }).safReport (faultWord 2 0x10 cons) 0x7FF
      else s
  else s

/-- A Breath opens (R39, R40), and with it the window of the clock monitors (R46). -/
def State.wdOpen (s : State) : State :=
  { s with tmb := { s.tmb with brtDone := false, brtWhole := s.wdActive, lxoWhole := s.tmb.lxoRuns && !s.onLrc } }

/-- A write of BRT_CFG: the RWL fields, the watchdog, and the outputs that WDEN gates (R40 to R42, R414). -/
def State.writeBrtCfg (s : State) (v : Word) : State := ((s.stdWrite Reg.BRT_CFG v).wdSync s).safOut

/-! ## Breath and Cycle boundaries -/

/-- BREATHDIV as a number (TMB_CFG). -/
def breathDivOf (c : Nat) : Nat :=
  match c with
  | 0 => 8
  | 1 => 16
  | 2 => 20
  | _ => 32

/-- The increment of the new Cycle (R25, R26, R30, R34, R43, R44). -/
def State.loadIncrement (s : State) : State :=
  let nom := clampInc (s.f Reg.TMB_CFG 0 16 : Nat)
  let tgt : Option Int := if s.mstate = 0 then some (nom : Int) else s.tmb.target
  let s := { s with tmb := { s.tmb with target := none } }
  let run := if s.tmb.fromShelf then s.tmb.validRun else 0
  let s :=
    if s.mstate ≠ 0 ∧ (s.tmb.freeDue = true ∨ s.bit Reg.TMB_CFG 20 = false) then
      let s := s.goFree false
      { s with tmb := { s.tmb with validRun := run } }
    else s
  let s := { s with tmb := { s.tmb with freeDue := false, fromShelf := false } }
  let s := if s.onLrc && s.tmb.lxoRuns && decide (s.tmb.lxoGood ≥ 128000) then s.switchClock false else s
  match tgt with
  | none => s
  | some g =>
    let slew : Int := max 1 (s.f Reg.TMB_TRK 0 8 : Nat)
    let cur : Int := s.curInc
    s.setF Reg.TMB_STAT 16 16 (clampInc (cur + clampInt (-slew) slew (g - cur)))

/-- The accumulator wraps and the new Cycle starts (R25, R27): LEN, the accumulator, the increment, BREATHDIV and the
Cycle count. -/
def State.startCycle (s : State) : State :=
  let t := s.tmb
  let s := s.setF Reg.TMB_LAST 0 16 t.cycTicks
  let s := { s with tmb := { t with acc := t.acc - 16777216, cycTicks := 0, cycleSwitched := false } }
  let s := s.loadIncrement
  let s := { s with tmb := { s.tmb with breathDiv := breathDivOf (s.f Reg.TMB_CFG 16 2) } }
  (s.wr Reg.TMB_CYCCNT (s.rd Reg.TMB_CYCCNT + 1)).setF Reg.TMB_STAT 0 5 0

/-! ## Clock monitors (R46, Table 02.5) -/

/-- HFO runs: SYS is ON in RUN, DOZE or NAP. -/
def State.hfoRuns (s : State) : Bool := s.powered && s.domOn .sys && !s.deep

/-- The HFO check of a window of `w` periods at `rate` Hz. A check that goes on failing is reported once, as long as its
condition holds (DESIGN CHOICE, log 58; the same for the LRC check). -/
def State.hfoCheck (s : State) (w hfo rate : Nat) : State :=
  let exp : Int := w * s.f Reg.CLK_STAT 8 7 * 1000000
  let bad := decide (((hfo * rate : Nat) - exp).natAbs * 50 > exp.toNat)
  let s := s.putBit Reg.CLK_STAT 3 bad
  let was := s.tmb.hfoFail
  let s := { s with tmb := { s.tmb with hfoFail := bad } }
  if bad && !was then s.safReport (faultWord 2 1 0) 0x7FF else s.safCond

/-- The LRC check of a window of `w` LXO periods. -/
def State.lrcCheck (s : State) (w lrc : Nat) : State :=
  let exp : Int := w * 32000
  if ((lrc * 32768 : Nat) - exp).natAbs * 8 > exp.toNat then
    let s := { s with tmb := { s.tmb with lrcRun := s.tmb.lrcRun + 1 } }
    if s.tmb.lrcRun ≥ 2 ∧ s.tmb.lrcFail = false then
      ({ s with tmb := { s.tmb with lrcFail := true } }).safReport (faultWord 2 2 0) 0x7FF
    else s
  else ({ s with tmb := { s.tmb with lrcRun := 0, lrcFail := false } }).safCond

/-- A monitor window ends (R46), at the end of its Breath and before the boundary. It is counted on LXO in a Breath during which
LXO was the tick clock throughout, else on LRC: a window of the other kind does not run. -/
def State.monitorWindow (s : State) (w hfo lrc : Nat) (onLxo : Bool) : State :=
  if s.hfoRuns && decide (0 < w) && decide (onLxo = s.tmb.lxoWhole) then
    let s := (s.setF Reg.CLK_MON 16 16 w).setF Reg.CLK_MON 0 16 (if onLxo then lrc else w)
    let s := if onLxo then s.lrcCheck w lrc else s
    let busy := s.tmb.busySeen || s.bit Reg.CLK_STAT 0
    let s := if busy then s else s.hfoCheck w hfo (if onLxo then 32768 else 32000)
    { s with tmb := { s.tmb with busySeen := s.bit Reg.CLK_STAT 0 } }
  else s

/-! ## Operating points (R47 to R49) -/

/-- A write of CLK_OP (R47, R48). CLK_STAT.LOCKED keeps its 1 over a change, through which the core runs at the old frequency
until HFO has locked at the new one (DESIGN CHOICE, log 58: the manual gives the bit no other value). -/
def State.writeClkOp (s : State) (v : Word) : State :=
  let mhz := fld v 0 7
  if s.bit Reg.CLK_STAT 0 || decide (mhz < 4) || decide (96 < mhz) || (!(wbit v 8) && decide (32 < mhz)) then
    s.setBit Reg.CLK_STAT 2
  else
    let s := (s.stdWrite Reg.CLK_OP v).setBit Reg.CLK_STAT 0
    { s with tmb := { s.tmb with opTarget := s.rd Reg.CLK_OP, busySeen := true } }

/-- HFO runs at the operating point that `op` asks for, and no change is in progress; the prescaler of STM reloads with the new
divisor (R48, R189). -/
def State.atOp (s : State) (op : Word) : State :=
  let s := ((s.putBit Reg.CLK_STAT 16 (wbit op 8)).setF Reg.CLK_STAT 8 7 (fld op 0 7)).clrBit Reg.CLK_STAT 0
  { s with tmb := { s.tmb with usFrac := 0 } }

/-- The change of the operating point ends (R48). While SYS is not ON, HFO is stopped. -/
def State.opChangeDone (s : State) : State := if s.bit Reg.CLK_STAT 0 && s.domOn .sys then s.atOp s.tmb.opTarget else s

/-- HFO restarts at the operating point held in CLK_OP (R104), which a change in progress at the entry had asked for. -/
def State.hfoRestart (s : State) : State := if s.bit Reg.CLK_STAT 0 then s.atOp (s.rd Reg.CLK_OP) else s

end Sys2Proof.Machine
end

