-- ==== Sys2Proof/Machine/Ledger.lean ====
section
/-!
DEFINITION. The panel ledger (R464 to R469), what a row slot and a catch-up add to it (R459 to R461, R465, R466), and the stop
of the VPANEL boost, which cuts the slot in progress (R468, R476). `pnl.slot` is the slot in progress, 36 after slot 35.
-/
namespace Sys2Proof.Machine

/-- PNL_IRQ bits are set. -/
def State.pnlIrq (s : State) (m : Word) : State := s.orReg Reg.PNL_IRQ m

/-- A write is ignored with REJ. -/
def State.pnlRej (s : State) : State := s.setBit Reg.PNL_STAT 3

/-- PNL_STAT.RUN. -/
def State.pnlRun (s : State) : Bool := s.bit Reg.PNL_STAT 0

/-- The slot timing runs (R438). The panel enable holds it for the frame that RUN = 1 completes (R470; DEDUCED, log 58). -/
def State.slotTiming (s : State) : Bool :=
  s.powered && s.domOn .hmi && !s.deep && (s.bit Reg.TCH_CTL 0 || s.bit Reg.PNL_CTL 0 || s.pnlRun)

/-! ## The ledger (R464 to R469) -/

/-- The number of the ledger RAM among the memories with undefined content. -/
def memLedger : Nat := 19

/-- The entry of pixel `n`; undefined after a COLD reset (R469). -/
def State.pixel (s : State) (n : Nat) : Pixel :=
  match alGet s.pnl.ledger n with
  | some p => p
  | none =>
    match s.pnl.undef with
    | none => ⟨0, 0, 0⟩
    | some seed =>
      let b (i k : Nat) : Nat := numLE ((List.range k).map fun j => Config.coldByte seed memLedger (8 * n + i + j))
      ⟨b 0 3, b 3 3 % 2 ^ 20, signed 16 (b 6 2)⟩

/-- Set the entry of pixel `n`. -/
def State.setPixel (s : State) (n : Nat) (p : Pixel) : State :=
  let l :=
    match s.pnl.undef with
    | none => alSet ⟨0, 0, 0⟩ s.pnl.ledger n p
    | some _ => alInsert (alDel s.pnl.ledger n) n p
  { s with pnl := { s.pnl with ledger := l } }

/-- A balance is written: it saturates with LSAT, and MAXBAL follows (R467). -/
def State.setBal (s : State) (n : Nat) (b : Int) : State :=
  let c := clampInt (-32768) 32767 b
  let s := if c = b then s else s.pnlIrq 8
  let s := s.setPixel n { s.pixel n with bal := c }
  s.setF Reg.PNL_LSTAT 0 16 (max (s.f Reg.PNL_LSTAT 0 16) c.natAbs)

/-- A forward charge is added: residue and FWD, which saturates with FWDSAT, where the residue stops (R465, R467). -/
def State.addCharge (s : State) (n q : Nat) : State :=
  let p := s.pixel n
  if p.fwd = 0xFFFFFF then s
  else
    let t := p.res + q
    let f := p.fwd + t / 2 ^ 20
    if f ≥ 0xFFFFFF then (s.setPixel n { p with fwd := 0xFFFFFF, res := p.res }).pnlIrq 0x10
    else s.setPixel n { p with fwd := f, res := t % 2 ^ 20 }

/-- The ledger window as read (R464). -/
def State.ledgerRead (s : State) (n : Nat) : Word :=
  let p := s.pixel n
  if s.bit Reg.PNL_LCTL 8 then word (unsign 32 p.bal) else word p.fwd

/-- A write through the ledger window (R469); a balance that it writes counts in MAXBAL (R467). -/
def State.ledgerWrite (s : State) (n : Nat) (v : Word) : State :=
  if s.pnlRun then s.pnlRej
  else
    let p := s.pixel n
    if s.bit Reg.PNL_LCTL 8 then s.setBal n (signed 16 (fld v 0 16)) else s.setPixel n { p with fwd := fld v 0 24, res := 0 }

/-- A write of PNL_LCTL (R469). INIT while RUN = 1 is refused (DEDUCED, log 27). -/
def State.writeLctl (s : State) (v : Word) : State :=
  let s := s.stdWrite Reg.PNL_LCTL v
  let s := if wbit v 0 then (if s.pnlRun then s.pnlRej else s.setBit Reg.PNL_LSTAT 30) else s
  if wbit v 1 then s.setBit Reg.PNL_LSTAT 31 else s

/-- LEDGER_INIT_DONE: every entry holds 0 and LVALID is set (R469). -/
def State.ledgerInitDone (s : State) : State :=
  if s.powered && s.domOn .hmi && s.bit Reg.PNL_LSTAT 30 then
    let s := { s with pnl := { s.pnl with ledger := [], undef := none } }
    (s.clrBit Reg.PNL_LSTAT 30).setBit Reg.PNL_LSTAT 31
  else s

/-- A read of PNL_LSTAT clears MAXBAL (R467). -/
def State.lstatRead (s : State) : State := s.setF Reg.PNL_LSTAT 0 16 0

/-! ## Rows (R459, R461, R462, R465, R468) -/

/-- The row of a slot; quiet slots have none (R458). -/
def slotRow (k : Nat) : Option Nat := if k % 9 = 8 ∨ 36 ≤ k then none else some (k - k / 9)

/-- The current of a pixel in µA (R461). -/
def State.pixelCurrent (s : State) (fwd : Nat) : Nat :=
  min 255 (fld s.pnl.drv 0 8 * s.f (Reg.PNL_WEAR (fwd / 2 ^ 19)) 0 16 / 4096)

/-- VP of R465. -/
def State.panelVp (s : State) : Nat := fld s.pnl.vp 0 8

/-- The dwell of a pixel driven at grey level `g` (R465). -/
def State.pixelDwell (s : State) (n g : Nat) : Nat :=
  let p := s.pixel n
  let d : Int := (((g * s.pixelCurrent p.fwd * fld s.pnl.dwk 0 16 + 2 ^ 20 - 1) / 2 ^ 20 : Nat) : Int)
  let d := if p.bal < 0 then d - (((-p.bal).toNat / s.panelVp : Nat) : Int) else d
  (clampInt 0 16 d).toNat

/-- One pixel of a row slot that has run `ticks` of its 32 ticks (R465, R468). -/
def State.rowPixel (s : State) (n g ticks : Nat) : State :=
  if g = 0 then s
  else
    let p := s.pixel n
    let i := s.pixelCurrent p.fwd
    let f := min g ticks
    let d := min (s.pixelDwell n g) (ticks - 15)
    let s := (s.addCharge n (i * f)).setBal n (p.bal + ((f * fld s.pnl.drv 8 8 : Nat) : Int))
    if d = 0 then s else s.setBal n ((s.pixel n).bal - ((d * s.panelVp : Nat) : Int))

/-- The grey level of column `c` in a fetched row (R462). -/
def rowGrey (ws : List Word) (c : Nat) : Nat := fld (ws.getD (c / 8) 0) (4 * (c % 8)) 4

/-- The row slot in progress drives row `r` for its first `ticks` ticks. A row that was not fetched is dark (R462). -/
def State.driveRow (s : State) (r ticks : Nat) : State :=
  match s.pnl.rowBuf with
  | none => s
  | some ws => (List.range 64).foldl (fun s c => s.rowPixel (64 * r + c) (rowGrey ws c) ticks) s

/-! ## Quiet slots and the catch-up (R460, R466) -/

/-- CU of R460. -/
def State.catchupTicks (s : State) : Nat := min 16 ((s.pnl.s - s.pnl.window) / max 1 s.pnl.k)

/-- The catch-up dwell of a pixel, of at most `cu` ticks (R466). -/
def State.catchupDwell (s : State) (cu n : Nat) : Nat :=
  min cu (((s.pixel n).bal.toNat + s.panelVp - 1) / max 1 s.panelVp)

/-- One pixel of the catch-up row (R466). -/
def State.catchupPixel (s : State) (cu n : Nat) : State :=
  let b := (s.pixel n).bal
  if b ≤ 0 then s
  else
    let d := s.catchupDwell cu n
    let s := if d = 0 then s else s.setBal n (b - ((d * s.panelVp : Nat) : Int))
    if (s.pixel n).bal > 0 then s.pnlIrq 0x100 else s

/-- The catch-up of row CUROW with `cu` ticks. -/
def State.catchupRow (s : State) (cu : Nat) : State :=
  let s := (List.range 64).foldl (fun s c => s.catchupPixel cu (64 * s.f Reg.PNL_STAT 8 5 + c)) s
  if s.catchupTicks = 0 then s.pnlIrq 0x100 else s

/-! ## The slot in progress is cut (R468, R476) -/

/-- What the slot in progress has applied when it is cut after `ticks` of its 32 ticks, or of those of its catch-up (R468). -/
def State.cutSlot (s : State) (ticks : Nat) : State :=
  if s.pnlRun && s.slotTiming && decide (ticks ≠ 0) then
    if s.pnl.quiet.isSome then s.catchupRow (min ticks s.catchupTicks)
    else
      match slotRow s.pnl.slot with
      | some r => s.driveRow r ticks
      | none => s
  else s

/-- READY and RUN clear at once, the boost is off, and what is left of the slot in progress is dark (R476). -/
def State.boostOff (s : State) : State :=
  let s := ({ s with pnl := { s.pnl with boost := .off, rowBuf := none, nextBuf := none } }).clrBit Reg.PNL_STAT 2
  s.clrBit Reg.PNL_STAT 0

/-- The boost stops for another reason than a short (R475, R476): the slot in progress is cut at a tick that no input gives
(log 2). -/
def State.boostStop (s : State) : State :=
  (if s.pnlRun && s.slotTiming then (s.cutSlot (s.freeNat % 33)).tickFree else s).boostOff

/-- The boost is on: ramping or running. -/
def State.boostOn (s : State) : Bool := decide (s.pnl.boost = .ramp) || decide (s.pnl.boost = .running)

end Sys2Proof.Machine
end

