-- ==== Sys2Proof/Machine/Hrv.lean ====
section
/-!
DEFINITION. The power path (chapter 03): source validity, selection, the hand-over machine, the harvester and the brown-out
shutdown.
-/
namespace Sys2Proof.Machine

/-! ## Events -/

/-- An HRV_IRQ event; an enabled one is a wake source (Table 04.4). -/
def State.hrvEvent (s : State) (i : Nat) : State :=
  let s := s.setBit Reg.HRV_IRQ i
  if s.bit Reg.HRV_IEN i then s.wakeEvent .hrv else s

/-! ## Selection (R60, R61) -/

/-- VBEL has been above BEL_OK for 1 s (R60). -/
def State.belOkSecond (s : State) : Bool := s.hrv.cOk.raw && decide (1000000 ≤ s.hrv.cOk.held)

/-- Bellows eligibility, the part running (R60). -/
def State.belElig (s : State) : Bool :=
  if !s.hrv.mainV && !s.hrv.batV then s.hrv.belCrit
  else
    match s.hrv.src with
    | .bellows => s.hrv.belLow
    | .bat => s.belOkSecond
    | .main => s.hrv.belOk

/-- The target of R61, given which sources are valid or eligible. -/
def targetOf3 (main bel bat : Bool) : Option Source :=
  if main then some .main else if bel then some .bellows else if bat then some .bat else none

/-- The target source (R61). -/
def State.srcTarget (s : State) : Option Source := targetOf3 s.hrv.mainV s.belElig s.hrv.batV

/-- A condition that has held for 1 ms: validity and eligibility on leaving OFF (Table 03.1, R60). -/
def Cmp.forMs (c : Cmp) : Bool := c.raw && decide (1000 ≤ c.held)

/-- The target on leaving OFF (R61, R79). -/
def State.offTarget (s : State) : Option Source := targetOf3 s.hrv.cMain.forMs s.hrv.cOk.forMs s.hrv.cBat.forMs

/-- PSTATE as HRV_STAT and the shutdown record code it (Table 03.2). -/
def pstateCode (p : PState) (x : Source) : Nat :=
  match p with
  | .on => srcCode x
  | .handover => 3
  | .settle => 4
  | .shutdown => 5
  | .off => 0

/-! ## The NVM array, in 64-bit words -/

/-- A 64-bit word of the NVM array as it stands. -/
def State.nvm64 (s : State) (a : Nat) : Nat := numLE (s.nvm.bytes memNvm a 8)

/-- A 32-bit word of the NVM array. -/
def State.nvm32 (s : State) (a : Nat) : Nat := numLE (s.nvm.bytes memNvm a 4)

/-- Write one 64-bit word of the NVM array, whole (R74). -/
def State.setNvm64 (s : State) (a v : Nat) : State := { s with nvm := s.nvm.setBytes a (bytesLE 8 v) }

/-- A low word with its NOT in the high word. -/
def notWord (lo : Nat) : Nat := lo % 4294967296 + (4294967295 - lo % 4294967296) * 4294967296

/-- The high word is the NOT of the low word. -/
def notOk (v : Nat) : Bool := decide (v / 4294967296 = 4294967295 - v % 4294967296)

/-- INTENT of the life-cycle journal is pending: valid under R153. -/
def State.intentPending (s : State) : Bool := notOk (s.nvm64 0x3F0108) && decide (s.nvm64 0x3F0108 % 4294967296 / 65536 = 0x1A7E)

/-! ## The life-cycle journal (R150) -/

/-- The code of a STATE. -/
def codeOfState (n : Nat) : Nat :=
  match n with
  | 0 => 0
  | 1 => 1
  | 2 => 3
  | 3 => 7
  | _ => 31

/-- The low word of INTENT for a transition. -/
def intentLow (cur tgt : Nat) : Nat := 0x1A7E0000 + cur % 32 * 256 + tgt % 32

/-- Key destruction (R152). -/
def State.destroyKeys (s : State) : State := { s with lcs := { s.lcs with keys := List.replicate 8 [] } }

/-- Step `i` of the journal of the transition in progress (R150): INTENT, STATE, COMMIT, key destruction for RETIRED, INTENT
cleared, COMMIT cleared. -/
def State.journalStep (s : State) (i : Nat) : State :=
  let tgt := codeOfState s.lcs.target
  let lo := intentLow (s.f Reg.LCS_STATE 0 5) tgt
  match i with
  | 1 => s.setNvm64 0x3F0108 (notWord lo)
  | 2 => s.setNvm64 0x3F0100 (notWord tgt)
  | 3 => s.setNvm64 0x3F0110 (lo + 0xC3C3 * 4294967296)
  | 4 => if s.lcs.target = 4 then s.destroyKeys else s
  | 5 => s.setNvm64 0x3F0108 0
  | 6 => s.setNvm64 0x3F0110 0
  | _ => s

/-- The journal goes on until `k` of its steps are done. -/
def State.journalTo (s : State) (k : Nat) : State :=
  let s := [1, 2, 3, 4, 5, 6].foldl (fun s i => if s.lcs.journalDone < i ∧ i ≤ k then s.journalStep i else s) s
  { s with lcs := { s.lcs with journalDone := max k s.lcs.journalDone } }

/-- How far the NVM writes of the life-cycle block have come where SHUTDOWN cuts them: the word in progress completes and no
further one is issued, but the manual fixes no point in time (R74, R150; a free value, log 2). -/
def State.lcsCut (s : State) : State :=
  if s.lcs.journal then (s.journalTo (s.lcs.journalDone + s.freeNat % (7 - s.lcs.journalDone))).tickFree
  else if s.lcs.chalWrite then
    (if s.freeBool then s.setNvm64 0x3F0120 ((s.nvm64 0x3F0120 + 1) % 2 ^ 64) else s).tickFree
  else s

/-! ## Brown-out shutdown (R73 to R76) -/

/-- Where slot `n` of the shutdown record ring lies (R75). -/
def recordAddr (n : Nat) : Nat := 0x3FF000 + 64 * (n % 64)

/-- The 64 bytes of the shutdown record (Table 03.5); `p` is the state in which no target arose. -/
def State.shutdownRecord (s : State) (p : PState) : List Byte :=
  let mid := decide (p = .handover) || decide (p = .settle)
  let body := bytesLE 4 (0x5D0A0100 + s.f Reg.HRV_SDSLOT 8 8) ++
    bytesLE 4 (pstateCode p s.hrv.src + 16 * srcCode s.hrv.src + 64 * b2n mid + 256 * levelCode s.pwr.level) ++
    bytesLE 4 (s.rd Reg.TMB_CYCCNT).toNat ++ bytesLE 4 (s.rd Reg.RTC_SEC).toNat ++
    bytesLE 4 (s.rd Reg.HRV_LEVEL).toNat ++ bytesLE 4 (s.rd Reg.SAF_OUT).toNat ++
    bytesLE 4 (s.rd Reg.SAF_LASTFW).toNat ++ bytesLE 4 (s.f Reg.LCS_STATE 0 5 + 256 * b2n s.intentPending) ++
    List.replicate 20 0
  body ++ bytesLE 4 (crc32 body) ++ List.replicate 8 0

/-- Commit one NVM word write to the array; a byte given as none keeps its content (R247). -/
def State.nvmCommit (s : State) (w : NvmWrite) : State :=
  { s with nvm := (w.bytes.zipIdx).foldl (fun m p => match p.1 with
      | some b => m.set (w.addr + p.2) b
      | none => m) s.nvm }

/-- A hand-over reverts: the new switch opens (R63). -/
def State.revert (s : State) : State :=
  let s := (s.incSat Reg.HRV_HOCNT 16 16).hrvEvent 1
  { s with hrv := { s.hrv with pstate := .settle, completing := false } }

/-- Entry to SHUTDOWN with what it does to the NVM, the outputs and the link; step 3 is skipped when SYS has not been
powered since the last cold start (R73 to R75, Table 03.4). The word in progress at the NVM controller completes; those
behind it are discarded. -/
def State.shutdown (s : State) : State :=
  let p := s.hrv.pstate
  let s := if p = .handover then s.revert else s
  let s := match s.bus.nvmQ with
    | w :: _ => s.nvmCommit w
    | [] => s
  let s := s.lcsCut
  let rec64 := s.shutdownRecord p
  let slot := s.f Reg.HRV_SDSLOT 0 6
  let s := s.boostStop
  let s := { s with
    hrv := { s.hrv with pstate := .shutdown, regPoint := none, boostOn := false, resumeDue := false, completing := false,
                        recordSlot := if s.pwr.sysPowered then some slot else none, fresh := s.pwr.sysPowered }
    pwr := { s.pwr with entry := none, waking := false, stagger := [], pdown := [] }
    bus := { s.bus with nvmQ := [], held := [] }
    lnk := { s.lnk with owner := .nobody }
    core := { s.core with stopped := true, buf := [], stalled := none } }
  let s := if s.pwr.sysPowered then { s with nvm := s.nvm.setBytes (recordAddr slot) rec64 } else s
  s.safOut.cmpRestart

/-- The inputs have kept their levels for 10 µs before step 4: a source that is back, by the raw comparators, makes the resume
word due (R76). -/
def State.sourceReturn (s : State) : State :=
  if s.hrv.pstate = .shutdown then
    let s := s.cmpPass 10
    let back (c : Cmp) : Bool := c.raw && decide (10 ≤ c.held)
    let due := s.hrv.resumeDue || back s.hrv.cMain || back s.hrv.cBat || back s.hrv.cOk
    { s with hrv := { s.hrv with resumeDue := due } }
  else s

/-- Steps 4 and 5 of Table 03.4: the resume word if due, every domain reset, OFF. Every register takes its reset value and
the contents of the Store, of Saddle RAM, of the pool metadata and of the ledger are lost (R77, R618). The key slots stay;
one being loaded is left empty (R155). The timers of the supply comparators start from zero (R79). -/
def State.powerOff (s : State) : State :=
  let nvm := match s.hrv.resumeDue, s.hrv.recordSlot with
    | true, some n => s.nvm.setBytes (recordAddr n + 0x38) (bytesLE 4 1 ++ bytesLE 4 0xFFFFFFFE)
    | _, _ => s.nvm
  let seed := s.freeCtr
  let keys := match s.lcs.keyLoad with
    | some (slot, _) => s.lcs.keys.set slot []
    | none => s.lcs.keys
  State.cmpRestart { State.reset with
    pending := s.pending
    freeCtr := s.freeCtr + 1
    nvm := nvm
    pins := s.pins
    hrv := { Hrv.reset with pstate := .off, mainV := false, boostOn := false, fresh := s.hrv.fresh, levels := s.hrv.levels }
    pwr := { Pwr.reset with sysPowered := false }
    lcs := { Lcs.reset with nresetLow := s.lcs.nresetLow, keys := keys }
    store := List.replicate 17 (.blank (.undefined seed))
    saddle := .blank (.undefined seed)
    pool := { Pool.reset with undef := some seed }
    pnl := { Pnl.reset with undef := some seed } }

/-! ## The hand-over machine (R62 to R64) -/

/-- A hand-over starts: the new switch closes, the old one stays closed (R63). -/
def State.startHandover (s : State) (t : Source) : State :=
  { s with hrv := { s.hrv with pstate := .handover, newSrc := t } }

/-- The new source of a hand-over is invalid (R63): the Bellows only below BEL_CRIT. -/
def State.newInvalid (s : State) : Bool :=
  match s.hrv.newSrc with
  | .main => !s.hrv.mainV
  | .bat => !s.hrv.batV
  | .bellows => !s.hrv.belCrit

/-- What the selector does on a comparator sample (R62, R63, R73). -/
def State.selector (s : State) : State :=
  match s.hrv.pstate, s.srcTarget with
  | .off, _ => s
  | .shutdown, _ => s
  | _, none => s.shutdown
  | .on, some t => if t = s.hrv.src then s else s.startHandover t
  | .handover, some _ => if s.newInvalid then s.revert else s
  | .settle, some _ => s

/-- The overlap of 20 µs ends: the old switch opens (R63). -/
def State.overlapEnd (s : State) : State :=
  if s.hrv.pstate = .handover then
    ({ s with hrv := { s.hrv with pstate := .settle, src := s.hrv.newSrc, completing := true } }).selector
  else s

/-- The boost stops when SETTLE ends on BAT with PNLBAT = 0 (R80). -/
def State.panelInhibit (s : State) : State :=
  if s.hrv.src = .bat ∧ s.bit Reg.HRV_CFG 1 = false ∧ s.boostOn = true then s.boostStop.hrvEvent 8 else s

/-- SETTLE ends: HOVER and the count of a completed hand-over, and a fresh evaluation (R63, R64, R20). -/
def State.settleEnd (s : State) : State :=
  if s.hrv.pstate = .settle then
    let done := s.hrv.completing
    let s := if done then (s.incSat Reg.HRV_HOCNT 0 16).hrvEvent 0 else s
    let s := ({ s with hrv := { s.hrv with completing := false } }).panelInhibit
    match s.srcTarget with
    | none => s.shutdown
    | some t =>
      if t = s.hrv.src then
        let s := { s with hrv := { s.hrv with pstate := .on } }
        if done && decide (t = .main) then s.wakeEvent .main else s
      else s.startHandover t
  else s

/-! ## Comparators (R56, R60, HRV_IRQ) -/

/-- The outcomes that the comparators have reached, with their events: Table 03.1 for VMAIN and VBAT; a VBEL comparison after
2 µs, or at the first strobe that shows it (R60). -/
def State.cmpOutcomes (s : State) : State :=
  let h := s.hrv
  let t := if s.strobed then 0 else 2
  let mainV := h.cMain.outcome h.mainV 1000 2
  let batV := h.cBat.outcome h.batV 1000000 2
  let belOk := h.cOk.outcome h.belOk t t
  let belLow := h.cLow.outcome h.belLow t t
  let belCrit := h.cCrit.outcome h.belCrit t t
  let s := { s with hrv := { h with mainV := mainV, batV := batV, belOk := belOk, belLow := belLow, belCrit := belCrit } }
  let s := if mainV = h.mainV then s else s.hrvEvent 2
  let s := if h.batV && !batV then s.hrvEvent 6 else s
  let s := if !h.belOk && belOk then s.hrvEvent 3 else s
  let s := if h.belLow && !belLow then s.hrvEvent 4 else s
  if h.belCrit && !belCrit then s.hrvEvent 5 else s

/-- A sample of the supplies: the outcomes that the time before it has brought, the new levels, and the selection on them
(R56, R57, R62). -/
def State.supplySample (s : State) (x : SupplySample) : State :=
  if s.powered then ((s.cmpPass x.us).cmpOutcomes.setLevels x.now).selector else s

/-! ## Leaving OFF (R79, R84) -/

/-- A sample of the supplies in OFF: once a source is valid under the leaving-OFF column, the switch of the target closes and
its ON state is entered; the cold start follows as staggered steps (R105). HRV_STAT shows the live comparators from then on
(R84). -/
def State.offExit (s : State) (x : SupplySample) (hcold : Bool) : State :=
  if s.hrv.pstate = .off then
    let s := s.cmpPass x.us
    match s.offTarget with
    | none => s.setLevels x.now
    | some t =>
      let h := s.hrv
      let s := { s with
        hrv := { h with pstate := .on, src := t, newSrc := t, mainV := h.cMain.forMs, batV := h.cBat.forMs,
                        belOk := h.cOk.raw, belLow := h.cLow.raw, belCrit := h.cCrit.raw, hcold := hcold,
                        boostOn := h.boostOn || !hcold, recordSlot := none }
        pwr := { s.pwr with level := .run, stagger := staggerSteps, boot := true, cold := true, coldDue := true, stage := .first } }
      let s := [Domain.sys, .store, .core, .link, .meas, .hmi, .sec].foldl (fun s d => s.setDom d .reset) s
      s.setLevels x.now
  else s

/-! ## The harvester (R67 to R72) -/

/-- A sample of MPPSET moves the regulation point (R67, R69). -/
def State.harvestSample (s : State) (mv vhin : Nat) : State :=
  if s.powered && s.bit Reg.HRV_CFG 0 then
    ({ s with hrv := { s.hrv with regPoint := some (clampNat 350 3600 (3 * mv)) } }).setLevels { s.hrv.levels with vhin := vhin }
  else s

/-- VBEL comes to a new level, at which charging stops or resumes (R67, R71). -/
def State.bellowsLevel (s : State) (vbel : Nat) : State := s.setLevels { s.hrv.levels with vbel := vbel }

/-- VBEL comes up to BEL_MAX (R67, R71). -/
def State.bellowsFull (s : State) : State := s.bellowsLevel (max s.hrv.levels.vbel s.belMax)

/-- VBEL falls below BEL_MAX − 50 mV (R67, R71). -/
def State.bellowsResume (s : State) : State := s.bellowsLevel (min s.hrv.levels.vbel (s.belMax - 51))

/-- VBEL reaches 1.8 V and the boost takes over from the cold-start circuit (R70). -/
def State.coldHandoff (s : State) : State := { s with hrv := { s.hrv with boostOn := true } }

/-- The harvester is switching now: VHIN is above the regulation point of the last sample (R67, R69, R72). -/
def State.hrun (s : State) : Bool :=
  s.powered && s.bit Reg.HRV_CFG 0 && s.hrv.boostOn && !s.hrv.belFull &&
    (match s.hrv.regPoint with
     | some p => decide (p < s.hrv.levels.vhin)
     | none => false)

/-- The Bellows charges from VMAIN now (R71): MAIN is the connected source, the one source whose switch is closed (R60). -/
def State.mainCharges (s : State) : Bool :=
  s.powered && decide (s.hrv.src = .main) && s.bit Reg.HRV_CFG 3 && !s.hrv.belFull

/-- The Bellows is being charged now, by the harvester or from VMAIN. -/
def State.belCharges (s : State) : Bool := s.hrun || s.mainCharges

/-! ## Registers -/

/-- BEL_CRIT < BEL_LOW < BEL_OK < BEL_MAX (R58). -/
def thrOk (thr cfg : Word) : Bool :=
  decide (fld thr 0 6 < fld thr 8 6) && decide (fld thr 8 6 < fld thr 16 6) &&
    decide (fld thr 16 6 < belMaxCode (fld cfg 4 2))

/-- A write of HRV_THR: taken whole or ignored with REJ (R58); the comparators measure against it from then on (R59). -/
def State.writeHrvThr (s : State) (v : Word) : State :=
  let new := s.written Reg.HRV_THR v
  if thrOk new (s.rd Reg.HRV_CFG) then (s.wr Reg.HRV_THR new).cmpSee else s.hrvEvent 7

/-- A write of HRV_CFG: refused whole where BELMAX breaks the order (R58); HRVEN = 0 stops the boost, and a start takes
its first sample before it switches (R69, R72). The VPANEL boost stops on BAT once PNLBAT is 0 (R80). -/
def State.writeHrvCfg (s : State) (v : Word) : State :=
  let new := s.written Reg.HRV_CFG v
  if thrOk (s.rd Reg.HRV_THR) new then
    let was := s.bit Reg.HRV_CFG 0
    let s := (s.wr Reg.HRV_CFG new).belMaxSees
    let s := if s.hrv.pstate = .on then s.panelInhibit else s
    if was = s.bit Reg.HRV_CFG 0 then s else { s with hrv := { s.hrv with regPoint := none } }
  else s.hrvEvent 7

/-- HRV_STAT (R84). -/
def State.hrvStat (s : State) : Word :=
  let h := s.hrv
  word (pstateCode h.pstate h.src + 16 * srcCode h.src + 64 * b2n h.mainV + 128 * b2n h.batV + 256 * b2n h.belOk +
    512 * b2n h.belLow + 1024 * b2n h.belCrit + 2048 * b2n h.belFull + 4096 * b2n s.hrun + 8192 * b2n h.hcold)

/-- HRV_LEVEL: each input in 50 mV steps, truncated (R85). -/
def State.hrvLevel (s : State) (x : Levels) : State :=
  let c (mv : Nat) : Nat := min 255 (mv / 50)
  if s.powered then
    (s.wr Reg.HRV_LEVEL (word (c x.vhin * 0x1000000 + c x.vmain * 0x10000 + c x.vbel * 0x100 + c x.vbat))).setLevels x
  else s

end Sys2Proof.Machine
end

