-- ==== Sys2Proof/Machine/Sleep.lean ====
section
/-!
DEFINITION. The domain sequencer and the sleep registers (chapter 04): powering a domain up, PWR_DOMCTL, the wake pins and
the wake-key scanner.
-/
namespace Sys2Proof.Machine

/-- The steps of Table 04.5 that power a domain. -/
def domSteps (d : Domain) : List Nat :=
  match d with
  | .sys => [0]
  | .store => [1, 2, 3, 4]
  | .core => [5]
  | .link => [6]
  | .meas => [7, 8, 9, 10, 11, 12]
  | .hmi => [13]
  | .sec => [14]
  | .saddle => []

/-- The domain that a step powers. -/
def stepDom (k : Nat) : Domain :=
  if k = 0 then .sys
  else if k < 5 then .store
  else if k = 5 then .core
  else if k = 6 then .link
  else if k < 13 then .meas
  else if k = 13 then .hmi
  else .sec

/-- Steps of a domain still to begin. -/
def State.stepsLeft (s : State) (d : Domain) : Bool := s.pwr.stagger.any fun k => decide (stepDom k = d)

/-- A domain is in DOMAIN reset (R122). -/
def State.inDomReset (s : State) (d : Domain) : Bool := decide (domBit d < 4) && s.bit Reg.RST_STAT (domBit d)

/-- A domain is powered as staggered steps, once (R109). -/
def State.powerUp (s : State) (d : Domain) : State :=
  if s.stepsLeft d then s else { s with pwr := { s.pwr with stagger := s.pwr.stagger ++ domSteps d } }

/-- PWR_DOMCTL asks for a domain. -/
def State.domctl (s : State) (d : Domain) : Bool := s.bit Reg.PWR_DOMCTL (domBit d)

/-- A power-down begins: the target port closes (R108 step 1). -/
def State.powerDown (s : State) (d : Domain) : State :=
  let s := s.setDom d .transition
  { s with pwr := { s.pwr with pdown := s.pwr.pdown ++ [d] } }

/-- What a new value of a domain's PWR_DOMCTL bit starts (R108). A domain that is powering up goes down once it is
usable; a step that has not begun is skipped (R105). -/
def State.domctlBit (s : State) (old new : Word) (d : Domain) : State :=
  let was := wbit old (domBit d)
  let now := wbit new (domBit d)
  if was && !now then (if s.domOn d then s.powerDown d else s)
  else if now && !was then
    if s.pwr.pdown.contains d || s.inDomReset d then s
    else if s.dom d = .retention then s.powerUp d
    else s
  else s

/-- A write of PWR_DOMCTL (R108, R110); refused whole while a SOUT output is on and MEAS would go (R112). -/
def State.writeDomctl (s : State) (v : Word) : State :=
  let old := s.rd Reg.PWR_DOMCTL
  let new := s.written Reg.PWR_DOMCTL v
  if wbit old 1 && !(wbit new 1) && decide (s.outputsOn ≠ 0) then s.setBit Reg.PWR_EVT 0
  else softDomains.foldl (fun s d => s.domctlBit old new d) (s.wr Reg.PWR_DOMCTL new)

/-- A request wakes a domain under WAKE_ON_ACCESS (R109, R110); one in power-down is powered after its step 4. -/
def State.wakeDomain (s : State) (d : Domain) : State :=
  let s := s.setBit Reg.PWR_DOMCTL (domBit d)
  if s.pwr.pdown.contains d then s else s.powerUp d

/-- PWR_STAGGER.GAP as it acts (R104). -/
def State.gap (s : State) : Nat := clampNat 2 64 (s.f Reg.PWR_STAGGER 0 7)

/-! ## SDL -/

/-- SDL_STAT. -/
def State.sdlStat (s : State) : Word :=
  word (levelCode s.pwr.level + 16 * b2n (s.bit Reg.SDL_STAT 4) + 32 * b2n (s.bit Reg.HDP_PWR 1) +
    64 * b2n s.pwr.entry.isSome + 128 * b2n s.pwr.waking)

/-- The wake-key scanner starts again, with a new baseline to take (R101). -/
def State.wkRestart (s : State) : State := { s with pwr := { s.pwr with wkScans := [], wkFalls := 0 } }

/-- A write of SDL_WKEY: a scanner that starts, or that moves to another node, takes a new baseline (R101). -/
def State.writeWkey (s : State) (v : Word) : State :=
  let old := s.rd Reg.SDL_WKEY
  let s := s.stdWrite Reg.SDL_WKEY v
  let new := s.rd Reg.SDL_WKEY
  if fld old 0 8 = fld new 0 8 then s else s.wkRestart

/-- The touch engine scans (R455): HMI ON and enabled, in RUN, DOZE or NAP. -/
def State.touchScans (s : State) : Bool := s.powered && s.domOn .hmi && s.bit Reg.TCH_CTL 0 && !s.deep

/-- A count of the wake key (R101): four make the baseline, then DEB + 1 falls in a row of more than THR wake. -/
def State.wakeKeyCount (s : State) (count : Nat) : State :=
  if s.pwr.wkScans.length < 4 then { s with pwr := { s.pwr with wkScans := s.pwr.wkScans ++ [count], wkFalls := 0 } }
  else
    let fall := decide (s.pwr.wkScans.sum > 4 * (count + s.f Reg.SDL_WKEY 8 16))
    let n := if fall then s.pwr.wkFalls + 1 else 0
    let s := { s with pwr := { s.pwr with wkFalls := n } }
    if n ≥ s.f Reg.SDL_WKEY 24 4 + 1 then s.wakeEvent .wkey else s

/-- A wake pin has held its new level for two ticks (R100), which any filter has let pass. A ball that the part drives has no such
edge, and while VIO1 is low none is seen (R590). -/
def State.gpioWakeEdge (s : State) (pin : Fin 4) (d : BoardDrive) : State :=
  let s := (s.boardDrives pin.val d).gpioTake pin.val
  if s.gpioPowered && !(wbit s.gpioDrives pin.val) &&
      decide (wbit s.gpioUndriven pin.val = s.bit Reg.SDL_WAKEEN (12 + pin.val)) then s.wakeEvent (.gpio pin) else s

/-- A write of TMB_CFG: clearing MSEN puts the tracker in FREE at the next boundary (R34), where `loadIncrement` sees it. -/
def State.writeTmbCfg (s : State) (v : Word) : State :=
  let was := s.bit Reg.TMB_CFG 20
  let s := s.stdWrite Reg.TMB_CFG v
  if was && !(s.bit Reg.TMB_CFG 20) then { s with tmb := { s.tmb with freeDue := true } } else s

end Sys2Proof.Machine
end

