-- ==== Sys2Proof/Machine/Lcs.lean ====
section
/-!
DEFINITION. The life cycle, its challenges and journal, the key slots, and the reset-cause history (chapter 05); the unlock
of the debug port shares the challenge (R573).
-/
namespace Sys2Proof.Machine

/-! ## States (Table 05.6) -/

/-- STATE of a thermometer code; 7 is INVALID (R142). -/
def stateOfCode (c : Nat) : Nat :=
  match c with
  | 0 => 0
  | 1 => 1
  | 3 => 2
  | 7 => 3
  | 31 => 4
  | _ => 7

/-- STATE of a 64-bit STATE word: INVALID where its check fails or its code is none of Table 05.6 (R142). -/
def stateOfWord (v : Nat) : Nat :=
  if notOk v && decide (v % 4294967296 < 32) then stateOfCode (v % 32) else 7

/-- The life-cycle state. -/
def State.lcState (s : State) : Nat := s.f Reg.LCS_STATE 8 3

/-- Debug is open, or unlocked (Table 05.6, R572). -/
def State.debugOpen (s : State) : Bool :=
  decide (s.lcState ≤ 1) || ((decide (s.lcState = 2) || decide (s.lcState = 3)) && s.hdp.unlocked)

/-- FAILCNT (R148). -/
def State.failCnt (s : State) : Nat := s.nvm64 0x3F0128

/-- The key of a slot that may be used: loaded, and the state allows it (Table 05.6). -/
def State.usableKey (s : State) (n : Nat) : Option (List Byte) :=
  if s.lcState ≤ 3 then
    match s.lcs.keys.getD n [] with
    | [] => none
    | k => some k
  else none

/-- The writers of R144. -/
def State.lcsWriter (s : State) (wr : Writer) : Bool :=
  (decide (wr.mid = 0) && decide (wr.aid = 0x400)) || (decide (wr.mid = 10) && s.debugOpen)

/-- LCS_STAT.REJ. -/
def State.lcsRej (s : State) : State := s.setBit Reg.LCS_STAT 4

/-- LCS_STAT.BUSY (R150). -/
def State.lcsBusy (s : State) : Bool := s.lcs.chalWrite || s.lcs.checking || s.lcs.journal

/-- LCS_STAT. -/
def State.lcsStat (s : State) : Word :=
  setFld (wputBit (s.rd Reg.LCS_STAT) 2 s.lcsBusy) 24 8 (min 255 s.failCnt)

/-- LCS_KEYSTAT. -/
def State.lcsKeystat (s : State) : Word :=
  word (512 * b2n (s.bit Reg.LCS_KEYSTAT 9) + 256 * b2n s.lcs.keyLoad.isSome +
    (List.range 8).foldl (fun m i => m + b2n (!(s.lcs.keys.getD i []).isEmpty) * 2 ^ i) 0)

/-- HDP_STAT.LOCK (R572). -/
def State.lock (s : State) : Nat :=
  if s.lcState ≤ 1 then 0
  else if s.lcState = 2 ∨ s.lcState = 3 then (if s.hdp.unlocked then 2 else 1)
  else 3

/-! ## Boot configuration (R137) -/

/-- BCFG is valid: MAGIC and CRC-32. -/
def State.bcfgValid (s : State) : Bool :=
  decide (s.nvm32 0x3F0000 = 0xB0C70001) && decide (s.nvm32 0x3F003C = crc32 (s.nvm.bytes memNvm 0x3F0000 60))

/-! ## Requests (R143, R145) -/

/-- The kinds of listed transition: 1 without, 2 with authentication, 0 not listed (Table 05.7). -/
def transitionKind (cur tgt : Nat) : Nat :=
  match cur, tgt with
  | 0, 1 => 1
  | 1, 2 => 1
  | 2, 3 => 2
  | 3, 2 => 2
  | 0, 4 => 1
  | 1, 4 => 2
  | 2, 4 => 2
  | 3, 4 => 2
  | _, _ => 0

/-- The precondition of a transition (Table 05.7). -/
def State.transitionReady (s : State) (tgt : Nat) : Bool :=
  match s.lcState, tgt with
  | 0, 1 => [0, 1, 2, 3, 6, 7].all fun i => !(s.lcs.keys.getD i []).isEmpty
  | 1, 2 => s.bcfgValid
  | _, _ => true

/-- A challenge is discarded (R147). -/
def State.dropChallenge (s : State) : State := (s.clrBit Reg.LCS_STAT 3).clrBit Reg.HDP_STAT 3

/-- A write of LCS_REQ (R143 to R146, R148, R157). -/
def State.writeLcsReq (s : State) (v : Word) (wr : Writer) : State :=
  let tgt := fld v 0 3
  let kind := transitionKind s.lcState tgt
  if !(s.lcsWriter wr) || s.deep || decide (fld v 16 16 ≠ 0x1C5E) || s.lcsBusy || s.bit Reg.LCS_STAT 7 ||
      decide (s.outputsOn ≠ 0) || decide (kind = 0) || !(s.transitionReady tgt) then s.lcsRej
  else
    let s := s.dropChallenge
    let s := { s with hdp := { s.hdp with unlocking := false } }
    if kind = 1 then { s with lcs := { s.lcs with target := tgt, journal := true, journalDone := 0 } }
    else { s with lcs := { s.lcs with target := tgt, chalWrite := true } }

/-- CHALCNT is written and the challenge is loaded (R146, R573). -/
def State.challengeReady (s : State) : State :=
  if s.lcs.chalWrite then
    let cnt := (s.nvm64 0x3F0120 + 1) % 2 ^ 64
    let s := s.setNvm64 0x3F0120 cnt
    let s := { s with lcs := { s.lcs with chalWrite := false } }
    let load (s : State) (r : Nat → Nat) : State :=
      (((s.wr (r 0) (Config.uid 0)).wr (r 1) (Config.uid 1)).wr (r 2) (word cnt)).wr (r 3) (word (cnt / 4294967296))
    if s.hdp.unlocking then (load s fun i => Reg.HDP_CHAL i).setBit Reg.HDP_STAT 3
    else (load s fun i => Reg.LCS_CHAL i).setBit Reg.LCS_STAT 3
  else s

/-- A write of LCS_RESPi; that of LCS_RESP7 starts the check (R144, R146, R147). In HIBERNATE and SHELF it is refused with REJ,
as a request is (DESIGN CHOICE, log 58: R157 names requests alone). -/
def State.writeLcsResp (s : State) (i : Nat) (v : Word) (wr : Writer) : State :=
  if !(s.lcsWriter wr) || s.deep || !(s.bit Reg.LCS_STAT 3) then s.lcsRej
  else
    let s := s.wr (Reg.LCS_RESP i) v
    if i = 7 then
      let s := s.dropChallenge
      { s with lcs := { s.lcs with checking := true, checkBlocks := 4 } }
    else s

/-- The four challenge words as sixteen bytes, and the response as thirty-two. -/
def State.regBytes (s : State) (r : Nat → Nat) (n : Nat) : List Byte :=
  (List.range n).flatMap fun i => bytesLE 4 (s.rd (r i)).toNat

/-- A failed check (R148). -/
def State.checkFailed (s : State) : State :=
  let n := min (2 ^ 64 - 1) (s.failCnt + 1)
  ((s.setNvm64 0x3F0128 n).setBit Reg.LCS_STAT 7)

/-- A passed check sets FAILCNT to 0 (R148). -/
def State.checkPassed (s : State) : State := if s.failCnt = 0 then s else s.setNvm64 0x3F0128 0

/-- The check of a life-cycle response ends (R146, R148, R149). -/
def State.lcsCheckDone (s : State) : State :=
  if s.lcs.checking && !s.hdp.unlocking then
    let msg := s.regBytes Reg.LCS_CHAL 4 ++
      [BitVec.ofNat 8 (codeOfState s.lcs.target), BitVec.ofNat 8 (s.f Reg.LCS_STATE 0 5)]
    let ok := match s.usableKey 7 with
      | some k => decide (hmacSha256 k msg = s.regBytes Reg.LCS_RESP 8)
      | none => false
    let s := { s with lcs := { s.lcs with checking := false } }
    if ok then
      let s := s.checkPassed
      { s with lcs := { s.lcs with journal := true, journalDone := 0 } }
    else s.checkFailed.setBit Reg.LCS_STAT 5
  else s

/-- A challenge expires after 60 s (R147). -/
def State.challengeExpiry (s : State) : State := s.dropChallenge

/-- LOCKOUT ends (R148). -/
def State.lockoutEnd (s : State) : State := s.clrBit Reg.LCS_STAT 7

/-! ## The journal (R150) -/

/-- The step of the journal for which a SYSTEM trigger waits: 3, or 4 for RETIRED (R150). -/
def State.journalHold (s : State) : Nat := if s.lcs.target = 4 then 4 else 3

/-- The journal (R150). A SYSTEM trigger that waits takes effect once step 3, or for RETIRED step 4, is reached: the rest is
left to the boot ROM (Table 05.8). BUSY stays 1 until the reset. -/
def State.journalWrite (s : State) : State :=
  if s.lcs.journal then
    if s.lcs.pendingResets.isEmpty then
      let s := ((s.journalTo 6).setBit Reg.LCS_STAT 6).trigger .lifecycle
      { s with lcs := { s.lcs with newState := s.lcs.target } }
    else s.journalTo s.journalHold
  else s

/-- A SYSTEM trigger is deferred (R150): until BUSY ends, or the journal has come far enough. -/
def State.resetDeferred (s : State) : Bool :=
  s.lcs.chalWrite || s.lcs.checking || (s.lcs.journal && decide (s.lcs.journalDone < s.journalHold))

/-! ## Keys (R155) -/

/-- A write of LCS_KEYBUFi (R144). -/
def State.writeKeybuf (s : State) (i : Nat) (v : Word) (wr : Writer) : State :=
  if s.lcsWriter wr then s.wr (Reg.LCS_KEYBUF i) v else s.setBit Reg.LCS_KEYSTAT 9

/-- Table 05.6 allows loading a slot. -/
def State.mayLoad (s : State) (slot : Nat) : Bool :=
  decide (s.lcState = 0) ||
    (decide (s.lcState = 1) && (decide (slot = 4) || decide (slot = 5)) && (s.lcs.keys.getD slot []).isEmpty)

/-- A write of LCS_KEYCTL (R144, R155, R157). -/
def State.writeKeyctl (s : State) (v : Word) (wr : Writer) : State :=
  let len := fld v 8 7
  let slot := fld v 0 3
  if !(s.lcsWriter wr) || s.deep || s.lcs.keyLoad.isSome || decide (fld v 16 16 ≠ 0x4B59) || decide (len = 0) ||
      decide (64 < len) || !(s.mayLoad slot) then s.setBit Reg.LCS_KEYSTAT 9
  else { s with lcs := { s.lcs with keyLoad := some (slot, len) } }

/-- A key load ends: the slot is loaded and the buffer cleared (R155). The key is the buffer as it stands then: a write of
LCS_KEYBUF while KBUSY = 1 counts (DESIGN CHOICE, log 58). -/
def State.keyLoadDone (s : State) : State :=
  match s.lcs.keyLoad with
  | some (slot, len) =>
    let key := (s.regBytes Reg.LCS_KEYBUF 16).take len
    let s := { s with lcs := { s.lcs with keyLoad := none, keys := s.lcs.keys.set slot key } }
    (List.range 16).foldl (fun s i => s.wr (Reg.LCS_KEYBUF i) 0) s
  | none => s

/-! ## Unlocking the debug port (R573, R574) -/

/-- HDP_STAT.CAUSE of a port, first error only. -/
def State.hdpCause (s : State) (ap code : Nat) : State :=
  if s.f Reg.HDP_STAT (16 + 4 * ap) 4 = 0 then s.setF Reg.HDP_STAT (16 + 4 * ap) 4 code else s

/-- HDP_STAT. -/
def State.hdpStat (s : State) : Word :=
  setFld (wputBit (wputBit (s.rd Reg.HDP_STAT) 2 (s.hdp.unlocking && (s.lcs.chalWrite || s.lcs.checking))) 0
    (s.bit Reg.LCS_STAT 7)) 4 2 s.lock

/-- The LCS turns an unlock request away (R573); in HIBERNATE and SHELF it accepts none (R157). -/
def State.unlockRefused (s : State) : Bool := decide (s.lock ≠ 1) || s.bit Reg.LCS_STAT 7 || s.lcsBusy || s.deep

/-- A request to unlock; refused with cause BUSY (R573). -/
def State.unlockRequest (s : State) : State :=
  if s.unlockRefused then s.hdpCause 3 9
  else
    let s := s.dropChallenge
    { s with lcs := { s.lcs with chalWrite := true }, hdp := { s.hdp with unlocking := true } }

/-- RELOCK (R574). -/
def State.relock (s : State) : State := { s with hdp := { s.hdp with unlocked := false } }

/-- A write of HDP_UNLK (R573, R574). -/
def State.writeUnlk (s : State) (v : Word) : State :=
  if fld v 16 16 = 0xD6B6 then
    let s := if wbit v 1 then s.relock else s
    if wbit v 0 then s.unlockRequest else s
  else s

/-- A write of HDP_RESPi; that of HDP_RESP7 starts the check (R573). Without a challenge it is ignored (R147), with cause
BUSY (DEDUCED, log 22). -/
def State.writeHdpResp (s : State) (i : Nat) (v : Word) : State :=
  if s.bit Reg.HDP_STAT 3 then
    let s := s.wr (Reg.HDP_RESP i) v
    if i = 7 then
      let s := s.dropChallenge
      { s with lcs := { s.lcs with checking := true, checkBlocks := 4 } }
    else s
  else s.hdpCause 3 9

/-- The check of an unlock response ends (R573, R148). -/
def State.unlockCheckDone (s : State) : State :=
  if s.lcs.checking && s.hdp.unlocking then
    let msg := s.regBytes Reg.HDP_CHAL 4 ++ [0xD6, BitVec.ofNat 8 (s.f Reg.LCS_STATE 0 5)]
    let ok := match s.usableKey 6 with
      | some k => decide (hmacSha256 k msg = s.regBytes Reg.HDP_RESP 8)
      | none => false
    let s := { s with lcs := { s.lcs with checking := false }, hdp := { s.hdp with unlocking := false } }
    if ok then
      let s := s.checkPassed
      { s with hdp := { s.hdp with unlocked := true } }
    else s.checkFailed.setBit Reg.HDP_STAT 1
  else s

/-! ## Reset-cause history (R129 to R131) -/

/-- Push a history word, with RTC_SEC at its reset: LCS_RCHIST0 is the newest, and the boot ROM writes it to the NVM ring
(R130, R131). -/
def State.pushWord (s : State) (e : Word × Word) : State :=
  let s := [6, 5, 4, 3, 2, 1, 0].foldl (fun s i => s.wr (Reg.LCS_RCHIST (i + 1)) (s.rd (Reg.LCS_RCHIST i))) s
  let s := s.wr (Reg.LCS_RCHIST 0) e.1
  let all := e :: s.lcs.pushed
  { s with lcs := { s.lcs with pushed := all.take 8, pushLost := s.lcs.pushLost || decide (8 < all.length) } }

/-- Push the history word of a reset (R129). -/
def State.pushCause (s : State) (cause detail sec : Nat) : State :=
  s.pushWord (word (cause * 0x1000000 + detail % 256 * 0x10000 + s.f Reg.LCS_BOOTSEQ 0 16), word sec)

/-! ## nRESET (R120) -/

/-- nRESET has been low for `ns`: 5 µs is a request, less than 1 µs is not, and between them the choice is open. -/
def State.nresetAssert (s : State) (ns : Nat) : State :=
  if ns < 1000 then s
  else if 5000 ≤ ns then
    let s := if s.powered then s.trigger .nreset else s
    { s with lcs := { s.lcs with nresetLow := true } }
  else
    let yes := s.freeBool
    let s := s.tickFree
    if yes && s.powered then s.trigger .nreset else s

/-- nRESET returns high. -/
def State.nresetRelease (s : State) : State := { s with lcs := { s.lcs with nresetLow := false } }

end Sys2Proof.Machine
end

