-- ==== Sys2Proof/Machine/Operands.lean ====
section
/-!
DEFINITION. Operand forms of the instruction set: immediates and offsets (R195), the registers of a mask (R210), effective
addresses, and the control and status registers (R160, R218, Table 06.2).
-/
namespace Sys2Proof.Machine

/-! ## Immediates and addresses (R192, R195) -/

/-- sx16 of an immediate or an offset. -/
def sx16 (i : BitVec 16) : Word := i.signExtend 32

/-- zx16. -/
def zx16 (i : BitVec 16) : Word := i.setWidth 32

/-- sx20. -/
def sx20 (i : BitVec 20) : Word := i.signExtend 32

/-- zx20. -/
def zx20 (i : BitVec 20) : Word := i.setWidth 32

/-- The effective address ra + sx16(OFF16) (R207). -/
def State.ea (s : State) (ra : Fin 16) (off : BitVec 16) : Word := s.g ra + sx16 off

/-- A branch or ADR target: PC + sx20(off) × 4 (R195, R216). -/
def State.target (s : State) (off : BitVec 20) : Word := s.pc + 4 * sx20 off

/-- The second register of a pair (R209). -/
def pairOf (r : Fin 16) : Fin 16 := r + 1

/-- The registers of a PUSHM or POPM mask, lowest first (R210). -/
def maskRegs (mask : BitVec 16) : List (Fin 16) := (List.finRange 16).filter fun r => mask.getLsbD r.val

/-- Sign extension of the low `n` bytes of a loaded value. -/
def sxBytes (n v : Nat) : Word := BitVec.ofInt 32 (signed (8 * n) (v % 2 ^ (8 * n)))

/-! ## CSRs -/

/-- The CSR exists (R160). -/
def csrKnown (n : Nat) : Bool :=
  [0x000, 0x001, 0x002, 0x010, 0x020, 0x021, 0x022, 0x023, 0x024, 0x028, 0x029, 0x030, 0x031, 0x040, 0x041, 0x042, 0x043,
   0x044].contains n

/-- The CSR is marked Warden: Tenant mode may not name it (R160). -/
def csrWarden (n : Nat) : Bool := [0x000, 0x020, 0x021, 0x022, 0x023, 0x024, 0x028, 0x029, 0x030].contains n

/-- The CSR is RO in Tenant mode. -/
def csrTenantRO (n : Nat) : Bool := decide (n = 0x010) || decide (n = 0x031)

/-- Read a CSR; one absent from Table 06.2 reads 0 (R568). -/
def State.csrGet (s : State) (n : Nat) : Word :=
  match n with
  | 0x000 => s.core.status
  | 0x001 => word (ccNum s.core.cc)
  | 0x002 => s.core.astat
  | 0x010 => s.core.tid
  | 0x020 => s.core.epc
  | 0x021 => s.core.ecause
  | 0x022 => s.core.eval
  | 0x023 => s.core.estatus
  | 0x024 => s.core.wscratch
  | 0x028 => s.core.nepc
  | 0x029 => s.core.nstatus
  | 0x030 => s.core.vbase
  | 0x031 => s.core.splim
  | 0x040 => s.core.tstatus
  | 0x041 => s.core.tepc
  | 0x042 => s.core.tcause
  | 0x043 => s.core.tvec
  | 0x044 => s.core.tscratch
  | _ => 0

/-- STATUS.PLVL above 8 acts as 8. -/
def statusPlvl (v : Word) : Word := if 8 < fld v 4 4 then setFld v 4 4 8 else v

/-- What a write of STATUS leaves: MODE and NMI are RO. -/
def statusWritten (old v : Word) : Word := statusPlvl ((old &&& 0x104) ||| (v &&& 0xFB))

/-- What a write of ASTAT leaves: a sticky bit can only be cleared (R162, R218). -/
def astatWritten (old v : Word) : Word := (old &&& v &&& 3) ||| (v &&& 0x300)

/-- Write a CSR in Warden mode (R218): fields and bits that Table 06.2 and the register entries do not define keep. -/
def State.csrPut (s : State) (n : Nat) (v : Word) : State :=
  match n with
  | 0x000 => { s with core := { s.core with status := statusWritten s.core.status v } }
  | 0x001 => s.setCC (ccOf (fld v 0 4))
  | 0x002 => { s with core := { s.core with astat := astatWritten s.core.astat v } }
  | 0x010 => { s with core := { s.core with tid := v &&& 0x3FF } }
  | 0x020 => { s with core := { s.core with epc := v } }
  | 0x021 => { s with core := { s.core with ecause := v &&& 0x80FF00FF } }
  | 0x022 => { s with core := { s.core with eval := v } }
  | 0x023 => { s with core := { s.core with estatus := v &&& 0xF1FF } }
  | 0x024 => { s with core := { s.core with wscratch := v } }
  | 0x028 => { s with core := { s.core with nepc := v } }
  | 0x029 => { s with core := { s.core with nstatus := v &&& 0xF1FF } }
  | 0x030 => { s with core := { s.core with vbase := v &&& 0xFFFFFC00 } }
  | 0x031 => { s with core := { s.core with splim := v } }
  | 0x040 => { s with core := { s.core with tstatus := v &&& 0xF003 } }
  | 0x041 => { s with core := { s.core with tepc := v } }
  | 0x042 => { s with core := { s.core with tcause := v &&& 0xF } }
  | 0x043 => { s with core := { s.core with tvec := v &&& 0xFFFFFFFC } }
  | 0x044 => { s with core := { s.core with tscratch := v } }
  | _ => s

/-- Write a CSR in the mode of the core: one that is RO there keeps (R160). -/
def State.csrWrite (s : State) (n : Nat) (v : Word) : State := if s.tenantMode && csrTenantRO n then s else s.csrPut n v

end Sys2Proof.Machine
end

