-- ==== Sys2Proof/Machine/Debug.lean ====
section
/-!
DEFINITION. The debug registers as AP0 reaches them, the read-only view the core has of them (R563 to R570), and the registers
of AP2 and AP3 (R571 to R574).
-/
namespace Sys2Proof.Machine

/-! ## Halting and resuming -/

/-- The core halts before its next instruction, for a reason with an index (R563, DBG_STAT); what waits for a held request
is abandoned as for an interrupt. -/
def State.haltCore (s : State) (why idx : Nat) : State :=
  let old := s
  let s := s.abandon
  let s := { s with
    core := { s.core with halted := true }
    hdp := { s.hdp with haltReq := false, wpHit := none, stepping := false } }
  (s.wr Reg.DBG_STAT (word (0x100 + 16 * why + idx))).wdSync old

/-- RESUME (R569): the halt condition of R426 ends; WHY and IDX keep. -/
def State.resumeCore (s : State) : State :=
  let old := s
  let inv := s.bit Reg.DBG_CTL 1
  let s := { s with core := { s.core with halted := false, icache := if inv then [] else s.core.icache } }
  ((s.clrBit Reg.DBG_STAT 8).haltEnds.safCond).wdSync old

/-- A write of DBG_CTL (R563, R567, R569). A step is left to the row that writes it; STEP and RESUME of one write step
(DESIGN CHOICE, log 31). -/
def State.writeDbgCtl (s : State) (v : Word) : State :=
  let s := s.stdWrite Reg.DBG_CTL v
  if s.core.halted then
    if wbit v 18 then { s with hdp := { s.hdp with stepping := true } } else if wbit v 17 then s.resumeCore else s
  else if wbit v 16 then { s with hdp := { s.hdp with haltReq := true } }
  else s

/-! ## Registers of the core (R568) -/

/-- The register that DBG_REGSEL names; a NUM above 15 names no general register and reads 0 (DEDUCED, log 31). -/
def State.dbgGet (s : State) : Word :=
  let n := s.f Reg.DBG_REGSEL 0 12
  if s.bit Reg.DBG_REGSEL 12 then s.csrGet n else if h : n < 16 then s.g ⟨n, h⟩ else 0

/-- Write it; a CSR write acts as CSRW in Warden mode. -/
def State.dbgPut (s : State) (v : Word) : State :=
  let n := s.f Reg.DBG_REGSEL 0 12
  if s.bit Reg.DBG_REGSEL 12 then s.csrPut n v else if h : n < 16 then s.setG ⟨n, h⟩ v else s

/-- A read of a DBG register, through AP0 or the core's view. -/
def State.readDbg (s : State) (a : Nat) : Word :=
  if a = Reg.DBG_PC then s.pc else if a = Reg.DBG_REGDATA then s.dbgGet else s.rd a

/-- A write of a DBG register through AP0. -/
def State.writeDbg (s : State) (a : Nat) (v : Word) : State :=
  if a = Reg.DBG_CTL then s.writeDbgCtl v
  else if a = Reg.DBG_PC then (if s.core.halted then s.setPc v else s)
  else if a = Reg.DBG_REGDATA then (if s.core.halted then s.dbgPut v else s)
  else s.stdWrite a v

/-- An access that needs a halted core (R568). -/
def dbgNeedsHalt (a : Nat) : Bool := decide (a = Reg.DBG_PC) || decide (a = Reg.DBG_REGDATA)

/-! ## Breakpoints (R565) -/

/-- A MODE field of DBG_BPMODE or DBG_WPk_CTL allows the current mode; the reserved value allows none (DEDUCED, log 31). -/
def State.modeAllows (s : State) (m : Nat) : Bool :=
  decide (m = 0) || (decide (m = 1) && !s.tenantMode) || (decide (m = 2) && s.tenantMode)

/-- The lowest breakpoint that matches the instruction about to execute. -/
def State.breakpoint (s : State) : Option Nat :=
  (List.range 8).find? fun n => s.bit (Reg.DBG_BP n) 0 && decide (fld (s.rd (Reg.DBG_BP n)) 2 30 = fld s.pc 2 30) &&
    s.modeAllows (s.f Reg.DBG_BPMODE (2 * n) 2)

/-! ## Watchpoints (R566) -/

/-- Watchpoint `k` matches an access at `a` of a kind. -/
def State.watchMatches (s : State) (k : Nat) (a : Word) (write : Bool) : Bool :=
  let c := s.rd (Reg.DBG_WP_CTL k)
  let m := fld c 8 5
  wbit c 0 && wbit c (if write then 2 else 1) && decide (a >>> m = s.rd (Reg.DBG_WP_ADDR k) >>> m) &&
    s.modeAllows (fld c 4 2)

/-- A retiring instruction makes an access: the first match halts the core before the next instruction. -/
def State.watch (s : State) (a : Word) (write : Bool) : State :=
  if s.hdp.wpHit.isSome then s
  else
    match (List.range 4).find? fun k => s.watchMatches k a write with
    | some k => { s.wr Reg.DBG_WPADDR a with hdp := { s.hdp with wpHit := some k } }
    | none => s

/-! ## AP2 and AP3 (R571 to R574) -/

/-- A write of HDP_PWR: WAKE is a wake event. -/
def State.writeHdpPwr (s : State) (v : Word) : State :=
  let s := s.stdWrite Reg.HDP_PWR v
  if wbit v 0 then s.wakeEvent .hdp else s

/-- A read of a register of AP2 or AP3. -/
def State.readHdp (s : State) (a : Nat) : Word :=
  if a = Reg.HDP_LEVEL then word (levelCode s.pwr.level)
  else if a = Reg.HDP_STAT then s.hdpStat
  else if a = Reg.HDP_UID 0 then Config.uid 0
  else if a = Reg.HDP_UID 1 then Config.uid 1
  else if a = Reg.HDP_UNLK ∨ (Reg.HDP_RESP 0 ≤ a ∧ a ≤ Reg.HDP_RESP 7) then 0
  else s.rd a

/-- A write of HDP_STAT: CLR sets every CAUSE to 0 (R559). -/
def State.writeHdpStat (s : State) (v : Word) : State :=
  let s := s.stdWrite Reg.HDP_STAT v
  if wbit v 8 then s.setF Reg.HDP_STAT 16 16 0 else s

/-- A write of a register of AP2 or AP3. -/
def State.writeHdp (s : State) (a : Nat) (v : Word) : State :=
  if a = Reg.HDP_PWR then s.writeHdpPwr v
  else if a = Reg.HDP_STAT then s.writeHdpStat v
  else if a = Reg.HDP_UNLK then s.writeUnlk v
  else if Reg.HDP_RESP 0 ≤ a ∧ a ≤ Reg.HDP_RESP 7 then s.writeHdpResp ((a - Reg.HDP_RESP 0) / 4) v
  else s.stdWrite a v

end Sys2Proof.Machine
end

