-- ==== Sys2Proof/Machine/Nvm.lean ====
section
/-!
DEFINITION. The NVM controller (R134, R247, R248, Table 05.3) and the supply banks (R418, R590, R593).
-/
namespace Sys2Proof.Machine

/-! ## Who may write the system area (R134) -/

/-- Table 05.3 lets a writer write the word at `a`. An address of the system area that the table does not list is reserved
(DEDUCED, log 37). -/
def State.nvmMay (s : State) (a mid aid : Nat) (rom : Bool) : Bool :=
  let boot := rom && decide (mid = 0)
  let warden := decide (aid = 0x400) || boot
  if a < 0x3F0000 then true
  else if a < 0x3F0100 then decide (s.lcState = 0) || decide (s.lcState = 1) || decide (s.lcState = 3)
  else if a < 0x3F0120 then decide (aid = 0x402) || boot
  else if a < 0x3F0130 then decide (aid = 0x402)
  else if a < 0x3F0138 then boot
  else if a < 0x3F0200 then false
  else if a < 0x3F0400 then boot
  else if a < 0x3F1000 then false
  else if a < 0x3F2000 then warden || decide (mid = 7)
  else if a < 0x3F3000 then warden
  else if a < 0x3FF000 then false
  else decide (aid = 0x403)

/-! ## Writes (R247) -/

/-- The bytes of `bs`, stored from `a` on, that fall in the 64-bit word at `w`. -/
def wordLanes (w a : Nat) (bs : List Byte) : List (Option Byte) :=
  (List.range 8).map fun i => if a ≤ w + i then (bs.drop (w + i - a)).head? else none

/-- A write is discarded: DENY with the first address (R134). -/
def State.nvmDeny (s : State) (a : Nat) : State :=
  (if s.bit Reg.NVC_STAT 16 then s else s.wr Reg.NVC_ERRADR (word a)).setBit Reg.NVC_STAT 16

/-- The 64-bit words that a write of `n` bytes at `a` touches: one, or two across an 8-byte boundary (R225). -/
def nvmWords (a n : Nat) : List Nat :=
  let w := a - a % 8
  if a % 8 + n ≤ 8 then [w] else [w, w + 8]

/-- One 64-bit word of a store is accepted: queued, or discarded. The address captured is the first byte's. -/
def State.nvmTake (s : State) (w a mid aid : Nat) (rom : Bool) (bs : List Byte) : State :=
  if s.nvmMay w mid aid rom then
    { s with bus := { s.bus with nvmQ := s.bus.nvmQ ++ [{ addr := w, bytes := wordLanes w a bs, mid := mid }] } }
  else s.nvmDeny (max w a)

/-- A store of up to eight bytes waits while the queue has no place for each of its words. -/
def State.nvmFull (s : State) (a n : Nat) : Bool := decide (8 < s.bus.nvmQ.length + (nvmWords a n).length)

/-- A store is accepted (R247). -/
def State.nvmStore (s : State) (a mid aid : Nat) (rom : Bool) (bs : List Byte) : State :=
  (nvmWords a bs.length).foldl (fun s w => s.nvmTake w a mid aid rom bs) s

/-- The word in progress is written. -/
def State.nvmWordDone (s : State) : State :=
  match s.bus.nvmQ with
  | w :: t => { s.nvmCommit w with bus := { s.bus with nvmQ := t } }
  | [] => s

/-! ## Reads (R248) -/

/-- The byte of a queued write, if it has one at `a`. -/
def NvmWrite.byte? (w : NvmWrite) (a : Nat) : Option Byte := if w.addr = a - a % 8 then (w.bytes.getD (a % 8) none) else none

/-- The byte at `a` with the queued writes over the array, the newest last. -/
def State.nvmByte (s : State) (a : Nat) : Byte :=
  s.bus.nvmQ.foldl (fun b w => (w.byte? a).getD b) (s.nvm.byte memNvm a)

/-- Read `n` bytes at `a`. -/
def State.nvmRead (s : State) (a n : Nat) : Nat := numLE ((List.range n).map fun i => s.nvmByte (a + i))

/-- NVC_STAT as read. -/
def State.nvcStat (s : State) : Word :=
  setFld (wputBit (s.rd Reg.NVC_STAT) 8 (!s.bus.nvmQ.isEmpty)) 0 4 s.bus.nvmQ.length

/-! ## Supply banks and their monitors (R418, R590, R593) -/

/-- A bank's supply crosses 1.62 V. Without VIO0 nRESET reads high; without VIO1 GPIO_IN reads 0; none of the changes of
GPIO_IN is an event (R269, R590). -/
def State.vioCross (s : State) (bank : Nat) (above : Bool) : State :=
  let s := { s with pins := { s.pins with vio := s.pins.vio.set bank above } }
  if bank = 0 then (if above then s else s.nresetRelease)
  else if bank = 1 then (if s.gpioLive then s.gpioLoad else s)
  else s

/-- The condition of a supply monitor: whether it is bad, and its fault word. Only bank 2 carries SOUT outputs
(Table 22.3). -/
def State.monitorSet (s : State) (m : SupplyMonitor) (bad : Bool) : State :=
  match m with
  | .vcore => { s with pins := { s.pins with vcoreBad := bad } }
  | .vio b => { s with pins := { s.pins with vioBad := s.pins.vioBad.set b.val bad } }

/-- A monitor's condition begins (R418): within 2 µs HRV 0x001 or 0x002 is reported. -/
def State.monitorFault (s : State) (m : SupplyMonitor) : State :=
  let s := s.monitorSet m true
  match m with
  | .vcore => s.safReport (faultWord 1 1 0) 0x7FF
  | .vio b => if b.val = 2 then s.safReport (faultWord 1 2 2) 0x7FF else s

/-- A monitor's condition ends (R418, R423). -/
def State.monitorClear (s : State) (m : SupplyMonitor) : State := (s.monitorSet m false).safCond

end Sys2Proof.Machine
end

