-- ==== Sys2Proof/Machine/Store.lean ====
section
/-!
DEFINITION. The Store (chapter 10): the bank map, spare rows, the SECDED check on every word, and reads and writes at a bank,
with mirroring; and Saddle RAM with its own check bits (R618 to R620).
A slot is a logical bank 0 to 15, or 16 for the unmapped array behind the spare-bank range (R294).
-/
namespace Sys2Proof.Machine

/-! ## The map (R294, R296, R301) -/

/-- The array that serves a slot. -/
def State.arrayOf (s : State) (slot : Nat) : Nat :=
  if slot < 16 then s.f (Reg.STC_MAP (slot / 4)) (8 * (slot % 4)) 5 else s.f Reg.STC_MAPU 0 5

/-- The row of an array that serves row `row`: the spare row remapped to it last, if any (R301). -/
def State.rowOf (s : State) (arr row : Nat) : Nat :=
  match s.stc.remaps.find? fun p => decide (p.1 / 4 = arr ∧ p.2 = row) with
  | some p => 512 + p.1 % 4
  | none => row

/-- The byte address in its array of offset `off` of a slot served by `arr`. -/
def State.cellOf (s : State) (arr off : Nat) : Nat := s.rowOf arr (off / 128) * 128 + off % 128

/-- Spare row `k` of an array is in use. -/
def State.spareUsed (s : State) (arr k : Nat) : Bool := s.stc.remaps.any fun p => decide (p.1 = 4 * arr + k)

/-- Place a remap: it removes every other remap of the row in that array, and of the spare row (R301, R303). -/
def State.placeRemap (s : State) (arr spare row : Nat) : State :=
  let keep := s.stc.remaps.filter fun p => !(decide (p.1 = 4 * arr + spare) || decide (p.1 / 4 = arr ∧ p.2 = row))
  { s with stc := { s.stc with remaps := keep ++ [(4 * arr + spare, row)] } }

/-- Exchange the array of logical bank `n` with the unmapped array (R303, R314, R318). -/
def State.exchange (s : State) (n : Nat) : State :=
  let a := s.arrayOf n
  let u := s.arrayOf 16
  (s.setF (Reg.STC_MAP (n / 4)) (8 * (n % 4)) 5 u).setF Reg.STC_MAPU 0 5 a

/-- Update one array. -/
def State.setArray (s : State) (arr : Nat) (m : Mem) : State := { s with store := s.store.set arr m }

/-- The array that mirrors slot `slot`, while mirroring is active (R316). -/
def State.mirrorOf (s : State) (slot : Nat) : Option Nat :=
  if s.bit Reg.STC_MAPSTAT 30 && decide (s.f Reg.STC_MAPSTAT 16 4 = slot) then some (s.arrayOf 16) else none

/-! ## Check bits (R298 to R300) -/

/-- The error class of the aligned word at `a` of a memory, 0 for no error, 1 for a single-bit one, 2 for an uncorrectable
one: of a marked word its mark's, of an undefined word the free value's. -/
def Mem.eccClass (m : Mem) (id a : Nat) : Nat :=
  match alGet m.ecc (a - a % 4) with
  | some 0 => 1
  | some _ => 2
  | none => if m.wordDefined a then 0 else (Config.coldEcc m.seed id (a - a % 4)).val

/-- The syndrome of an uncorrectable word; never 0 (R300). -/
def Mem.syndrome (m : Mem) (id a : Nat) : Nat :=
  match alGet m.ecc (a - a % 4) with
  | some syn => syn
  | none => (Config.syndrome m.seed id (a - a % 4)).toNat % 127 + 1

/-- The logical address of an offset in a slot. -/
def storeAddr (slot off : Nat) : Nat := if slot < 16 then 0x10000000 + 0x10000 * slot + off else 0x10100000 + off

/-- A corrected error is counted (R299). -/
def State.storeCE (s : State) : State := (s.incSat Reg.STC_ECCCNT 0 16).setBit Reg.STC_ECCCTL 16

/-- An uncorrectable error is counted, captured and reported with its CODE (R299, R316, R324). -/
def State.storeUE (s : State) (src code mid aid slot off syn : Nat) : State :=
  let s := (s.incSat Reg.STC_ECCCNT 16 16).setBit Reg.STC_ECCCTL 17
  let s :=
    if s.bit Reg.STC_ECCINFO 31 then s
    else
      (s.wr Reg.STC_ECCADDR (word (storeAddr slot (off - off % 4)))).wr Reg.STC_ECCINFO
        (word (0x80000000 + src * 0x10000000 + mid % 16 * 0x1000000 + aid % 2048 * 0x1000 + syn))
  let detail := (if slot < 16 then slot * 0x1000 else 0x200) + off / 128 % 512
  s.safReport (faultWord 7 code detail) aid

/-- What a read of one word answers: the state after its check, the word, and the syndrome of an uncorrectable error. -/
structure WordRead where
  s : State
  val : Nat
  ue : Option Nat

/-- Read the aligned word at `off` of a slot, with SRC and CODE of an error. -/
def State.storeWord (s : State) (slot off src code mid aid : Nat) : WordRead :=
  let arr := s.arrayOf slot
  let m := s.array arr
  let a := s.cellOf arr (off - off % 4)
  let v := numLE (m.bytes arr a 4)
  match m.eccClass arr a with
  | 0 => ⟨s, v, none⟩
  | 1 => ⟨s.storeCE, v, none⟩
  | _ => ⟨s.storeUE src code mid aid slot off (m.syndrome arr a), v, some (m.syndrome arr a)⟩

/-- The aligned words that `n` bytes at `off` touch. -/
def wordsOf (off n : Nat) : List Nat := (List.range ((off % 4 + n + 3) / 4)).map fun i => off - off % 4 + 4 * i

/-- What a read of up to eight bytes answers: its data, or the first failing word's offset and syndrome. -/
structure BytesRead where
  s : State
  val : Nat
  ue : Option (Nat × Nat)

/-- Read `n` bytes at `off` of a slot (R299). -/
def State.storeRead (s : State) (slot off n mid aid : Nat) : BytesRead :=
  let r := (wordsOf off n).foldl
    (fun (r : BytesRead × Nat) w =>
      let x := r.1.s.storeWord slot w 0 1 mid aid
      (⟨x.s, r.1.val + x.val * 2 ^ (32 * r.2), r.1.ue <|> (x.ue.map fun syn => (w, syn))⟩, r.2 + 1))
    (⟨s, 0, none⟩, 0)
  { r.1 with val := r.1.val / 2 ^ (8 * (off % 4)) % 2 ^ (8 * n) }

/-- Store the four bytes of a word at an aligned offset of a slot, in both arrays while it is mirrored (R298, R316). -/
def State.storePut (s : State) (slot off : Nat) (bs : List Byte) : State :=
  let put (s : State) (arr : Nat) : State := s.setArray arr ((s.array arr).putWord (s.cellOf arr off) bs)
  let s1 := put s (s.arrayOf slot)
  match s.mirrorOf slot with
  | some arr => put s1 arr
  | none => s1

/-- Write the bytes of one word: a whole word stores fresh check bits, a part of one is a read-modify-write that an
uncorrectable error discards (R298, R299). -/
def State.storeWriteWord (s : State) (slot w mid aid : Nat) (bs : List (Option Byte)) : State :=
  if bs.all fun b => b.isSome then s.storePut slot w (bs.map fun b => b.getD 0)
  else if bs.all fun b => b.isNone then s
  else
    let r := s.storeWord slot w 3 1 mid aid
    match r.ue with
    | some _ => r.s
    | none => r.s.storePut slot w ((bs.zipIdx).map fun p => p.1.getD (BitVec.ofNat 8 (r.val / 2 ^ (8 * p.2))))

/-- The four lanes of the word at `w` that a write of `bs` at `off` fills. -/
def lanes (w off : Nat) (bs : List Byte) : List (Option Byte) :=
  (List.range 4).map fun i => if off ≤ w + i then (bs.drop (w + i - off)).head? else none

/-- Write bytes at `off` of a slot (R298). -/
def State.storeWrite (s : State) (slot off mid aid : Nat) (bs : List Byte) : State :=
  (wordsOf off bs.length).foldl (fun s w => s.storeWriteWord slot w mid aid (lanes w off bs)) s

/-- An indivisible read-modify-write of one word (R242 to R246): `f` makes the new word from the old. Nothing is written
where the read finds an uncorrectable error. -/
def State.storeRmw (s : State) (slot off mid aid : Nat) (f : Nat → Nat) : WordRead :=
  let r := s.storeWord slot off 0 1 mid aid
  match r.ue with
  | some _ => r
  | none => { r with s := r.s.storePut slot off (bytesLE 4 (f r.val)) }

/-- A write from a master other than the core is accepted at a slot: the core's reservation in that bank is cleared, and
with it the guard (R237a, R240). -/
def State.clearResv (s : State) (slot : Nat) : State :=
  match s.core.resv with
  | some (a, _) =>
    if (a - 0x10000000) / 0x10000 = slot then { s with core := { s.core with resv := none, guard := [] } } else s
  | none => s

/-- The content of a word becomes undefined: a free value, with a free error (R300, R312). -/
def State.loseWord (s : State) (arr a : Nat) : State :=
  let m := (s.array arr).putWord a (bytesLE 4 s.freeWord.toNat)
  let m := match s.freeNat % 3 with
    | 0 => m
    | 1 => { m with ecc := alInsert m.ecc a 0 }
    | _ => { m with ecc := alInsert m.ecc a (m.syndrome arr a % 127 + 1) }
  (s.setArray arr m).tickFree

/-- The content of an array becomes undefined. -/
def State.loseArray (s : State) (arr : Nat) : State := (s.setArray arr (.blank (.undefined s.freeCtr))).tickFree

/-! ## Saddle RAM (R618 to R620) -/

/-- Saddle RAM reports an uncorrectable error (R619). -/
def State.saddleUE (s : State) (a aid : Nat) : State := s.safReport (faultWord 0 1 (a / 4 % 4096)) aid

/-- Read the aligned word at `a` of Saddle RAM. -/
def State.saddleWord (s : State) (a aid : Nat) : WordRead :=
  let a := a - a % 4
  let v := numLE (s.saddle.bytes memSaddle a 4)
  match s.saddle.eccClass memSaddle a with
  | 0 => ⟨s, v, none⟩
  | 1 => ⟨s, v, none⟩
  | _ => ⟨s.saddleUE a aid, v, some (s.saddle.syndrome memSaddle a)⟩

/-- Read `n` bytes at `a` of Saddle RAM (R619). -/
def State.saddleRead (s : State) (a n aid : Nat) : BytesRead :=
  let r := (wordsOf a n).foldl
    (fun (r : BytesRead × Nat) w =>
      let x := r.1.s.saddleWord w aid
      (⟨x.s, r.1.val + x.val * 2 ^ (32 * r.2), r.1.ue <|> (x.ue.map fun syn => (w, syn))⟩, r.2 + 1))
    (⟨s, 0, none⟩, 0)
  { r.1 with val := r.1.val / 2 ^ (8 * (a % 4)) % 2 ^ (8 * n) }

/-- Write the bytes of one word of Saddle RAM (R620). -/
def State.saddleWriteWord (s : State) (w aid : Nat) (bs : List (Option Byte)) : State :=
  if bs.all fun b => b.isSome then { s with saddle := s.saddle.putWord w (bs.map fun b => b.getD 0) }
  else if bs.all fun b => b.isNone then s
  else
    let r := s.saddleWord w aid
    match r.ue with
    | some _ => r.s
    | none =>
      let merged := (bs.zipIdx).map fun p => p.1.getD (BitVec.ofNat 8 (r.val / 2 ^ (8 * p.2)))
      { r.s with saddle := r.s.saddle.putWord w merged }

/-- Write bytes at `a` of Saddle RAM (R620). -/
def State.saddleWrite (s : State) (a aid : Nat) (bs : List Byte) : State :=
  (wordsOf a bs.length).foldl (fun s w => s.saddleWriteWord w aid (lanes w a bs)) s

/-! ## Registers of the STORE domain -/

/-- STC_SPRD0 and STC_SPRD1: the spare rows of the array that STC_SPRSEL names. -/
def State.stcSprd (s : State) (i : Nat) : Word :=
  let arr := s.f Reg.STC_SPRSEL 0 5
  let half (k : Nat) : Nat :=
    match s.stc.remaps.find? fun p => decide (p.1 = 4 * arr + k) with
    | some p => 0x200 + p.2
    | none => 0
  word (half (2 * i + 1) * 0x10000 + half (2 * i))

/-- A write of STC_RTNEXT: a value above 512 stores 512. -/
def State.writeRtnext (s : State) (v : Word) : State := s.wr Reg.STC_RTNEXT (word (min 512 (fld v 0 10)))

/-- A write of STC_ECCCTL: CLR sets both counts to 0 (R299). -/
def State.writeEccctl (s : State) (v : Word) : State :=
  let s := s.stdWrite Reg.STC_ECCCTL v
  if wbit v 8 then s.wr Reg.STC_ECCCNT 0 else s

end Sys2Proof.Machine
end

