-- ==== Sys2Proof/Machine/Gates.lean ====
section
/-!
DEFINITION. Target gates (chapter 09): matching and decision, denial, the staging and locking of rules, and the configuration
check.
-/
namespace Sys2Proof.Machine

/-! ## Decision (R277 to R280) -/

/-- The permission bits of CTL that a request of a kind is checked against, one check each (R279, Table 09.2). -/
def permBits (k : ReqKind) : List Nat :=
  match k with
  | .read => [16]
  | .write => [17]
  | .scnd => [17]
  | .fetch => [18]
  | .amoAdd => [16, 17]
  | .amoSwap => [16, 17]

/-- The bit of CLS that an agent selects (R278, R293). -/
def State.clsBit (s : State) (aid : Nat) : Nat := if aid < 0x400 then fld (s.trec aid 0) 4 4 else 16

/-- Entry `m` of gate `n` matches a checked address, a master and an agent for one permission bit (R277). -/
def State.ruleMatches (s : State) (n m a mid aid pbit : Nat) : Bool :=
  let e := 16 * n + m
  let ctl := s.rd (Reg.GATE_RULE_CTL e)
  decide ((s.rd (Reg.GATE_RULE_BASE e)).toNat / 32 ≤ a / 32) && decide (a / 32 ≤ (s.rd (Reg.GATE_RULE_LIMIT e)).toNat / 32) &&
    decide (mid < 16) && wbit ctl mid && wbit (s.rd (Reg.GATE_RULE_CLS e)) (s.clsBit aid) && wbit ctl pbit

/-- The entry of gate `n` that denies a request, if the first entry that matches denies (R280). -/
def State.denier (s : State) (n a mid aid pbit : Nat) : Option Nat :=
  match (List.range 16).find? fun m => s.ruleMatches n m a mid aid pbit with
  | some m => if s.bit (Reg.GATE_RULE_CTL (16 * n + m)) 19 then none else some m
  | none => none

/-- GATEn_VINFO.DIR of a kind. -/
def dirCode (k : ReqKind) : Nat :=
  match k with
  | .read => 0
  | .write => 1
  | .scnd => 1
  | .fetch => 2
  | .amoAdd => 3
  | .amoSwap => 3

/-- The code of a size of 1, 2, 4 or 8 bytes. -/
def sizeCode (n : Nat) : Nat := if n = 1 then 0 else if n = 2 then 1 else if n = 4 then 2 else 3

/-- A denial at gate `n` by entry `m` (R284, R285): counted, captured if it is the first, noticed if it is a write. -/
def State.gateDeny (s : State) (n m a path : Nat) (r : Req) : State :=
  let s := s.incSat (Reg.GATE_VSTAT n) 16 16
  let s :=
    if s.bit (Reg.GATE_VSTAT n) 0 then s
    else
      ((s.wr (Reg.GATE_VADDR n) (word a)).wr (Reg.GATE_VINFO n)
        (word (r.mid % 16 * 0x1000000 + r.aid % 2048 * 0x1000 + sizeCode r.size * 0x400 + dirCode r.kind * 0x100 +
          path * 0x40 + m))).setBit (Reg.GATE_VSTAT n) 0
  if dirCode r.kind = 1 then s.setBit (Reg.GATE_VSTAT n) 1 else s

/-- What a gate answers: the state with a denial's record, and whether the request is allowed. -/
structure GateAns where
  s : State
  ok : Bool

/-- Gate `n` checks a request at its checked address `a` (R280, R281). -/
def State.gateCheck (s : State) (n a path : Nat) (r : Req) : GateAns :=
  match (permBits r.kind).filterMap fun p => s.denier n a r.mid r.aid p with
  | [] => ⟨s, true⟩
  | m :: _ => ⟨s.gateDeny n m a path r, false⟩

/-- The QoS class of a request by its master and agent (R249). -/
def State.qosClass (s : State) (mid aid : Nat) : Nat :=
  if mid = 3 then 0
  else if mid ≤ 1 ∧ wbit s.core.status 2 = true then 0
  else if aid < 0x400 then max 1 (fld (s.trec aid 0) 8 2)
  else max 1 (s.f Reg.ICT_QOSMID (2 * mid) 2)

/-- A request of a block's engine. -/
def State.engineReq (s : State) (mid aid addr size : Nat) (write : Bool) : Req :=
  { mid := mid, aid := aid, tid := 0, cls := s.qosClass mid aid, kind := if write then .write else .read, addr := addr,
    size := size, data := 0, rom := false }

/-- Gate `n` checks a request of an engine. -/
def State.engineGate (s : State) (n addr mid aid size : Nat) (write : Bool) : GateAns :=
  s.gateCheck n addr 0 (s.engineReq mid aid addr size write)

/-! ## Rules (R286, R288, R291) -/

/-- The check in force ends and a computation in progress is abandoned (R291). -/
def State.disarm (s : State) : State :=
  let s := (s.clrBit Reg.GTC_CRCCTL 0).setBit Reg.GTC_CRCSTAT 2
  { s with gtc := { s.gtc with crcRuns := false } }

/-- Defined bits of the four registers of an entry: BASE and LIMIT, CTL, CLS. -/
def ruleMask (off : Nat) : Word :=
  match off with
  | 0 => 0xFFFFFFE0
  | 4 => 0xFFFFFFE0
  | 8 => 0x800FFFFF
  | _ => 0x1FFFF

/-- The staging copy of a register of an entry. -/
def State.stagedRule (s : State) (a : Nat) : Word := (alGet s.gtc.staged a).getD (s.rd a)

/-- A write of CTL of entry `e` commits the staging copies with it (R286, R288). -/
def State.commitRule (s : State) (e : Nat) (v : Word) : State :=
  if s.bit (Reg.GATE_RULE_CTL e) 31 then s
  else
    let put (s : State) (a : Nat) : State := s.wr a (s.stagedRule a)
    let s := put (put (put s (Reg.GATE_RULE_BASE e)) (Reg.GATE_RULE_LIMIT e)) (Reg.GATE_RULE_CLS e)
    let s := s.wr (Reg.GATE_RULE_CTL e) (v &&& ruleMask 8)
    let left := s.gtc.staged.filter fun p => decide (p.1 / 16 ≠ Reg.GATE_RULE_BASE e / 16)
    let s := { s with gtc := { s.gtc with staged := left } }
    s.disarm

/-- A write of a register of an entry, at offset `off` of entry `e`: BASE, LIMIT and CLS are staged (R286). -/
def State.writeRule (s : State) (e off : Nat) (v : Word) : State :=
  if off = 8 then s.commitRule e v
  else if s.bit (Reg.GATE_RULE_CTL e) 31 then s
  else
    let a := Reg.GATE_RULE_BASE e + off
    { s with gtc := { s.gtc with staged := alInsert (alDel s.gtc.staged a) a (v &&& ruleMask off) } }

/-- A write of GTC_CTL: LOCKG3 locks the sixteen entries of G3 and drops what they have staged (R288, R291). -/
def State.writeGtcCtl (s : State) (v : Word) : State :=
  if s.bit Reg.GTC_CTL 0 || !(wbit v 0) then s
  else
    let s := (List.range 16).foldl (fun s m => s.setBit (Reg.GATE_RULE_CTL (48 + m)) 31) (s.setBit Reg.GTC_CTL 0)
    let left := s.gtc.staged.filter fun p => decide (p.1 < Reg.GATE_RULE_BASE 48 ∨ Reg.GATE_RULE_BASE 64 ≤ p.1)
    let s := { s with gtc := { s.gtc with staged := left } }
    s.disarm

/-- A write of GATEn_VSTAT; CLR sets VCNT to 0. -/
def State.writeVstat (s : State) (n : Nat) (v : Word) : State :=
  let s := s.stdWrite (Reg.GATE_VSTAT n) v
  if wbit v 2 then s.setF (Reg.GATE_VSTAT n) 16 16 0 else s

/-! ## The configuration check (R290 to R292) -/

/-- A Cycle boundary starts a computation while SYS is ON. -/
def State.gateCrcStart (s : State) : State :=
  if s.domOn .sys then { s with gtc := { s.gtc with crcRuns := true } } else s

/-- The rule registers in force, in address order. -/
def State.ruleBytes (s : State) : List Byte :=
  (List.range 512).flatMap fun i => bytesLE 4 (s.rd (Reg.GATE_RULE_BASE 0 + 4 * i)).toNat

/-- A computation ends (R290). -/
def State.gateCrcDone (s : State) : State :=
  if s.gtc.crcRuns && s.domOn .sys then
    let crc := crc32 s.ruleBytes
    let s := { s with gtc := { s.gtc with crcRuns := false } }
    let s := s.wr Reg.GTC_CRCLAST (word crc)
    if s.bit Reg.GTC_CRCCTL 1 then (s.wr Reg.GTC_CRCREF (word crc)).wr Reg.GTC_CRCCTL 1
    else if s.bit Reg.GTC_CRCCTL 0 && decide (s.rd Reg.GTC_CRCREF ≠ word crc) && !(s.bit Reg.GTC_CRCSTAT 1) then
      (s.setBit Reg.GTC_CRCSTAT 1).safReport (faultWord 6 1 crc) 0x7FF
    else s
  else s

end Sys2Proof.Machine
end

