-- ==== Sys2Proof/Machine/Qos.lean ====
section
/-!
DEFINITION. Targets and Store banks by address (Tables 08.1 and 08.2), and the arbiter of each target port and bank (R250, R251).
-/
namespace Sys2Proof.Machine

/-! ## Targets -/

/-- The bank of a Store address. -/
def bankOf (addr : Nat) : Nat := (addr - 0x10000000) / 0x10000

/-- An address in the Store banks. -/
def inStore (addr : Nat) : Bool := decide (0x10000000 ≤ addr) && decide (addr < 0x10100000)

/-- The target code of an address (Table 08.2). -/
def targetOf (a : Nat) : Nat :=
  if a < 0x400000 then 0
  else if (0x10000000 ≤ a ∧ a < 0x10110000) ∨ (0x12000000 ≤ a ∧ a < 0x12100000) ∨ (0x14000000 ≤ a ∧ a < 0x14100000) ∨
    (0x40000000 ≤ a ∧ a < 0x41000000) then 1
  else if (0x30000000 ≤ a ∧ a < 0x30005000) ∨ (0x30008000 ≤ a ∧ a < 0x3000C000) then 2
  else if 0xE0000000 ≤ a ∧ a < 0xE0003000 then 21
  else if 0xF0000000 ≤ a ∧ a < 0xF0008000 then 22
  else if 0x20100000 ≤ a ∧ a < 0x20108000 then 10
  else
    let p := if 0x22000000 ≤ a ∧ a < 0x22020000 then a - 0x2000000 else if 0x24000000 ≤ a ∧ a < 0x24020000 then a - 0x4000000 else a
    match p / 0x1000 with
    | 0x20000 => 3
    | 0x20001 => 4
    | 0x20002 => 5
    | 0x20004 => 6
    | 0x20005 => 7
    | 0x20006 => 8
    | 0x20007 => 9
    | 0x20008 => 10
    | 0x20009 => 11
    | 0x2000A => 12
    | 0x20010 => 13
    | 0x20011 => 13
    | 0x20012 => 13
    | 0x20013 => 13
    | 0x20014 => 14
    | 0x20015 => 15
    | 0x20016 => 16
    | 0x20017 => 17
    | 0x20018 => 18
    | 0x20019 => 19
    | 0x2001A => 20
    | 0x20020 => 16
    | 0x20021 => 16
    | _ => 31

/-! ## The arbiter (R250) -/

/-- The port at which a request is arbitrated: its target, or its Store bank (32 and up); `a` is its checked address. -/
def portOf (addr a : Nat) : Nat := if targetOf addr = 1 then 32 + bankOf a else targetOf addr

/-- The state of an arbiter that has granted nothing, between two rounds. -/
def Arb.fresh (port : Nat) : Arb :=
  { port := port, turn := 1, used := 0, cfg := 0, mids := 0, last0 := 15, last1 := 15, last2 := 15, last3 := 15 }

/-- The arbiter of a port. -/
def State.arb (s : State) (port : Nat) : Arb := (s.bus.arbs.find? fun a => decide (a.port = port)).getD (Arb.fresh port)

/-- Set it. -/
def State.setArb (s : State) (a : Arb) : State :=
  { s with bus := { s.bus with arbs := a :: s.bus.arbs.filter fun b => decide (b.port ≠ a.port) } }

/-- The weight of the class whose turn it is; 0 acts as 1. -/
def Arb.weight (a : Arb) : Nat := max 1 (fld a.cfg (4 * (a.turn - 1)) 4)

/-- The MID granted last in a class. -/
def Arb.last (a : Arb) (c : Nat) : Nat :=
  if c = 0 then a.last0 else if c = 1 then a.last1 else if c = 2 then a.last2 else a.last3

/-- `mid` is granted in a class. -/
def Arb.took (a : Arb) (c mid : Nat) : Arb :=
  match c with
  | 0 => { a with last0 := mid }
  | 1 => { a with last1 := mid }
  | 2 => { a with last2 := mid }
  | _ => { a with last3 := mid }

/-- Between two rounds. -/
def Arb.roundEnds (a : Arb) : Arb := { a with turn := 1, used := 0, cfg := 0, mids := 0 }

/-- A round begins, with the weights and the classes then in force. -/
def State.roundBegins (s : State) (a : Arb) : Arb :=
  { a with turn := 1, used := 0, cfg := s.rd Reg.ICT_QOSCFG, mids := s.rd Reg.ICT_QOSMID }

/-- The class of a waiting request in the round: one that step 4 of R249 gives follows the ICT_QOSMID of the round. -/
def Arb.cls (a : Arb) (r : Req) : Nat :=
  if r.cls = 0 ∨ r.aid < 0x400 then r.cls else max 1 (fld a.mids (2 * r.mid) 2)

/-- The next turn: a class that nothing waits in, or that has used its weight, is over; after class 3 a new round begins
(DEDUCED, log 58: a class passed over has its next turn in the next round). -/
def State.arbTurn (s : State) (ws : List Req) (a : Arb) (fuel : Nat) : Arb :=
  match fuel with
  | 0 => a
  | n + 1 =>
    if (ws.any fun r => decide (a.cls r = a.turn)) && decide (a.used < a.weight) then a
    else State.arbTurn s ws (if a.turn < 3 then { a with turn := a.turn + 1, used := 0 } else s.roundBegins a) n

/-- In rising MID order from the one after the last granted, the first of the requests of class `c`. -/
def Arb.first (a : Arb) (c : Nat) (ws : List Req) : Option Req :=
  ((List.range 16).map fun i => (a.last c + 1 + i) % 16).findSome? fun m =>
    ws.find? fun r => decide (a.cls r = c) && decide (r.mid = m)

/-- Which of the waiting requests is granted next at a port, with the arbiter after it: class 0 first, then the class whose turn
it is. The round ends with the last of them. -/
def State.arbPick (s : State) (port : Nat) (ws : List Req) : Option (Req × Arb) :=
  let a := s.arb port
  let a := if a.turn = 1 ∧ a.used = 0 then s.roundBegins a else a
  let a := if ws.any fun r => decide (a.cls r = 0) then a else s.arbTurn ws a 6
  let c := if ws.any fun r => decide (a.cls r = 0) then 0 else a.turn
  (a.first c ws).map fun r =>
    let t := a.took c r.mid
    let t := if c = 0 then t else { t with used := t.used + 1 }
    (r, if ws.length = 1 then t.roundEnds else t)

/-- A request that finds no other waiting at its port is granted at once, and its round ends with it. -/
def State.granted (s : State) (port cls mid : Nat) : State := s.setArb (((s.arb port).took cls mid).roundEnds)

/-- A beat of an engine is granted at its bank. -/
def State.engineGrant (s : State) (mid aid addr : Nat) : State := s.granted (portOf addr addr) (s.qosClass mid aid) mid

end Sys2Proof.Machine
end

