-- ==== Sys2Proof/Machine/March.lean ====
section
/-!
DEFINITION. March programs over the arrays (R301, R305 to R310): legality, the accesses that gate G1 denies, the failing reads
of a destructive run and what it leaves, and the signatures and ECC events of a transparent one.
-/
namespace Sys2Proof.Machine

/-! ## March programs (R305 to R310) -/

/-- The operations of an element word: 0 r0, 1 r1, 2 w0, 3 w1. -/
def elemOps (w : Word) : List Nat := (List.range (fld w 24 3)).map fun i => fld w (12 + 2 * i) 2

/-- The background of an element word. -/
def elemBg (w : Word) : Nat := fld w 8 3

/-- An element word is legal (R308). -/
def elemOk (w : Word) : Bool :=
  decide (fld w 30 2 ≠ 3) && decide (elemBg w ≤ 4) && decide (1 ≤ fld w 24 3) && decide (fld w 24 3 ≤ 6) &&
    decide (w &&& 0x380008FF = 0) && decide (fld w 12 12 / 4 ^ fld w 24 3 = 0)

/-- The presets of Table 10.4. -/
def preset (alg : Nat) : List Word :=
  match alg with
  | 1 => [0x81002000, 0x0200C000, 0x42009000]
  | 2 => [0x81002000, 0x0200C000, 0x02009000, 0x4200C000, 0x42009000, 0x81000000]
  | 3 => [0x81002000, 0x05320000, 0x05275000, 0x45320000, 0x45275000, 0x81000000]
  | 4 => [0x81002000, 0x4200C000, 0x040C9000, 0x02009000, 0x0409C000, 0x81000000]
  | 5 => [0x81002000, 0x81000000, 0x81003000, 0x81001000]
  | _ => []

/-- The writes of a program in order, as background and element data. -/
def progWrites (prog : List Word) : List (Nat × Nat) :=
  prog.flatMap fun w => ((elemOps w).filter fun o => decide (2 ≤ o)).map fun o => (elemBg w, o - 2)

/-- A program may run transparently (R310). -/
def transpOk (prog : List Word) : Bool :=
  match prog with
  | [] => false
  | e :: es =>
    ((elemOps e).all fun o => decide (2 ≤ o)) && (es.all fun w => decide ((elemOps w).headD 3 < 2)) &&
      decide (((progWrites prog).getLast?.map (·.2)) = some 0)

/-! ## Arrays in groups (R301, R311) -/

/-- The slot of an array: the bank it serves, or 16. -/
def State.slotOf (s : State) (arr : Nat) : Nat := ((List.range 16).find? fun n => decide (s.arrayOf n = arr)).getD 16

/-- The arrays of a run in groups of four, which are processed at a time (R311). -/
def groupsOf (arrays : List Nat) : List (List Nat) :=
  (List.range ((arrays.length + 3) / 4)).map fun i => (arrays.drop (4 * i)).take 4

/-- An element visits its words, or rows, downwards. -/
def elemDown (w : Word) : Bool := decide (fld w 30 2 = 1)

/-- `n` numbers in the order of an element. -/
def visitOrder (w : Word) (n : Nat) : List Nat := if elemDown w then (List.range n).reverse else List.range n

/-- The rows of an array that a destructive run tests: rows 0 to 511, and the spare rows not in use as 512 to 515 (R301). -/
def State.testedRow (s : State) (arr row : Nat) : Bool :=
  decide (row < 512) || (decide (row < 516) && !(s.spareUsed arr (row - 512)))

/-! ## Denials (R283, R284, R326) -/

/-- The 32-byte granules of a slot whose access by the engine gate G1 denies, as offsets. -/
def State.deniedAt (s : State) (slot aid : Nat) (write : Bool) : List Nat :=
  ((List.range 2048).map fun i => 32 * i).filter fun o =>
    (s.denier 1 (storeAddr slot o) 7 aid (if write then 17 else 16)).isSome

/-- What gate G1 denies of an array to the engine: the granules for reads and for writes. -/
structure ArrDenied where
  arr : Nat
  slot : Nat
  reads : List Nat
  writes : List Nat

/-- The denials of an array. -/
def State.arrDenied (s : State) (aid arr : Nat) : ArrDenied :=
  { arr := arr, slot := s.slotOf arr, reads := s.deniedAt (s.slotOf arr) aid false, writes := s.deniedAt (s.slotOf arr) aid true }

/-- Nothing is denied. -/
def ArrDenied.clean (d : ArrDenied) : Bool := d.reads.isEmpty && d.writes.isEmpty

/-- The word at an offset may not be accessed. -/
def ArrDenied.denies (d : ArrDenied) (off : Nat) (write : Bool) : Bool :=
  (if write then d.writes else d.reads).contains (off - off % 32)

/-- The denied accesses of one pass of an element over a group, in order: a write or a read, and its address. -/
def elemDenials (g : List ArrDenied) (w : Word) (ops : List Nat) : List (Bool × Nat) :=
  ((visitOrder w 16384).filter fun i => g.any fun d => d.denies (4 * i) false || d.denies (4 * i) true).flatMap fun i =>
    ops.flatMap fun o => (g.filter fun d => d.denies (4 * i) (decide (2 ≤ o))).map fun d =>
      (decide (2 ≤ o), storeAddr d.slot (4 * i))

/-- The denied accesses of a run on arrays, in order: each group makes its passes, each over the elements of a program; a pass
without writes is a prediction pass (R310). -/
def State.marchDenials (s : State) (aid : Nat) (arrays : List Nat) (prog : List Word) (predict : Bool) : List (Bool × Nat) :=
  let ds := arrays.map (s.arrDenied aid)
  if ds.all ArrDenied.clean then []
  else
    (groupsOf arrays).flatMap fun g =>
      let g := ds.filter fun d => g.contains d.arr
      (if predict then prog.flatMap fun w => elemDenials g w ((elemOps w).filter fun o => decide (o < 2)) else []) ++
        prog.flatMap fun w => elemDenials g w (elemOps w)

/-- The denials of a run up to its first denied read, which ends it (R283): they are counted, the first is captured, and a write
sets the notice (R284, R285). -/
def State.marchCount (s : State) (aid : Nat) (ds : List (Bool × Nat)) : State :=
  let writes := ds.takeWhile fun d => d.1
  let upTo := writes ++ (ds.drop writes.length).take 1
  upTo.foldl (fun s d => (s.engineGate 1 d.2 7 aid 4 d.1).s) s

/-- A read is denied. -/
def marchEnds (ds : List (Bool × Nat)) : Bool := ds.any fun d => !d.1

/-! ## Failing reads of a destructive run (R306, R307) -/

/-- The word that an operation of an element writes or expects: D0, or D1 = NOT D0 (R306). -/
def opWord (w custom : Word) (row col o : Nat) : Nat :=
  let d := backgroundWord (elemBg w) custom row col
  (if o % 2 = 1 then ~~~d else d).toNat

/-- A word under test: its data, and whether its check bits are those of the data. -/
structure MarchWord where
  v : Nat
  good : Bool
  deriving DecidableEq, Repr

/-- One operation on a word, with the failing reads so far: a read compares all 39 bits (R307). -/
def marchOp (w custom : Word) (row col : Nat) (may : Bool) (x : MarchWord × Nat) (o : Nat) : MarchWord × Nat :=
  let d : MarchWord := { v := opWord w custom row col o, good := true }
  if o < 2 then (x.1, x.2 + b2n (decide (x.1 ≠ d))) else (if may then d else x.1, x.2)

/-- The failing reads of a word in each element. -/
def wordFails (custom : Word) (row col : Nat) (may : Bool) (x : MarchWord) (prog : List Word) : List Nat :=
  match prog with
  | [] => []
  | w :: rest =>
    let y := (elemOps w).foldl (marchOp w custom row col may) (x, 0)
    y.2 :: wordFails custom row col may y.1 rest

/-- Every read of a program expects what the program has written last, so that no word fails by what it held before. -/
def progClean (last : Option (Nat × Nat)) (prog : List Word) : Bool :=
  match prog with
  | [] => true
  | w :: rest =>
    let y := (elemOps w).foldl (fun (x : Option (Nat × Nat) × Bool) o =>
      if o < 2 then (x.1, x.2 && decide (x.1 = some (elemBg w, o))) else (some (elemBg w, o - 2), x.2)) (last, true)
    y.2 && progClean y.1 rest

/-- The failing reads of a row in each element, by what the array holds. -/
def State.rowFails (s : State) (arr row : Nat) (d : ArrDenied) (prog : List Word) (custom : Word) : List Nat :=
  let m := s.array arr
  let r := if row < 512 then s.rowOf arr row else row
  (List.range 32).foldl (fun acc col =>
    let a := r * 128 + 4 * col
    let x : MarchWord := { v := numLE (m.bytes arr a 4), good := decide (m.eccClass arr a = 0) }
    let may := decide (512 ≤ row) || !(d.denies (row * 128 + 4 * col) true)
    acc.zipWith (fun p q => p + q) (wordFails custom row col may x prog)) (prog.map fun _ => 0)

/-- The rows that fail by what the array holds, with their failing reads in each element. -/
def State.heldFails (s : State) (aid arr : Nat) (prog : List Word) (custom : Word) : List (Nat × List Nat) :=
  let d := s.arrDenied aid arr
  if progClean none prog && d.writes.isEmpty then []
  else
    (((List.range 516).filter (s.testedRow arr)).map fun row => (row, s.rowFails arr row d prog custom)).filter fun p =>
      p.2.any fun n => decide (n ≠ 0)

/-- What a march run finds: the failing reads, and the failing rows in the order found. -/
structure MarchFound where
  reads : Nat
  rows : List (Nat × Nat)
  deriving DecidableEq, Repr

/-- The element in which a row fails first: by what the array holds, or by its silicon. -/
def firstFail (held : List (Nat × List Nat)) (r : MarchResult) (last arr row : Nat) : Option Nat :=
  let a := (alGet held row).bind fun l => l.findIdx? fun n => decide (n ≠ 0)
  let b := (r.fails.find? fun f => decide (f.arr = arr ∧ f.row = row)).map fun f => min f.elem last
  match a, b with
  | some i, some j => some (min i j)
  | some i, none => some i
  | none, b => b

/-- The failing reads and rows of a destructive run (R307, R311). -/
def State.marchFound (s : State) (aid : Nat) (arrays : List Nat) (prog : List Word) (custom : Word) (r : MarchResult) :
    MarchFound :=
  let held := arrays.map fun a => (a, s.heldFails aid a prog custom)
  let mine := r.fails.filter fun f => arrays.contains f.arr && s.testedRow f.arr f.row
  if (held.all fun h => h.2.isEmpty) && mine.isEmpty then { reads := 0, rows := [] }
  else
    let r := { r with fails := mine }
    let rows := (groupsOf arrays).flatMap fun g => prog.zipIdx.flatMap fun e => (visitOrder e.1 516).flatMap fun row =>
      (g.filter fun a => decide (firstFail ((alGet held a).getD []) r (prog.length - 1) a row = some e.2)).map fun a => (a, row)
    let n := (held.map fun h => (h.2.map fun p => p.2.sum).sum).sum
    { reads := max (n + r.failReads) rows.length, rows := rows }

/-! ## What a destructive run leaves (R300, R301, R312) -/

/-- A word of another memory, with its check bits. -/
def Mem.copyWord (m old : Mem) (id a : Nat) : Mem :=
  let m := m.putWord a (old.bytes id a 4)
  match old.eccClass id a with
  | 0 => m
  | 1 => { m with ecc := alInsert m.ecc a 0 }
  | _ => { m with ecc := alInsert m.ecc a (old.syndrome id a) }

/-- `n` words of another memory from `a`, with their check bits. -/
def Mem.copyWords (m old : Mem) (id a n : Nat) : Mem := (List.range n).foldl (fun m i => m.copyWord old id (a + 4 * i)) m

/-- The bytes of D0, or of its inverse, of a row. -/
def rowPattern (inv : Bool) (bg : Nat) (custom : Word) (row : Nat) : List Byte :=
  (List.range 32).flatMap fun c =>
    let w := backgroundWord bg custom row c
    bytesLE 4 (if inv then ~~~w else w).toNat

/-- A granule whose writes gate G1 denies keeps its words (R326). -/
def State.keepDenied (s : State) (arr aid : Nat) (m : Mem) : Mem :=
  (s.arrDenied aid arr).writes.foldl (fun m o => m.copyWords (s.array arr) arr (s.cellOf arr o) 8) m

/-- What a destructive program leaves in an array: its last write everywhere; a spare row in use holds the pattern of the row
it serves, and a row that a spare row replaces is not visited. -/
def State.marchLeave (s : State) (arr aid : Nat) (prog : List Word) (custom : Word) : State :=
  match (progWrites prog).getLast? with
  | none => s
  | some (bg, v) =>
    let inv := decide (v = 1)
    let mine := s.stc.remaps.filter fun p => decide (p.1 / 4 = arr)
    let m := Mem.blank (.march inv bg custom)
    let m := mine.foldl (fun m p => m.setBytes ((512 + p.1 % 4) * 128) (rowPattern inv bg custom p.2)) m
    let m := mine.foldl (fun m p => m.copyWords (s.array arr) arr (p.2 * 128) 32) m
    s.setArray arr (s.keepDenied arr aid m)

/-! ## Transparent runs (R310) -/

/-- The reads of a program by element: its order, and for each read of the element the program's state then and whether a write
of the program comes before it. The content found is state 0. -/
def progReads (prog : List Word) : List (Word × List (Nat × Bool)) :=
  (prog.foldl (fun (x : List (Word × List (Nat × Bool)) × Nat × Bool) w =>
    let y := (elemOps w).foldl (fun (y : List (Nat × Bool) × Nat × Bool) o =>
      if o < 2 then (y.1 ++ [(y.2.1, y.2.2)], y.2) else (y.1, o - 2, true)) ([], x.2)
    (x.1 ++ [(w, y.1)], y.2)) ([], 0, false)).1

/-- The corrected word at an offset of an array; an uncorrectable one has none, and is a free value. -/
def State.corrected (s : State) (arr off : Nat) : Nat :=
  let a := s.cellOf arr off
  if 2 ≤ (s.array arr).eccClass arr a then s.freeWord.toNat else numLE ((s.array arr).bytes arr a 4)

/-- The words that a pass over a group feeds to its signature, in read order; at one operation the arrays of the group in
ascending order (DEDUCED, log 58). In the test pass a word whose writes gate G1 denies keeps its content. -/
def State.signedWords (s : State) (aid : Nat) (g : List Nat) (prog : List Word) (test : Bool) : List Nat :=
  let ds := g.map (s.arrDenied aid)
  (progReads prog).flatMap fun e => (visitOrder e.1 16384).flatMap fun i => e.2.flatMap fun rd => ds.map fun d =>
    let v := s.corrected d.arr (4 * i)
    if rd.1 = 1 ∧ (test && d.denies (4 * i) true) = false then 4294967295 - v else v

/-- The signature of the passes of a run (R310). -/
def State.signature (s : State) (aid : Nat) (arrays : List Nat) (prog : List Word) (test : Bool) : Nat :=
  crc32 ((groupsOf arrays).flatMap fun g => (s.signedWords aid g prog test).flatMap fun v => bytesLE 4 v)

/-- The reads of a pass over a group that find an error, in read order, as array and offset: each read of the prediction pass,
and of the test pass those before the word is first written. -/
def State.errorReads (s : State) (aid : Nat) (g : List Nat) (prog : List Word) (test : Bool) : List (Nat × Nat) :=
  let ds := g.map (s.arrDenied aid)
  let bad (arr i : Nat) : Bool := decide ((s.array arr).eccClass arr (s.cellOf arr (4 * i)) ≠ 0)
  (progReads prog).flatMap fun e =>
    ((visitOrder e.1 16384).filter fun i => g.any fun a => bad a i).flatMap fun i => e.2.flatMap fun rd =>
      (ds.filter fun d => bad d.arr i && !(test && rd.2 && !(d.denies (4 * i) true))).map fun d => (d.arr, 4 * i)

/-- Both passes of every group. -/
def State.eccEvents (s : State) (aid : Nat) (arrays : List Nat) (prog : List Word) : List (Nat × Nat) :=
  (groupsOf arrays).flatMap fun g => s.errorReads aid g prog false ++ s.errorReads aid g prog true

/-- A read of the engine's that finds an error is counted, captured and reported (R299). -/
def State.eccEvent (s : State) (aid : Nat) (e : Nat × Nat) : State :=
  let m := s.array e.1
  let a := s.cellOf e.1 e.2
  if m.eccClass e.1 a = 1 then s.storeCE else s.storeUE 0 1 7 aid (s.slotOf e.1) e.2 (m.syndrome e.1 a)

/-- What the test pass leaves of a word with a single-bit error: a write has stored it corrected; one with an uncorrectable
error has failed, and is lost (R312). -/
def State.eccLeave (s : State) (aid : Nat) (writes : Bool) (e : Nat × Nat) : State :=
  let a := s.cellOf e.1 e.2
  if (s.array e.1).eccClass e.1 a = 1 then
    if writes && !((s.arrDenied aid e.1).denies e.2 true) then
      s.setArray e.1 ((s.array e.1).putWord a ((s.array e.1).bytes e.1 a 4))
    else s
  else if (s.array e.1).eccClass e.1 a = 0 then s
  else s.loseWord e.1 a

end Sys2Proof.Machine
end

