-- ==== Sys2Proof/Machine/Stitch.lean ====
section
/-!
DEFINITION. The Stitch engine (chapter 10): runs, repair, the live bank swap and scrubbing. What the silicon adds to a march is
the event's operand; everything that follows from it and from what the arrays hold is here and in March.lean.
-/
namespace Sys2Proof.Machine

/-! ## Programs (R308, R309) -/

/-- The program that ALG and BG select, if it is legal (R308, R309). -/
def State.program (s : State) (alg bg : Nat) (transp : Bool) : Option (List Word) :=
  let words : List Word :=
    if alg = 0 then (List.range (s.f Reg.STC_PROG 0 4 + 1)).map fun i => s.rd (Reg.STC_ELEM i)
    else (preset alg).map fun w => setFld w 8 3 (if alg = 5 then 1 else bg)
  if words.isEmpty || !(words.all elemOk) || (transp && !(transpOk words)) then none else some words

/-! ## Status -/

/-- Enter a phase; BUSY is 1 in every phase but IDLE. -/
def State.stcPhase (s : State) (p : Nat) : State := (s.setF Reg.STC_STAT 28 4 p).putBit Reg.STC_STAT 0 (decide (p ≠ 0))

/-- PHASE. -/
def State.stcPh (s : State) : Nat := s.f Reg.STC_STAT 28 4

/-- ERR is set. -/
def State.stcErr (s : State) (code : Nat) : State := (s.setF Reg.STC_STAT 24 4 code).setBit Reg.STC_STAT 2

/-- A command is refused. -/
def State.stcRej (s : State) : State := s.setBit Reg.STC_STAT 8

/-- An operation ends. -/
def State.stcIdle (s : State) : State := (s.stcPhase 0).setBit Reg.STC_STAT 1

/-- HELD is entered. -/
def State.stcHeld (s : State) : State := (s.stcPhase 8).setBit Reg.STC_STAT 4

/-- A new run clears the log. -/
def State.stcNewLog (s : State) : State :=
  let s := (List.range 8).foldl (fun s i => s.wr (Reg.STC_FAIL i) 0) s
  let s := { s with stc := { s.stc with fails := [], todo := [] } }
  s.wr Reg.STC_FAILCNT 0

/-- The engine works: SEC and STORE are ON and no sleep pauses it (R325). -/
def State.stcLive (s : State) : Bool :=
  s.powered && s.domOn .sec && s.domOn .store && !s.deep && s.pwr.entry.isNone

/-- A run is in progress: on request or cold. -/
def State.runActive (s : State) : Bool := decide (s.stcPh = 1) || decide (s.stcPh = 2)

/-- From the start of a live swap until its end the spare-bank range is the engine's alone (R297). -/
def State.swapActive (s : State) : Bool :=
  (decide (3 ≤ s.stcPh) && decide (s.stcPh ≤ 11)) || s.bit Reg.STC_MAPSTAT 31

/-- The bank of the swap. -/
def State.swapBank (s : State) : Nat := s.f Reg.STC_MAPSTAT 16 4

/-! ## The fail log and repairs (R304, R307) -/

/-- Count and log failing reads (R307). -/
def State.stcLog (s : State) (reads : Nat) (rows : List (Nat × Nat)) : State :=
  if rows.isEmpty then s
  else
    let s := s.wr Reg.STC_FAILCNT (word (min 4294967295 (s.f Reg.STC_FAILCNT 0 32 + max reads rows.length)))
    let s := ((rows.take 8).zipIdx).foldl
      (fun s p => s.wr (Reg.STC_FAIL p.2) (word (0x80000000 + p.1.1 * 0x10000 + p.1.2))) s
    let s := if 8 < rows.length then s.setBit (Reg.STC_FAIL 7) 30 else s
    let s := { s with stc := { s.stc with fails := rows } }
    s.setBit Reg.STC_STAT 3

/-- The repairs an array needs, as spare row and row; none where there are too few usable spare rows or its rows did not all
fit the log (R304). A transparent run tests no spare row, so none has passed in it (R310). -/
def State.repairsOf (s : State) (arr : Nat) : Option (List (Nat × Nat)) :=
  let rows := (s.stc.fails.filter fun p => decide (p.1 = arr ∧ p.2 < 512)).map (·.2)
  let rows := (List.range 512).filter rows.contains
  let spares := (List.range 4).filter fun k =>
    !s.stc.transp && !(s.spareUsed arr k) && !(s.stc.fails.contains (arr, 512 + k))
  let lost := (s.stc.fails.drop 8).any fun p => decide (p.1 = arr)
  if lost || decide (spares.length < rows.length) then none else some ((spares.map fun k => 4 * arr + k).zip rows)

/-- Plan the repairs of the arrays with failing rows; an array that cannot be repaired gives UNREP (R304). -/
def State.planRepairs (s : State) (arrays : List Nat) : State :=
  arrays.foldl (fun s arr =>
    if s.stc.fails.any fun p => decide (p.1 = arr ∧ p.2 < 512) then
      match s.repairsOf arr with
      | some l => { s with stc := { s.stc with todo := s.stc.todo ++ l } }
      | none => s.stcErr 3
    else s) s

/-! ## Runs (R311 to R313) -/

/-- A run starts on arrays in ascending order. -/
def State.startRun (s : State) (prog : List Word) (transp repair : Bool) (aid : Nat) : State :=
  let banks := bitList 16 (s.rd Reg.STC_RUNCFG >>> 16)
  let unm := s.bit Reg.STC_RUNCFG 12 && !transp
  let chosen := banks.map s.arrayOf ++ (if unm then [s.arrayOf 16] else [])
  let arrays := (List.range 17).filter chosen.contains
  let s := (s.stcNewLog).setF Reg.STC_STAT 24 4 0
  let custom := s.rd Reg.STC_CUSTOM
  let s := { s with stc := { s.stc with arrays := arrays, prog := prog, custom := custom, transp := transp,
                                        repair := repair, aid := aid } }
  (s.setF Reg.STC_STAT 16 5 (arrays.headD 0)).stcPhase 2

/-- What a destructive program did on arrays: its rows, or none where a denied read has ended it (R283). -/
structure MarchAns where
  s : State
  rows : Option (List (Nat × Nat))

/-- A destructive program runs on arrays: its denials, its failing reads, and what it leaves (R307, R312, R326). -/
def State.march (s : State) (aid : Nat) (arrays : List Nat) (prog : List Word) (custom : Word) (r : MarchResult) : MarchAns :=
  let ds := s.marchDenials aid arrays prog false
  let found := s.marchFound aid arrays prog custom r
  let s := s.marchCount aid ds
  if marchEnds ds then ⟨s, none⟩
  else ⟨(arrays.foldl (fun s a => s.marchLeave a aid prog custom) s).stcLog found.reads found.rows, some found.rows⟩

/-- STC_STAT.ARRAY shows the first array of the last group (DESIGN CHOICE, log 58). -/
def State.lastGroup (s : State) : State :=
  s.setF Reg.STC_STAT 16 5 (((groupsOf s.stc.arrays).getLast?.bind List.head?).getD 0)

/-- The repairs of a run are planned; without any it has ended (R304). -/
def State.runRepairs (s : State) : State :=
  let s := if s.stc.repair then s.planRepairs s.stc.arrays else s
  if s.stc.todo.isEmpty then s.stcIdle else s

/-- A destructive run has made its last operation (R304, R307, R312). -/
def State.runDoneDestructive (s : State) (r : MarchResult) : MarchAns :=
  s.march s.stc.aid s.stc.arrays s.stc.prog s.stc.custom r

/-- The words that the silicon makes fail in a transparent run are lost (R312). -/
def State.loseFails (s : State) (fails : List MarchFail) : State :=
  fails.foldl (fun s f => f.cols.foldl (fun s c => s.loseWord f.arr (s.rowOf f.arr f.row * 128 + 4 * (c % 32))) s) s

/-- Both passes of a transparent run have been made (R310, R312): it passes when its signatures agree and no ECC event
occurred. -/
def State.runDoneTransparent (s : State) (r : MarchResult) : State :=
  let aid := s.stc.aid
  let arrays := s.stc.arrays
  let prog := s.stc.prog.drop 1
  let fails := r.fails.filter fun f => arrays.contains f.arr && decide (f.row < 512)
  let events := s.eccEvents aid arrays prog
  let sigP := word (s.signature aid arrays prog false) ^^^ r.sigP
  let sigA := word (s.signature aid arrays prog true) ^^^ r.sigA
  let pass := decide (sigP = sigA) && events.isEmpty && decide (r.ces = 0) && r.ues.isEmpty
  let s := (s.wr Reg.STC_SIGP sigP).wr Reg.STC_SIGA sigA
  let s := events.foldl (fun s e => s.eccEvent aid e) s
  let s := (List.range r.ces).foldl (fun s _ => s.storeCE) s
  let s := r.ues.foldl (fun s u => s.storeUE 0 1 7 aid u.1 u.2.1 u.2.2) s
  if pass then s
  else
    let s := (s.stcLog (max r.failReads fails.length) (fails.map fun f => (f.arr, f.row))).setBit Reg.STC_STAT 3
    (events.eraseDups.foldl (fun s e => s.eccLeave aid (!(progWrites prog).isEmpty) e) s.tickFree).loseFails fails

/-! ## Records (R302, R304) -/

/-- Words queued at the NVM controller land in order before the engine's record. -/
def State.drainNvm (s : State) : State :=
  let s1 := s.bus.nvmQ.foldl (fun s w => s.nvmCommit w) s
  { s1 with bus := { s1.bus with nvmQ := [] } }

/-- What writing a record answers: the state, and the error code or 0. -/
structure RecordAns where
  s : State
  err : Nat

/-- Write a record with low word `lo` to slot STC_RTNEXT, through gate G0 (R304 steps 2 and 3). -/
def State.stcRecord (s : State) (lo : Nat) : RecordAns :=
  let slot := s.f Reg.STC_RTNEXT 0 10
  if 512 ≤ slot then ⟨s, 4⟩
  else
    let a := 0x3F1000 + 8 * slot
    let g := s.engineGate 0 a 7 s.stc.aid 8 true
    if g.ok then
      let s := g.s.drainNvm
      ⟨(s.setNvm64 a (notWord lo)).wr Reg.STC_RTNEXT (word (slot + 1)), 0⟩
    else ⟨g.s, 5⟩

/-! ## The flip (R318, R319) -/

/-- A flip changes the map, ends mirroring and clears a reservation in the bank. -/
def State.flip (s : State) (n : Nat) : State := ((s.exchange n).clrBit Reg.STC_MAPSTAT 30).clearResv n

/-- The flip of phase 5: PEND and the swap marker. -/
def State.flipOut (s : State) : State :=
  let n := s.swapBank
  let s := (s.flip n).setBit Reg.STC_MAPSTAT 31
  { s with stc := { s.stc with marker := some n } }

/-- PEND and the marker are cleared: a RETFLIP or a KEEP ends. -/
def State.swapEnds (s : State) : State :=
  let s := s.clrBit Reg.STC_MAPSTAT 31
  { s with stc := { s.stc with marker := none, fGood := false } }

/-- The flip of phase 10. -/
def State.flipBack (s : State) : State := (s.flip s.swapBank).swapEnds

/-! ## The live bank swap (R315 to R322) -/

/-- A swap of bank `n` starts. -/
def State.startSwap (s : State) (n : Nat) (prog : List Word) (aid : Nat) : State :=
  let u := s.arrayOf 16
  let f := s.arrayOf n
  let s := (s.stcNewLog).setF Reg.STC_STAT 24 4 0
  let custom := s.rd Reg.STC_CUSTOM
  let s := { s with stc := { s.stc with prog := prog, custom := custom, transp := false, repair := false, aid := aid, u := u,
                                        f := f, arrays := [u], fGood := false, copyPos := 0 } }
  ((s.setF Reg.STC_MAPSTAT 16 4 n).setF Reg.STC_STAT 16 5 u).stcPhase 3

/-- Copying starts toward an array: phase 4 or 9. -/
def State.startCopy (s : State) (p arr : Nat) : State :=
  let s := { s with stc := { s.stc with copyPos := 0 } }
  ((s.setBit Reg.STC_MAPSTAT 30).setF Reg.STC_STAT 16 5 arr).stcPhase p

/-- SWAP_PRETEST_DONE: a destructive MATS+ on U passes, or the swap ends with SPAREFAIL. -/
def State.swapPretestDone (s : State) (r : MarchResult) : State :=
  if s.stcLive && decide (s.stcPh = 3) then
    let x := s.march s.stc.aid [s.stc.u] (preset 1) 0 r
    match x.rows with
    | none => ((x.s.loseArray s.stc.u).stcErr 6).stcIdle
    | some [] => x.s.startCopy 4 s.stc.u
    | some _ => (x.s.stcErr 2).stcIdle
  else s

/-- The flip of a phase that makes one: that of phase 5 leads to TEST, that of phase 10 ends the swap. -/
def State.flipNow (s : State) : State :=
  if s.stcPh = 5 then
    let s := (s.flipOut).stcNewLog
    (s.setF Reg.STC_STAT 16 5 s.stc.f).stcPhase 6
  else if s.stcPh = 10 then s.flipBack.stcIdle
  else s

/-- SWAP_FLIP. -/
def State.swapFlip (s : State) : State := if s.stcLive then s.flipNow else s

/-- What follows TEST and REPAIR (Table 10.7). -/
def State.afterTest (s : State) (ok : Bool) : State :=
  let s := { s with stc := { s.stc with fGood := ok } }
  if ok && s.bit Reg.STC_SWPCFG 10 && !(s.bit Reg.STC_SWPCFG 9) then s.startCopy 9 s.stc.f
  else if ok && !(s.bit Reg.STC_SWPCFG 10) then s.stcHeld
  else s.stcPhase 11

/-- SWAP_TEST_DONE: F is tested; a failing spare row not in use is no failure of F (DEDUCED, log 15). -/
def State.swapTestDone (s : State) (r : MarchResult) : State :=
  if s.stcLive && decide (s.stcPh = 6) then
    let x := s.march s.stc.aid [s.stc.f] s.stc.prog s.stc.custom r
    match x.rows with
    | none => ((x.s.loseArray s.stc.f).stcHeld).stcErr 6
    | some rows =>
      if !(rows.any fun p => decide (p.2 < 512)) then x.s.afterTest true
      else if !(s.bit Reg.STC_SWPCFG 8) then x.s.afterTest false
      else
        let s := (x.s.stcPhase 7).planRepairs [s.stc.f]
        if s.stc.todo.isEmpty then s.afterTest false else s
  else s

/-- The repairs of a run or of a swap have ended. -/
def State.repairsEnd (s : State) (ok : Bool) : State :=
  let s := { s with stc := { s.stc with todo := [] } }
  if s.stcPh = 7 then s.afterTest ok else s.stcIdle

/-- One repair: its record is written, then its remap is in force (R304). TFULL and RTERR end the repairs. -/
def State.oneRepair (s : State) : State :=
  match s.stc.todo with
  | [] => s
  | (cell, row) :: rest =>
    let a := s.stcRecord (0x52000000 + cell / 4 * 0x10000 + cell % 4 * 0x4000 + row)
    if a.err = 0 then
      let s := a.s.placeRemap (cell / 4) (cell % 4) row
      let s := { s with stc := { s.stc with todo := rest } }
      if rest.isEmpty then s.repairsEnd true else s
    else (a.s.stcErr a.err).repairsEnd false

/-- A run is stopped: what was under test is undefined; a repair record with its remap completes first (R313, R321). -/
def State.stopRun (s : State) (err : Bool) : State :=
  let s := if s.stc.todo.isEmpty then s.stc.arrays.foldl State.loseArray s else s.oneRepair
  let s := { s with stc := { s.stc with todo := [] } }
  (if err then s.stcErr 6 else s).stcIdle

/-- STC_RUN_DONE. A denied read ends the run with an access error (R283). -/
def State.stcRunDone (s : State) (r : MarchResult) : State :=
  if s.stcLive && decide (s.stcPh = 2) && s.stc.todo.isEmpty then
    if s.stc.transp then
      let ds := s.marchDenials s.stc.aid s.stc.arrays (s.stc.prog.drop 1) true
      let t := s.lastGroup.marchCount s.stc.aid ds
      if marchEnds ds then t.stopRun true else (t.runDoneTransparent r).runRepairs
    else
      let x := s.lastGroup.runDoneDestructive r
      match x.rows with
      | none => x.s.stopRun true
      | some _ => x.s.runRepairs
  else s

/-- STC_REPAIR_DONE. -/
def State.stcRepairDone (s : State) : State :=
  if s.stcLive && (decide (s.stcPh = 2) || decide (s.stcPh = 7)) then s.oneRepair else s

/-- The KEEP record is written, or the swap is held (Table 10.6). It advances STC_RTNEXT as a ROW record does (DEDUCED, log 15). -/
def State.keepRecord (s : State) : State :=
  let a := s.stcRecord (0x58000000 + s.swapBank)
  if a.err = 0 then a.s.swapEnds.stcIdle else (a.s.stcErr a.err).stcHeld

/-- SWAP_KEEP_DONE. -/
def State.swapKeepDone (s : State) : State := if s.stcLive && decide (s.stcPh = 11) then s.keepRecord else s

/-- Copy one word raw or corrected from the bank of the swap to the unmapped array (R316). -/
def State.copyWord (s : State) (n off : Nat) : State :=
  let src := s.arrayOf n
  let dst := s.arrayOf 16
  let a := s.cellOf src off
  let syn := (s.array src).syndrome src a
  let r := s.storeWord n off 2 3 7 s.stc.aid
  let put (m : Mem) : Mem := m.putWord (s.cellOf dst off) (bytesLE 4 r.val)
  match r.ue with
  | none => r.s.setArray dst (put (r.s.array dst))
  | some _ =>
    let m := put (r.s.array dst)
    r.s.setArray dst { m with ecc := alInsert m.ecc (s.cellOf dst off) syn }

/-- COPY_BEAT: one aligned 64-bit beat (R316, R326). -/
def State.copyBeat (s : State) : State :=
  if s.stcLive && (decide (s.stcPh = 4) || decide (s.stcPh = 9)) then
    let n := s.swapBank
    let off := 8 * s.stc.copyPos
    let g := s.engineGate 1 (storeAddr n off) 7 s.stc.aid 8 false
    if g.ok then
      let g := g.s.engineGate 1 (storeAddr 16 off) 7 s.stc.aid 8 true
      let s1 := if g.ok then (g.s.copyWord n off).copyWord n (off + 4) else g.s
      let s1 := { s1 with stc := { s1.stc with copyPos := s.stc.copyPos + 1 } }
      if s.stc.copyPos + 1 < 8192 then s1 else s1.stcPhase (if s.stcPh = 4 then 5 else 10)
    else
      let s1 := g.s.clrBit Reg.STC_MAPSTAT 30
      if s.stcPh = 4 then (s1.stcErr 6).stcIdle else s1.stcHeld.stcErr 6
  else s

/-! ## Commands -/

/-- ABORT, or the stop of a tenant's operation (R313, R321, R581): a unit in progress completes first. -/
def State.stcStop (s : State) (err : Bool) : State :=
  let e (s : State) : State := if err then s.stcErr 6 else s
  match s.stcPh with
  | 2 => s.stopRun err
  | 3 => (e (s.loseArray s.stc.u)).stcIdle
  | 4 => (e (s.clrBit Reg.STC_MAPSTAT 30)).stcIdle
  | 5 => e s.flipOut.stcHeld
  | 6 => e (s.loseArray s.stc.f).stcHeld
  | 7 =>
    let s := s.oneRepair
    let s := { s with stc := { s.stc with todo := [], fGood := s.stc.fGood && decide (s.stcPh ≠ 7) } }
    e ((s.clrBit Reg.STC_MAPSTAT 30).stcHeld)
  | 9 => e (s.clrBit Reg.STC_MAPSTAT 30).stcHeld
  | 10 => s.flipBack.stcIdle
  | 11 => s.keepRecord
  | _ => s

/-- RETURN (R320). -/
def State.stcReturn (s : State) (aid : Nat) : State :=
  let held := decide (s.stcPh = 8)
  let after := decide (s.stcPh = 0) && s.bit Reg.STC_MAPSTAT 31
  let keep := s.bit Reg.STC_SWPCFG 9
  if !(held || after) || (!keep && !s.stc.fGood) then s.stcRej
  else
    let s := { s with stc := { s.stc with aid := aid } }
    if keep then s.stcPhase 11 else s.startCopy 9 s.stc.f

/-- A write of STC_CMD (R313, R314, R320, R327). -/
def State.writeStcCmd (s : State) (v : Word) (wr : Writer) : State :=
  let op := fld v 4 4
  let n := fld v 0 4
  if fld v 16 16 ≠ 0x5717 then s.stcRej
  else if op = 4 then
    if decide (s.stcPh < 2) || (decide (s.stcPh = 2) && s.stc.transp) then s.stcRej else s.stcStop false
  else if op = 3 then s.stcReturn wr.aid
  else if s.stcPh ≠ 0 then s.stcRej
  else if op = 1 then
    match s.program (s.f Reg.STC_RUNCFG 0 3) (s.f Reg.STC_RUNCFG 4 3) (s.bit Reg.STC_RUNCFG 8) with
    | some p => s.startRun p (s.bit Reg.STC_RUNCFG 8) (s.bit Reg.STC_RUNCFG 9) wr.aid
    | none => s.stcErr 1
  else if op = 2 then
    if s.bit Reg.STC_MAPSTAT 31 then s.stcRej
    else
      match s.program (s.f Reg.STC_SWPCFG 0 3) (s.f Reg.STC_SWPCFG 4 3) false with
      | some p => s.startSwap n p wr.aid
      | none => s.stcErr 1
  else if op = 5 then
    if wr.mid ≠ 0 ∨ wr.aid ≠ 0x400 ∨ s.bit Reg.STC_MAPSTAT 31 = true then s.stcRej
    else ((s.flip n).setF Reg.STC_STAT 24 4 0).stcIdle
  else s.stcRej

/-- Step 2 of a tenant reset, and FAULT: an operation that carries the AID is stopped (R581, Table 21.4). -/
def State.stcStopFor (s : State) (aid : Nat) : State :=
  if decide (s.stc.aid = aid) && decide (2 ≤ s.stcPh) && decide (s.stcPh ≠ 8) then s.stcStop true else s

/-- A DOMAIN reset of SEC (R322): the engine is idle, a unit in progress having completed first; MIRROR is cleared. The
registers of the SEC domain are reset by the caller. -/
def State.stcSecReset (s : State) : State :=
  let s :=
    match s.stcPh with
    | 1 => s.stc.arrays.foldl State.loseArray s
    | 2 => if s.stc.todo.isEmpty then s.stc.arrays.foldl State.loseArray s else s.oneRepair
    | 3 => s.loseArray s.stc.u
    | 5 => s.flipOut
    | 6 => s.loseArray s.stc.f
    | 7 => s.oneRepair
    | 10 => s.flipBack
    | 11 => s.keepRecord
    | _ => s
  let s := { s with stc := { s.stc with todo := [], scrubOwed := 0 } }
  s.clrBit Reg.STC_MAPSTAT 30

/-! ## Scrubbing (R323, R324) -/

/-- The scrubber works (R323, R325). -/
def State.scrubRuns (s : State) : Bool :=
  s.stcLive && s.bit Reg.STC_SCRUB 0 && !s.runActive

/-- A Cycle boundary: LAG for the Cycle that ends, and the reads of the next one. -/
def State.scrubBoundary (s : State) : State :=
  let lag := s.stc.scrubEn && (s.stc.storeMoved ||
    (!s.stc.storeOut && (s.stc.scrubPaused || decide (s.stc.scrubOwed ≠ 0))))
  let s := if lag then s.incSat Reg.STC_SCRUB 16 16 else s
  let run := s.scrubRuns
  let en := s.bit Reg.STC_SCRUB 0
  let out := !(s.domOn .store)
  { s with stc := { s.stc with scrubOwed := s.stc.scrubOwed + (if run then 512 else 0), scrubEn := en,
                               scrubPaused := en && !run, storeOut := out, storeMoved := false } }

/-- The scrub of one word (R324). The re-read follows at once, so it finds what the read found. -/
def State.scrubWord (s : State) (slot off : Nat) : State :=
  let arr := s.arrayOf slot
  let m := s.array arr
  let a := s.cellOf arr off
  match m.eccClass arr a with
  | 0 => s
  | 1 =>
    let g := s.engineGate 1 (storeAddr slot off) 7 0x401 4 true
    if g.ok then ((g.s.storePut slot off (m.bytes arr a 4)).storeCE).clearResv slot else g.s
  | _ => s.storeUE 1 2 7 0x401 slot off (m.syndrome arr a)

/-- The correction of a word of the pair at `off` of a bank is deferred by the guard of an SCND loop (R240). -/
def State.scrubDeferred (s : State) (slot off : Nat) : Bool :=
  let single (o : Nat) : Bool :=
    decide ((s.array (s.arrayOf slot)).eccClass (s.arrayOf slot) (s.cellOf (s.arrayOf slot) o) = 1)
  s.core.guard.contains slot && decide (2 ≤ s.f Reg.ICT_QOSMID 14 2) && (single off || single (off + 4))

/-- The pair that the scrubber reads next, as its word index. -/
def State.scrubPos (s : State) : Nat := s.f Reg.STC_SCRPOS 0 18 / 2 * 2

/-- SCRUB_READ: one aligned 64-bit read. -/
def State.scrubRead (s : State) : State :=
  if s.scrubRuns && decide (s.stc.scrubOwed ≠ 0) && !(s.scrubDeferred (s.scrubPos / 16384) (s.scrubPos % 16384 * 4)) then
    let pos := s.scrubPos
    let s := s.wr Reg.STC_SCRPOS (word ((pos + 2) % 262144))
    let s := { s with stc := { s.stc with scrubOwed := s.stc.scrubOwed - 1 } }
    let slot := pos / 16384
    let off := pos % 16384 * 4
    let g := s.engineGate 1 (storeAddr slot off) 7 0x401 8 false
    if g.ok then (g.s.scrubWord slot off).scrubWord slot (off + 4) else g.s
  else s

/-- A write of STC_SCRUB; clearing EN drops the reads still owed (DEDUCED, log 16). -/
def State.writeScrub (s : State) (v : Word) : State :=
  let s := s.stdWrite Reg.STC_SCRUB v
  if s.bit Reg.STC_SCRUB 0 then s else { s with stc := { s.stc with scrubOwed := 0 } }

end Sys2Proof.Machine
end

