-- ==== Sys2Proof/Machine/Pool.lean ====
section
/-!
DEFINITION. The pool manager (chapter 11): descriptors and share entries, allocation, the write operations, levels, and the
scan of a tenant reset.
-/
namespace Sys2Proof.Machine

/-! ## Metadata (R328, R331 to R333) -/

/-- First descriptor of a class (Table 11.1). -/
def poolBase (c : Nat) : Nat :=
  match c with
  | 0 => 0
  | 1 => 4096
  | 2 => 6144
  | _ => 7168

/-- Bytes of a buffer of a class. -/
def poolSize (c : Nat) : Nat :=
  match c with
  | 0 => 64
  | 1 => 256
  | 2 => 1024
  | _ => 4096

/-- The class of a descriptor number. -/
def poolClass (n : Nat) : Nat := if n < 4096 then 0 else if n < 6144 then 1 else if n < 7168 then 2 else 3

/-- The configured count of a class. -/
def State.poolCount (s : State) (c : Nat) : Nat :=
  match c with
  | 0 => s.f Reg.POOL_CNT01 0 13
  | 1 => s.f Reg.POOL_CNT01 16 12
  | 2 => s.f Reg.POOL_CNT23 0 11
  | _ => s.f Reg.POOL_CNT23 16 8

/-- What a metadata word holds right after initialisation (R329): a descriptor in use GEN 1, every other word 0. -/
def State.metaDefault (s : State) (n : Nat) : Word :=
  if n < 7360 ∧ n - poolBase (poolClass n) < s.pool.cnt.getD (poolClass n) 0 then 1 else 0

/-- Metadata word `n`. -/
def State.metaWord (s : State) (n : Nat) : Word :=
  match s.pool.undef with
  | some k => Config.metaWord (8192 * k + n)
  | none => (alGet s.pool.words n).getD (s.metaDefault n)

/-- Set metadata word `n`. -/
def State.setMeta (s : State) (n : Nat) (v : Word) : State :=
  { s with pool := { s.pool with words := alSet (s.metaDefault n) s.pool.words n v } }

/-- A descriptor word (Table 11.2). -/
def descWord (fin shares gen : Nat) : Word :=
  word (0x80000000 + fin % 2048 * 0x100000 + shares % 8 * 0x20000 + gen % 256)

/-- A share entry word (Table 11.3). -/
def entryWord (holder count desc : Nat) : Word :=
  word (0x80000000 + holder % 2048 * 0x100000 + count % 8 * 0x20000 + desc % 8192)

/-- ALLOC of a descriptor, or VALID of an entry. -/
def metaUsed (w : Word) : Bool := wbit w 31

/-- FINISHER of a descriptor, or HOLDER of an entry. -/
def metaAid (w : Word) : Nat := fld w 20 11

/-- SHARES of a descriptor, or COUNT of an entry. -/
def metaShares (w : Word) : Nat := fld w 17 3

/-- GEN of a descriptor. -/
def metaGen (w : Word) : Nat := fld w 0 8

/-- The pool works: EN = 1 and INIT = 0. -/
def State.poolReady (s : State) : Bool := s.bit Reg.POOL_CTL 0 && !(s.bit Reg.POOL_CTL 1)

/-- The share entry of a buffer and a holder. -/
def State.entryOf (s : State) (desc holder : Nat) : Option Nat :=
  (s.pool.words.find? fun p => decide (7360 ≤ p.1) && metaUsed p.2 && decide (fld p.2 0 13 = desc) &&
    decide (metaAid p.2 = holder)).map (·.1)

/-- The lowest share entry that is not in use. -/
def State.freeEntry (s : State) : Option Nat :=
  ((List.range 832).find? fun i => !(metaUsed (s.metaWord (7360 + i)))).map (7360 + ·)

/-- Bring POOL_SHUSE up to date. -/
def State.shuse (s : State) : State :=
  let used := (s.pool.words.filter fun p => decide (7360 ≤ p.1) && metaUsed p.2).length
  s.wr Reg.POOL_SHUSE (word (max used (s.f Reg.POOL_SHUSE 16 10) * 0x10000 + used))

/-! ## Usage (R340) -/

/-- The usage charged to an agent in a class. -/
def State.usage (s : State) (aid c : Nat) : Nat :=
  if aid < 0x400 then fld (s.trec aid 4) (8 * c) 8 else s.f (Reg.POOL_WRES c) 16 13

/-- Set it. -/
def State.setUsage (s : State) (aid c v : Nat) : State :=
  if aid < 0x400 then s.setRec aid 4 (setFld (s.trec aid 4) (8 * c) 8 (min 255 v))
  else s.setF (Reg.POOL_WRES c) 16 13 (min 8191 v)

/-! ## Levels (R342, R343) -/

/-- One level of Table 11.6. -/
def levelNext (was : Bool) (free th back : Nat) : Bool :=
  if th = 0 then false else if was then decide (free < back) else decide (free ≤ th)

/-- Evaluate the four levels of a class on its free count (R342). -/
def State.poolLevels (s : State) (c : Nat) : State :=
  let free := s.f (Reg.POOL_STAT c) 0 13
  let a := s.rd (Reg.POOL_THRA c)
  let b := s.rd (Reg.POOL_THRB c)
  let h := max 1 (s.f Reg.POOL_HYST (8 * c) 8)
  let old := s.rd (Reg.POOL_STAT c)
  let warn := levelNext (wbit old 16) free (fld a 16 13) (fld a 16 13 + h)
  let p3 := levelNext (wbit old 17) free (fld a 0 13) (fld a 0 13 + h)
  let p2 := levelNext (wbit old 18) free (fld b 16 13) (fld b 16 13 + h)
  let floor := levelNext (wbit old 19) free (fld b 0 13) (fld b 0 13 + 1)
  let s := s.setF (Reg.POOL_STAT c) 16 4 (b2n warn + 2 * b2n p3 + 4 * b2n p2 + 8 * b2n floor)
  let s := if warn && !(wbit old 16) then s.setBit Reg.POOL_IRQ c else s
  let s := if (p3 && !(wbit old 17)) || (p2 && !(wbit old 18)) then s.setBit Reg.POOL_IRQ (4 + c) else s
  if floor && !(wbit old 19) then s.setBit Reg.POOL_IRQ (8 + c) else s

/-- The levels of every class are evaluated after every operation and every threshold write, whatever it did (R342). -/
def State.poolEvaluate (s : State) : State := (List.range 4).foldl State.poolLevels s

/-- The free count of a class. -/
def State.poolFreeCount (s : State) (c : Nat) : Nat := s.f (Reg.POOL_STAT c) 0 13

/-- Non-zero thresholds of a class in rising order (R343). -/
def thrOrder (a b : Word) : Bool :=
  decide ((([fld b 0 13, fld b 16 13, fld a 0 13, fld a 16 13]).filter fun x => decide (x ≠ 0)).Pairwise (· < ·))

/-- A write of POOL_THRAc, or of POOL_THRBc (R343, R353). -/
def State.writePoolThr (s : State) (c : Nat) (second : Bool) (v : Word) : State :=
  let a := if second then s.rd (Reg.POOL_THRA c) else s.written (Reg.POOL_THRA c) v
  let b := if second then s.written (Reg.POOL_THRB c) v else s.rd (Reg.POOL_THRB c)
  if thrOrder a b then ((s.wr (Reg.POOL_THRA c) a).wr (Reg.POOL_THRB c) b).poolEvaluate
  else s.setBit Reg.POOL_CTL 3

/-! ## Enabling (R329, R330) -/

/-- The configuration of R329. -/
def State.poolCfgOk (s : State) : Bool :=
  let n := s.poolCount
  let size := n 0 * 64 + n 1 * 256 + n 2 * 1024 + n 3 * 4096
  decide (n 0 ≤ 4096) && decide (n 1 ≤ 2048) && decide (n 2 ≤ 1024) && decide (n 3 ≤ 192) &&
    decide (size ≤ 786432) && decide (4096 * s.f Reg.POOL_BASE 0 8 + size ≤ 0x100000)

/-- Some buffer is allocated. -/
def State.poolInUse (s : State) : Bool :=
  s.poolReady && (List.range 4).any fun c => decide (s.poolFreeCount c ≠ s.pool.cnt.getD c 0)

/-- A write of POOL_CTL (R329, R330). While LOCK = 1 the pool cannot be enabled afresh (DEDUCED, log 23). -/
def State.writePoolCtl (s : State) (v : Word) : State :=
  let was := s.bit Reg.POOL_CTL 0
  if wbit v 0 && !was then
    if !s.poolCfgOk || s.bit Reg.POOL_CTL 8 then s.setBit Reg.POOL_CTL 2
    else
      let base := 0x10000000 + 4096 * s.f Reg.POOL_BASE 0 8
      let n := s.poolCount
      let b2 := base + n 3 * 4096
      let b1 := b2 + n 2 * 1024
      let s := (s.stdWrite Reg.POOL_CTL v).setBit Reg.POOL_CTL 1
      (((s.wr (Reg.POOL_CLSBASE 3) (word base)).wr (Reg.POOL_CLSBASE 2) (word b2)).wr (Reg.POOL_CLSBASE 1) (word b1)).wr
        (Reg.POOL_CLSBASE 0) (word (b1 + n 1 * 256))
  else if was && !(wbit v 0) then
    if s.poolInUse then s.setBit Reg.POOL_CTL 3 else (s.stdWrite Reg.POOL_CTL v).clrBit Reg.POOL_CTL 1
  else s.stdWrite Reg.POOL_CTL v

/-- A write of POOL_BASE, POOL_CNT01 or POOL_CNT23 (R330). -/
def State.writePoolCfg (s : State) (a : Nat) (v : Word) : State := if s.bit Reg.POOL_CTL 0 then s else s.stdWrite a v

/-- USE of every tenant record is set to 0. -/
def State.clearUse (s : State) : State :=
  { s with ten := { s.ten with table := s.ten.table.filter fun p => decide (p.1 % 8 ≠ 4) } }

/-- Initialisation ends (R329). -/
def State.poolInitDone (s : State) : State :=
  if s.bit Reg.POOL_CTL 1 && s.domOn .store && s.powered then
    let cnt := (List.range 4).map s.poolCount
    let s := { s with pool := { words := [], undef := none, staged := [], cnt := cnt } }
    let s := ((s.clearUse).clrBit Reg.POOL_CTL 1).shuse
    ((List.range 4).foldl (fun s c => (s.setF (Reg.POOL_WRES c) 16 13 0).setF (Reg.POOL_STAT c) 0 13 (cnt.getD c 0)) s).poolEvaluate
  else s

/-! ## Results (R347) -/

/-- Record the result of an operation by a master. -/
def State.poolResult (s : State) (op c code mid aid : Nat) (handle : Word) : State :=
  let s := s.wr (Reg.POOL_OPRES (mid % 16)) (word (op * 0x10000000 + c * 0x1000000 + code * 0x10000))
  if code < 0x10 then s
  else
    let s := (s.incSat Reg.POOL_ERRSTAT 16 16).setBit Reg.POOL_IRQ 16
    if s.bit Reg.POOL_ERRSTAT 0 then s
    else
      ((s.wr Reg.POOL_ERRH handle).wr Reg.POOL_ERRINFO
        (word (op * 0x10000000 + mid % 16 * 0x1000000 + aid % 2048 * 0x1000 + code))).setBit Reg.POOL_ERRSTAT 0

/-- A write of POOL_ERRSTAT; CLR sets ECNT to 0. -/
def State.writePoolErr (s : State) (v : Word) : State :=
  let s := s.stdWrite Reg.POOL_ERRSTAT v
  if wbit v 1 then s.setF Reg.POOL_ERRSTAT 16 16 0 else s

/-- Change the free count of a class. -/
def State.setFree (s : State) (c n : Nat) : State := (s.setF (Reg.POOL_STAT c) 0 13 n).poolLevels c

/-! ## Allocation (R334, R335) -/

/-- The code of an allocation decision (Table 11.4); 0 grants. -/
def State.allocCode (s : State) (c mid aid : Nat) : Nat :=
  let tenant := decide (aid < 0x400)
  let use := s.usage aid c
  let minimum := if tenant then fld (s.trec aid 2) (8 * c) 8 else s.f (Reg.POOL_WRES c) 0 13
  let lvl := s.rd (Reg.POOL_STAT c)
  let q := s.qosClass mid aid
  if !s.poolReady then 1
  else if tenant && decide (s.tenState aid ≠ 1) then 2
  else if s.poolFreeCount c = 0 then 3
  else if tenant && decide (fld (s.trec aid 3) (8 * c) 8 ≤ use) then 4
  else if use < minimum then 0
  else if wbit lvl 19 then 5
  else if (decide (q = 3) && (wbit lvl 17 || wbit lvl 18)) || (decide (q = 2) && wbit lvl 18) then 6
  else 0

/-- What an allocation answers: the state, the handle read, and its code. -/
structure AllocAns where
  s : State
  handle : Word
  code : Nat

/-- A read of POOL_ALLOCc by an agent (R334 to R336). -/
def State.poolAlloc (s : State) (c mid aid : Nat) : AllocAns :=
  let code := s.allocCode c mid aid
  let idx := (List.range (s.pool.cnt.getD c 0)).find? fun i => !(metaUsed (s.metaWord (poolBase c + i)))
  match code, idx with
  | 0, some i =>
    let n := poolBase c + i
    let gen := metaGen (s.metaWord n)
    let h := word (gen * 0x1000000 + c * 0x4000 + i)
    let s := (s.setMeta n (descWord aid 0 gen)).setUsage aid c (s.usage aid c + 1)
    ⟨((s.poolResult 1 c 0 mid aid h).setFree c (s.poolFreeCount c - 1)).poolEvaluate, h, 0⟩
  | code, _ =>
    let h : Word := 0xFFFFFFFF
    ⟨((s.incSat (Reg.POOL_DENY c) 0 16).poolResult 1 c code mid aid h).poolEvaluate, h, code⟩

/-- A dropping producer discards its unit of work (R345). -/
def State.poolDrop (s : State) (c aid : Nat) : State :=
  let s := s.incSat (Reg.POOL_DENY c) 16 16
  if aid < 0x400 then s.setRec aid 6 (setFld (s.trec aid 6) 16 16 (min 65535 (fld (s.trec aid 6) 16 16 + 1))) else s

/-! ## Operations (R337, R338) -/

/-- CLASS of a handle. -/
def hClass (h : Word) : Nat := fld h 14 2

/-- The descriptor number of a handle. -/
def hDesc (h : Word) : Nat := poolBase (hClass h) + fld h 0 14

/-- The address of a handle's buffer. -/
def State.hAddr (s : State) (h : Word) : Nat := (s.rd (Reg.POOL_CLSBASE (hClass h))).toNat + fld h 0 14 * poolSize (hClass h)

/-- The checks every operation makes on its handle (R337): 0 passes. -/
def State.handleCode (s : State) (op : Nat) (h : Word) : Nat :=
  let d := s.metaWord (hDesc h)
  if !s.poolReady then 0x1A
  else if fld h 16 8 ≠ 0 ∨ s.pool.cnt.getD (hClass h) 0 ≤ fld h 0 14 then 0x10
  else if !(metaUsed d) then (if op = 2 ∨ op = 4 then 0x11 else 0x1B)
  else if metaGen d ≠ fld h 24 8 then 0x12
  else 0

/-- A buffer is freed (R332). -/
def State.freeBuffer (s : State) (n : Nat) : State :=
  let d := s.metaWord n
  let c := poolClass n
  let gen := metaGen d
  let s := s.setUsage (metaAid d) c (s.usage (metaAid d) c - 1)
  let s := s.setMeta n (word (if gen ≥ 255 then 1 else gen + 1))
  s.setFree c (s.poolFreeCount c + 1)

/-- Take `k` shares from entry `e`; the entry is cleared when none is left. -/
def State.takeShares (s : State) (e k : Nat) : State :=
  let w := s.metaWord e
  let left := metaShares w - k
  (s.setMeta e (if left = 0 then 0 else entryWord (metaAid w) left (fld w 0 13))).shuse

/-- Set SHARES of a descriptor. -/
def State.setShares (s : State) (n k : Nat) : State := s.setMeta n (setFld (s.metaWord n) 17 3 k)

/-- Free by agent `aid` (Table 11.5). -/
def State.freeCode (s : State) (n aid : Nat) : Nat :=
  let d := s.metaWord n
  if metaAid d ≠ aid then 0x13 else if metaShares d ≠ 0 then 0x14 else 0

/-- Release by agent `aid` (Table 11.5). -/
def State.releaseCode (s : State) (n aid : Nat) : Nat :=
  if metaShares (s.metaWord n) = 0 then 0x15 else if (s.entryOf n aid).isNone then 0x16 else 0

/-- The effect of a release. -/
def State.releaseShare (s : State) (n aid : Nat) : State :=
  match s.entryOf n aid with
  | some e => (s.takeShares e 1).setShares n (metaShares (s.metaWord n) - 1)
  | none => s

/-- POOL_FREE, POOL_RELEASE and POOL_DONE, as `op` 2, 3 and 4 (R337). -/
def State.poolOp (s : State) (op : Nat) (h : Word) (mid aid : Nat) : State :=
  let n := hDesc h
  let release := decide (op = 3) || (decide (op = 4) && (s.entryOf n aid).isSome)
  let code := s.handleCode op h
  let code := if code ≠ 0 then code else if release then s.releaseCode n aid else s.freeCode n aid
  let s := if code ≠ 0 then s else if release then s.releaseShare n aid else s.freeBuffer n
  (s.poolResult op (hClass h) code mid aid h).poolEvaluate

/-- POOL_SHAREH stages a handle for its master (R338). -/
def State.poolStage (s : State) (h : Word) (mid aid : Nat) : State :=
  ({ s with pool := { s.pool with staged := alInsert (alDel s.pool.staged mid) mid (h, aid) } }).poolEvaluate

/-- An agent that may take part in a share: no tenant, or one that is READY. -/
def State.shareable (s : State) (aid : Nat) : Bool := decide (0x400 ≤ aid) || decide (s.tenState aid = 1)

/-- The checks of POOL_SHARE after R337 (R338). -/
def State.shareCode (s : State) (n aid newfin holder add : Nat) : Nat :=
  let d := s.metaWord n
  let fin := metaAid d
  let c := poolClass n
  if fin ≠ aid then 0x13
  else if 0x40F < newfin ∨ (add ≠ 0 ∧ (0x40F < holder ∨ holder = newfin)) then 0x10
  else if 7 < metaShares d + add then 0x18
  else if !(s.shareable newfin) || (decide (add ≠ 0) && !(s.shareable holder)) then 0x19
  else if newfin ≠ fin ∧ newfin < 0x400 ∧ fld (s.trec newfin 3) (8 * c) 8 ≤ s.usage newfin c then 0x19
  else if add ≠ 0 ∧ (s.entryOf n holder).isNone = true ∧ s.freeEntry.isNone = true then 0x17
  else 0

/-- Give `add` shares of a buffer to a holder. -/
def State.giveShares (s : State) (n holder add : Nat) : State :=
  if add = 0 then s
  else
    let s := match s.entryOf n holder with
      | some e => s.setMeta e (entryWord holder (metaShares (s.metaWord e) + add) n)
      | none =>
        match s.freeEntry with
        | some e => s.setMeta e (entryWord holder add n)
        | none => s
    (s.setShares n (metaShares (s.metaWord n) + add)).shuse

/-- An entry that the new finisher holds is absorbed (R338, R349). -/
def State.absorb (s : State) (n aid : Nat) : State :=
  match s.entryOf n aid with
  | some e =>
    let k := metaShares (s.metaWord e)
    (s.takeShares e k).setShares n (metaShares (s.metaWord n) - k)
  | none => s

/-- The buffer's finisher changes, with its usage unit. -/
def State.moveFinisher (s : State) (n fin : Nat) : State :=
  let old := metaAid (s.metaWord n)
  let c := poolClass n
  if old = fin then s
  else
    let s := s.setUsage old c (s.usage old c - 1)
    let s := s.setUsage fin c (s.usage fin c + 1)
    (s.setMeta n (setFld (s.metaWord n) 20 11 fin)).absorb n fin

/-- POOL_SHARE (R338). The staging is consumed by a write that carries its AID; without one the
operation has no handle (DEDUCED, log 23). -/
def State.poolShare (s : State) (v : Word) (mid aid : Nat) : State :=
  let add := fld v 29 3
  let newfin := fld v 16 11
  let holder := fld v 0 11
  let st := alGet s.pool.staged mid
  let mine := match st with
    | some p => decide (p.2 = aid)
    | none => false
  let h := if mine then (st.map (·.1)).getD 0 else 0
  let n := hDesc h
  let s := if mine then { s with pool := { s.pool with staged := alDel s.pool.staged mid } } else s
  let code : Nat :=
    if !s.poolReady then 0x1A
    else if !mine then 0x10
    else
      let k : Nat := s.handleCode 5 h
      if k ≠ 0 then k else s.shareCode n aid newfin holder add
  let s := if code ≠ 0 then s else (s.giveShares n holder add).moveFinisher n newfin
  (s.poolResult 5 (hClass h) code mid aid h).poolEvaluate

/-- POOL_MDATA. -/
def State.poolMdata (s : State) : Word := s.metaWord (s.f Reg.POOL_MSEL 0 13)

/-! ## The scan of a tenant reset (R349) -/

/-- One listed metadata word in a scan for tenant `t`. -/
def State.scanWord (s : State) (t n : Nat) : State :=
  let w := s.metaWord n
  if metaUsed w && decide (metaAid w = t) then
    if n < 7360 then (if metaShares w = 0 then s.freeBuffer n else s.moveFinisher n 0x400)
    else
      let d := fld w 0 13
      (s.setShares d (metaShares (s.metaWord d) - metaShares w)).takeShares n (metaShares w)
  else s

/-- The scan for tenant `t`, in number order. -/
def State.poolScan (s : State) (t : Nat) : State :=
  let s := { s with pool := { s.pool with staged := s.pool.staged.filter fun p => decide (p.2.2 ≠ t) } }
  let s := if s.poolReady then (s.pool.words.map (·.1)).foldl (fun s n => s.scanWord t n) s else s
  s.setRec t 4 0

end Sys2Proof.Machine
end

