-- ==== Sys2Proof/Machine/Ict.lean ====
section
/-!
DEFINITION. The interconnect as an engine sees it: waiting at a Store bank (R240, R312), a beat into the Store, and the error
records of aborted requests (R253).
-/
namespace Sys2Proof.Machine

/-- A bank is under an on-request run, which its requests wait for until the run has ended with its repairs (R312). -/
def State.bankTested (s : State) (slot : Nat) : Bool := decide (s.stcPh = 2) && s.stc.arrays.contains (s.arrayOf slot)

/-- A request of a class waits at its Store bank, or at the spare bank: the bank is under an on-request run (R312), or its guard
defers a write of class 2 or 3 from a master other than the core (R240). -/
def State.bankHolds (s : State) (addr mid cls : Nat) (write : Bool) : Bool :=
  decide (0x10000000 ≤ addr) && decide (addr < 0x10110000) && (s.bankTested (bankOf addr) ||
    (write && decide (1 < mid) && s.core.guard.contains (bankOf addr) && decide (2 ≤ cls)))

/-- A request of an engine waits at its bank, in the class that R249 gives it. -/
def State.bankWaits (s : State) (addr mid aid : Nat) (write : Bool) : Bool :=
  s.bankHolds addr mid (s.qosClass mid aid) write

/-! ## Error records (R253) -/

/-- The request would write, as an error record counts it (R253). -/
def ReqKind.writes (k : ReqKind) : Bool :=
  match k with
  | .read => false
  | .fetch => false
  | _ => true

/-- An ABORT response of a request writes a record; a full queue discards it (R253). -/
def State.errRecord (s : State) (kind : Nat) (r : Req) : State :=
  if s.bus.errs.length ≥ 8 then s.setBit Reg.ICT_ERRSTAT 8
  else
    let info := kind * 0x10000000 + r.mid % 16 * 0x1000000 + r.aid % 2048 * 0x1000 + sizeCode r.size * 0x400 +
      b2n r.kind.writes * 0x200 + b2n (decide (r.kind = .fetch)) * 0x100 + targetOf r.addr
    { s with bus := { s.bus with errs := s.bus.errs ++ [(word r.addr, word info)] } }

/-- A write of ICT_ERRPOP. -/
def State.errPop (s : State) (v : Word) : State :=
  if wbit v 0 then { s with bus := { s.bus with errs := s.bus.errs.drop 1 } } else s

/-- ICT_ERRSTAT as read. -/
def State.ictErrstat (s : State) : Word := setFld (s.rd Reg.ICT_ERRSTAT) 0 4 s.bus.errs.length

/-- ICT_ERRADDR and ICT_ERRINFO as read: the oldest record. -/
def State.ictErr (s : State) : Word × Word := s.bus.errs.headD (0, 0)

/-! ## Beats of an engine in the Store (R283) -/

/-- What a sequence of beats answers. -/
structure BeatsAns where
  s : State
  ok : Bool

/-- A write within an aligned word or pair, through gate G1. -/
def State.storeBeat (s : State) (mid aid addr : Nat) (bs : List Byte) : BeatsAns :=
  let g := s.engineGate 1 addr mid aid bs.length true
  if g.ok then
    let s := (g.s.engineGrant mid aid addr).clearResv (bankOf addr)
    ⟨s.storeWrite (bankOf addr) (addr % 0x10000) mid aid bs, true⟩
  else ⟨g.s, false⟩

/-- What a read of an engine answers: the data, a denial, an uncorrectable error, or nothing while it waits at its bank. -/
inductive BeatData where
  | ok (v : Nat)
  | denied
  | ecc
  | wait
  deriving DecidableEq, Repr

/-- A read of an engine, with the state after it. -/
structure BeatAns where
  s : State
  data : BeatData

/-- A read of `n` bytes within an aligned word or pair, through gate G1, which decides before the access waits at its bank
(R274, R275). -/
def State.loadBeat (s : State) (mid aid addr n : Nat) : BeatAns :=
  let g := s.engineGate 1 addr mid aid n false
  if !g.ok then ⟨g.s, .denied⟩
  else if s.bankWaits addr mid aid false then ⟨s, .wait⟩
  else
    let x := (g.s.engineGrant mid aid addr).storeRead (bankOf addr) (addr % 0x10000) n mid aid
    ⟨x.s, if x.ue.isSome then .ecc else .ok x.val⟩

/-- A write of an engine to the Store waits at its bank: its gate has not denied it (R275). -/
def State.storeWaits (s : State) (mid aid addr n : Nat) : Bool :=
  s.bankWaits addr mid aid true && (s.engineGate 1 addr mid aid n true).ok

end Sys2Proof.Machine
end

