-- ==== Sys2Proof/Machine/Tenants.lean ====
section
/-!
DEFINITION. The tenant table and its window, window translation, and the registers of the virtual interrupt router
(chapter 12). The commands and the tenant reset stand in Dma.lean, after the engines they stop.
-/
namespace Sys2Proof.Machine

/-! ## The tenant table (R354 to R357) -/

/-- TEN_STAT.REJ. -/
def State.tenRej (s : State) : State := s.setBit Reg.TEN_STAT 1

/-- A read of word `k` of the record of tenant `t` (R354, R355, R365). -/
def State.readRecord (s : State) (t k : Nat) : Word :=
  if !s.tenEnabled then 0 else if k = 5 then word (fld (s.trec t 5) 16 16 * 65536 + s.vpend t) else s.trec t k

/-- A write of 1 to VPEND clears injection latches (R365). -/
def State.clearLatches (s : State) (t : Nat) (bits : Word) : State :=
  let left := s.ten.latches.filter fun c => !(decide (c / 16 = t) && wbit bits (c % 16))
  { s with ten := { s.ten with latches := left } }

/-- The RW bits of word `k` of a record (Table 12.1). -/
def recordMask (k : Nat) : Word :=
  match k with
  | 0 => 0x3F8
  | 1 => 0x01FF0FFF
  | 2 => 0xFFFFFFFF
  | 3 => 0xFFFFFFFF
  | 4 => 0
  | 5 => 0xFFFF0000
  | 6 => 0x0000FFFF
  | _ => 0xFFFFFFFF

/-- A write of word `k` of the record of tenant `t` through the window (R355, R356). -/
def State.writeRecord (s : State) (t k : Nat) (v : Word) : State :=
  if !s.tenEnabled then s
  else if s.tenState t = 3 then s.tenRej
  else if k = 1 ∧ (256 < fld v 16 9 ∨ 4096 < fld v 0 12 + fld v 16 9) then s.tenRej
  else
    let m := recordMask k
    let s := s.setRec t k ((s.trec t k &&& ~~~m) ||| (v &&& m))
    if k = 5 then s.clearLatches t v else s

/-- Every record reads 0, and no injection latch is set. -/
def State.clearTable (s : State) : State := { s with ten := { s.ten with table := [], latches := [], deliv := [] } }

/-- Some tenant is not ABSENT. -/
def State.anyTenant (s : State) : Bool := s.ten.table.any fun p => decide (p.1 % 8 = 0 ∧ fld p.2 0 3 ≠ 0)

/-- A write of TEN_CTL (R355). -/
def State.writeTenCtl (s : State) (v : Word) : State :=
  let was := s.bit Reg.TEN_CTL 0
  if wbit v 0 && !was then ((s.stdWrite Reg.TEN_CTL v).setBit Reg.TEN_CTL 1).clearTable
  else if was && !(wbit v 0) then
    if s.tenEnabled && s.anyTenant then s.tenRej else ((s.stdWrite Reg.TEN_CTL v).clrBit Reg.TEN_CTL 1).clearTable
  else s.stdWrite Reg.TEN_CTL v

/-- Initialisation of the table ends (R355). -/
def State.tenInitDone (s : State) : State :=
  if s.bit Reg.TEN_CTL 1 && s.domOn .sys && s.powered then (s.clearTable).clrBit Reg.TEN_CTL 1 else s

/-- TEN_CUR. -/
def State.tenCur (s : State) : Word := word (1024 * b2n s.tenantMode + s.tidNum)

/-! ## Windows (R223, R358) -/

/-- The Store address of offset `off` of the window of tenant `t`, for an access of `size` bytes; none where the window is
closed, or the access ends beyond it. -/
def State.translate (s : State) (t off size : Nat) : Option Nat :=
  let w := s.trec t 1
  if s.tenOpen t && decide (off + size ≤ 256 * fld w 16 9) then some (0x10000000 + 256 * fld w 0 12 + off) else none

/-! ## The router (R364 to R368) -/

/-- VIR_CTL.REJ. -/
def State.virRej (s : State) : State := s.setBit Reg.VIR_CTL 1

/-- A write of VIR_ROUTEn (R364). -/
def State.writeRoute (s : State) (n : Nat) (v : Word) : State :=
  if wbit v 31 && (decide (n < 24) || decide (79 < n) || !(s.tenOpen (fld v 16 10))) then s.virRej
  else s.stdWrite (Reg.VIR_ROUTE n) v

/-- A write of VIR_INJECT (R366). -/
def State.writeInject (s : State) (v : Word) : State :=
  let t := fld v 16 10
  let c := 16 * t + fld v 0 4
  if !(s.tenOpen t) then s.virRej
  else if s.ten.latches.contains c then s
  else { s with ten := { s.ten with latches := s.ten.latches ++ [c] } }

/-- VIR_DBNEXT. -/
def State.virDbnext (s : State) : Word :=
  match s.dbNext with
  | some t => word (0x80000000 + t)
  | none => 0

/-- Step 3 of a tenant reset (Table 12.4): every route naming `t` goes to the EIC, and its latches, VEN and doorbell are
cleared. TENANT of a redirected route becomes 0, as in the chapter's worked example (DEDUCED, log 24). -/
def State.redirect (s : State) (t : Nat) : State :=
  let s := (List.range 56).foldl (fun s i =>
    let r := Reg.VIR_ROUTE (24 + i)
    if s.bit r 31 && decide (s.f r 16 10 = t) then (s.clrBit r 31).setF r 16 10 0 else s) s
  let s := s.clearLatches t 0xFFFF
  let s := s.setRec t 5 0
  let s := { s with ten := { s.ten with deliv := s.ten.deliv.filter fun c => decide (c / 16 ≠ t) } }
  s.clrBit (Reg.VIR_DB (t / 32)) (t % 32)

/-! ## States -/

/-- A tenant's state changes; a current tenant that leaves READY is taken out at the next boundary (R363). -/
def State.setTenState (s : State) (t x : Nat) : State :=
  let was := s.tenState t
  let s := s.setRec t 0 (setFld (s.trec t 0) 0 3 x)
  if was = 1 ∧ x ≠ 1 ∧ s.isCurrent t = true then { s with ten := { s.ten with exitDue := true } } else s

end Sys2Proof.Machine
end

