-- ==== Sys2Proof/Machine/Meas.lean ====
section
/-!
DEFINITION. The measurement subsystem (chapter 13): conversion over a Cycle, frames and their rings, slow limits, the fast
tap, the Drone converters, the reference, and the sentinel island. The counts of the bitstreams are the events' operands.
-/
namespace Sys2Proof.Machine

/-- Update channel `n`. -/
def State.setCh (s : State) (n : Nat) (c : MsrCh) : State := { s with msr := { s.msr with chs := s.msr.chs.set n c } }

/-- MSR_IRQ bits are set. -/
def State.msrIrq (s : State) (m : Word) : State := s.orReg Reg.MSR_IRQ m

/-- MSR_STAT.REJ. -/
def State.msrRej (s : State) : State := s.setBit Reg.MSR_STAT 1

/-- A channel converts (R409). -/
def State.convOn (s : State) (n : Nat) : Bool := s.domOn .meas && s.bit Reg.MSR_CFG 0 && wbit (s.ch n).cfg 0

/-- MEAS works. -/
def State.msrLive (s : State) : Bool := s.powered && s.domOn .meas

/-! ## Codes (R381, R382) -/

/-- The code of `d` ones minus zeros over `n` clocks, and whether it was clamped. -/
def msrCode (d : Int) (n : Nat) : Int × Bool :=
  let raw := truncDiv (d * 2097152) (n : Int)
  let c := clampInt (-2097152) 2097151 raw
  (c, decide (c ≠ raw))

/-! ## The reference (R386) -/

/-- The reference is powered, continuously or by samples. It comes up with the first group of MEAS (R409). -/
def State.refPowered (s : State) : Bool :=
  s.measFirst && (s.bit Reg.MSR_DRCTL 0 || s.msr.chs.any fun c =>
    wbit c.cfg 0 && (s.bit Reg.MSR_CFG 0 || wbit c.cfg 1))

/-- Every integration in progress becomes invalid. -/
def State.invalidate (s : State) : State :=
  { s with msr := { s.msr with chs := s.msr.chs.map fun c => { c with good := false } } }

/-- REFRDY is 0 whenever the reference is powered down. -/
def State.refUpdate (s : State) : State :=
  if !s.refPowered && s.bit Reg.MSR_STAT 0 then (s.clrBit Reg.MSR_STAT 0).invalidate else s

/-- REFERENCE_SETTLED. -/
def State.referenceSettled (s : State) : State := if s.refPowered then s.setBit Reg.MSR_STAT 0 else s

/-! ## The fast tap (R401) -/

/-- The fast tap of a channel runs. -/
def State.tapOn (s : State) (n : Nat) : Bool := s.convOn n && wbit (s.ch n).cfg 5 && !(wbit (s.ch n).cfg 1)

/-- Modulator clocks that a tap keeps: more than the W of any Cycle that R26 allows, at most 711. -/
def tapDepth : Nat := 1024

/-- A tap that stops loses its history and its condition. -/
def State.tapUpdate (s : State) : State :=
  let chs := s.msr.chs.zipIdx.map fun p =>
    if s.tapOn p.2 then p.1 else { p.1 with hist := 0, filled := 0, trip := false }
  { s with msr := { s.msr with chs := chs } }

/-- W of R401; the tap keeps as many clocks as the longest window may need. -/
def State.tapWindow (s : State) : Nat := min tapDepth (s.msr.nLast / 64)

/-- Ones among the low `n` bits of `h`. -/
def onesOf (h n : Nat) : Nat := ((List.range n).filter fun i => decide (h / 2 ^ i % 2 = 1)).length

/-- FAST_TAP_UPDATE: eight more modulator clocks of channel `n`. A trip is reported as its line is asserted; while it stays, the
group is kept tripped (R401, R419). -/
def State.fastTap (s : State) (n : Nat) (bits : BitVec 8) : State :=
  let w := s.tapWindow
  if s.msrLive && s.tapOn n && decide (w ≠ 0) then
    let c := s.ch n
    let filled := min tapDepth (c.filled + 8)
    let hist := (c.hist * 256 + bits.toNat) % 2 ^ tapDepth
    let n' := min w filled
    let ones : Int := onesOf hist n'
    let f := truncDiv ((2 * ones - n') * 2047) (w : Int)
    let r := s.rd (Reg.MSR_CHFAST n)
    let trip := decide (signed 12 (fld r 16 12) < f) || decide (f < signed 12 (fld r 0 12))
    let was := c.trip
    let s := s.setCh n { c with hist := hist, filled := filled, trip := trip }
    if trip then
      let s := (s.setBit (Reg.MSR_FTRIP (n / 32)) (n % 32)).msrIrq 0x80
      if wbit c.cfg 6 && (!was || !(s.bit Reg.SAF_TRIP (fld c.cfg 8 4))) then s.safReport (faultWord 10 0x10 n) 0x7FF else s
    else s
  else s

/-! ## Latching a frame (R380 to R390) -/

/-- What a boundary found on one channel: it converts, its CHCFG in force, its result is VALID, and beyond its limits. -/
structure ChEval where
  conv : Bool
  cfg : Word
  ok : Bool
  out : Bool

/-- One result at a boundary: the word, what step 2 needs, and whether a low-power integration ended. -/
structure ChResult where
  w : Word
  ev : ChEval
  lpEnd : Bool

/-- The result of channel `n` (R381, R382, R384, R385, R388); `next` is TMB_CYCCNT after the boundary. The overload detector
shows in CLIP of the result of its integration, VALID or not. -/
def State.chResult (s : State) (n next : Nat) (b : BoundaryInput) : ChResult :=
  let c := s.ch n
  let conv := s.bit Reg.MSR_CFG 0 && wbit c.cfg 0
  let lp := wbit c.cfg 1
  let ones : Int := b.ones.getD n 0
  let ovl := decide (b.overload / 2 ^ n % 2 = 1)
  let ended := conv && lp && decide (next % 2 ^ s.msr.lpcyc = 0)
  let d := if lp then c.sumD + (2 * ones - b.lpClocks) else 2 * ones - b.modClocks
  let nn := if lp then c.sumN + b.lpClocks else b.modClocks
  let whole := if lp then ended else conv
  let ok := c.good && decide (nn ≠ 0) && whole
  let r := msrCode d nn
  let hi := signed 22 (s.f (Reg.MSR_CHHI n) 0 22)
  let lo := signed 22 (s.f (Reg.MSR_CHLO n) 0 22)
  let out := ok && wbit c.cfg 4 && (decide (hi < r.1) || decide (r.1 < lo))
  let w := word (b2n ok * 0x80000000 + b2n ((ok && r.2) || (whole && (ovl || (lp && c.clip)))) * 0x40000000 + b2n out * 0x20000000 +
    b2n c.checked * 0x10000000 + n * 0x400000 + (if ok then unsign 22 r.1 else 0))
  { w := w, ev := { conv := conv, cfg := c.cfg, ok := ok, out := out }, lpEnd := ended }

/-- Whether a change of CHCFG reconfigures the modulator: EN, LP or GAIN (DEDUCED, log 25). -/
def reconfigures (old new : Word) : Bool := decide ((old ^^^ new) &&& 0xF ≠ 0)

/-- The channel after a boundary: CHCFG writes take effect and new integrations begin (R383, R384). -/
def State.nextCh (s : State) (n : Nat) (ended : Bool) (b : BoundaryInput) : MsrCh :=
  let c := s.ch n
  let new := s.rd (Reg.MSR_CHCFG n)
  let fresh := reconfigures c.cfg new
  let ones : Int := b.ones.getD n 0
  let start := !(wbit new 1) || ended || fresh || !(wbit c.cfg 1)
  let conv := s.bit Reg.MSR_CFG 0 && wbit new 0
  let c := { c with cfg := new, fresh := fresh, checked := false }
  if start then { c with good := conv && s.bit Reg.MSR_STAT 0 && !fresh, sumD := 0, sumN := 0, clip := false }
  else { c with sumD := c.sumD + (2 * ones - b.lpClocks), sumN := c.sumN + b.lpClocks,
                clip := c.clip || decide (b.overload / 2 ^ n % 2 = 1) }

/-- A frame is lost to a ring: the Store ring, or the Saddle ring while STORE is not ON (R394, R398). -/
def State.frameLost (s : State) (saddle : Bool) : State :=
  if saddle then
    let s := s.incSat Reg.MSR_HRINGCNT 8 8
    { s with msr := { s.msr with hovr := true } }
  else
    let s := s.incSat Reg.MSR_RINGSTAT 16 16
    { s with msr := { s.msr with ovr := true } }

/-- A frame whose write begins now belongs to the Saddle ring (R398). -/
def State.toSaddle (s : State) : Bool := !(s.domOn .store) && s.bit Reg.MSR_RINGCTL 8

/-- Hold a latched frame; a third one is lost (R396). -/
def State.holdFrame (s : State) (f : List Word) : State :=
  if 2 ≤ s.msr.held.length then ((s.frameLost s.toSaddle).setBit Reg.MSR_RINGSTAT 1).msrIrq 0x10
  else { s with msr := { s.msr with held := s.msr.held ++ [f] } }

/-- LPCYC takes effect at a boundary, where TMB_CYCCNT becomes `next`; a change makes every low-power integration in progress
invalid, but for one that begins at this boundary and will run over the new number of Cycles (R383, R385; DEDUCED,
log 25). -/
def State.loadLpcyc (s : State) (next : Nat) : State :=
  let l := s.f Reg.MSR_CFG 4 2
  let whole (c : MsrCh) : Bool := decide (c.sumN = 0) && decide (next % 2 ^ l = 0)
  let chs := s.msr.chs.map fun c => if wbit c.cfg 1 then { c with good := c.good && whole c } else c
  if l = s.msr.lpcyc then s else { s with msr := { s.msr with lpcyc := l, chs := chs } }

/-- What step 1 of a boundary leaves for step 2. -/
structure LatchAns where
  s : State
  evs : List ChEval

/-- Step 1 of Table 02.3: the frame of the ended Cycle is latched (R390) and the channels begin anew. -/
def State.frameLatch (s : State) (b : BoundaryInput) : LatchAns :=
  if !s.msrLive then
    ⟨{ s with msr := { s.msr with refBad := false, droneBad := false } }, []⟩
  else
    let next := (s.f Reg.TMB_CYCCNT 0 32 + 1) % 4294967296
    let rs := (List.range 48).map fun n => s.chResult n next b
    let anyLp := rs.any fun r => r.lpEnd
    let anyNorm := rs.any fun r => r.ev.conv && !(wbit r.ev.cfg 1)
    let lim := rs.any fun r => r.ev.out
    let hdr := word (s.f Reg.TMB_CYCCNT 0 16 * 0x10000 + b2n s.tmb.cycleSwitched * 0x4000 + b2n s.msr.unlocked * 0x2000 +
      b2n s.msr.refBad * 0x1000 + b2n s.msr.droneBad * 0x800 + b2n anyLp * 0x400 + b2n lim * 0x100 + 0x32)
    let words := rs.map fun r => r.w
    let s1 :=
      if anyNorm || anyLp then
        let s := ((words.zipIdx).foldl (fun s p => s.wr (Reg.MSR_RESULT p.2) p.1) s).wr Reg.MSR_HDR hdr
        s.holdFrame (hdr :: words)
      else s
    let chs := (rs.zipIdx).map fun p => s.nextCh p.2 p.1.lpEnd b
    let s1 := { s1 with msr := { s1.msr with chs := chs, refBad := false, droneBad := false,
                                             nLast := if s.msr.nFirst then 40000 else b.modClocks, nFirst := false } }
    ⟨(s1.loadLpcyc next).tapUpdate.refUpdate, rs.map fun r => r.ev⟩

/-! ## Slow limits (R400, R419) -/

/-- The slow-limit condition of a group lasts until every channel that reports to it is disabled or gives a VALID result within
its limits (R419). -/
def groupStays (evs : List ChEval) (g : Nat) : Bool :=
  evs.any fun e => e.conv && wbit e.cfg 6 && decide (fld e.cfg 8 4 = g) && !(e.ok && !e.out)

/-- Step 2 of Table 02.3: limits and groups by the configuration of the Cycle that ended. -/
def State.slowLimits (s : State) (evs : List ChEval) : State :=
  if evs.isEmpty then s
  else
    let beyond := ((evs.zipIdx).filter fun p => p.1.out)
    let s := beyond.foldl (fun s p => s.setBit (Reg.MSR_LIMEVT (p.2 / 32)) (p.2 % 32)) s
    let s := if beyond.isEmpty then s else (s.msrIrq 0x20).wakeEvent .limit
    let sen := beyond.filter fun p => wbit p.1.cfg 6
    let s := sen.foldl (fun s p => s.safReportIn (faultWord 10 0x11 p.2) 0x7FF (some (fld p.1.cfg 8 4))) s
    let stay := s.saf.slow.filter fun p => groupStays evs p.1
    let new := sen.foldl (fun l p =>
      let g := fld p.1.cfg 8 4
      if (alGet l g).isSome then l else alInsert l g (faultWord 10 0x11 p.2)) stay
    { s with saf := { s.saf with slow := new } }

/-- The tracker's state at the start of a Cycle, for the header (Table 13.3). -/
def State.msrCycleStart (s : State) : State :=
  let u := decide (s.mstate ≠ 2)
  { s with msr := { s.msr with unlocked := u } }

/-! ## Drone slots (R403 to R405, R420) -/

/-- A Drone slot begins; the pointer advances while the rotation is enabled. -/
def State.slotBegin (s : State) (k : Nat) : State :=
  if !s.msrLive then { s with msr := { s.msr with slot := k, slotDrone := false, slotRef := false } }
  else
    let en := s.bit Reg.MSR_DRCTL 0
    let s := if en then s.setF Reg.MSR_DRSTAT 0 5 ((s.f Reg.MSR_DRSTAT 0 5 + 1) % 24) else s
    let ref := s.bit Reg.MSR_CFG 0
    { s with msr := { s.msr with slot := k, slotDrone := en, slotRef := ref } }

/-- One Drone check (R404): `c` and `d` are the ones of the channel and of the Drone. -/
def State.droneCheck (s : State) (dr n clocks c d : Nat) (isVoid : Bool) : State :=
  let ch := s.ch n
  if !(s.convOn n) || wbit ch.cfg 1 || ch.fresh || isVoid || decide (clocks = 0) then s
  else
    let v (x : Nat) : Int := truncDiv ((2 * (x : Int) - clocks) * 32768) (clocks : Int)
    if ((v c - v d).natAbs) ≤ s.f Reg.MSR_DRCTL 16 16 then s.setCh n { ch with checked := true }
    else
      let s := (s.setBit (Reg.MSR_DRMIS (n / 32)) (n % 32)).incSat Reg.MSR_DRSTAT 16 16
      let s := ((s.setF Reg.MSR_DRSTAT 14 1 dr).setF Reg.MSR_DRSTAT 8 6 n).msrIrq 0x100
      let s := { s with msr := { s.msr with droneBad := true } }
      s.safReport (faultWord 10 1 (256 * dr + n)) 0x7FF

/-- The reference check over slot 15 (R405). The slot ends at the boundary, so its report is made there. -/
def State.refCheck (s : State) (code : Nat) : State :=
  let s := s.setF Reg.MSR_REFSTAT 0 16 code
  if ((code : Int) - 32768).natAbs ≤ s.f Reg.MSR_CFG 8 8 then s
  else
    let s := (s.incSat Reg.MSR_REFSTAT 16 16).msrIrq 0x200
    let s := { s with msr := { s.msr with refBad := true } }
    s.safReport (faultWord 10 2 code) 0x7FF

/-- The next slot begins: the accumulator has reached its start (R403). Slot 15 ends as the accumulator wraps, before the boundary
of the Cycle latches its frame. -/
def State.slotDue (s : State) : Bool :=
  decide ((s.msr.slot + 1) * 1048576 ≤ s.tmb.acc) && (decide (s.msr.slot ≠ 0) || decide (s.tmb.acc < 16777216))

/-- The slot in progress ends and the next one begins. -/
def State.droneSlotAt (s : State) (d : DroneInput) : State :=
  let k := s.msr.slot
  let s :=
    if s.msrLive then
      let p := s.f Reg.MSR_DRSTAT 0 5
      let s := if s.msr.slotDrone then (s.droneCheck 0 p d.n d.c0 d.d0 d.void0).droneCheck 1 (p + 24) d.n d.c1 d.d1 d.void1
        else s
      let s := if k = 14 then s.dieTemp d.temp else s
      if k = 15 ∧ s.msr.slotRef = true then s.refCheck d.ref.toNat else s
    else s
  s.slotBegin ((k + 1) % 16)

/-- DRONE_SLOT: its ticks run first. -/
def State.droneSlot (s : State) (d : DroneInput) : State :=
  let s := s.advanceTicks d.ticks
  if s.slotDue then s.droneSlotAt d else s

/-- A Cycle boundary begins slot 0, if the end of slot 15 has not. -/
def State.slotCycle (s : State) : State := if s.msr.slot = 0 then s else s.slotBegin 0

/-! ## Rings (R391 to R399, R407) -/

/-- One ring: its index and count registers, where RD and COUNT stand, its length and its policy. -/
structure Ring where
  idx : Nat
  cnt : Nat
  wIdx : Nat
  wCnt : Nat
  len : Nat
  stop : Bool

/-- The Store ring. -/
def State.storeRing (s : State) : Ring :=
  { idx := Reg.MSR_RINGIDX, cnt := Reg.MSR_RINGCNT, wIdx := 11, wCnt := 11, len := s.f Reg.MSR_RINGLEN 0 11,
    stop := s.bit Reg.MSR_RINGCTL 1 }

/-- The Saddle ring. -/
def State.saddleRing (s : State) : Ring :=
  { idx := Reg.MSR_HRINGIDX, cnt := Reg.MSR_HRINGCNT, wIdx := 7, wCnt := 7, len := s.f Reg.MSR_HRINGLEN 0 7,
    stop := s.bit Reg.MSR_RINGCTL 9 }

/-- The sentinel ring. -/
def State.sentRing (s : State) : Ring :=
  { idx := Reg.MSR_SENTIDX, cnt := Reg.MSR_SENTCNT, wIdx := 11, wCnt := 12, len := s.f Reg.MSR_SENTLEN 0 11 + 1,
    stop := s.bit Reg.MSR_SENTCFG 8 }

/-- RD, WR and COUNT of a ring are set to 0. -/
def State.ringZero (s : State) (r : Ring) : State := (s.wr r.idx 0).setF r.cnt 0 r.wCnt 0

/-- A unit is to be written while the ring is full (R394): under STOP none; under OVERWRITE slot RD is taken. -/
def State.ringTake (s : State) (r : Ring) : Option State :=
  let c := s.f r.cnt 0 r.wCnt
  if c < r.len then some s
  else if r.stop then none
  else
    let s := s.incSat r.cnt 16 16
    some ((s.setF r.idx 16 r.wIdx ((s.f r.idx 16 r.wIdx + 1) % r.len)).setF r.cnt 0 r.wCnt (c - 1))

/-- A unit is published (R392). -/
def State.ringPublish (s : State) (r : Ring) : State :=
  (s.setF r.idx 0 r.wIdx ((s.f r.idx 0 r.wIdx + 1) % r.len)).setF r.cnt 0 r.wCnt (s.f r.cnt 0 r.wCnt + 1)

/-- A release of `n` units (R393). -/
def State.ringRelease (s : State) (r : Ring) (n : Nat) : State :=
  let c := s.f r.cnt 0 r.wCnt
  if n = 0 ∨ c < n then s.msrRej
  else (s.setF r.idx 16 r.wIdx ((s.f r.idx 16 r.wIdx + n) % r.len)).setF r.cnt 0 r.wCnt (c - n)

/-- FRAME and WMARK after a publish (R392, R395). -/
def State.frameEvents (s : State) (r : Ring) (wmark : Nat) : State :=
  let s := s.msrIrq 1
  if wmark ≠ 0 ∧ s.f r.cnt 0 r.wCnt = wmark then s.msrIrq 2 else s

/-- The 200 bytes of a frame with its CRC (R389). -/
def frameBytes (f : List Word) : List Byte :=
  let b := f.flatMap fun w => bytesLE 4 w.toNat
  b ++ bytesLE 4 (crc32 b)

/-- A frame's words with header flags added. -/
def frameWith (f : List Word) (m : Word) : List Word := (f.headD 0 ||| m) :: f.drop 1

/-- The 25 beats of a frame into the Store through gate G1 (R392, R397). -/
def State.frameBeats (s : State) (aid addr : Nat) (bs : List Byte) : BeatsAns :=
  (List.range 25).foldl (fun r i =>
    let x := r.s.storeBeat 3 aid (addr + 8 * i) ((bs.drop (8 * i)).take 8)
    ⟨x.s, r.ok && x.ok⟩) ⟨s, true⟩

/-- Drop the oldest held frame. -/
def State.dropHeld (s : State) : State := { s with msr := { s.msr with held := s.msr.held.drop 1 } }

/-- Write a frame to the Store ring. -/
def State.publishStore (s : State) (f : List Word) : State :=
  if !(s.bit Reg.MSR_RINGCTL 0) then s
  else
    match s.ringTake s.storeRing with
    | none => (s.frameLost false).msrIrq 4
    | some s =>
      let f := frameWith f (if s.msr.ovr then 0x8000 else 0)
      let addr := (s.rd Reg.MSR_RINGBASE).toNat + 200 * s.f Reg.MSR_RINGIDX 0 11
      let r := s.frameBeats (s.f Reg.MSR_RINGCTL 16 11) addr (frameBytes f)
      if r.ok then
        let s := r.s.ringPublish r.s.storeRing
        let s := { s with msr := { s.msr with ovr := false } }
        s.frameEvents s.storeRing (s.f Reg.MSR_RINGLEN 16 11)
      else ((r.s.frameLost false).setBit Reg.MSR_RINGSTAT 0).msrIrq 8

/-- Write a frame to the Saddle ring, through the local port; without that ring it is lost as R394 has it (R276, R398). -/
def State.publishSaddle (s : State) (f : List Word) : State :=
  if !(s.bit Reg.MSR_RINGCTL 8) then (s.frameLost false).msrIrq 4
  else
    match s.ringTake s.saddleRing with
    | none => (s.frameLost true).msrIrq 4
    | some s =>
      let f := frameWith f (if s.msr.hovr then 0x8200 else 0x200)
      let off := s.f Reg.MSR_HRINGBASE 0 14 + 200 * s.f Reg.MSR_HRINGIDX 0 7
      let s := (s.saddleWrite off 0x401 (frameBytes f)).ringPublish s.saddleRing
      let s := { s with msr := { s.msr with hovr := false } }
      s.frameEvents s.saddleRing (s.f Reg.MSR_HRINGLEN 16 7)

/-- A beat of the frame to be written next waits at its bank: gate G1 does not deny it, and the bank is under test (R275, R312). -/
def State.ringWaits (s : State) : Bool :=
  let aid := s.f Reg.MSR_RINGCTL 16 11
  let addr := (s.rd Reg.MSR_RINGBASE).toNat + 200 * s.f Reg.MSR_RINGIDX 0 11
  s.domOn .store && s.bit Reg.MSR_RINGCTL 0 && (s.ringTake s.storeRing).isSome &&
    (List.range 25).any fun i => s.storeWaits 3 aid (addr + 8 * i) 8

/-- FRAME_PUBLISH: the oldest held frame is written, or lost (R392 to R399). -/
def State.framePublish (s : State) : State :=
  match s.msr.held with
  | [] => s
  | f :: _ =>
    if s.msrLive && s.pwr.entry.isNone && !s.ringWaits then
      if s.domOn .store then s.dropHeld.publishStore f else s.dropHeld.publishSaddle f
    else s

/-- Step 5 of a deep entry has ended: the held frames are written to the Saddle ring, whether MEAS stays ON or not (R399). -/
def State.publishHeld (s : State) : State := s.msr.held.foldl (fun s f => s.dropHeld.publishSaddle f) s

/-- Step 2 of a tenant reset, and FAULT (R411). A ring that is not enabled has no DMA to stop (DEDUCED, log 25). -/
def State.msrStopFor (s : State) (aid : Nat) : State :=
  if s.bit Reg.MSR_RINGCTL 0 && decide (s.f Reg.MSR_RINGCTL 16 11 = aid) then
    let s := ((s.clrBit Reg.MSR_RINGCTL 0).clrBit Reg.MSR_RINGCTL 8).setBit Reg.MSR_STAT 2
    { s with msr := { s.msr with held := [] } }
  else s

/-! ## Register writes -/

/-- MSR_CFG.LOCK (R412). -/
def State.msrLocked (s : State) : Bool := s.bit Reg.MSR_CFG 16

/-- A change of MSR_CFG.EN acts at once: integrations in progress are not VALID (DEDUCED, log 25). -/
def State.msrEnChanged (s : State) : State :=
  let s := s.invalidate
  let s := if s.bit Reg.MSR_CFG 0 then s else { s with msr := { s.msr with slotDrone := false, slotRef := false } }
  s.tapUpdate.refUpdate

/-- A write of MSR_CFG (R387, R412). -/
def State.writeMsrCfg (s : State) (v : Word) : State :=
  if s.msrLocked then s
  else if s.bit Reg.MSR_CFG 0 && !(wbit v 0) && decide (s.outputsOn ≠ 0) then s.msrRej
  else
    let was := s.bit Reg.MSR_CFG 0
    let s := s.stdWrite Reg.MSR_CFG v
    if s.bit Reg.MSR_CFG 0 = was then s else s.msrEnChanged

/-- A write of MSR_DRCTL (R387, R412). -/
def State.writeDrctl (s : State) (v : Word) : State :=
  if s.msrLocked then s
  else if s.bit Reg.MSR_DRCTL 0 && !(wbit v 0) && decide (s.outputsOn ≠ 0) then s.msrRej
  else
    let s := s.stdWrite Reg.MSR_DRCTL v
    (if s.bit Reg.MSR_DRCTL 0 then s else { s with msr := { s.msr with slotDrone := false } }).refUpdate

/-- A write of MSR_CHCFGn (R383, R387, R412). -/
def State.writeChcfg (s : State) (n : Nat) (v : Word) : State :=
  let old := s.rd (Reg.MSR_CHCFG n)
  let new := s.written (Reg.MSR_CHCFG n) v
  if s.msrLocked then s
  else if wbit s.outputsOn (fld old 8 4) && decide ((old ^^^ new) &&& 0xF4F ≠ 0) then s.msrRej
  else if wbit new 1 && wbit new 5 then s.msrRej
  else s.wr (Reg.MSR_CHCFG n) new

/-- A write of a limit of a channel (R412). -/
def State.writeChLim (s : State) (a : Nat) (v : Word) : State := if s.msrLocked then s else s.stdWrite a v

/-- A write of MSR_RINGCTL (R391, R398); a write that sets EN or HEN where it may not is ignored whole. -/
def State.writeRingctl (s : State) (v : Word) (wr : Writer) : State :=
  let en := wbit v 0 && !(s.bit Reg.MSR_RINGCTL 0)
  let hen := wbit v 8 && !(s.bit Reg.MSR_RINGCTL 8)
  let base := (s.rd Reg.MSR_RINGBASE).toNat
  let len := s.f Reg.MSR_RINGLEN 0 11
  let off := s.f Reg.MSR_HRINGBASE 0 14
  let hlen := s.f Reg.MSR_HRINGLEN 0 7
  if en && !(decide (2 ≤ len) && decide (len ≤ 1024) && decide (0x10000000 ≤ base) &&
      decide (base + 200 * len ≤ 0x10100000)) then s.msrRej
  else if hen && !(decide (2 ≤ hlen) && decide (hlen ≤ 64) && decide (off + 200 * hlen ≤ 0x4000)) then s.msrRej
  else
    let s := s.stdWrite Reg.MSR_RINGCTL v
    let s := if en then (s.setF Reg.MSR_RINGCTL 16 11 wr.aid).ringZero s.storeRing else s
    if hen then s.ringZero s.saddleRing else s

/-- A write of MSR_RINGBASE (R391). -/
def State.writeRingbase (s : State) (v : Word) : State :=
  if s.bit Reg.MSR_RINGCTL 0 then s.msrRej else s.stdWrite Reg.MSR_RINGBASE v

/-- A write of MSR_RINGLEN: LEN is kept, with REJ, while EN = 1 (R391). -/
def State.writeRinglen (s : State) (v : Word) : State :=
  if s.bit Reg.MSR_RINGCTL 0 then (s.stdWrite Reg.MSR_RINGLEN (setFld v 0 11 (s.f Reg.MSR_RINGLEN 0 11))).msrRej
  else s.stdWrite Reg.MSR_RINGLEN v

/-- A write of MSR_HRINGBASE, ignored while HEN = 1. -/
def State.writeHringbase (s : State) (v : Word) : State :=
  if s.bit Reg.MSR_RINGCTL 8 then s else s.stdWrite Reg.MSR_HRINGBASE v

/-- A write of MSR_HRINGLEN: LEN is kept while HEN = 1. -/
def State.writeHringlen (s : State) (v : Word) : State :=
  if s.bit Reg.MSR_RINGCTL 8 then s.stdWrite Reg.MSR_HRINGLEN (setFld v 0 7 (s.f Reg.MSR_HRINGLEN 0 7))
  else s.stdWrite Reg.MSR_HRINGLEN v

/-- A write of MSR_RINGREL, or of MSR_HRINGREL (R393). -/
def State.writeRingrel (s : State) (saddle : Bool) (v : Word) : State :=
  if saddle then s.ringRelease s.saddleRing (fld v 0 7) else s.ringRelease s.storeRing (fld v 0 11)

/-- A write of MSR_SENTBASE or MSR_SENTLEN (R407). -/
def State.writeSent (s : State) (a : Nat) (v : Word) : State :=
  let base := if a = Reg.MSR_SENTBASE then s.written a v else s.rd Reg.MSR_SENTBASE
  let len := if a = Reg.MSR_SENTLEN then s.written a v else s.rd Reg.MSR_SENTLEN
  if 0x4000 < fld base 0 14 + 8 * (fld len 0 11 + 1) then s.msrRej
  else
    let s := s.stdWrite a v
    s.ringZero s.sentRing

/-! ## The sentinel island (R406 to R408) -/

/-- SHELF is entered: the island's first integration will be discarded. -/
def State.sentinelStart (s : State) : State :=
  let chs := s.msr.chs.zipIdx.map fun p => if p.2 = 46 ∨ p.2 = 47 then { p.1 with sumD := 0, sumN := 0 } else p.1
  { s with msr := { s.msr with sum46 := 0, sum47 := 0, sumCnt := 0, discard := true, sentRec := none, chs := chs } }

/-- The island runs. -/
def State.sentinelRuns (s : State) : Bool := s.powered && decide (s.pwr.level = .shelf) && s.bit Reg.SDL_CFG 6

/-- The island at a Cycle boundary; called before the boundary counts its Cycle. -/
def State.sentinelCycle (s : State) (b : BoundaryInput) : State :=
  if !s.sentinelRuns then s
  else
    let next := (s.f Reg.TMB_CYCCNT 0 32 + 1) % 4294967296
    let acc (n : Nat) : MsrCh :=
      let c := s.ch n
      let ones : Int := b.ones.getD n 0
      { c with sumD := c.sumD + (2 * ones - b.lpClocks), sumN := c.sumN + b.lpClocks }
    let s := (s.setCh 46 (acc 46)).setCh 47 (acc 47)
    if next % 2 ^ s.f Reg.MSR_CFG 4 2 ≠ 0 then s
    else
      let c46 := s.ch 46
      let c47 := s.ch 47
      let s1 := (s.setCh 46 { c46 with sumD := 0, sumN := 0 }).setCh 47 { c47 with sumD := 0, sumN := 0 }
      if s.msr.discard then { s1 with msr := { s1.msr with discard := false } }
      else if c46.sumN = 0 then s1
      else
        let exp := s.f Reg.MSR_SENTCFG 0 4
        let a := s.msr.sum46 + (msrCode c46.sumD c46.sumN).1
        let d := s.msr.sum47 + (msrCode c47.sumD c47.sumN).1
        if s.msr.sumCnt + 1 < 2 ^ exp then { s1 with msr := { s1.msr with sum46 := a, sum47 := d, sumCnt := s.msr.sumCnt + 1 } }
        else
          let mean (x : Int) : Nat := unsign 16 (x / ((2 ^ exp : Nat) : Int) / 64)
          let rec1 := (s.rd Reg.RTC_SEC, word (mean d * 0x10000 + mean a))
          { s1 with msr := { s1.msr with sum46 := 0, sum47 := 0, sumCnt := 0, sentRec := some rec1 } }

/-- A record's value for one channel is beyond its limits (R408). -/
def State.sentBeyond (s : State) (en lim v : Nat) : Bool :=
  s.bit Reg.MSR_SENTCFG en &&
    (decide (signed 16 (s.f lim 16 16) < signed 16 v) || decide (signed 16 v < signed 16 (s.f lim 0 16)))

/-- The comparison of a record in slot `slot` (R408). -/
def State.sentCompare (s : State) (slot : Nat) (w : Word) : State :=
  let l46 := s.sentBeyond 12 (Reg.MSR_SENTLIM 0) (fld w 0 16)
  let l47 := s.sentBeyond 13 (Reg.MSR_SENTLIM 1) (fld w 16 16)
  if l46 || l47 then
    let s := if s.f Reg.MSR_SENTSTAT 0 2 = 0 then s.setF Reg.MSR_SENTSTAT 16 12 slot else s
    let s := if l46 then s.setBit Reg.MSR_SENTSTAT 0 else s
    let s := if l47 then s.setBit Reg.MSR_SENTSTAT 1 else s
    (s.msrIrq 0x40).wakeEvent .limit
  else s

/-- SENTINEL_RECORD (R407). A record lost under STOP counts in LOST, and sets MSR_IRQ.OVR as R394 has it. -/
def State.sentinelRecord (s : State) : State :=
  match s.msr.sentRec with
  | none => s
  | some (sec, w) =>
    if !s.sentinelRuns then s
    else
      let s := { s with msr := { s.msr with sentRec := none } }
      match s.ringTake s.sentRing with
      | none => (s.incSat Reg.MSR_SENTCNT 16 16).msrIrq 4
      | some s =>
        let slot := s.f Reg.MSR_SENTIDX 0 11
        let s := s.saddleWrite (s.f Reg.MSR_SENTBASE 0 14 + 8 * slot) 0x401 (bytesLE 4 sec.toNat ++ bytesLE 4 w.toNat)
        (s.ringPublish s.sentRing).sentCompare slot w

/-! ## Power (R409) -/

/-- MEAS has left ON: integrations and checks in progress are discarded, and the reference is down. -/
def State.msrOff (s : State) : State :=
  let chs := s.msr.chs.map fun c => { c with checked := false }
  let s := { s with msr := { s.msr with slotDrone := false, slotRef := false, chs := chs } }
  (s.invalidate).tapUpdate.refUpdate

/-- MEAS is usable again: N_last is 40,000 (R401). -/
def State.msrOn (s : State) : State := { s with msr := { s.msr with nLast := 40000, nFirst := true } }

end Sys2Proof.Machine
end

