-- ==== Sys2Proof/Machine/Touch.lean ====
section
/-!
DEFINITION. Touch keys (chapter 15): bursts, the posting of a scan with its baselines and keys, the self-test, and the raw
copy in the Store.
-/
namespace Sys2Proof.Machine

/-- TCH_IRQ bits are set. -/
def State.tchIrq (s : State) (m : Word) : State := s.orReg Reg.TCH_IRQ m

/-- A write is ignored with REJ. -/
def State.tchRej (s : State) : State := s.setBit Reg.TCH_STAT 0

/-! ## Bursts and the raw copy (R437, R452) -/

/-- The two 64-bit data of a TX line's record (R452). -/
def rawHalf (counts : List Nat) (half : Nat) : Nat :=
  (List.range 4).foldl (fun v i => v + min 65535 (counts.getD (4 * half + i) 0) * 2 ^ (16 * i)) 0

/-- A publish at the head of the raw copy's queue is done: WR advances, then CYC is loaded (R452). -/
def State.rawPublish (s : State) : State :=
  match s.tch.raw with
  | .publish cyc :: rest =>
    let len := s.f Reg.TCH_RAWCTL 8 7
    let s := s.setF Reg.TCH_RAWSTAT 0 6 (if len = 0 then 0 else (s.f Reg.TCH_RAWSTAT 0 6 + 1) % len)
    let s := s.setF Reg.TCH_RAWSTAT 16 16 cyc
    { s with tch := { s.tch with raw := rest } }
  | _ => s

/-- TOUCH_BURST: TX line `tx` in its quiet slot; a count at or past the receiver's upper limit is 0xFFFF (R440). A scanned line's beats are queued; a reference Cycle is not copied. -/
def State.touchBurst (s : State) (tx : Nat) (counts : List Nat) : State :=
  if s.touchScans && s.tch.whole && decide (s.pnl.quiet = some tx) && !(s.tch.bursts.any fun p => decide (p.1 = tx)) then
    let copy := s.bit Reg.TCH_RAWCTL 0 && !s.tch.inRef
    let items := if copy then [RawItem.beat tx 0 (rawHalf counts 0), .beat tx 1 (rawHalf counts 1)] else []
    { s with tch := { s.tch with bursts := s.tch.bursts ++ [(tx, counts.map fun n => min 65535 n)], raw := s.tch.raw ++ items } }
  else s

/-- TOUCH_RAW_BEAT: the oldest queued beat goes to the Store (R452, R453), as two 32-bit accesses, since MID 4 has no
64-bit beats (Table 08.3). It waits while its bank is under test or defers it, and from step 1 of a deep entry (R96). -/
def State.touchRawBeat (s : State) : State :=
  match s.tch.raw with
  | .beat tx half data :: rest =>
    let wr := s.f Reg.TCH_RAWSTAT 0 6 % max 1 (s.f Reg.TCH_RAWCTL 8 7)
    let addr := (s.rd Reg.TCH_RAWBASE).toNat + 128 * wr + 16 * tx + 8 * half
    let aid := s.f Reg.TCH_RAWCTL 16 11
    if s.touchScans && s.pwr.entry.isNone && s.domOn .store && !(s.storeWaits 4 aid addr 4) then
      let r := s.storeBeat 4 aid addr (bytesLE 4 data)
      let r2 := r.s.storeBeat 4 aid (addr + 4) (bytesLE 4 (data / 2 ^ 32))
      let s := if r.ok && r2.ok then r2.s else (r2.s.setBit Reg.TCH_STAT 4).tchIrq 0x40
      ({ s with tch := { s.tch with raw := rest } }).rawPublish
    else s
  | _ => s

/-! ## Keys (R445 to R447) -/

/-- Bit `n` of a pair of node registers. -/
def State.nodeBit (s : State) (r : Nat → Nat) (n : Nat) : Bool := s.bit (r (n / 32)) (n % 32)

/-- Set or clear it. -/
def State.putNode (s : State) (r : Nat → Nat) (n : Nat) (b : Bool) : State := s.putBit (r (n / 32)) (n % 32) b

/-- The node of a key. -/
def State.keyNode (s : State) (j : Nat) : Nat := s.f (Reg.TCH_KCFG j) 0 6

/-- A key is enabled. -/
def State.keyEnabled (s : State) (j : Nat) : Bool := s.bit (Reg.TCH_KCFG j) 31

/-- TOUCH_ON and TOUCH_OFF of a key. -/
def State.touchOn (s : State) (j : Nat) : Int := signed 16 (s.f (Reg.TCH_KTHR j) 16 16)

/-- TOUCH_OFF. -/
def State.touchOff (s : State) (j : Nat) : Int := signed 16 (s.f (Reg.TCH_KTHR j) 0 16)

/-- The debounce counts of a key. -/
def State.setCounts (s : State) (j onc offc : Nat) : State :=
  { s with tch := { s.tch with onCnt := s.tch.onCnt.set j onc, offCnt := s.tch.offCnt.set j offc } }

/-- A key goes ON or OFF with KCHG. -/
def State.keyTo (s : State) (j : Nat) (on : Bool) : State := (s.putBit Reg.TCH_KSTATE j on).setBit Reg.TCH_KCHG j

/-- A key is put OFF, with KCHG if it was ON, and its counts return to 0. -/
def State.keyOff (s : State) (j : Nat) : State :=
  (if s.bit Reg.TCH_KSTATE j then s.keyTo j false else s).setCounts j 0 0

/-- One row of Table 15.1 for an evaluated key with delta `d`. -/
def State.keyEval (s : State) (j : Nat) (d : Int) : State :=
  let onc := s.tch.onCnt.getD j 0
  let offc := s.tch.offCnt.getD j 0
  if s.bit Reg.TCH_KSTATE j then
    if d < s.touchOff j then
      if offc + 1 ≥ s.f (Reg.TCH_KCFG j) 12 4 + 1 then (s.keyTo j false).setCounts j onc 0 else s.setCounts j onc (offc + 1)
    else s.setCounts j onc 0
  else if d ≥ s.touchOn j then
    if d < 0 then s.setCounts j 0 offc
    else if onc + 1 ≥ s.f (Reg.TCH_KCFG j) 8 4 + 1 then (s.keyTo j true).setCounts j 0 offc
    else s.setCounts j (onc + 1) offc
  else s.setCounts j 0 offc

/-! ## The posting (R441 to R451) -/

/-- The raw count of a node in the bursts of the Cycle. -/
def State.rawOf (s : State) (n : Nat) : Nat :=
  match s.tch.bursts.find? fun p => decide (p.1 = n / 8) with
  | some p => p.2.getD (n % 8) 0
  | none => 0

/-- All eight bursts ran. -/
def State.scanComplete (s : State) : Bool := (List.range 8).all fun t => s.tch.bursts.any fun p => decide (p.1 = t)

/-- The reference Cycle ends: TCH_REF, and a checked scan is due (R449). -/
def State.postReference (s : State) : State :=
  if s.scanComplete then
    let s := (List.range 8).foldl (fun s r =>
      let sum := (s.tch.bursts.map fun p => p.2.getD r 0).sum
      s.setF (Reg.TCH_REF (r / 2)) (16 * (r % 2)) 16 (sum / 8)) s
    { s with tch := { s.tch with checkDue := true } }
  else { s with tch := { s.tch with refDue := true } }

/-- The self-test of one node (R450). -/
def State.selfTest (s : State) (n : Nat) : State :=
  let raw := s.rawOf n
  let ref := s.f (Reg.TCH_REF (n % 8 / 2)) (16 * (n % 2)) 16
  let short := decide (raw ≥ 0xFFF0) || decide (raw = 0)
  let diff := (raw - ref) + (ref - raw)
  let opn := !short && decide (diff ≤ s.f Reg.TCH_SELF 0 16)
  let s := (s.putNode Reg.TCH_STSHORT n short).putNode Reg.TCH_STOPEN n opn
  if short || opn then s.tchIrq 0x20 else s

/-- A node has a fault of the latest self-test. -/
def State.nodeFault (s : State) (n : Nat) : Bool := s.nodeBit Reg.TCH_STSHORT n || s.nodeBit Reg.TCH_STOPEN n

/-- Delta of a node (R441). -/
def State.delta (s : State) (n : Nat) : Int := ((s.tch.base.getD n 0 / 256 : Nat) : Int) - ((s.rawOf n : Nat) : Int)

/-- Set a baseline. -/
def State.setBase (s : State) (n b : Nat) : State := { s with tch := { s.tch with base := s.tch.base.set n b } }

/-- Set the count of consecutive GROUND_LOW postings of a node. -/
def State.setAnti (s : State) (n c : Nat) : State := { s with tch := { s.tch with anti := s.tch.anti.set n c } }

/-- GROUND_LOW of one node, with its recovery (R442, R443). -/
def State.groundLow (s : State) (n : Nat) (d : Int) : State :=
  if d < -((s.f Reg.TCH_ANTI 0 16 : Nat) : Int) then
    let s := if s.nodeBit Reg.TCH_GLOW n then s else (s.putNode Reg.TCH_GLOW n true).tchIrq 8
    let c := satInc 255 (s.tch.anti.getD n 0)
    let lim := s.f Reg.TCH_ANTI 16 8
    if lim ≠ 0 ∧ lim ≤ c then (((s.setBase n (s.rawOf n * 256)).putNode Reg.TCH_GLOW n false).tchIrq 0x10).setAnti n 0
    else s.setAnti n c
  else (s.putNode Reg.TCH_GLOW n false).setAnti n 0

/-- A key holds the baseline of its node (R441). -/
def State.keyHolds (s : State) (n : Nat) : Bool :=
  (List.range 32).any fun j =>
    s.keyEnabled j && decide (s.keyNode j = n) && (s.bit Reg.TCH_KSTATE j || decide (s.tch.onCnt.getD j 0 ≠ 0))

/-- The baseline of one node moves (R441), as the keys and GROUND_LOW stand after this posting's evaluation (DEDUCED, log
26: the chapter's worked example). -/
def State.moveBase (s : State) (n : Nat) : State :=
  if s.keyHolds n || s.nodeBit Reg.TCH_GLOW n then s
  else
    let b := s.tch.base.getD n 0
    let d := truncDiv (((s.rawOf n * 256 : Nat) : Int) - ((b : Nat) : Int)) ((2 ^ fld s.tch.burst 16 4 : Nat) : Int)
    s.setBase n (((b : Nat) : Int) + d).toNat

/-- The nodes. -/
def nodes : List Nat := List.range 64

/-- A seed (R444). -/
def State.postSeed (s : State) : State :=
  let s := nodes.foldl (fun s n => (s.setBase n (s.rawOf n * 256)).setAnti n 0) s
  let s := (List.range 32).foldl (fun s j => s.keyOff j) s
  ((s.wr (Reg.TCH_GLOW 0) 0).wr (Reg.TCH_GLOW 1) 0).clrBit Reg.TCH_STAT 3

/-- Keys of the posting (R446, R447): `ds` lists the deltas of the nodes. -/
def State.postKeys (s : State) (ds : List Int) : State :=
  let d (j : Nat) : Int := ds.getD (s.keyNode j) 0
  let touched := (List.range 32).filter fun j => s.keyEnabled j && decide (d j ≥ s.touchOn j) && decide (d j ≥ 0)
  if touched.length > s.f Reg.TCH_CTL 16 6 then (s.setBit Reg.TCH_STAT 3).tchIrq 4
  else
    (List.range 32).foldl
      (fun s j => if s.keyEnabled j && !(s.nodeFault (s.keyNode j)) then s.keyEval j (ds.getD (s.keyNode j) 0) else s)
      (s.clrBit Reg.TCH_STAT 3)

/-- A complete scan is posted at step 4 of the boundary; `cyc` is the Cycle scanned (R439, R441, R444, R450, R452). -/
def State.postScan (s : State) (cyc : Nat) : State :=
  let chg := s.rd Reg.TCH_KCHG
  let s := s.wr Reg.TCH_KCHG 0
  let ds := nodes.map s.delta
  let s := nodes.foldl (fun s n => s.setF (Reg.TCH_NODE n) 0 16 (s.rawOf n)) s
  let s :=
    if s.tch.checkDue then
      let s := (nodes.foldl (fun s n => s.selfTest n) s).clrBit Reg.TCH_STAT 2
      let s := (List.range 32).foldl (fun s j => if s.nodeFault (s.keyNode j) then s.keyOff j else s) s
      { s with tch := { s.tch with checkDue := false } }
    else s
  let s :=
    if s.tch.seedDue then
      let s := s.postSeed
      { s with tch := { s.tch with seedDue := false } }
    else
      let s := nodes.foldl (fun s n => s.groundLow n (ds.getD n 0)) s
      let s := s.postKeys ds
      if s.bit Reg.TCH_STAT 3 then s else nodes.foldl (fun s n => s.moveBase n) s
  let s := if s.rd Reg.TCH_KCHG = 0 then s else s.tchIrq 2
  let s := (s.orReg Reg.TCH_KCHG chg).tchIrq 1
  if s.bit Reg.TCH_RAWCTL 0 then
    ({ s with tch := { s.tch with raw := s.tch.raw ++ [RawItem.publish (cyc % 65536)] } }).rawPublish
  else s

/-- Step 4 of Table 02.3 for the Cycle `cyc` that ended. MISS counts a Cycle that the engine scanned from its start and
whose scan is not complete (DEDUCED, log 26). -/
def State.touchPost (s : State) (cyc : Nat) : State :=
  if s.touchScans && s.tch.whole then
    if s.tch.inRef then s.postReference
    else if s.scanComplete then s.postScan cyc
    else s.incSat Reg.TCH_STAT 16 16
  else s

/-- The touch engine begins the Cycle `cyc` (R439, R444, R449, R451). -/
def State.touchCycle (s : State) (cyc : Nat) : State :=
  let s := { s with tch := { s.tch with bursts := [] } }
  if s.powered && s.domOn .hmi then
    let b := s.rd Reg.TCH_BURST
    let s := if b = s.tch.burst then s else { s with tch := { s.tch with burst := b, seedDue := true } }
    let on := s.touchScans
    let ref := on && (s.tch.refDue || (s.bit Reg.TCH_CTL 1 && decide (cyc % 256 = 0)))
    { s with tch := { s.tch with whole := on, inRef := ref, refDue := s.tch.refDue && !ref } }
  else s

/-- The scan in progress is discarded: HMI leaves ON, or EN is cleared (R455). -/
def State.touchDrop (s : State) : State :=
  { s with tch := { s.tch with bursts := [], whole := false, inRef := false, raw := [] } }

/-- HMI returns to ON: a seed is due (R444). Where the touch engine scans again, the wake-key scanner stops, and takes a new
baseline when it starts next (R101). -/
def State.touchReturn (s : State) : State :=
  { (if s.bit Reg.TCH_CTL 0 then s.wkRestart else s) with tch := { s.tch with seedDue := true } }

/-- Step 2 of a tenant reset, and FAULT, stop the raw copy (R456). -/
def State.touchStopFor (s : State) (aid : Nat) : State :=
  if s.bit Reg.TCH_RAWCTL 0 && decide (s.f Reg.TCH_RAWCTL 16 11 = aid) then
    let s := { s with tch := { s.tch with raw := [] } }
    (s.clrBit Reg.TCH_RAWCTL 0).setBit Reg.TCH_STAT 5
  else s

/-! ## Register writes -/

/-- A write of TCH_CTL (R447, R449). With EN set the wake-key scanner stops, and takes a new baseline when it starts next
(R101). -/
def State.writeTchCtl (s : State) (v : Word) : State :=
  if fld v 16 6 = 0 ∨ 32 < fld v 16 6 then s.tchRej
  else
    let was := s.bit Reg.TCH_CTL 0
    let s := s.stdWrite Reg.TCH_CTL v
    if wbit v 0 && !was then
      let s := s.wkRestart.setBit Reg.TCH_STAT 2
      { s with tch := { s.tch with refDue := true, seedDue := true, checkDue := false, whole := false, bursts := [] } }
    else if !(wbit v 0) && was then
      let s := s.touchDrop
      { s with tch := { s.tch with refDue := false } }
    else s

/-- The modulation of a burst: PULSES × DIV, in eighths of a microsecond (R436). -/
def burstLength (v : Word) : Nat := 16 * (fld v 0 3 + 1) * fld v 8 6

/-- A write of TCH_BURST (R436, R439). -/
def State.writeTchBurst (s : State) (v : Word) : State :=
  if fld v 8 6 < 8 ∨ 32 < fld v 8 6 ∨ 1520 < burstLength v then s.tchRej else s.stdWrite Reg.TCH_BURST v

/-- A write of TCH_KCFGj or TCH_KTHRj (R445). -/
def State.writeKey (s : State) (j : Nat) (thr : Bool) (v : Word) : State :=
  if thr && decide (signed 16 (fld v 16 16) < signed 16 (fld v 0 16)) then s.tchRej
  else (s.stdWrite (if thr then Reg.TCH_KTHR j else Reg.TCH_KCFG j) v).keyOff j

/-- A write of TCH_RAWCTL (R453). While EN = 1, LEN keeps. -/
def State.writeRawctl (s : State) (v : Word) (wr : Writer) : State :=
  if s.bit Reg.TCH_RAWCTL 0 then
    if wbit v 0 then s
    else
      let s := { s with tch := { s.tch with raw := [] } }
      s.clrBit Reg.TCH_RAWCTL 0
  else if wbit v 0 then
    let len := fld v 8 7
    let base := (s.rd Reg.TCH_RAWBASE).toNat
    if 1 ≤ len ∧ len ≤ 64 ∧ 0x10000000 ≤ base ∧ base + 128 * len ≤ 0x10100000 then
      (s.stdWrite Reg.TCH_RAWCTL v).setF Reg.TCH_RAWCTL 16 11 wr.aid
    else s.tchRej
  else s.stdWrite Reg.TCH_RAWCTL v

/-- A write of TCH_RAWBASE. -/
def State.writeRawbase (s : State) (v : Word) : State :=
  if s.bit Reg.TCH_RAWCTL 0 then s.tchRej else s.stdWrite Reg.TCH_RAWBASE v

/-- TCH_NODEn as read: BASE is floor(B). -/
def State.tchNode (s : State) (n : Nat) : Word := word (s.tch.base.getD n 0 / 256 * 65536 + s.f (Reg.TCH_NODE n) 0 16)

end Sys2Proof.Machine
end

