-- ==== Sys2Proof/Machine/Panel.lean ====
section
/-!
DEFINITION. The panel engine (chapter 16): frames and slots, the frame buffer, and the VPANEL boost; the wake-key scanner, whose
bursts it places. The slots of a frame run in order: each ROW_SLOT and CATCHUP is the end of the slot in progress.
-/
namespace Sys2Proof.Machine

/-- The touch window in modulator clocks when a burst of `e` eighths of a microsecond is placed (R460). -/
def windowClocks (e : Nat) : Nat := ((160 + e) * 256 + 999) / 1000

/-- The burst of the wake-key scanner is placed in the quiet slot in progress: 64 µs (R454). -/
def State.wakeKeyWindow (s : State) : State := { s with pnl := { s.pnl with window := windowClocks 512 } }

/-- A row is late: it is driven dark (R462). -/
def State.lateRow (s : State) : State := (s.incSat Reg.PNL_STAT 16 16).pnlIrq 2

/-! ## Slots (R458 to R460) -/

/-- The slot in progress has ended: the next one begins, with the row fetched for it; a row whose words have not all come is
late (R462). After slot 35 the row fetched waits for the frame start. -/
def State.nextSlot (s : State) : State :=
  let k := s.pnl.slot + 1
  if 36 ≤ k then { s with pnl := { s.pnl with slot := 36, rowBuf := none } }
  else
    let u : State := { s with pnl := { s.pnl with slot := k, rowBuf := s.pnl.nextBuf, nextBuf := none } }
    if s.pnlRun && (slotRow k).isSome && s.pnl.nextBuf.isNone then u.lateRow else u

/-- CATCHUP, and the end of the quiet slot: CUROW advances, and slot 35 ends the frame (R460, PNL_IRQ.FRAME). -/
def State.catchUp (s : State) : State :=
  match s.pnl.quiet with
  | none => s
  | some _ =>
    let s :=
      if s.pnlRun then
        let s := s.catchupRow s.catchupTicks
        let s := s.setF Reg.PNL_STAT 8 5 (s.f Reg.PNL_STAT 8 5 + 1)
        if s.pnl.slot = 35 then s.pnlIrq 1 else s
      else s
    ({ s with pnl := { s.pnl with quiet := none } }).nextSlot

/-- The row slot in progress drives its row whole. -/
def State.driveSlot (s : State) : State :=
  match slotRow s.pnl.slot with
  | some r => if s.pnlRun then s.driveRow r 32 else s
  | none => s

/-- ROW_SLOT: the row slot in progress has run to its end. -/
def State.rowSlot (s : State) : State :=
  if s.slotTiming && (slotRow s.pnl.slot).isSome then s.driveSlot.nextSlot else s

/-- QUIET_SLOT: the quiet slot in progress starts with its touch window; a touch burst is placed in it while the touch engine
scans (R437, R460). -/
def State.quietSlot (s : State) : State :=
  let k := s.pnl.slot
  if s.slotTiming && decide (k % 9 = 8) && decide (k < 36) && s.pnl.quiet.isNone then
    let w := if s.touchScans && s.tch.whole then windowClocks (burstLength s.tch.burst) else windowClocks 0
    { s with pnl := { s.pnl with quiet := some (4 * s.pnl.frame + k / 9), window := w } }
  else s

/-- A scan of the wake key (R101, R454): it runs only while the touch engine is off. Its burst of 64 µs falls in the touch window
of a quiet slot while the slot timing runs, and on its own tick otherwise. -/
def State.wakeKeyScan (s : State) (count : Nat) : State :=
  if !(s.powered && s.bit Reg.SDL_WKEY 7) then s
  else if s.domOn .hmi && s.bit Reg.TCH_CTL 0 then s
  else if s.slotTiming then
    if s.pnl.quiet.isSome then (s.wakeKeyWindow).wakeKeyCount count else s
  else s.wakeKeyCount count

/-! ## The frame buffer (R462, R463) -/

/-- The row whose words are read in the slot in progress: that of the next slot, and ROW0 in slot 35. -/
def State.fetchRow (s : State) : Option Nat := if s.pnl.slot = 35 then some 0 else slotRow (s.pnl.slot + 1)

/-- What the eight reads of a row answer. -/
structure RowAns where
  s : State
  /-- Each read so far has answered with its word. -/
  ok : Bool
  /-- A read waits at its bank, so that the row is late. -/
  waits : Bool
  ws : List Word

/-- One read of a row (R462, R463). -/
def RowAns.next (t : RowAns) (aid addr : Nat) : RowAns :=
  if t.waits then t
  else
    let x := t.s.loadBeat 5 aid addr 4
    match x.data with
    | .ok v => ⟨x.s, t.ok, false, t.ws ++ [word v]⟩
    | .wait => ⟨x.s, t.ok, true, t.ws⟩
    | _ => ⟨x.s, false, false, t.ws ++ [0]⟩

/-- The eight reads of a row, in ascending address order (R462). -/
def State.rowReads (s : State) (r : Nat) : RowAns :=
  (List.range 8).foldl (fun (t : RowAns) i => t.next (s.f Reg.PNL_CTL 16 11) (s.pnl.fbBase.toNat + 32 * r + 4 * i))
    ⟨s, true, false, []⟩

/-- FB_ROW_READ: the row of the next slot; a `late` read, or one that waits at its bank, misses the slot. -/
def State.fbRowRead (s : State) (late : Bool) : State :=
  match s.fetchRow with
  | none => s
  | some r =>
    if s.slotTiming && s.pnlRun && !s.pnl.halted && s.domOn .store then
      let t := s.rowReads r
      let s := if t.ok then t.s else (t.s.setBit Reg.PNL_STAT 4).pnlIrq 4
      let buf := if t.ok then t.ws else List.replicate 8 0
      { s with pnl := { s.pnl with nextBuf := if late || t.waits then none else some buf } }
    else s

/-! ## Frames (R458, R470) -/

/-- N_exp of R458 as a fraction: modulator clocks of the Cycle that the increment in force implies. -/
def State.cycleClocks (s : State) : Nat × Nat :=
  if s.onLrc then (2 ^ 30, max 1 s.tickInc) else (1048576000, max 1 s.curInc)

/-- The slot in progress as its frame ends: it has run whole. -/
def State.lastSlot (s : State) : State := if s.pnl.quiet.isSome then s.catchUp else if s.slotTiming then s.driveSlot else s

/-- A frame starts (R458, R463, R470): frame 0 at step 5 of the boundary, frame 1 at Breath BREATHDIV/2. The slots of the frame
before it have ended. -/
def State.frameStart (s : State) (frame : Nat) : State :=
  if s.powered && s.domOn .hmi && !s.deep then
    let s := s.lastSlot
    let s := s.putBit Reg.PNL_STAT 0 (s.bit Reg.PNL_CTL 0 && s.bit Reg.PNL_STAT 2)
    let (a, b) := s.cycleClocks
    let sl := (a + 72 * b - 1) / (72 * b)
    let p := { s.pnl with
      slot := if s.slotTiming then 0 else 36, frame := frame, s := sl, k := (sl - 100) / 32, vp := s.rd Reg.PNL_VP,
      drv := s.rd Reg.PNL_DRV, dwk := s.rd Reg.PNL_DWK, fbBase := s.rd Reg.PNL_FBBASE, halted := false,
      rowBuf := s.pnl.nextBuf, nextBuf := none }
    let u : State := { s with pnl := p }
    if s.pnlRun && s.pnl.nextBuf.isNone then u.lateRow else u
  else s

/-- HMI leaves ON: the drive and the boost stop (R471, R477). -/
def State.panelOff (s : State) : State :=
  let s := s.boostStop
  { s with pnl := { s.pnl with slot := 36, quiet := none } }

/-- The panel after a DOMAIN reset of HMI, or a SYSTEM reset; called before the registers of HMI are reset. The ledger and
LVALID stay (R469, R477); a ledger whose INIT was in progress is undefined (DESIGN CHOICE, log 27). -/
def State.panelReset (s : State) : State :=
  let s := s.boostStop
  let broken := s.bit Reg.PNL_LSTAT 30
  let p := { Pnl.reset with
    ledger := if broken then [] else s.pnl.ledger, undef := if broken then some s.freeCtr else s.pnl.undef }
  { s with pnl := p, freeCtr := s.freeCtr + b2n broken }

/-- Step 2 of a tenant reset, and FAULT, stop the frame buffer reads (R478). There are reads to stop while EN = 1, or while RUN
still is 1 until the end of the frame (R470). -/
def State.panelStopFor (s : State) (aid : Nat) : State :=
  if (s.bit Reg.PNL_CTL 0 || s.pnlRun) && decide (s.f Reg.PNL_CTL 16 11 = aid) then
    let s := { s with pnl := { s.pnl with halted := true } }
    (s.clrBit Reg.PNL_CTL 0).setBit Reg.PNL_STAT 5
  else s

/-! ## VPANEL (R472 to R476) -/

/-- The boost is permitted: VPEN, no latch, HMI ON, an awake part whose step 14 has begun, and a source of R80. -/
def State.boostMay (s : State) : Bool :=
  s.powered && s.domOn .hmi && !s.deep && s.pwr.entry.isNone && !(s.pwr.stagger.contains 14) && s.bit Reg.PNL_CTL 8 &&
    !(s.bit Reg.PNL_FAULT 1) && (decide (s.hrv.src ≠ .bat) || s.bit Reg.HRV_CFG 1)

/-- The boost is set to a state. -/
def State.setBoost (s : State) (b : Boost) : State := { s with pnl := { s.pnl with boost := b } }

/-- VPANEL_SOFT_START: a stopped boost that is requested and permitted starts its ramp. -/
def State.softStart (s : State) : State := if s.boostMay && decide (s.pnl.boost = .off) then s.setBoost .ramp else s

/-- VPANEL_READY. -/
def State.vpanelReady (s : State) : State :=
  if s.pnl.boost = .ramp then ((s.setBoost .running).setBit Reg.PNL_STAT 2).pnlIrq 0x80 else s

/-- The ticks that the slot in progress has run when a short cuts it: all 32 where no tick is named. -/
def shortTicks (cut : Option (Fin 32)) : Nat :=
  match cut with
  | some t => t.val
  | none => 32

/-- VPANEL_SHORT: the boost stops, and waits for a retry or latches (R473, R474, R476). -/
def State.vpanelShort (s : State) (cut : Option (Fin 32)) : State :=
  if s.boostOn then
    let later := decide (s.pnl.boost = .running)
    let s := ((((s.cutSlot (shortTicks cut)).boostOff).setBit Reg.PNL_FAULT 0).putBit Reg.PNL_FAULT 4 later).pnlIrq 0x20
    if s.f Reg.PNL_FAULT 2 2 = 3 then (s.setBit Reg.PNL_FAULT 1).pnlIrq 0x40 else s.setBoost .waiting
  else s

/-- VPANEL_RETRY: the restart 100 ms after a short (R474). -/
def State.vpanelRetry (s : State) : State :=
  if s.pnl.boost = .waiting then
    let s := s.setBoost .off
    if s.boostMay then (s.setF Reg.PNL_FAULT 2 2 (s.f Reg.PNL_FAULT 2 2 + 1)).softStart else s
  else s

/-- VPANEL_RETRIES_RESET: READY has held for 1 s (R474). -/
def State.vpanelRetriesReset (s : State) : State := if s.bit Reg.PNL_STAT 2 then s.setF Reg.PNL_FAULT 2 2 0 else s

/-- A write of PNL_FAULT: a 1 to LATCH clears LATCH and RETRIES and starts (R474). -/
def State.writePnlFault (s : State) (v : Word) : State :=
  let latched := s.bit Reg.PNL_FAULT 1
  let s := s.stdWrite Reg.PNL_FAULT v
  if wbit v 1 && latched then (s.setF Reg.PNL_FAULT 2 2 0).softStart else s

/-! ## Register writes -/

/-- A frame buffer base is valid (R463). -/
def fbBaseOk (v : Word) : Bool :=
  decide (v.toNat % 32 = 0) && decide (0x10000000 ≤ v.toNat) && decide (v.toNat + 1024 ≤ 0x10100000)

/-- A write of PNL_CTL (R470, R472, R474). -/
def State.writePnlCtl (s : State) (v : Word) (wr : Writer) : State :=
  let set := wbit v 0 && !(s.bit Reg.PNL_CTL 0)
  if set && !(s.bit Reg.PNL_LSTAT 31 && fbBaseOk (s.rd Reg.PNL_FBBASE)) then s.pnlRej
  else
    let s := s.stdWrite Reg.PNL_CTL v
    let s := if set then s.setF Reg.PNL_CTL 16 11 wr.aid else s
    if wbit v 8 then s else if s.boostOn || decide (s.pnl.boost = .waiting) then s.boostStop else s

/-- A write of PNL_VP (R472). -/
def State.writePnlVp (s : State) (v : Word) : State :=
  if s.bit Reg.PNL_CTL 8 || decide (fld v 0 8 < 80) || decide (160 < fld v 0 8) then s.pnlRej else s.stdWrite Reg.PNL_VP v

/-- A write of PNL_FBBASE (R463). -/
def State.writeFbbase (s : State) (v : Word) : State := if fbBaseOk v then s.stdWrite Reg.PNL_FBBASE v else s.pnlRej

end Sys2Proof.Machine
end

