-- ==== Sys2Proof/Machine/Digest.lean ====
section
/-!
DEFINITION. The digest engine (chapter 17): contexts and their binding, feeding, the compression core, the compare, and the
list DMA over pool handles.
-/
namespace Sys2Proof.Machine

/-- Context `n`. -/
def State.ctx (s : State) (n : Nat) : DgsCtx := s.dgs.ctxs.getD n DgsCtx.reset

/-- Set context `n`. -/
def State.setCtx (s : State) (n : Nat) (c : DgsCtx) : State := { s with dgs := { s.dgs with ctxs := s.dgs.ctxs.set n c } }

/-- A command or a list start is refused. -/
def State.dgsRej (s : State) : State := s.setBit Reg.DGS_STAT 13

/-- A foreign access (R483). -/
def State.dgsForeign (s : State) (aid : Nat) : State :=
  ((s.incSat Reg.DGS_STAT 16 16).setBit Reg.DGS_STAT 12).setF Reg.DGS_STAT 0 11 aid

/-- The agent owns the context. -/
def DgsCtx.ownedBy (c : DgsCtx) (aid : Nat) : Bool := decide (c.state ≠ 0) && decide (c.owner = aid)

/-- ALG names SHA-512 (Table 17.1). -/
def DgsCtx.wide (c : DgsCtx) : Bool := wbit c.cfg 0

/-- ALG names an HMAC. -/
def DgsCtx.mac (c : DgsCtx) : Bool := wbit c.cfg 1

/-- The algorithm. -/
def DgsCtx.form (c : DgsCtx) : ShaForm := if c.wide then sha512Form else sha256Form

/-- CMPW. -/
def DgsCtx.cmpw (c : DgsCtx) : Nat := fld c.cfg 8 5

/-- The key slot. -/
def DgsCtx.kslot (c : DgsCtx) : Nat := fld c.cfg 4 3

/-- The declared length is all-ones: unknown (R489). -/
def DgsCtx.unknown (c : DgsCtx) : Bool := decide (c.len = 2 ^ 64 - 1)

/-- The limit of an algorithm in bytes (R489). -/
def DgsCtx.limit (c : DgsCtx) : Nat := if c.wide then 2 ^ 64 - 2 else 2 ^ 61 - 1

/-- Every flag, the count, the output and the data are discarded. -/
def DgsCtx.cleared (c : DgsCtx) : DgsCtx :=
  { DgsCtx.reset with state := c.state, owner := c.owner, cfg := c.cfg, len := c.len, expect := c.expect }

/-- The context waits for the compression core (R480). -/
def DgsCtx.ready (c : DgsCtx) : Bool :=
  (decide (c.state = 2) || decide (c.state = 3)) && (c.keyBlock || !c.blocks.isEmpty)

/-- A DIN or LAST write would not be held (R491). -/
def DgsCtx.space (c : DgsCtx) : Bool := decide (c.blocks.length < 2) || decide (c.state ≠ 2)

/-! ## The compression core (R480, R492, R493) -/

/-- The words of a digest (R492). -/
def digestWords (bs : List Byte) : List Word := (List.range 16).map fun i => word (numLE ((bs.drop (4 * i)).take 4))

/-- The compare of R493. -/
def DgsCtx.compare (c : DgsCtx) : DgsCtx :=
  let same := decide (c.out.take c.cmpw = c.expect.take c.cmpw)
  { c with isMatch := same, mismatch := !same }

/-- The inner hash of a context has ended: an HMAC goes on with its outer hash. -/
def DgsCtx.startOuter (c : DgsCtx) : DgsCtx :=
  let f := c.form
  let inner := shaBytes f c.hash
  { c with
    outer := true, hash := f.init,
    blocks := hmacKeyBlock f c.key 0x5C :: shaPad f (f.block + inner.length) inner }

/-- The final compression has ended: output, compare, DONE (R492). -/
def State.dgsDone (s : State) (n : Nat) (c : DgsCtx) : State :=
  let c := { c with state := 4, out := digestWords (shaBytes c.form c.hash), hash := [], part := [], key := [] }
  if c.cmpw = 0 then (s.setCtx n c).setBit Reg.DGS_IRQ n
  else ((s.setCtx n c.compare).setBit Reg.DGS_IRQ n).setBit Reg.DGS_IRQ 16

/-- One compression of context `n`. -/
def State.compress (s : State) (n : Nat) : State :=
  let s := { s with dgs := { s.dgs with last := n } }
  let c := s.ctx n
  if c.keyBlock then s.setCtx n { c with keyBlock := false, hash := shaCompress c.form c.form.init (hmacKeyBlock c.form c.key 0x36) }
  else
    match c.blocks with
    | [] => s
    | b :: rest =>
      let c := { c with hash := shaCompress c.form c.hash b, blocks := rest }
      if c.state = 3 ∧ rest = [] then (if c.mac && !c.outer then s.setCtx n c.startOuter else s.dgsDone n c)
      else s.setCtx n c

/-- The context the core serves next. -/
def State.nextCtxServed (s : State) : Option Nat :=
  (((List.range 16).map fun i => (s.dgs.last + 1 + i) % 16)).find? fun n => (s.ctx n).ready

/-- The engine works: SEC is ON and the masters run (R498). -/
def State.dgsLive (s : State) : Bool := s.powered && s.domOn .sec && !s.deep

/-- A block of the internal digest context, in which the LCS computes a check, waits for the core (R149). -/
def State.lcsServed (s : State) : Bool := s.lcs.checking && decide (0 < s.lcs.checkBlocks)

/-- DGS_COMPRESSION: one block, of the internal context of the LCS first, then of the contexts in turn (R480). -/
def State.dgsCompression (s : State) : State :=
  if !s.dgsLive then s
  else if s.lcsServed then { s with lcs := { s.lcs with checkBlocks := s.lcs.checkBlocks - 1 } }
  else
    match s.nextCtxServed with
    | some n => s.compress n
    | none => s

/-- Compressions until context `n` has space; a held write waits for them (R491). -/
def State.makeSpace (s : State) (n fuel : Nat) : State :=
  match fuel with
  | 0 => s
  | fuel + 1 => if (s.ctx n).space then s else s.dgsCompression.makeSpace n fuel

/-! ## Feeding (R489, R490) -/

/-- DGS_IRQ.LEN. -/
def State.dgsLenIrq (s : State) : State := s.setBit Reg.DGS_IRQ 17

/-- One byte offered to a context in ABSORB. -/
def State.offerByte (s : State) (n : Nat) (b : Byte) : State :=
  let c := s.ctx n
  if (c.unknown && decide (c.count < c.limit)) || (!c.unknown && decide (c.count < c.len)) then
    let part := c.part ++ [b]
    if part.length = c.form.block then
      s.setCtx n { c with count := c.count + 1, part := [], blocks := c.blocks ++ [part] }
    else s.setCtx n { c with count := c.count + 1, part := part }
  else
    let s1 := if c.overlen then s else s.dgsLenIrq
    s1.setCtx n { c with overlen := true }

/-- An error code of a context. -/
def State.ctxErr (s : State) (n e : Nat) : State := s.setCtx n { s.ctx n with err := e }

/-- Bytes offered to a context by an accepted write (R489, R490). -/
def State.offer (s : State) (n : Nat) (bs : List Byte) : State :=
  if (s.ctx n).state = 2 then bs.foldl (fun s b => s.offerByte n b) (s.makeSpace n 64) else s.ctxErr n 3

/-- The message ends (R490). -/
def State.endMessage (s : State) (n : Nat) : State :=
  let c := s.ctx n
  if c.state ≠ 2 then s
  else if c.unknown || decide (c.count = c.len) then
    let total := c.count + (if c.mac then c.form.block else 0)
    s.setCtx n { c with state := 3, part := [], blocks := c.blocks ++ shaPad c.form total c.part }
  else
    (s.setCtx n { c.cleared with state := 1, overlen := c.overlen, isSealed := c.isSealed, underlen := true, err := 4 }).dgsLenIrq

/-- A write of DGS_DINn. -/
def State.dgsDin (s : State) (n : Nat) (v : Word) (aid : Nat) : State :=
  if (s.ctx n).ownedBy aid then s.offer n (bytesLE 4 v.toNat) else s.dgsForeign aid

/-- A write of DGS_LASTn that carries `k` bytes, or OP FINISH with none. -/
def State.lastWrite (s : State) (n k : Nat) (v : Word) : State := (s.offer n (bytesLE k v.toNat)).endMessage n

/-- A write of DGS_LASTn. -/
def State.dgsLast (s : State) (n k : Nat) (v : Word) (aid : Nat) : State :=
  if (s.ctx n).ownedBy aid then s.lastWrite n k v else s.dgsForeign aid

/-! ## Commands (R482, R486, R493, R494) -/

/-- A list is running. -/
def State.listBusy (s : State) : Bool := s.bit Reg.DGS_DMACTL 1

/-- A list ends early: the context enters ERROR with no digest (R497). -/
def State.listFails (s : State) (e pcode : Nat) : State :=
  let n := s.dgs.feed
  let s := ((s.clrBit Reg.DGS_DMACTL 1).setF Reg.DGS_DMASTAT 20 4 e).setF Reg.DGS_DMASTAT 24 8 pcode
  let s := s.setBit Reg.DGS_IRQ 18
  let c := s.ctx n
  if c.state = 0 then s
  else s.setCtx n { c with state := 5, err := e, hash := [], blocks := [], part := [], keyBlock := false, outer := false, key := [] }

/-- Why a START is refused; 0 accepts (R486, R487). -/
def State.startErr (s : State) (c : DgsCtx) : Nat :=
  let slot := c.kslot
  if (if c.wide then 16 else 8) < c.cmpw then 1
  else if !c.unknown && decide (c.limit < c.len) then 1
  else if c.mac then
    if (s.usableKey slot).isNone then 2
    else if c.owner = 0x400 then 0
    else if c.owner < 0x400 ∧ s.bit Reg.DGS_KPOL slot = true then 0
    else 2
  else 0

/-- OP START by the owner. START in ABSORB or FINISH sets SEQ (DEDUCED, log 28). -/
def State.dgsStart (s : State) (n : Nat) : State :=
  let c := s.ctx n
  if c.state = 2 ∨ c.state = 3 then s.ctxErr n 3
  else
    match s.startErr c with
    | 0 =>
      let key := if c.mac then (s.usableKey c.kslot).getD [] else []
      let isSealed := c.mac && decide (6 ≤ c.kslot)
      s.setCtx n { c.cleared with state := 2, hash := c.form.init, key := key, keyBlock := c.mac, isSealed := isSealed }
    | e => s.ctxErr n e

/-- OP ABORT by the owner or the Warden. A list that feeds the context ends with CANCEL, and the context is then in ERROR
(R494, R497; DEDUCED, log 28). -/
def State.dgsAbort (s : State) (n : Nat) : State :=
  let c := s.ctx n
  if c.state < 2 then s
  else
    let s := s.setCtx n { c.cleared with state := 1 }
    if s.listBusy && decide (s.dgs.feed = n) then s.listFails 8 0 else s

/-- OP COMPARE by the owner. -/
def State.dgsCompare (s : State) (n : Nat) : State :=
  if (s.ctx n).state = 4 then (s.setCtx n (s.ctx n).compare).setBit Reg.DGS_IRQ 16 else s.ctxErr n 3

/-- OP CLAIM. -/
def State.dgsClaim (s : State) (n aid : Nat) : State :=
  if n = 15 ∨ (s.ctx n).state ≠ 0 then s.dgsRej else s.setCtx n { DgsCtx.reset with state := 1, owner := aid }

/-- OP RELEASE. One that neither the owner nor the Warden asks for counts as foreign too (R482, R483). A list that feeds the
context ends with CANCEL (DEDUCED, log 28). -/
def State.dgsRelease (s : State) (n aid : Nat) : State :=
  if !((s.ctx n).ownedBy aid || decide (aid = 0x400)) then s.dgsRej.dgsForeign aid
  else if n = 15 then s.dgsRej
  else
    let s := if s.listBusy && decide (s.dgs.feed = n) then s.listFails 8 0 else s
    s.setCtx n DgsCtx.reset

/-- A write of DGS_CMD. -/
def State.writeDgsCmd (s : State) (v : Word) (aid : Nat) : State :=
  let n := fld v 8 4
  let own := (s.ctx n).ownedBy aid
  match fld v 0 4 with
  | 1 => s.dgsClaim n aid
  | 2 => s.dgsRelease n aid
  | 3 => if own then s.dgsStart n else s.dgsForeign aid
  | 4 => if own then s.lastWrite n 0 0 else s.dgsForeign aid
  | 5 => if own || decide (aid = 0x400) then s.dgsAbort n else s.dgsForeign aid
  | 6 => if own then s.dgsCompare n else s.dgsForeign aid
  | _ => s.dgsRej

/-! ## Context registers (R483 to R485) -/

/-- The context that a master has selected (R484). -/
def State.dgsSel (s : State) (mid : Nat) : Nat := (alGet s.dgs.sel mid).getD 0

/-- Select a context. -/
def State.writeDgsCtx (s : State) (v : Word) (mid : Nat) : State :=
  { s with dgs := { s.dgs with sel := alSet 0 s.dgs.sel mid (fld v 0 4) } }

/-- A write of DGS_CFG, DGS_LENLO or DGS_LENHI (R485). -/
def State.ctxConfig (s : State) (n a : Nat) (v : Word) : State :=
  let c := s.ctx n
  if c.state = 2 ∨ c.state = 3 then s.ctxErr n 3
  else if a = Reg.DGS_CFG then s.setCtx n { c with cfg := v &&& 0x1F73 }
  else if a = Reg.DGS_LENLO then s.setCtx n { c with len := c.len / 2 ^ 32 * 2 ^ 32 + v.toNat }
  else s.setCtx n { c with len := v.toNat * 2 ^ 32 + c.len % 2 ^ 32 }

/-- A write of a register of the selected context. -/
def State.writeCtxReg (s : State) (a : Nat) (v : Word) (wr : Writer) : State :=
  let n := s.dgsSel wr.mid
  let c := s.ctx n
  if !(c.ownedBy wr.aid) then s.dgsForeign wr.aid
  else if a = Reg.DGS_CFG ∨ a = Reg.DGS_LENLO ∨ a = Reg.DGS_LENHI then s.ctxConfig n a v
  else if Reg.DGS_EXPECT 0 ≤ a then s.setCtx n { c with expect := c.expect.set ((a - Reg.DGS_EXPECT 0) / 4) v }
  else s

/-- DGS_CSTAT of a context. -/
def DgsCtx.cstat (c : DgsCtx) : Word :=
  word (c.state * 0x10000000 + c.owner * 0x10000 + c.err * 0x1000 + b2n c.space * 32 + b2n c.isSealed * 16 +
    b2n c.mismatch * 8 + b2n c.isMatch * 4 + b2n c.underlen * 2 + b2n c.overlen)

/-- The value of a register of a context. -/
def DgsCtx.reg (c : DgsCtx) (a : Nat) : Word :=
  if a = Reg.DGS_CFG then c.cfg
  else if a = Reg.DGS_LENLO then word c.len
  else if a = Reg.DGS_LENHI then word (c.len / 2 ^ 32)
  else if a = Reg.DGS_CSTAT then c.cstat
  else if a = Reg.DGS_COUNTLO then word c.count
  else if a = Reg.DGS_COUNTHI then word (c.count / 2 ^ 32)
  else if Reg.DGS_EXPECT 0 ≤ a then c.expect.getD ((a - Reg.DGS_EXPECT 0) / 4) 0
  else if c.isSealed then 0
  else c.out.getD ((a - Reg.DGS_OUT 0) / 4) 0

/-- A read of a register of the selected context: the state and the value (R483). -/
def State.readCtxReg (s : State) (a : Nat) (wr : Writer) : State × Word :=
  let c := s.ctx (s.dgsSel wr.mid)
  if c.ownedBy wr.aid || (decide (a = Reg.DGS_CSTAT) && decide (wr.aid = 0x400)) then (s, c.reg a) else (s.dgsForeign wr.aid, 0)

/-- A read of the data windows of context `n`: they are write-only, and only the owner's (R483). -/
def State.readWindow (s : State) (n aid : Nat) : State × Word := if (s.ctx n).ownedBy aid then (s, 0) else (s.dgsForeign aid, 0)

/-- A write of DGS_KPOL (R487). -/
def State.writeKpol (s : State) (v : Word) (aid : Nat) : State := if aid = 0x400 then s.stdWrite Reg.DGS_KPOL v else s

/-! ## The list (R495 to R497) -/

/-- A write of DGS_DMACTL. -/
def State.writeDmactl (s : State) (v : Word) (aid : Nat) : State :=
  if !(wbit v 0) then s.stdWrite Reg.DGS_DMACTL v
  else
    let n := fld v 8 4
    let c := s.ctx n
    let base := (s.rd Reg.DGS_DMALIST).toNat
    let cnt := s.f Reg.DGS_DMACNT 0 11
    if s.listBusy || decide (c.state ≠ 2) || !(c.ownedBy aid) || decide (cnt = 0) || decide (1024 < cnt) ||
        decide (base < 0x10000000) || decide (0x10100000 ≤ base) then s.dgsRej
    else
      let s := (s.stdWrite Reg.DGS_DMACTL v).setF Reg.DGS_DMACTL 16 11 aid
      let s := ((s.setBit Reg.DGS_DMACTL 1).setF Reg.DGS_DMASTAT 20 12 0).setF Reg.DGS_DMASTAT 0 11 0
      { s with dgs := { s.dgs with feed := n, listBase := base, listLen := cnt } }

/-- What the reads of the list DMA answer: the word read last, none where a read was denied or ended in an error, and whether
one waits at its bank. -/
structure EngRead where
  s : State
  val : Option Nat
  waits : Bool

/-- A 32-bit read of the list DMA (R495, R496): from the spare bank, behind the banks, it gets ABORT (R222). -/
def State.dgsRead (s : State) (a : Nat) : EngRead :=
  let aid := s.f Reg.DGS_DMACTL 16 11
  if 0x10100000 ≤ a then
    let g := s.engineGate 1 a 6 aid 4 false
    ⟨if g.ok then g.s.errRecord 7 (g.s.engineReq 6 aid a 4 false) else g.s, none, false⟩
  else
    let x := s.loadBeat 6 aid a 4
    match x.data with
    | .ok v => ⟨x.s, some v, false⟩
    | .wait => ⟨x.s, none, true⟩
    | _ => ⟨x.s, none, false⟩

/-- What feeding a buffer answers. -/
structure FeedAns where
  s : State
  ok : Bool
  waits : Bool

/-- The buffer of an entry is read word by word and offered (R496 step 2); after a failing read none follows. -/
def State.feedBuffer (s : State) (n addr count : Nat) : FeedAns :=
  (List.range ((count + 3) / 4)).foldl (fun (r : FeedAns) i =>
    if r.ok then
      let x := r.s.dgsRead (addr + 4 * i)
      match x.val with
      | some v => ⟨x.s.offer n (bytesLE (min 4 (count - 4 * i)) v), true, false⟩
      | none => ⟨x.s, false, x.waits⟩
    else r) ⟨s, true, false⟩

/-- The POOL_DONE of an entry, through gate G4: the state and the result code; a denied write gives none. -/
def State.listFinish (s : State) (h : Word) : State × Nat :=
  let aid := s.f Reg.DGS_DMACTL 16 11
  let g := s.engineGate 4 Reg.POOL_DONE 6 aid 4 true
  if g.ok then
    let s := g.s.poolOp 4 h 6 aid
    (s, s.f (Reg.POOL_OPRES 6) 16 8)
  else (g.s, 0)

/-- One entry of the list has been finished with. -/
def State.listNext (s : State) (last : Bool) : State :=
  let s := if last then s.lastWrite s.dgs.feed 0 0 else s
  let pos := s.f Reg.DGS_DMASTAT 0 11
  if pos + 1 < s.dgs.listLen then s.setF Reg.DGS_DMASTAT 0 11 (pos + 1)
  else ((s.clrBit Reg.DGS_DMACTL 1).setBit Reg.DGS_DMASTAT 16).setBit Reg.DGS_IRQ 18

/-- Step 1 of R496: CLASS and INDEX address a configured buffer, and COUNT fits the class. -/
def State.entryFits (s : State) (h w : Word) : Bool :=
  decide (fld h 0 14 < s.pool.cnt.getD (hClass h) 0) && decide (1 ≤ fld w 0 16) && decide (fld w 0 16 ≤ poolSize (hClass h))

/-- Steps 2 to 4 of R496. An entry that waits at a bank begins again. -/
def State.listEntry (s : State) (h w : Word) : State :=
  let r := s.feedBuffer s.dgs.feed (s.hAddr h) (fld w 0 16)
  if r.waits then s
  else if !r.ok then r.s.listFails 5 0
  else if wbit w 30 then r.s.listNext (wbit w 31)
  else
    let (s, code) := r.s.listFinish h
    if code < 0x10 then s.listNext (wbit w 31) else s.listFails 6 code

/-- DGS_LIST_ENTRY: the next entry of the list, whole (R496). -/
def State.dgsListEntry (s : State) : State :=
  let a := s.dgs.listBase + 8 * s.f Reg.DGS_DMASTAT 0 11
  if s.listBusy && s.dgsLive && s.busUp && s.domOn .store then
    let x := s.dgsRead a
    match x.val with
    | none => if x.waits then s else x.s.listFails 5 0
    | some h =>
      let y := x.s.dgsRead (a + 4)
      match y.val with
      | none => if y.waits then s else y.s.listFails 5 0
      | some w => if y.s.entryFits (word h) (word w) then y.s.listEntry (word h) (word w) else y.s.listFails 7 0
  else s

/-! ## Resets and tenants (R498, R499) -/

/-- Step 2 of a tenant reset, and FAULT, stop a list with the AID. -/
def State.dgsStopFor (s : State) (aid : Nat) : State :=
  if s.listBusy && decide (s.f Reg.DGS_DMACTL 16 11 = aid) then s.listFails 8 0 else s

/-- Step 5 of a tenant reset frees every context bound to the tenant. -/
def State.dgsFreeFor (s : State) (aid : Nat) : State :=
  let ctxs := s.dgs.ctxs.map fun c => if c.ownedBy aid then DgsCtx.reset else c
  { s with dgs := { s.dgs with ctxs := ctxs } }

end Sys2Proof.Machine
end

