-- ==== Sys2Proof/Machine/Link.lean ====
section
/-!
DEFINITION. The field link (chapter 18) as far as the registers and the bus reach it: ownership, received frames and the
ring, the transmit slots, errors, heartbeats, and the register writes. What the LKE and the CAN DMA do with an entry is in
LinkRun.lean.
-/
namespace Sys2Proof.Machine

/-- LNK_IRQ bits are set. -/
def State.lnkIrq (s : State) (m : Word) : State := s.orReg Reg.LNK_IRQ m

/-- LKE_IRQ bits are set. -/
def State.lkeIrq (s : State) (m : Word) : State := s.orReg Reg.LKE_IRQ m

/-- A write to an LNK or LKE register is ignored with REJ; the LKE block has no REJ bit of its own (DEDUCED, log 29). -/
def State.lnkRej (s : State) : State := s.setBit Reg.LNK_STAT 1

/-! ## Identifiers (Table 18.3) -/

/-- KIND. -/
def idKind (id : Nat) : Nat := id / 2 ^ 26 % 8

/-- TENANT. -/
def idTenant (id : Nat) : Nat := id / 2 ^ 16 % 1024

/-- NODE. -/
def idNode (id : Nat) : Nat := id / 2 ^ 9 % 128

/-- TAG. -/
def idTag (id : Nat) : Nat := id % 512

/-- An identifier from its fields. -/
def lppId (kind tenant node tag : Nat) : Nat := kind * 2 ^ 26 + tenant * 2 ^ 16 + node * 2 ^ 9 + tag % 512

/-- The part's own node. -/
def State.node (s : State) : Nat := s.f Reg.LKE_CFG 25 7

/-! ## Ownership (R503, R531) -/

/-- The engine that is to own the bus; nRESET low holds both in reset (R120). -/
def State.ownerDue (s : State) : Owner :=
  if !s.powered || s.lcs.nresetLow then .nobody
  else if s.domOn .link && s.bit Reg.LNK_STAT 0 && s.bit Reg.LNK_CTL 0 && !s.deep then .controller
  else if s.bit Reg.LKE_CFG 0 && decide (s.pwr.level ≠ .shelf) &&
      (decide (s.pwr.level ≠ .hibernate) || s.bit Reg.SDL_CFG 5) then .lke
  else .nobody

/-- An engine takes the bus: a new owner's error state starts fresh for the LKE engine (R505). An entry that waits for the CAN
DMA has been decided and stays so (R509, R583). -/
def State.setOwner (s : State) (o : Owner) : State :=
  if o = s.lnk.owner then s
  else
    let s := s.putBit Reg.LNK_STAT 3 (decide (o = .controller))
    let l := { s.lnk with owner := o, hb := none, lkeTec := 0, lkeRec := 0, lkeOff := false, hbCycles := 0 }
    { s with lnk := l }

/-- BUS_OWNERSHIP_CHANGE, at bus idle. -/
def State.ownershipChange (s : State) : State := s.setOwner s.ownerDue

/-- CAN_CLOCK_READY (R503). -/
def State.canClockReady (s : State) : State := if s.powered && s.domOn .link then s.setBit Reg.LNK_STAT 0 else s

/-- LINK leaves ON: the CAN clock stops, and the controller is off the bus (R531, R532). -/
def State.linkOff (s : State) : State :=
  let s := s.clrBit Reg.LNK_STAT 0
  if s.lnk.owner = .controller then s.setOwner .nobody else s

/-- The controller owns the bus and works. -/
def State.ctlOwns (s : State) : Bool := decide (s.lnk.owner = .controller) && s.powered && s.domOn .link && !s.deep

/-- The LKE engine owns the bus and works. -/
def State.lkeOwns (s : State) : Bool := decide (s.lnk.owner = .lke) && s.powered

/-! ## Error counters (R505) -/

/-- ESTATE. -/
def State.estate (s : State) : Nat := s.f Reg.LNK_STAT 8 2

/-- Set ESTATE; a change is an event. -/
def State.setEstate (s : State) (e : Nat) : State :=
  if e = s.estate then s else (s.setF Reg.LNK_STAT 8 2 e).lnkIrq 0x20

/-- The controller enters bus-off. -/
def State.ctlBusOff (s : State) : State :=
  if s.estate = 2 then s
  else
    let s := (s.setEstate 2).lnkIrq 0x10
    { s with lnk := { s.lnk with recover := false } }

/-- The controller's counters are `tec` and `rx`; the state follows them. -/
def State.setCounters (s : State) (tec rx : Nat) : State :=
  let s := (s.setF Reg.LNK_STAT 24 8 (min 255 tec)).setF Reg.LNK_STAT 16 8 (min 255 rx)
  if s.estate = 2 then s
  else if 255 < tec then s.ctlBusOff
  else s.setEstate (if 127 < tec ∨ 127 < rx then 1 else 0)

/-- The LKE engine's counters. -/
def State.setLkeCounters (s : State) (tec rx : Nat) : State :=
  { s with lnk := { s.lnk with lkeTec := min 255 tec, lkeRec := min 255 rx, lkeOff := s.lnk.lkeOff || decide (255 < tec) } }

/-- The receive error counter after a frame received without error; from above 127 it takes a value from 119 to 127 that
the standard leaves open (log 2). -/
def State.recAfter (s : State) (rx : Nat) : Nat := if 127 < rx then 119 + s.freeNat % 9 else rx - 1

/-- A frame has been received without error. -/
def State.countReceived (s : State) : State :=
  if s.lnk.owner = .controller then
    (s.setCounters (s.f Reg.LNK_STAT 24 8) (s.recAfter (s.f Reg.LNK_STAT 16 8))).tickFree
  else (s.setLkeCounters s.lnk.lkeTec (s.recAfter s.lnk.lkeRec)).tickFree

/-- A frame has been sent. -/
def State.countSent (s : State) : State :=
  if s.lnk.owner = .controller then s.setCounters (s.f Reg.LNK_STAT 24 8 - 1) (s.f Reg.LNK_STAT 16 8)
  else s.setLkeCounters (s.lnk.lkeTec - 1) s.lnk.lkeRec

/-- The engine on the bus may receive and send: it is not bus-off. -/
def State.busAlive (s : State) : Bool := (s.ctlOwns && decide (s.estate ≠ 2)) || (s.lkeOwns && !s.lnk.lkeOff)

/-- What an error adds to the transmit error counter: 8, but 0 for a recessive stuff bit in arbitration, and for an acknowledge
error of an error-passive transmitter (ISO 11898-1 as R505 cites it; PRESUMED, log 55). -/
def txErrorAdds (passive : Bool) (e : CanError) : Nat :=
  if e = .stuffArb ∨ (e = .ack ∧ passive = true) then 0 else 8

/-- What an error adds to the receive error counter: 1, but 8 for a bit error in a flag that the receiver sends and for a
dominant bit after one (ISO 11898-1 as R505 cites it; PRESUMED, log 55). -/
def rxErrorAdds (e : CanError) : Nat := if e = .flag ∨ e = .dominant then 8 else 1

/-- CAN_BUS_ERROR: the standard's counts. -/
def State.canBusError (s : State) (transmitting : Bool) (e : CanError) : State :=
  let add (passive : Bool) (tec rx : Nat) : Nat × Nat :=
    if transmitting then (tec + txErrorAdds passive e, rx) else (tec, rx + rxErrorAdds e)
  if !s.busAlive then s
  else if s.lnk.owner = .controller then
    let n := add (decide (s.estate = 1)) (s.f Reg.LNK_STAT 24 8) (s.f Reg.LNK_STAT 16 8)
    s.setCounters n.1 n.2
  else
    let n := add (decide (127 < s.lnk.lkeTec) || decide (127 < s.lnk.lkeRec)) s.lnk.lkeTec s.lnk.lkeRec
    s.setLkeCounters n.1 n.2

/-- BUS_OFF of the engine on the bus. -/
def State.busOff (s : State) : State :=
  if s.ctlOwns then s.ctlBusOff else if s.lkeOwns then { s with lnk := { s.lnk with lkeOff := true } } else s

/-- BUSOFF_RECOVERY: 128 occurrences of 11 recessive bits have passed; the counters return to 0 (R505). -/
def State.busoffRecovery (s : State) : State :=
  if s.ctlOwns && decide (s.estate = 2) && (s.bit Reg.LNK_CTL 1 || s.lnk.recover) then
    let s := { s with lnk := { s.lnk with recover := false } }
    ((s.setF Reg.LNK_STAT 24 8 0).setF Reg.LNK_STAT 16 8 0).setEstate 0
  else s

/-- CAN_PROTOCOL_EXCEPTION: a frame with FDF recessive (R504, R505). -/
def State.canException (s : State) : State :=
  if !s.busAlive then s
  else if s.lnk.owner = .lke then s.incSat Reg.LKE_STAT 0 8
  else if s.bit Reg.LNK_CFG 0 then s
  else s.lnkIrq 0x80

/-! ## The ring (R507, R508) -/

/-- Entries used. -/
def State.ringCount (s : State) : Nat := s.f Reg.LKE_RIDX 16 6

/-- The Saddle RAM offset of ring entry `k`. -/
def State.entryAddr (s : State) (k : Nat) : Nat := s.f Reg.LKE_RING 3 11 * 8 + 72 * k

/-- The offset of the entry at RD. -/
def State.rdAddr (s : State) : Nat := s.entryAddr (s.f Reg.LKE_RIDX 0 5)

/-- RD advances past its entry. -/
def State.ringAdvance (s : State) : State :=
  let s := (s.setF Reg.LKE_RIDX 0 5 (s.f Reg.LKE_RIDX 0 5 + 1)).setF Reg.LKE_RIDX 16 6 (s.ringCount - 1)
  { s with lnk := { s.lnk with rd := .unseen } }

/-- What the LKE reads in Saddle RAM for an object or a counter; `ok` unless a gate denies it or a word cannot be read. -/
structure LkeRead where
  s : State
  val : Nat
  ok : Bool

/-- The beats of an LKE access of `n` bytes at `a` of Saddle RAM (R541): their offsets and sizes. -/
def lkeBeats (a n : Nat) : List (Nat × Nat) :=
  (List.range ((a % 8 + n + 7) / 8)).map fun i =>
    (max a (a - a % 8 + 8 * i), min (a + n) (a - a % 8 + 8 * (i + 1)) - max a (a - a % 8 + 8 * i))

/-- One beat of the LKE meets gate G2, unless it takes the local port: in HIBERNATE and SHELF, and while SYS is not ON, no gate
runs (R276). -/
def State.lkeGate (s : State) (aid : Nat) (b : Nat × Nat) (write : Bool) : GateAns :=
  if s.domOn .sys then s.engineGate 2 (0x30008000 + b.1) 8 aid b.2 write else ⟨s, true⟩

/-- The beats of a read meet their gate up to the first that is denied. -/
def State.lkeReads (s : State) (aid : Nat) (bs : List (Nat × Nat)) : GateAns :=
  bs.foldl (fun g b => if g.ok then g.s.lkeGate aid b false else g) ⟨s, true⟩

/-- The LKE reads `n` bytes at `a` of Saddle RAM for an object or a counter (R276, R541). -/
def State.lkeRead (s : State) (a n aid : Nat) : LkeRead :=
  let g := s.lkeReads aid (lkeBeats a n)
  if g.ok then
    let x := g.s.saddleRead a n aid
    ⟨x.s, x.val, x.ue.isNone⟩
  else ⟨g.s, 0, false⟩

/-- The LKE writes bytes at `a` of Saddle RAM for an object or a counter: a denied beat is discarded, and the LKE goes on
(R276, R283). -/
def State.lkeWrite (s : State) (a aid : Nat) (bs : List Byte) : State :=
  (lkeBeats a bs.length).foldl (fun s b =>
    let g := s.lkeGate aid b true
    if g.ok then g.s.saddleWrite b.1 aid ((bs.drop (b.1 - a)).take b.2) else g.s) s

/-- The per-tenant drop counter (R508), which the LKE keeps with the AID that wrote LKE_DROPB (DEDUCED, log 58); a counter that
would lie beyond Saddle RAM does not exist. -/
def State.tenantDrop (s : State) (tenant : Nat) : State :=
  let a := s.f Reg.LKE_DROPB 1 13 * 2 + 2 * tenant
  if s.bit Reg.LKE_DROPB 31 && decide (a + 2 ≤ 0x4000) then
    let r := s.lkeRead a 2 s.lnk.dropAid
    if r.ok then r.s.lkeWrite a s.lnk.dropAid (bytesLE 2 (satInc 65535 r.val)) else r.s
  else s

/-- The DLC of a length (ISO 11898-1). -/
def dlcOf (n : Nat) : Nat :=
  if n ≤ 8 then n else if n ≤ 12 then 9 else if n ≤ 16 then 10 else if n ≤ 20 then 11 else if n ≤ 24 then 12
  else if n ≤ 32 then 13 else if n ≤ 48 then 14 else 15

/-- The words of a ring entry (Table 18.2); the frame lies within its command, so its start has the tick count of that command
(DEDUCED, log 29). The bytes that fill the last pair of words are open (log 2). -/
def State.entryBytes (s : State) (f : CanFrame) : List Byte :=
  let w0 := b2n f.esi * 2 ^ 31 + b2n f.brs * 2 ^ 30 + b2n f.fd * 2 ^ 29 + f.id % 2 ^ 29
  let w1 := s.tmb.ticks % 65536 * 65536 + f.data.length % 128 * 256 + f.dlc % 16
  let pad := (bytesLE 4 s.freeWord.toNat ++ bytesLE 4 s.tickFree.freeWord.toNat).take ((8 - f.data.length % 8) % 8)
  bytesLE 4 w0 ++ bytesLE 4 w1 ++ f.data ++ pad

/-- A frame is admitted to the ring, or dropped (R508). -/
def State.takeFrame (s : State) (f : CanFrame) : State :=
  let free := 32 - s.ringCount
  let kind := idKind f.id
  let need := if kind = 1 ∨ kind = 3 ∨ kind = 4 then s.f Reg.LKE_RING 16 4 else 0
  if need < free then
    let wr := s.f Reg.LKE_RIDX 8 5
    let s1 := (s.saddleWrite (s.entryAddr wr) 0x7FF (s.entryBytes f)).tickFree.tickFree
    let s1 := (s1.setF Reg.LKE_RIDX 8 5 (wr + 1)).setF Reg.LKE_RIDX 16 6 (s.ringCount + 1)
    let mark := s.f Reg.LKE_RING 24 5
    if mark ≠ 0 ∧ s.ringCount + 1 = mark then s1.lkeIrq 1 else s1
  else ((s.incSat Reg.LKE_STAT 16 16).lkeIrq 2).tenantDrop (idTenant f.id)

/-- A filter accepts an identifier (R506). -/
def State.accepts (s : State) (id : Nat) : Bool :=
  (List.range 32).any fun k =>
    let m := s.rd (Reg.LKE_FLT_MASK k) &&& 0x1FFFFFFF
    s.bit (Reg.LKE_FLT_ID k) 31 && decide (word id &&& m = s.rd (Reg.LKE_FLT_ID k) &&& m)

/-- The SYNC capture (R521). -/
def State.syncCapture (s : State) (id : Nat) : State :=
  if idKind id = 6 ∧ idTag id < 256 then
    let s := s.wr Reg.LKE_TSSEC (s.rd Reg.RTC_SEC)
    (s.wr Reg.LKE_TSSUB (word (idTag id * 65536 + s.f Reg.RTC_SUB 0 15))).lkeIrq 4
  else s

/-- CAN_FRAME_RECEIVED: a frame that the engine on the bus has received without error (R501, R504 to R508, R521). -/
def State.frameReceived (s : State) (f : CanFrame) : State :=
  if !s.busAlive then s
  else if f.fd && (decide (s.lnk.owner = .lke) || !(s.bit Reg.LNK_CFG 0)) then s.canException
  else
    let s := s.countReceived
    if !f.ext || f.remote then s.incSat Reg.LKE_STAT 8 8
    else if s.accepts f.id then (s.syncCapture f.id).takeFrame f
    else s

/-! ## Transmission (R512, R513) -/

/-- A write of a handle to a pool register, from MID 9 through gate G4. -/
def State.lnkPoolWrite (s : State) (reg op : Nat) (h : Word) (aid : Nat) : State :=
  let g := s.engineGate 4 reg 9 aid 4 true
  if g.ok then g.s.poolOp op h 9 aid else g.s

/-- Finish a handle as an agent: POOL_DONE (R339, R513). -/
def State.finishAs (s : State) (h : Word) (aid : Nat) : State := s.lnkPoolWrite Reg.POOL_DONE 4 h aid

/-- What the LNK reads of an image: a pair of words, nothing while the read has to wait, a failure where it is denied or
aborted or the words cannot be read (R513), or an address outside the Store banks. -/
inductive ImageData where
  | ok (v : Nat)
  | wait
  | failed
  | outside
  deriving DecidableEq, Repr

/-- A read of an image, with the state after it. -/
structure ImageAns where
  s : State
  data : ImageData

/-- A pair of words of the image at `a` is read as MID 9 with the poster's AID, through gate G1 (R512). -/
def State.imagePair (s : State) (a aid : Nat) : ImageAns :=
  if !(inStore a) then ⟨s, .outside⟩
  else if s.inDomReset .store then
    let g := s.engineGate 1 a 9 aid 8 false
    ⟨if g.ok then g.s.errRecord 3 (g.s.engineReq 9 aid a 8 false) else g.s, .failed⟩
  else if !(s.domOn .store) then ⟨s, .wait⟩
  else
    let x := s.loadBeat 9 aid a 8
    match x.data with
    | .ok v => ⟨x.s, .ok v⟩
    | .wait => ⟨s, .wait⟩
    | _ => ⟨x.s, .failed⟩

/-- The first marked transaction, which the abort slot answers (R515). -/
def State.abortDue (s : State) : Option Txn := s.lnk.txns.find? fun t => t.marked

/-- The identifier of a response to a transaction or a request. -/
def State.responseId (s : State) (tenant tag : Nat) : Nat := lppId 2 tenant s.node tag

/-- Identifiers that wait in the three slots. -/
def State.slotIds (s : State) : List Nat :=
  (match s.lnk.hb with | some f => [f.id] | none => []) ++ (match s.lnk.resp with | some f => [f.id] | none => []) ++
    (match s.abortDue with | some t => [s.responseId t.tenant t.tag] | none => [])

/-- The queued image that is offered: the lowest identifier, the oldest of equal ones (R513). -/
def State.txOffered (s : State) : Option TxPost :=
  s.lnk.txq.foldl (fun best p =>
    match best with
    | none => some p
    | some b => if p.id < b.id then some p else some b) none

/-- Every identifier that waits; posted images wait while TXSTOP = 0. -/
def State.txIds (s : State) : List Nat :=
  s.slotIds ++ (if s.bit Reg.LNK_CTL 4 then [] else s.lnk.txq.map fun p => p.id)

/-- An identifier is the lowest of those that wait. -/
def State.txLowest (s : State) (id : Nat) : Bool := s.txIds.all fun i => decide (id ≤ i)

/-- The data bytes of an FD frame: 0x00 bytes fill them to the next valid length (R512). -/
def fdData (d : List Byte) : List Byte :=
  d ++ List.replicate ((([12, 16, 20, 24, 32, 48, 64].find? fun n => decide (d.length ≤ n)).getD 64 - d.length) *
    b2n (decide (8 < d.length))) 0

/-- A frame as the controller puts it on the bus (R501, R512): padded to an FD length, BRS only where LNK_CFG.BRS allows it, and
ESI as the error state has it (ISO 11898-1 as R501 cites it; PRESUMED, log 55). A classic frame has neither flag. -/
def State.onBus (s : State) (f : CanFrame) : CanFrame :=
  if f.fd then
    { f with brs := f.brs && s.bit Reg.LNK_CFG 1, esi := decide (s.estate = 1), dlc := dlcOf (fdData f.data).length,
             data := fdData f.data }
  else { f with brs := false, esi := false, dlc := f.data.length }

/-- The engine on the bus has sent a frame. -/
def State.sends (s : State) (f : CanFrame) : State := ({ s with lnk := { s.lnk with sent := some f } }).countSent

/-- The response that the abort slot sends for a marked transaction: ABORT with TENANT_RESET (R515, R518). -/
def State.abortFrame (s : State) (t : Txn) : CanFrame :=
  { id := s.responseId t.tenant t.tag, ext := true, remote := false, fd := t.fd, brs := t.brs, esi := false, dlc := 8,
    data := bytesLE 1 1 ++ bytesLE 2 t.index ++ bytesLE 1 t.sub ++ bytesLE 4 0x06000001 }

/-- The controller may send. -/
def State.txLive (s : State) : Bool := s.ctlOwns && decide (s.estate ≠ 2)

/-- A response waiting with its entry at RD has gone: the entry leaves the ring. -/
def State.respGone (s : State) : State :=
  let s := { s with lnk := { s.lnk with resp := none } }
  if s.lnk.rd = .respond then s.ringAdvance else s

/-- SLOT_FRAME_SENT. -/
def State.slotSent (s : State) (k : SlotKind) : State :=
  if !s.txLive then s
  else
    match k with
    | .heartbeat =>
      match s.lnk.hb with
      | some f => if s.txLowest f.id then ({ s with lnk := { s.lnk with hb := none } }).sends (s.onBus f) else s
      | none => s
    | .response =>
      match s.lnk.resp with
      | some f =>
        if s.txLowest f.id then ((if f.data.headD 0 = 2 then s.lkeIrq 0x20 else s).respGone).sends (s.onBus f) else s
      | none => s
    | .abort =>
      match s.abortDue with
      | some t =>
        if s.txLowest (s.responseId t.tenant t.tag) then
          ({ s with lnk := { s.lnk with txns := s.lnk.txns.erase t } }).sends (s.onBus (s.abortFrame t))
        else s
      | none => s

/-- A frame of the LKE engine starts: the rate limit runs from it (R529). -/
def State.rateStart (s : State) : State :=
  let ms := s.f Reg.LKE_CFG 4 8
  { s with lnk := { s.lnk with rate := (ms * s.tickRate + 999) / 1000 } }

/-- LKE_RESPONSE_SEND (R529): a heartbeat that is due goes first. The LKE engine sends classic frames only; a response that was
to go in FD format waits for the controller (DEDUCED, log 58). -/
def State.lkeRespond (s : State) : State :=
  match s.lnk.resp with
  | some f =>
    if s.lkeOwns && !s.lnk.lkeOff && decide (s.lnk.rate = 0) && s.lnk.hb.isNone && !f.fd then
      ((if f.data.headD 0 = 2 then s.lkeIrq 0x20 else s).respGone).rateStart.sends f
    else s
  | none => s

/-- LKE_HEARTBEAT: the LKE engine sends the heartbeat that is due (R522, R529). -/
def State.lkeHeartbeat (s : State) : State :=
  match s.lnk.hb with
  | some f =>
    if s.lkeOwns && !s.lnk.lkeOff then ({ s with lnk := { s.lnk with hb := none } }).rateStart.sends f else s
  | none => s

/-- Step 6 of a Cycle boundary (R522). -/
def State.heartbeatStep (s : State) : State :=
  if !(s.bit Reg.LKE_HB 31) then s
  else if s.ctlOwns then
    let d := s.f Reg.LKE_HB 0 7
    if d ≠ 0 ∧ s.f Reg.TMB_CYCCNT 0 32 % d = 0 then s.queueHeartbeat false else s
  else if s.lkeOwns then
    let n := s.lnk.hbCycles + 1
    if s.f Reg.LKE_HB 16 7 ≤ n then { s with lnk := { s.lnk with hbCycles := 0, hb := some (s.heartbeat true false) } }
    else { s with lnk := { s.lnk with hbCycles := n } }
  else s

/-! ## Posts and the transaction table (R512, R514) -/

/-- The table entry of a transaction that a tenant reset has not marked. -/
def State.txnOf (s : State) (tenant tag : Nat) : Option Txn :=
  s.lnk.txns.find? fun t => decide (t.tenant = tenant) && decide (t.tag = tag) && !t.marked

/-- Refuse a post. -/
def State.txRej (s : State) : State := s.setBit Reg.LNK_TXSTAT 0

/-- Queue an image. -/
def State.txQueue (s : State) (h : Word) (aid id : Nat) : State :=
  { s with lnk := { s.lnk with txq := s.lnk.txq ++ [⟨h, aid, id⟩] } }

/-- An image that cannot be read is dropped: its handle is finished and TXERR set (R513). -/
def State.txFails (s : State) (h : Word) (aid : Nat) : State := (s.finishAs h aid).lnkIrq 8

/-- The response status that decides whether a KIND 2 image is final (R514). -/
structure StatusAns where
  s : State
  data : ImageData

/-- Read the status of an image of KIND 2 with data; any other image has none, and reads as 3. -/
def State.imageStatus (s : State) (a aid id len : Nat) : StatusAns :=
  if idKind id = 2 ∧ 0 < len then
    let x := s.imagePair (a + 8) aid
    ⟨x.s, x.data⟩
  else ⟨s, .ok 3⟩

/-- A post whose image has been read as far as its checks need it (R512, R514). -/
def State.txAccept (s : State) (h : Word) (aid id len : Nat) (fdf : Bool) : State :=
  if (!fdf && decide (8 < len)) || (fdf && !(s.bit Reg.LNK_CFG 0)) || decide (idKind id = 0) then s.txRej
  else
    let y := s.imageStatus (s.hAddr h) aid id len
    match y.data with
    | .ok w2 =>
      if w2 % 256 < 3 then
        match y.s.txnOf (idTenant id) (idTag id) with
        | some t => ({ y.s with lnk := { y.s.lnk with txns := y.s.lnk.txns.erase t } }).txQueue h aid id
        | none => (y.s.setBit Reg.LNK_TXSTAT 1).finishAs h aid
      else y.s.txQueue h aid id
    | .wait => s
    | _ => y.s.txFails h aid

/-- LNK_TXPOST. The checks of a post read the image as its transmission does (DEDUCED, log 29): a read that is denied drops the
frame at once, and while the image's bank is under test the LNK does not take the write (DESIGN CHOICE, log 58). An image outside
the Store banks cannot be checked; it is queued and fails when its turn comes (DEDUCED, log 29). -/
def State.txPost (s : State) (h : Word) (aid : Nat) : State :=
  if s.lnk.txq.length ≥ 16 then s.txRej
  else
    let x := s.imagePair (s.hAddr h) aid
    match x.data with
    | .ok v => x.s.txAccept h aid (v % 2 ^ 29) (v / 2 ^ 40 % 128) (decide (v / 2 ^ 29 % 2 = 1))
    | .wait => s
    | .failed => x.s.txFails h aid
    | .outside => x.s.txQueue h aid 0

/-- A post waits at the LNK: a word of its image that the checks need lies in a bank under test, or STORE is not usable. -/
def State.postWaits (s : State) (h : Word) (aid : Nat) : Bool :=
  decide (s.lnk.txq.length < 16) &&
    (match (s.imagePair (s.hAddr h) aid).data with
     | .wait => true
     | .ok v => decide ((s.imageStatus (s.hAddr h) aid (v % 2 ^ 29) (v / 2 ^ 40 % 128)).data = .wait)
     | _ => false)

/-- A read of LNK_RXQ: the state after it, and the handle (R511). -/
def State.rxqRead (s : State) : State × Word :=
  ({ s with lnk := { s.lnk with rxq := s.lnk.rxq.drop 1 } }, s.lnk.rxq.headD 0xFFFFFFFF)

/-! ## Register writes -/

/-- Quanta per bit of the data rates (Table 18.1). -/
def dataQuanta (c : Nat) : Nat :=
  match c with
  | 0 => 40
  | 1 => 20
  | 2 => 10
  | _ => 8

/-- A write of LNK_CTL. -/
def State.writeLnkCtl (s : State) (v : Word) : State :=
  let s := s.stdWrite Reg.LNK_CTL v
  if wbit v 8 && decide (s.estate = 2) then { s with lnk := { s.lnk with recover := true } } else s

/-- A write of LNK_CFG (R502). -/
def State.writeLnkCfg (s : State) (v : Word) : State :=
  if s.bit Reg.LNK_CTL 0 || decide (dataQuanta (fld v 16 2) < fld v 8 5 + 1 + 2) then s.lnkRej else s.stdWrite Reg.LNK_CFG v

/-- A write of LNK_RXCFG captures the ring AID when it sets EN (R509). -/
def State.writeRxcfg (s : State) (v : Word) (aid : Nat) : State :=
  let rise := wbit v 0 && !(s.bit Reg.LNK_RXCFG 0)
  let s := s.stdWrite Reg.LNK_RXCFG v
  if rise then s.setF Reg.LNK_RXCFG 16 11 aid else s

/-- A write of LKE_CFG (R502, R516). -/
def State.writeLkeCfg (s : State) (v : Word) : State :=
  if (wbit v 0 && !(s.bit Reg.LKE_CFG 0) && decide (fld v 25 7 = 0)) || decide (40 < fld v 15 5 + 1 + 2) then s.lnkRej
  else s.stdWrite Reg.LKE_CFG v

/-- A write of LKE_RING (R507). -/
def State.writeLkeRing (s : State) (v : Word) : State :=
  if 0x4000 < fld v 3 11 * 8 + 32 * 72 then s.lnkRej else s.stdWrite Reg.LKE_RING v

/-- A write of LKE_OBJ is staged for the next Cycle boundary (R527, R545). -/
def State.writeLkeObj (s : State) (v : Word) (aid : Nat) : State :=
  if 512 < fld v 16 10 ∨ 0x4000 < fld v 4 10 * 16 + 16 * fld v 16 10 then s.lnkRej
  else { s with lnk := { s.lnk with objNext := some (v &&& 0x03FF3FF0, aid) } }

/-- A write of LKE_DROPB; its writer's AID goes with the counters (R224). -/
def State.writeLkeDropb (s : State) (v : Word) (aid : Nat) : State :=
  let s := s.stdWrite Reg.LKE_DROPB v
  { s with lnk := { s.lnk with dropAid := aid } }

/-- The staged table takes effect (R545). -/
def State.lkeTableSwitch (s : State) : State :=
  match s.lnk.objNext with
  | some (v, aid) =>
    let s := s.wr Reg.LKE_OBJ v
    { s with lnk := { s.lnk with objNext := none, objAid := aid } }
  | none => s

/-- LNK_STAT as read: TXIDLE while the controller owns the bus, since no frame is on it between two commands (DEDUCED,
log 29). -/
def State.lnkStat (s : State) : Word := wputBit (s.rd Reg.LNK_STAT) 4 s.ctlOwns

/-- LNK_TXSTAT as read. -/
def State.lnkTxstat (s : State) : Word := setFld (s.rd Reg.LNK_TXSTAT) 16 5 (16 - s.lnk.txq.length)

/-- LNK_TXN as read. -/
def State.lnkTxn (s : State) : Word := setFld (s.rd Reg.LNK_TXN) 16 7 s.lnk.txns.length

/-- LNK_IRQ as read. -/
def State.lnkIrqRead (s : State) : Word := wputBit (s.rd Reg.LNK_IRQ) 0 (!s.lnk.rxq.isEmpty)

/-! ## Tenants and resets (R515, R532, R533) -/

/-- Step 6 of a tenant reset marks the tenant's transactions. -/
def State.lnkMark (s : State) (t : Nat) : State :=
  let txns := s.lnk.txns.map fun x => if x.tenant = t then { x with marked := true } else x
  { s with lnk := { s.lnk with txns := txns } }

/-- Step 2 of a tenant reset, and FAULT. -/
def State.lnkStopFor (s : State) (aid : Nat) : State :=
  let s := if s.bit Reg.LNK_RXCFG 0 && decide (s.f Reg.LNK_RXCFG 16 11 = aid) then
      (s.clrBit Reg.LNK_RXCFG 0).setBit Reg.LNK_STAT 6 else s
  let mine := s.lnk.txq.filter fun p => decide (p.aid = aid)
  let keep := s.lnk.txq.filter fun p => decide (p.aid ≠ aid)
  let s := { s with lnk := { s.lnk with txq := keep } }
  mine.foldl (fun s p => s.finishAs p.handle p.aid) s

/-- A DOMAIN reset of LINK: its queues are emptied and every queued handle is finished (R532). -/
def State.linkReset (s : State) : State :=
  let q := s.lnk.txq
  let s := s.linkOff
  let s := { s with lnk := { s.lnk with txq := [], rxq := [], txns := [], recover := false } }
  q.foldl (fun s p => s.finishAs p.handle p.aid) s

end Sys2Proof.Machine
end

