-- ==== Sys2Proof/Machine/Dma.lean ====
section
/-!
DEFINITION. The registers of the general DMA (R254, R261), and the tenant commands and the tenant reset (R359 to R375, Tables
12.2 to 12.4) with the engines it stops.
-/
namespace Sys2Proof.Machine

/-! ## General DMA registers -/

/-- FETCH, RUN, WAITPOOL or PAUSED. -/
def State.dmaBusy (s : State) (n : Nat) : Bool := decide (1 ≤ s.dmaState n) && decide (s.dmaState n ≤ 4)

/-- DMA_STAT.REJ. -/
def State.dmaRej (s : State) : State := s.setBit Reg.DMA_STAT 0

/-- Enter a state of DMA_CHnSTAT. -/
def State.dmaTo (s : State) (n st : Nat) : State := s.setF (Reg.DMA_CHSTAT n) 28 4 st

/-- The channel goes to the descriptor at `a` (R255). -/
def State.dmaFetchFrom (s : State) (n : Nat) (a : Word) : State :=
  let s := s.setDmaCh n (s.dmaCh n).clear
  ((s.wr (Reg.DMA_CHCUR n) a).wr (Reg.DMA_CHPOS n) 0).dmaTo n 1

/-- START (R254): ERR and PCODE of an earlier chain are cleared (DEDUCED, log 30). -/
def State.dmaStart (s : State) (n aid : Nat) : State :=
  if s.dmaBusy n then s.dmaRej
  else
    let s := s.setF (Reg.DMA_CHCTL n) 16 11 aid
    let s := if aid = 0x400 then s.setDmaCh n { s.dmaCh n with tid := s.tidNum } else s
    (s.wr (Reg.DMA_CHSTAT n) 0).dmaFetchFrom n (s.rd (Reg.DMA_CHDESC n))

/-- The channel ends in ERROR with a code (R255, R258, R260, R261). -/
def State.dmaError (s : State) (n code : Nat) : State :=
  let s := s.setDmaCh n (s.dmaCh n).clear
  (s.dmaTo n 6).setF (Reg.DMA_CHSTAT n) 24 4 code

/-- An active channel is stopped at its beat boundary (R261): while an access is outstanding, once that has landed. -/
def State.dmaStop (s : State) (n code : Nat) : State :=
  if !(s.dmaBusy n) then s
  else if s.dmaWaits n then
    (if (s.dmaCh n).stopDue.isSome then s else s.setDmaCh n { s.dmaCh n with stopDue := some code })
  else s.dmaError n code

/-- The beat boundary of a channel whose access has been answered: a stop or a pause that was due is made (R90, R261). -/
def State.dmaBoundary (s : State) (n : Nat) : State :=
  if s.dmaWaits n then s
  else
    match (s.dmaCh n).stopDue with
    | some c => if s.dmaBusy n then s.dmaError n c else s.setDmaCh n { s.dmaCh n with stopDue := none, pauseDue := false }
    | none =>
      if (s.dmaCh n).pauseDue then (s.setDmaCh n { s.dmaCh n with pauseDue := false }).dmaPause n else s

/-- A write of DMA_CHnCTL: START and ABORT both act on the state the write finds. -/
def State.writeDmaCtl (s : State) (n : Nat) (v : Word) (aid : Nat) : State :=
  let busy := s.dmaBusy n
  let s := if wbit v 0 then s.dmaStart n aid else s
  if wbit v 1 && busy then s.dmaStop n 5 else s

/-- A write of DMA_CHnDESC (R254). -/
def State.writeDmaDesc (s : State) (n : Nat) (v : Word) : State :=
  if s.dmaBusy n then s.dmaRej else s.stdWrite (Reg.DMA_CHDESC n) v

/-- Channels carrying an AID stop with CANCEL (R261, R371). -/
def State.dmaStopFor (s : State) (aid : Nat) : State :=
  (List.range 8).foldl (fun s n => if s.f (Reg.DMA_CHCTL n) 16 11 = aid then s.dmaStop n 6 else s) s

/-! ## Tenant commands (R359 to R362) -/

/-- Every engine operation carrying an AID stops (R362, R371). -/
def State.stopEngines (s : State) (aid : Nat) : State :=
  ((((((s.dmaStopFor aid).msrStopFor aid).touchStopFor aid).panelStopFor aid).stcStopFor aid).dgsStopFor aid).lnkStopFor aid

/-- TEN_STAT.RBUSY. -/
def State.tenBusy (s : State) : Bool := s.bit Reg.TEN_STAT 0

/-- TEN_STAT.RSTEP. -/
def State.tenStep (s : State) : Nat := s.f Reg.TEN_STAT 8 4

/-- The tenant of the reset in progress. -/
def State.tenOf (s : State) : Nat := s.f Reg.TEN_STAT 12 10

/-- Go to a step of Table 12.4. -/
def State.toTenStep (s : State) (k : Nat) : State := s.setF Reg.TEN_STAT 8 4 k

/-- A tenant reset begins (R370). -/
def State.startTenReset (s : State) (t : Nat) (remove : Bool) : State :=
  let s := s.setTenState t 3
  let s := ((s.setBit Reg.TEN_STAT 0).setF Reg.TEN_STAT 12 10 t).toTenStep 1
  { s with ten := { s.ten with remove := remove, zeroPos := 0 } }

/-- A listed command from a listed state (Table 12.2). -/
def State.tenCommand (s : State) (op t : Nat) : State :=
  match op, s.tenState t with
  | 1, 0 => s.setTenState t 1
  | 2, 1 => s.setTenState t 2
  | 3, 2 => s.setTenState t 1
  | 4, 1 => (s.setTenState t 4).stopEngines t
  | 4, 2 => (s.setTenState t 4).stopEngines t
  | 5, 1 => s.startTenReset t false
  | 5, 2 => s.startTenReset t false
  | 5, 4 => s.startTenReset t false
  | 6, 1 => s.startTenReset t true
  | 6, 2 => s.startTenReset t true
  | 6, 4 => s.startTenReset t true
  | _, _ => s.tenRej

/-- A write of TEN_CMD (R359, R360); while the table is off every command is refused (R355). -/
def State.writeTenCmd (s : State) (v : Word) (aid : Nat) : State :=
  let op := fld v 12 3
  if decide (fld v 16 16 ≠ 0x7E4A) || decide (aid ≠ 0x400) || !s.tenEnabled || (decide (5 ≤ op) && s.tenBusy) then s.tenRej
  else s.tenCommand op (fld v 0 10)

/-! ## The tenant reset (R370 to R375) -/

/-- The tenant reset may act: it pauses at a deep entry (R378). -/
def State.tenResetAt (s : State) (k : Nat) : Bool := s.busUp && s.tenBusy && decide (s.tenStep = k)

/-- A buffered store carries an AID. -/
def State.bufHolds (s : State) (aid : Nat) : Bool := s.core.buf.any fun e => decide (e.req.aid = aid)

/-- Step 1 ends: the tenant is not current and no buffered store carries its AID; step 2 stops the engines. -/
def State.tenDrained (s : State) : State :=
  if s.tenResetAt 1 && !(s.isCurrent s.tenOf) && !(s.bufHolds s.tenOf) then (s.stopEngines s.tenOf).toTenStep 2 else s

/-- No request with an AID waits. -/
def State.nothingWaits (s : State) (aid : Nat) : Bool := s.bus.held.all fun h => decide (h.req.aid ≠ aid)

/-- Step 2 ends once no request of the tenant is outstanding (R370); step 3 redirects the routes and ends as it does. -/
def State.tenStopped (s : State) : State := if s.tenResetAt 2 && s.nothingWaits s.tenOf then (s.redirect s.tenOf).toTenStep 4 else s

/-- Step 6, and on to step 7 or 8 (Table 12.4). -/
def State.tenMark (s : State) : State :=
  let t := s.tenOf
  (s.lnkMark t).toTenStep (if wbit (s.trec t 0) 3 && decide (fld (s.trec t 1) 16 9 ≠ 0) then 7 else 8)

/-- SEC is powered for the tenant reset, whatever PWR_POL.SEC holds (R371). -/
def State.tenPowerSec (s : State) : State := if s.domOn .sec || s.inDomReset .sec then s else s.wakeDomain .sec

/-- Step 5: the digest contexts bound to the tenant, with SEC powered first where it is not (R371). -/
def State.tenDigest (s : State) : State :=
  if s.domOn .sec then (s.dgsFreeFor s.tenOf).tenMark
  else if s.inDomReset .sec then s.tenMark
  else s.tenPowerSec

/-- Step 4: the pool scan, then step 5. -/
def State.tenScan (s : State) : State := if s.tenResetAt 4 then ((s.poolScan s.tenOf).toTenStep 5).tenDigest else s

/-- Zeroisation of the next 64 bits (R373): beats of the Stitch engine's fill path, which wait while SEC is not ON or the bank
is under test. -/
def State.zeroiseBeat (s : State) : State :=
  if s.tenResetAt 7 then
    let t := s.tenOf
    let w := s.trec t 1
    let addr := 0x10000000 + fld w 0 12 * 256 + s.ten.zeroPos
    if s.inDomReset .sec then { s with ten := { s.ten with zeroPos := 0 } }
    else if !(s.domOn .sec) then s.tenPowerSec
    else if s.bankWaits addr 7 0x400 true then s
    else
      let r := s.storeBeat 7 0x400 addr (List.replicate 8 0)
      let s := if r.ok then r.s else r.s.setBit Reg.TEN_STAT 3
      let pos := s.ten.zeroPos + 8
      let s := { s with ten := { s.ten with zeroPos := pos } }
      if fld w 16 9 * 256 ≤ pos then s.toTenStep 8 else s
  else s

/-- Step 8 (R370, R374). -/
def State.tenResetDone (s : State) : State :=
  if s.tenResetAt 8 then
    let t := s.tenOf
    let s := s.setTenState t (if s.ten.remove then 0 else 1)
    let s := s.setRec t 0 (setFld (s.trec t 0) 16 16 (satInc 0xFFFF (fld (s.trec t 0) 16 16)))
    ((s.setBit Reg.TEN_STAT 2).clrBit Reg.TEN_STAT 0).toTenStep 0
  else s

/-- SEC becomes usable, or enters DOMAIN reset: a step that waited for it goes on (R371). -/
def State.tenSecUsable (s : State) : State := if s.tenBusy && decide (s.tenStep = 5) then s.tenDigest else s

end Sys2Proof.Machine
end

