-- ==== Sys2Proof/Machine/Reset.lean ====
section
/-!
DEFINITION. DOMAIN resets and the RST registers (R122 to R127).
-/
namespace Sys2Proof.Machine

/-- What a reset of a software-controlled domain does to its blocks beside their registers. -/
def State.blockReset (s : State) (d : Domain) : State :=
  match d with
  | .sec => { s.stcSecReset with dgs := Dgs.reset, ten := { s.ten with zeroPos := 0 } }
  | .meas =>
    let s := s.clearReq 0xFFFF
    { s with msr := Msr.reset, saf := { Saf.reset with coreStop := s.saf.coreStop, haltSeen := s.saf.haltSeen } }
  | .hmi => { s.panelReset with tch := Tch.reset }
  | .link => s.linkReset
  | _ => s

/-- Requests that wait for a domain are answered with ABORT as its reset begins (R125). -/
def State.abortHeldFor (s : State) (d : Domain) : State :=
  let held := s.bus.held.map fun h => if h.dom = d then { h with aborted := true } else h
  { s with bus := { s.bus with held := held } }

/-- A power-down or power-up of the domain gives way to its reset. -/
def State.dropSteps (s : State) (d : Domain) : State :=
  { s with pwr := { s.pwr with pdown := s.pwr.pdown.filter fun x => decide (x ≠ d),
                               stagger := s.pwr.stagger.filter fun k => decide (stepDom k ≠ d) } }

/-- Every register of a domain takes its reset value; LVALID is held with the ledger RAM (R469, R477). -/
def State.resetDomRegs (s : State) (d : Domain) : State :=
  let valid := s.bit Reg.PNL_LSTAT 31
  let s := s.resetRegs d
  if d = .hmi then s.putBit Reg.PNL_LSTAT 31 valid else s

/-- A DOMAIN reset of `d` begins (R122 steps 1 to 4, Table 05.2): it is ignored while one is in progress. One of SEC completes
step 5 of a tenant reset that waits for SEC (R371). -/
def State.domReset (s : State) (d : Domain) : State :=
  if s.inDomReset d then s
  else
    let s := s.pushCause 0x20 (domBit d) (s.rd Reg.RTC_SEC).toNat
    let s := ((s.blockReset d).abortHeldFor d).dropSteps d
    let s := (s.resetDomRegs d).setDom d .reset
    let s := s.setBit Reg.RST_STAT (domBit d)
    let s := if d = .sec then s.tenSecUsable else s
    (s.safOut).powerUp d

/-- A write of RST_CTL (R122). -/
def State.writeRstCtl (s : State) (v : Word) (wr : Writer) : State :=
  if fld v 16 16 ≠ 0xA5C3 then s.setBit Reg.RST_STAT 8
  else if wbit v 8 then { s.trigger .software with lcs := { (s.trigger .software).lcs with softMid := wr.mid } }
  else softDomains.foldl (fun s d => if wbit v (domBit d) then s.domReset d else s) s

/-- A DOMAIN reset ends as the domain becomes usable (R122 steps 5 and 6). -/
def State.domResetEnds (s : State) (d : Domain) : State :=
  if s.inDomReset d then
    ((s.clrBit Reg.RST_STAT (domBit d)).setBit Reg.RST_STAT (4 + domBit d)).setBit Reg.PWR_DOMCTL (domBit d)
  else s

end Sys2Proof.Machine
end

