-- ==== Sys2Proof/Machine/RegAccess.lean ====
section
/-!
DEFINITION. Register reads and writes as they reach their block (R6 to R11, R227): which register an address names, the writes
that act, the reads that compose a status or have a side effect, and the peripheral aliases (R245).
-/
namespace Sys2Proof.Machine

/-- The index of an address in an array of `n` registers from `base`, `stride` bytes apart. -/
def idx? (base stride n a : Nat) : Option Nat :=
  if base ≤ a ∧ (a - base) % stride = 0 ∧ (a - base) / stride < n then some ((a - base) / stride) else none

/-! ## Reads -/

/-- A read of a register of the SYS domain's blocks, or of NVC. -/
def State.readSys (s : State) (a : Nat) : Word :=
  if a = Reg.ICT_ERRSTAT then s.ictErrstat
  else if a = Reg.ICT_ERRADDR then s.ictErr.1
  else if a = Reg.ICT_ERRINFO then s.ictErr.2
  else if a = Reg.NVC_STAT then s.nvcStat
  else if a = Reg.TEN_CUR then word (1024 * b2n s.tenantMode + s.tidNum)
  else if a = Reg.VIR_DBNEXT then s.virDbnext
  else s.rd a

/-- A read of a Saddle register, with what it changes. -/
def State.readSaddle (s : State) (a : Nat) : State × Word :=
  if a = Reg.RTC_SUB then (s.rtcSubRead, s.rd a)
  else if a = Reg.HRV_STAT then (s, s.hrvStat)
  else if a = Reg.SDL_STAT then (s, s.sdlStat)
  else if a = Reg.LCS_STAT then (s, s.lcsStat)
  else if a = Reg.LCS_KEYSTAT then (s, s.lcsKeystat)
  else if a = Reg.LCS_UID 0 then (s, Config.uid 0)
  else if a = Reg.LCS_UID 1 then (s, Config.uid 1)
  else if (idx? (Reg.LCS_RESP 0) 4 8 a).isSome || (idx? (Reg.LCS_KEYBUF 0) 4 16 a).isSome then (s, 0)
  else (s, s.rd a)

/-- A read of a register of STORE, SEC or HMI, with what it changes. -/
def State.readBlock (s : State) (a : Nat) (wr : Writer) : State × Word :=
  match idx? (Reg.POOL_ALLOC 0) 4 4 a with
  | some c =>
    let r := s.poolAlloc c wr.mid wr.aid
    (r.s, r.handle)
  | none =>
    match idx? (Reg.STC_SPRD 0) 4 2 a, idx? (Reg.TCH_NODE 0) 4 64 a, idx? 0x20017100 4 128 a with
    | some i, _, _ => (s, s.stcSprd i)
    | none, some n, _ => (s, s.tchNode n)
    | none, none, some i => if i % 8 = 0 ∨ 4 ≤ i % 8 then s.readWindow (i / 8) wr.aid else (s, 0)
    | none, none, none =>
      if a = Reg.POOL_MDATA then (s, s.poolMdata)
      else if a = Reg.PNL_LSTAT then (s.lstatRead, s.rd a)
      else if a = Reg.DGS_CTX then (s, word (s.dgsSel wr.mid))
      else if (decide (Reg.DGS_CFG ≤ a) && decide (a ≤ Reg.DGS_COUNTHI)) || (idx? (Reg.DGS_OUT 0) 4 32 a).isSome then
        (if a % 4 = 0 then s.readCtxReg a wr else (s, 0))
      else (s, s.rd a)

/-- A read of a register of LNK, with what it changes. -/
def State.readLnk (s : State) (a : Nat) : State × Word :=
  if a = Reg.LNK_RXQ then s.rxqRead
  else if a = Reg.LNK_STAT then (s, s.lnkStat)
  else if a = Reg.LNK_TXSTAT then (s, s.lnkTxstat)
  else if a = Reg.LNK_TXN then (s, s.lnkTxn)
  else if a = Reg.LNK_IRQ then (s, s.lnkIrqRead)
  else (s, s.rd a)

/-- A read of a core space register, with what it changes. -/
def State.readPrivate (s : State) (a : Nat) : State × Word :=
  match idx? (Reg.EIC_PEND 0) 4 4 a with
  | some i => (s, s.eicPend i)
  | none =>
    if a = Reg.EIC_TOP then (s, s.eicTop)
    else if a = Reg.STM_CNTLO then (s.stmLatch, s.rd a)
    else if a / 0x1000 = 0xE0002 then (s, s.readDbg a)
    else (s, s.rd a)

/-- A read of the register at `a` by a master, with every side effect (R8, R227). Windows of the table and of the ledger
read as registers. -/
def State.readReg (s : State) (a : Nat) (wr : Writer) : State × Word :=
  match idx? 0x20100000 4 8192 a, idx? 0x20020000 4 2048 a with
  | some i, _ => (s, s.readRecord (i / 8) (i % 8))
  | none, some i => (s, s.ledgerRead i)
  | none, none =>
    if a / 0x1000 = 0x20006 ∨ a / 0x1000 = 0x20007 ∨ a / 0x1000 = 0x20015 ∨ a / 0x1000 = 0x20016 ∨ a / 0x1000 = 0x20017 then
      s.readBlock a wr
    else if a / 0x1000 = 0x20018 then s.readLnk a
    else if a / 0x10000 = 0x3000 then s.readSaddle a
    else if a / 0x10000 = 0xE000 then s.readPrivate a
    else if a / 0x1000 = 0xA0002 ∨ a / 0x1000 = 0xA0003 then (s, s.readHdp a)
    else (s, s.readSys a)

/-! ## Writes -/

/-- A write of a register of TMB, RTC, HRV or SDL. -/
def State.writeTime (s : State) (a : Nat) (v : Word) : State :=
  if a = Reg.BRT_DONE then (if wbit v 0 then s.brtDone else s)
  else if a = Reg.BRT_CFG then s.writeBrtCfg v
  else if a = Reg.TMB_CFG then s.writeTmbCfg v
  else if a = Reg.RTC_SEC then s.writeRtcSec v
  else if a = Reg.HRV_THR then s.writeHrvThr v
  else if a = Reg.HRV_CFG then s.writeHrvCfg v
  else if a = Reg.SDL_WKEY then s.writeWkey v
  else s.stdWrite a v

/-- A write of a register of LCS or LKE. -/
def State.writeSaddle (s : State) (a : Nat) (v : Word) (wr : Writer) : State :=
  match idx? (Reg.LCS_RESP 0) 4 8 a, idx? (Reg.LCS_KEYBUF 0) 4 16 a with
  | some i, _ => s.writeLcsResp i v wr
  | none, some i => s.writeKeybuf i v wr
  | none, none =>
    if a = Reg.LCS_REQ then s.writeLcsReq v wr
    else if a = Reg.LCS_KEYCTL then s.writeKeyctl v wr
    else if a = Reg.LKE_CFG then s.writeLkeCfg v
    else if a = Reg.LKE_RING then s.writeLkeRing v
    else if a = Reg.LKE_OBJ then s.writeLkeObj v wr.aid
    else if a = Reg.LKE_DROPB then s.writeLkeDropb v wr.aid
    else s.writeTime a v

/-- A write of a register of CLK, RST, PWR, ICT, DMA, GPIO, GTC, TEN or VIR. -/
def State.writeSys (s : State) (a : Nat) (v : Word) (wr : Writer) : State :=
  match idx? (Reg.DMA_CHCTL 0) 0x20 8 a, idx? (Reg.DMA_CHDESC 0) 0x20 8 a, idx? (Reg.GATE_RULE_BASE 0) 4 512 a,
    idx? (Reg.GATE_VSTAT 0) 0x10 8 a, idx? (Reg.VIR_ROUTE 0) 4 128 a with
  | some n, _, _, _, _ => s.writeDmaCtl n v wr.aid
  | none, some n, _, _, _ => s.writeDmaDesc n v
  | none, none, some i, _, _ => s.writeRule (i / 4) (i % 4 * 4) v
  | none, none, none, some n, _ => s.writeVstat n v
  | none, none, none, none, some n => s.writeRoute n v
  | none, none, none, none, none =>
    if a = Reg.CLK_OP then s.writeClkOp v
    else if a = Reg.RST_CTL then s.writeRstCtl v wr
    else if a = Reg.PWR_DOMCTL then s.writeDomctl v
    else if a = Reg.ICT_ERRPOP then s.errPop v
    else if a = Reg.GTC_CTL then s.writeGtcCtl v
    else if a = Reg.TEN_CTL then s.writeTenCtl v
    else if a = Reg.TEN_CMD then s.writeTenCmd v wr.aid
    else if a = Reg.VIR_INJECT then s.writeInject v
    else if a = Reg.GPIO_DIR ∨ a = Reg.GPIO_OUT ∨ a = Reg.GPIO_ODRAIN ∨ a = Reg.GPIO_PULL ∨ a = Reg.GPIO_FILT then
      s.writeGpioPins a v
    else s.stdWrite a v

/-- A write of a register of POOL or STC. -/
def State.writeStoreBlock (s : State) (a : Nat) (v : Word) (wr : Writer) : State :=
  match idx? (Reg.POOL_THRA 0) 4 4 a, idx? (Reg.POOL_THRB 0) 4 4 a with
  | some c, _ => s.writePoolThr c false v
  | none, some c => s.writePoolThr c true v
  | none, none =>
    if a = Reg.POOL_CTL then s.writePoolCtl v
    else if a = Reg.POOL_BASE ∨ a = Reg.POOL_CNT01 ∨ a = Reg.POOL_CNT23 then s.writePoolCfg a v
    else if a = Reg.POOL_FREE then s.poolOp 2 v wr.mid wr.aid
    else if a = Reg.POOL_RELEASE then s.poolOp 3 v wr.mid wr.aid
    else if a = Reg.POOL_DONE then s.poolOp 4 v wr.mid wr.aid
    else if a = Reg.POOL_SHAREH then s.poolStage v wr.mid wr.aid
    else if a = Reg.POOL_SHARE then s.poolShare v wr.mid wr.aid
    else if a = Reg.POOL_ERRSTAT then s.writePoolErr v
    else if a = Reg.STC_CMD then s.writeStcCmd v wr
    else if a = Reg.STC_SCRUB then s.writeScrub v
    else if a = Reg.STC_RTNEXT then s.writeRtnext v
    else if a = Reg.STC_ECCCTL then s.writeEccctl v
    else s.stdWrite a v

/-- A write of a register of MSR. -/
def State.writeMsr (s : State) (a : Nat) (v : Word) (wr : Writer) : State :=
  match idx? (Reg.MSR_CHCFG 0) 0x10 48 a, idx? (Reg.MSR_CHHI 0) 4 191 a with
  | some n, _ => s.writeChcfg n v
  | none, some _ => s.writeChLim a v
  | none, none =>
    if a = Reg.MSR_CFG then s.writeMsrCfg v
    else if a = Reg.MSR_DRCTL then s.writeDrctl v
    else if a = Reg.MSR_RINGCTL then s.writeRingctl v wr
    else if a = Reg.MSR_RINGBASE then s.writeRingbase v
    else if a = Reg.MSR_RINGLEN then s.writeRinglen v
    else if a = Reg.MSR_HRINGBASE then s.writeHringbase v
    else if a = Reg.MSR_HRINGLEN then s.writeHringlen v
    else if a = Reg.MSR_RINGREL then s.writeRingrel false v
    else if a = Reg.MSR_HRINGREL then s.writeRingrel true v
    else if a = Reg.MSR_SENTREL then s.ringRelease s.sentRing (fld v 0 12)
    else if a = Reg.MSR_SENTBASE ∨ a = Reg.MSR_SENTLEN then s.writeSent a v
    else s.stdWrite a v

/-- A write of a register of SAF. -/
def State.writeSaf (s : State) (a : Nat) (v : Word) : State :=
  if a = Reg.SAF_OUTREQ then s.writeOutreq v
  else if a = Reg.SAF_TRIP then s.writeTrip v
  else if a = Reg.SAF_ACK then s.writeAck v
  else if a = Reg.SAF_TEST then s.writeTest v
  else s.stdWrite a v

/-- A write of a register of TCH or PNL. -/
def State.writeHmi (s : State) (a : Nat) (v : Word) (wr : Writer) : State :=
  match idx? (Reg.TCH_KCFG 0) 8 32 a, idx? (Reg.TCH_KTHR 0) 8 32 a with
  | some j, _ => s.writeKey j false v
  | none, some j => s.writeKey j true v
  | none, none =>
    if a = Reg.TCH_CTL then s.writeTchCtl v
    else if a = Reg.TCH_BURST then s.writeTchBurst v
    else if a = Reg.TCH_RAWCTL then s.writeRawctl v wr
    else if a = Reg.TCH_RAWBASE then s.writeRawbase v
    else if a = Reg.PNL_CTL then s.writePnlCtl v wr
    else if a = Reg.PNL_VP then s.writePnlVp v
    else if a = Reg.PNL_FAULT then s.writePnlFault v
    else if a = Reg.PNL_FBBASE then s.writeFbbase v
    else if a = Reg.PNL_LCTL then s.writeLctl v
    else s.stdWrite a v

/-- A write of a register of DGS. -/
def State.writeDgs (s : State) (a : Nat) (v : Word) (wr : Writer) : State :=
  if Reg.DGS_STAT ≤ a ∧ a < Reg.DGS_OUT 0 then
    (if a = Reg.DGS_KPOL then s.writeKpol v wr.aid else if a = Reg.DGS_DMACTL then s.writeDmactl v wr.aid else s.stdWrite a v)
  else if 0x20017100 ≤ a ∧ a < 0x20017300 then
    let n := (a - 0x20017100) / 0x20
    let o := (a - 0x20017100) % 0x20
    if o = 0 then s.dgsDin n v wr.aid else if 0x10 ≤ o ∧ o % 4 = 0 then s.dgsLast n ((o - 0x10) / 4 + 1) v wr.aid else s
  else if a = Reg.DGS_CTX then s.writeDgsCtx v wr.mid
  else if a = Reg.DGS_CMD then s.writeDgsCmd v wr.aid
  else if a = Reg.DGS_IRQ ∨ a = Reg.DGS_IEN then s.stdWrite a v
  else if (regDef? a).isSome then s.writeCtxReg a v wr
  else s

/-- A write of a register of LNK. -/
def State.writeLnk (s : State) (a : Nat) (v : Word) (wr : Writer) : State :=
  if a = Reg.LNK_CTL then s.writeLnkCtl v
  else if a = Reg.LNK_CFG then s.writeLnkCfg v
  else if a = Reg.LNK_RXCFG then s.writeRxcfg v wr.aid
  else if a = Reg.LNK_TXPOST then s.txPost v wr.aid
  else s.stdWrite a v

/-- EIC_SWSET and EIC_SWCLR act on the software lines (R182). -/
def State.swSet (s : State) (v : Word) : State := { s with core := { s.core with swLines := s.core.swLines ||| v } }

/-- Clear software lines. -/
def State.swClr (s : State) (v : Word) : State := { s with core := { s.core with swLines := s.core.swLines &&& ~~~v } }

/-- A write of a core space register; only AP0 writes the DBG registers (R570). -/
def State.writePrivate (s : State) (a : Nat) (v : Word) (wr : Writer) : State :=
  if a / 0x1000 = 0xE0002 then (if wr.mid = 10 then s.writeDbg a v else s)
  else if a = Reg.EIC_SWSET then s.swSet v
  else if a = Reg.EIC_SWCLR then s.swClr v
  else if a = Reg.STM_CMPHI then s.writeCmpHi v
  else s.stdWrite a v

/-- A write of the register at `a` by a master. -/
def State.writeReg (s : State) (a : Nat) (v : Word) (wr : Writer) : State :=
  match idx? 0x20100000 4 8192 a, idx? 0x20020000 4 2048 a with
  | some i, _ => s.writeRecord (i / 8) (i % 8) v
  | none, some i => s.ledgerWrite i v
  | none, none =>
    let p := a / 0x1000
    if p = 0x20006 ∨ p = 0x20007 then s.writeStoreBlock a v wr
    else if p = 0x20010 then s.writeMsr a v wr
    else if p = 0x20014 then s.writeSaf a v
    else if p = 0x20015 ∨ p = 0x20016 then s.writeHmi a v wr
    else if p = 0x20017 then s.writeDgs a v wr
    else if p = 0x20018 then s.writeLnk a v wr
    else if p = 0x30000 ∨ p = 0x30001 ∨ p = 0x30002 ∨ p = 0x30003 ∨ p = 0x30004 then s.writeSaddle a v wr
    else if p = 0xE0000 ∨ p = 0xE0001 ∨ p = 0xE0002 then s.writePrivate a v wr
    else if p = 0xA0002 ∨ p = 0xA0003 then s.writeHdp a v
    else s.writeSys a v wr

/-! ## Peripheral aliases (R245) -/

/-- Registers that ignore every write at a bit-set or bit-clear address: those with a KEY, and those of R348 and R500. One of
STC_CMD, which never carries its key, sets REJ (R327). -/
def aliasDeaf (a : Nat) : Bool :=
  [Reg.RST_CTL, Reg.TEN_CMD, Reg.SAF_ACK, Reg.SAF_TEST, Reg.POOL_FREE, Reg.POOL_RELEASE, Reg.POOL_DONE,
   Reg.POOL_SHAREH, Reg.POOL_SHARE, Reg.DGS_CMD].contains a || (decide (0x20017100 ≤ a) && decide (a < 0x20017300))

/-- Registers whose whole word is one operand: through the bit-clear address they have none (DEDUCED, log 9). -/
def aliasOperand (a : Nat) : Bool := decide (a = Reg.VIR_INJECT) || decide (a = Reg.LNK_TXPOST)

/-- The bits of RW and RWL fields as they stand, the base of a masked write: of a staged rule word its staging copy, of a
digest context register the selected context's. -/
def State.aliasBase (s : State) (a : Nat) (wr : Writer) : Word :=
  match regDef? a with
  | none => 0
  | some d =>
    if a / 0x1000 = 0x20004 ∧ a < Reg.GATE_VSTAT 0 then s.stagedRule a &&& ruleMask (a % 16)
    else
      let m := word d.rw ||| word d.rwl
      if d.dom = .sec ∧ a = Reg.DGS_CTX then word (s.dgsSel wr.mid) &&& m
      else if (decide (Reg.DGS_CFG ≤ a) && decide (a ≤ Reg.DGS_LENHI)) || (idx? (Reg.DGS_EXPECT 0) 4 16 a).isSome then
        (s.ctx (s.dgsSel wr.mid)).reg a &&& m
      else s.rd a &&& m

/-- A store of `m` to a bit-set or bit-clear address of the register at `a`. -/
def State.aliasWrite (s : State) (a : Nat) (m : Word) (set : Bool) (wr : Writer) : State :=
  if a = Reg.STC_CMD then s.stcRej
  else if aliasDeaf a || (!set && aliasOperand a) then s
  else s.writeReg a (if set then s.aliasBase a wr ||| m else s.aliasBase a wr &&& ~~~m) wr

end Sys2Proof.Machine
end

