-- ==== Sys2Proof/Machine/Bus.lean ====
section
/-!
DEFINITION. The interconnect (chapter 08): the memory map, the order of the checks of a request (R274), and its effect at the
target, beat by beat.
-/
namespace Sys2Proof.Machine

/-! ## The memory map (Tables 08.1, 08.2) -/

/-- The regions of Table 08.1. A register block carries its domain and its gate; `mirror` is a peripheral mirror of one, and
`set` tells the bit-set mirror from the bit-clear mirror. -/
inductive Region where
  | nvm
  | store
  | storeAlias (set : Bool)
  | block (d : Domain) (gate : Nat)
  | mirror (set : Bool) (d : Domain) (gate : Nat)
  | ram
  | window
  | core
  | rom
  | unmapped
  deriving DecidableEq, Repr

/-- The domain and the gate of a register page (Table 08.2); the table window and the ledger window stand with their
blocks. -/
def blockOf (page : Nat) : Option (Domain × Nat) :=
  if page = 0x20000 ∨ page = 0x20001 ∨ page = 0x20002 ∨ page = 0x20004 ∨ page = 0x20005 ∨ page = 0x20008 ∨ page = 0x20009 then
    some (.sys, 3)
  else if page = 0x20006 then some (.store, 4)
  else if page = 0x20007 ∨ page = 0x20017 then some (.sec, 4)
  else if page = 0x2000A then some (.sys, 4)
  else if (0x20010 ≤ page ∧ page ≤ 0x20013) ∨ page = 0x20014 then some (.meas, 5)
  else if page = 0x20015 ∨ page = 0x20016 ∨ page = 0x20020 ∨ page = 0x20021 then some (.hmi, 6)
  else if page = 0x20018 then some (.link, 7)
  else if page = 0x20019 ∨ page = 0x2001A then some (.sys, 7)
  else if 0x20100 ≤ page ∧ page ≤ 0x20107 then some (.sys, 3)
  else if 0x30000 ≤ page ∧ page ≤ 0x30004 then some (.saddle, 2)
  else none

/-- The region of an address. -/
def regionOf (a : Nat) : Region :=
  if a < 0x400000 then .nvm
  else if 0x10000000 ≤ a ∧ a < 0x10110000 then .store
  else if 0x12000000 ≤ a ∧ a < 0x12100000 then .storeAlias true
  else if 0x14000000 ≤ a ∧ a < 0x14100000 then .storeAlias false
  else if 0x22000000 ≤ a ∧ a < 0x22020000 then
    match blockOf ((a - 0x2000000) / 0x1000) with
    | some (d, g) => .mirror true d g
    | none => .unmapped
  else if 0x24000000 ≤ a ∧ a < 0x24020000 then
    match blockOf ((a - 0x4000000) / 0x1000) with
    | some (d, g) => .mirror false d g
    | none => .unmapped
  else if 0x30008000 ≤ a ∧ a < 0x3000C000 then .ram
  else if 0x40000000 ≤ a ∧ a < 0x41000000 then .window
  else if 0xE0000000 ≤ a ∧ a < 0xE0003000 then .core
  else if 0xF0000000 ≤ a ∧ a < 0xF0008000 then .rom
  else
    match blockOf (a / 0x1000) with
    | some (d, g) => .block d g
    | none => .unmapped

/-! ## Answers -/

/-- What the interconnect answers a request: data, a gate's denial, an ABORT with its KIND, an uncorrectable error with the
failing word's address and its syndrome, a request held for a domain (R109), or one that waits at its target (R229, R240,
R247, R312). -/
inductive Resp where
  | ok (data : Nat)
  | denied
  | abort (kind : Nat)
  | ecc (addr syn : Nat)
  | held (d : Domain)
  | wait
  deriving DecidableEq, Repr

/-- An answer, with the state after it. -/
structure Ans where
  s : State
  resp : Resp

/-- An ABORT response, with its record (R253). -/
def State.abortAns (s : State) (kind : Nat) (r : Req) : Ans := ⟨s.errRecord kind r, .abort kind⟩

/-! ## Translation (R223, Table 09.1) -/

/-- The tenant whose window a request uses, if it may use one. -/
def State.windowTenant (s : State) (r : Req) : Option Nat :=
  if r.aid < 0x400 then some r.aid
  else if r.aid = 0x400 then some (if r.mid ≤ 1 then s.tidNum else r.tid)
  else none

/-- The Store address behind a window address. -/
def State.windowAddr (s : State) (r : Req) : Option Nat :=
  (s.windowTenant r).bind fun t => s.translate t (r.addr - 0x40000000) r.size

/-- The checked address, the path and the gate of a request; none where its translation fails. -/
def State.resolve (s : State) (r : Req) : Option (Nat × Nat × Option Nat) :=
  match regionOf r.addr with
  | .nvm => some (r.addr, 0, some 0)
  | .store => some (r.addr, 0, some 1)
  | .storeAlias set => some (0x10000000 + r.addr % 0x2000000, if set then 2 else 3, some 1)
  | .block _ g => some (r.addr, 0, some g)
  | .mirror set _ g => some (0x20000000 + r.addr % 0x2000000, if set then 2 else 3, some g)
  | .ram => some (r.addr, 0, some 2)
  | .window => (s.windowAddr r).map fun a => (a, 1, some 1)
  | .core => some (r.addr, 0, none)
  | .rom => some (r.addr, 0, none)
  | .unmapped => some (r.addr, 0, none)

/-! ## The target's checks (R274 step 3) -/

/-- A request that acts at a bank as one unit with its answer (R213). -/
def ReqKind.atomic (k : ReqKind) : Bool := decide (k = .amoAdd) || decide (k = .amoSwap)

/-- A fetch. -/
def ReqKind.isFetch (k : ReqKind) : Bool := decide (k = .fetch)

/-- A write that is posted: a bounced one counts (R109). -/
def ReqKind.isWrite (k : ReqKind) : Bool := decide (k = .write)

/-- A 32-bit aligned access. -/
def Req.word32 (r : Req) : Bool := decide (r.size = 4) && decide (r.addr % 4 = 0)

/-- A peripheral alias, with a block behind it or not (Table 08.1). -/
def inAlias (a : Nat) : Bool :=
  (decide (0x22000000 ≤ a) && decide (a < 0x22020000)) || (decide (0x24000000 ≤ a) && decide (a < 0x24020000))

/-- The KIND with which a region refuses a request by its nature, width, alignment or direction (Table 08.1, R213, R221,
R226, R244, R246). -/
def refusalKind (g : Region) (r : Req) : Option Nat :=
  match g with
  | .unmapped => if r.kind.atomic then some 9 else if inAlias r.addr && !r.kind.isWrite then some 8 else some 1
  | .storeAlias _ =>
    if r.kind.atomic then some 9
    else if !r.kind.isWrite then some 8
    else if r.size = 8 ∨ r.addr % r.size ≠ 0 then some 4
    else none
  | .mirror _ _ _ =>
    if r.kind.atomic then some 9 else if !r.kind.isWrite then some 8 else if r.word32 then none else some 4
  | .rom => if r.kind.atomic then some 9 else if 1 < r.mid || r.kind.writes then some 10 else none
  | .core =>
    if r.kind.atomic then some 9 else if r.mid ≠ 0 then some 6 else if r.word32 then none else some 4
  | .block _ _ => if r.kind.isFetch then some 12 else if r.kind.atomic then some 9 else if r.word32 then none else some 4
  | .ram => if r.kind.isFetch then some 12 else if r.kind.atomic then some 9 else none
  | .nvm => if r.kind.atomic then some 9 else none
  | .store => none
  | .window => none

/-- The domain whose policy a request meets. -/
def regionDom (g : Region) : Domain :=
  match g with
  | .block d _ => d
  | .mirror _ d _ => d
  | .ram => .saddle
  | .nvm => .sys
  | .store => .store
  | .storeAlias _ => .store
  | .window => .store
  | .core => .core
  | .rom => .core
  | .unmapped => .sys

/-- A request of the debug port to a target outside Saddle space in HIBERNATE or SHELF (R113). -/
def State.tooDeep (s : State) (g : Region) (r : Req) : Bool := decide (r.mid = 10) && s.deep && decide (regionDom g ≠ .saddle)

/-- A request waits, with its checked address `a`. -/
def State.hold (s : State) (d : Domain) (who : Waiter) (a : Nat) (r : Req) : State :=
  let h : Held := { req := r, addr := a, who := who, dom := d, aborted := false }
  { s with bus := { s.bus with held := s.bus.held ++ [h] } }

/-- An ABORT as under BOUNCE: a posted write is counted (R109, R111). -/
def State.bounce (s : State) (kind : Nat) (r : Req) : Ans :=
  (if r.kind.isWrite then s.incSat Reg.PWR_EVT 16 16 else s).abortAns kind r

/-- nRESET low holds the LKE in reset with every domain but SADDLE (R120). -/
def State.lkeHeld (s : State) (a : Nat) : Bool := s.lcs.nresetLow && decide (a / 0x1000 = 0x30004)

/-- What a domain that is not ON answers (R107, R109 to R111). SYS and STORE have no policy: a request that reaches one of them
before it is usable is held, and so is one to the LKE while nRESET is low. -/
def State.policyAns (s : State) (d : Domain) (who : Waiter) (a : Nat) (r : Req) : Option Ans :=
  if s.lkeHeld a then some ⟨s.hold .sys who a r, .held .sys⟩
  else if s.inDomReset d then some (s.bounce 3 r)
  else if s.domOn d then none
  else if d = .saddle ∨ d = .core then none
  else if domBit d = 4 ∨ (s.dom d = .transition ∧ s.pwr.pdown.contains d = false) then some ⟨s.hold d who a r, .held d⟩
  else if s.bit Reg.PWR_POL (domBit d) then some (s.bounce 2 r)
  else some ⟨(s.wakeDomain d).hold d who a r, .held d⟩

/-! ## Beats -/

/-- The beats of an access: address and size (R225). -/
def beatsOf (a n : Nat) : List (Nat × Nat) :=
  let k := 8 - a % 8
  if n ≤ k then [(a, n)] else [(a, k), (a + k, n - k)]

/-- A request to the spare bank that it refuses (R222, R297). -/
def State.spareRefuses (s : State) (r : Req) : Bool :=
  decide (r.mid ≠ 7) && (s.swapActive || !(decide (r.mid ≤ 1) && decide (r.aid = 0x400)))

/-- A checked address behind the Store's port lies in the spare bank. -/
def State.toSpare (_ : State) (g : Region) (a : Nat) : Bool :=
  (decide (g = .store) || decide (g = .window)) && decide (16 ≤ bankOf a)

/-- The core's own store to the reserved granule clears the reservation (R212); a write of another master clears that of its
bank (R237a). -/
def State.ownStore (s : State) (a n : Nat) : State :=
  match s.core.resv with
  | some (g, _) => if a < g + 32 ∧ g < a + n then { s with core := { s.core with resv := none, guard := [] } } else s
  | none => s

/-- What an accepted write does to the reservation. -/
def State.noteWrite (s : State) (a n : Nat) (r : Req) : State := if r.mid ≤ 1 then s.ownStore a n else s.clearResv (bankOf a)

/-- An SCND has failed at a bank (R240). -/
def State.scndFails (s : State) (bank : Nat) : State :=
  { s with core := { s.core with scndFailed := (s.core.scndFailed.filter fun b => decide (b ≠ bank)) ++ [bank] } }

/-- An SCND at its bank (R212, R239, R240): 0 and the store, or 1. -/
def State.scndAt (s : State) (a : Nat) (r : Req) : Ans :=
  let hit := decide (s.core.resv = some (a - a % 32, r.aid))
  let s := { s with core := { s.core with resv := none, guard := [] } }
  if hit then ⟨s.storePut (bankOf a) (a % 0x10000) (bytesLE 4 r.data), .ok 0⟩ else ⟨s.scndFails (bankOf a), .ok 1⟩

/-- An answer of an indivisible read-modify-write. -/
def rmwAns (w : WordRead) (addr : Nat) : Ans :=
  match w.ue with
  | some syn => ⟨w.s, .ecc (addr - addr % 4) syn⟩
  | none => ⟨w.s, .ok w.val⟩

/-- The answer of a read: its data, or the address of the word that failed, which `f` gives from the word's offset. -/
def readAns (x : BytesRead) (f : Nat → Nat) : Ans :=
  match x.ue with
  | some (w, syn) => ⟨x.s, .ecc (f w) syn⟩
  | none => ⟨x.s, .ok x.val⟩

/-- One beat at a Store slot; `a` is the Store address and `at_` the address as issued. -/
def State.storeAt (s : State) (a n data at_ : Nat) (r : Req) : Ans :=
  let slot := bankOf a
  let off := a % 0x10000
  match r.kind with
  | .scnd => s.scndAt a r
  | .amoAdd => rmwAns ((s.noteWrite a 4 r).storeRmw slot off r.mid r.aid fun v => (v + r.data) % 2 ^ 32) at_
  | .amoSwap => rmwAns ((s.noteWrite a 4 r).storeRmw slot off r.mid r.aid fun _ => r.data) at_
  | .write => ⟨(s.noteWrite a n r).storeWrite slot off r.mid r.aid (bytesLE n data), .ok 0⟩
  | _ =>
    readAns (s.storeRead slot off n r.mid r.aid) fun w => at_ + w - off

/-- One beat of an access to plain memory: it may run off its region, or into the spare bank (R282). -/
def State.beatAt (s : State) (g : Region) (a n data at_ : Nat) (r : Req) : Ans :=
  let rb := { r with addr := at_ }
  match g, regionOf a with
  | .nvm, .nvm =>
    if r.kind.writes then ⟨s.nvmStore a r.mid r.aid r.rom (bytesLE n data), .ok 0⟩ else ⟨s, .ok (s.nvmRead a n)⟩
  | .ram, .ram =>
    if r.kind.writes then ⟨s.saddleWrite (a - 0x30008000) r.aid (bytesLE n data), .ok 0⟩
    else
      readAns (s.saddleRead (a - 0x30008000) n r.aid) fun w => 0x30008000 + w
  | .rom, .rom => ⟨s, .ok (numLE ((List.range n).map fun i => Config.romByte (a - 0xF0000000 + i)))⟩
  | .store, .store => if 16 ≤ bankOf a ∧ s.spareRefuses r = true then s.abortAns 7 rb else s.storeAt a n data at_ r
  | .window, .store => if 16 ≤ bankOf a ∧ s.spareRefuses r = true then s.abortAns 7 rb else s.storeAt a n data at_ r
  | _, _ => s.abortAns 1 rb

/-- The answer of an access from its beats': the first that fails, else the data, the lower beat in the low bytes. -/
def mergeResp (x y : Resp) (shift : Nat) : Resp :=
  match x, y with
  | .ok v, .ok w => .ok (v + w * 2 ^ (8 * shift))
  | .ok _, y => y
  | x, _ => x

/-- Every beat of an access to plain memory, the lower address first (R225). -/
def State.beats (s : State) (g : Region) (a : Nat) (r : Req) : Ans :=
  match beatsOf a r.size with
  | [(a0, n0)] => s.beatAt g a0 n0 r.data r.addr r
  | [(a0, n0), (a1, n1)] =>
    let x := s.beatAt g a0 n0 (r.data % 2 ^ (8 * n0)) r.addr r
    let y := x.s.beatAt g a1 n1 (r.data / 2 ^ (8 * n0)) (r.addr + n0) r
    ⟨y.s, mergeResp x.resp y.resp n0⟩
  | _ => ⟨s, .ok 0⟩

/-- A store to a Store mirror: one read-modify-write of its word (R244, R246). -/
def State.storeAliasAt (s : State) (set : Bool) (a : Nat) (r : Req) : Ans :=
  let bits := (r.data % 2 ^ (8 * r.size)) * 2 ^ (8 * (a % 4))
  let w := (s.noteWrite a r.size r).storeRmw (bankOf a) (a % 0x10000 - a % 4) r.mid r.aid fun v =>
    if set then v ||| bits else v - (v &&& bits)
  match w.ue with
  | some _ => w.s.abortAns 8 r
  | none => ⟨w.s, .ok 0⟩

/-- A request waits at its target: a bank under test or guarded (R240, R312), a full NVM queue (R247), or a post whose image
cannot be read yet (log 58). -/
def State.targetWaits (s : State) (g : Region) (a : Nat) (r : Req) : Bool :=
  match g with
  | .nvm => r.kind.writes && s.nvmFull a r.size
  | .store => s.bankHolds a r.mid r.cls r.kind.writes || s.bankHolds (a + r.size - 1) r.mid r.cls r.kind.writes
  | .storeAlias _ => s.bankHolds a r.mid r.cls true
  | .window => s.bankHolds a r.mid r.cls r.kind.writes || s.bankHolds (a + r.size - 1) r.mid r.cls r.kind.writes
  | .block _ _ => decide (a = Reg.LNK_TXPOST) && r.kind.writes && s.postWaits (word r.data) r.aid
  | _ => false

/-- The effect of a request that every check has passed; `a` is its checked address. -/
def State.perform (s : State) (g : Region) (a : Nat) (r : Req) : Ans :=
  let wr : Writer := { mid := r.mid, aid := r.aid }
  match g with
  | .storeAlias set => s.storeAliasAt set a r
  | .mirror set _ _ => ⟨s.aliasWrite a (word r.data) set wr, .ok 0⟩
  | .block _ _ =>
    if r.kind.writes then ⟨s.writeReg a (word r.data) wr, .ok 0⟩
    else ⟨(s.readReg a wr).1, .ok (s.readReg a wr).2.toNat⟩
  | .core =>
    if r.kind.writes then ⟨s.writeReg a (word r.data) wr, .ok 0⟩
    else ⟨(s.readReg a wr).1, .ok (s.readReg a wr).2.toNat⟩
  | g => s.beats g a r

/-- Two requests of one master to one target, which are accepted in the order of their issue (R229, R247). -/
def sameOrder (r q : Req) : Bool := decide (r.mid = q.mid) && decide (targetOf r.addr = targetOf q.addr)

/-- A request of its master to its target waits already. -/
def State.queued (s : State) (r : Req) : Bool := s.bus.held.any fun h => sameOrder h.req r

/-- The target's checks and the effect of a request that its gate has passed. -/
def State.atTarget (s : State) (g : Region) (a : Nat) (r : Req) (who : Waiter) : Ans :=
  match if s.toSpare g a && s.spareRefuses r then some 7 else refusalKind g r with
  | some k => s.abortAns k r
  | none =>
    if s.tooDeep g r then s.abortAns 11 r
    else
      match s.policyAns (regionDom g) who a r with
      | some x => x
      | none =>
        if s.queued r || s.targetWaits g a r then ⟨s.hold (regionDom g) who a r, .wait⟩
        else (s.granted (portOf r.addr a) r.cls r.mid).perform g a r

/-! ## Requests that wait -/

/-- The waiting request that an access of `who` goes on with. -/
def Held.isFor (h : Held) (r : Req) (who : Waiter) : Bool :=
  decide (h.who = who) && decide (h.req.kind = r.kind) && decide (h.req.addr = r.addr) && decide (h.req.size = r.size) &&
    decide (h.req.mid = r.mid)

/-- A waiting request is no longer listed. -/
def State.unhold (s : State) (h : Held) : State := { s with bus := { s.bus with held := s.bus.held.erase h } }

/-- A waiting request may be served: its domain is usable, its target takes it, and no request of its master to that target
waits before it. -/
def State.heldReady (s : State) (h : Held) : Bool :=
  h.aborted || (s.domOn h.dom && !(s.inDomReset h.dom) && !(s.targetWaits (regionOf h.req.addr) h.addr h.req) &&
    !((s.bus.held.takeWhile fun x => decide (x ≠ h)).any fun x => sameOrder x.req h.req))

/-- A waiting request goes on, if it may. It has been checked as it was issued (R274, R275). -/
def State.goesOn (s : State) (h : Held) : Ans :=
  if h.aborted then (s.unhold h).abortAns 3 h.req
  else if s.heldReady h then
    let s := s.unhold h
    match refusalKind (regionOf h.req.addr) h.req with
    | some k => s.abortAns k h.req
    | none => s.perform (regionOf h.req.addr) h.addr h.req
  else ⟨s, if s.domOn h.dom then .wait else .held h.dom⟩

/-- A new request (R274): translation, the gate, the target. No gate runs while SYS is in RETENTION (R276). -/
def State.issue (s : State) (r : Req) (who : Waiter) : Ans :=
  match s.resolve r with
  | none => s.abortAns 5 r
  | some (a, path, gate) =>
    match gate with
    | some n =>
      if s.domOn .sys then
        let x := s.gateCheck n a path r
        if x.ok then x.s.atTarget (regionOf r.addr) a r who else ⟨x.s, .denied⟩
      else s.atTarget (regionOf r.addr) a r who
    | none => s.atTarget (regionOf r.addr) a r who

/-- One request: a new one, or one that waits already. -/
def State.access (s : State) (r : Req) (who : Waiter) : Ans :=
  match s.bus.held.find? fun h => h.isFor r who with
  | some h => s.goesOn h
  | none => s.issue r who

/-! ## 64-bit accesses (R226, R237) -/

/-- The region accepts 32-bit accesses only. -/
def Region.narrow (g : Region) : Bool :=
  match g with
  | .block _ _ => true
  | .mirror _ _ _ => true
  | .core => true
  | _ => false

/-- The master issues 64-bit beats (Table 08.3). -/
def midWide (mid : Nat) : Bool := [0, 2, 3, 7, 9].contains mid

/-- A 64-bit access goes as two 32-bit ones. -/
def Req.splits (r : Req) : Bool := decide (r.size = 8) && ((regionOf r.addr).narrow || !(midWide r.mid))

/-- The low and the high word of a split access. -/
def Req.low (r : Req) : Req := { r with size := 4, data := r.data % 2 ^ 32 }

/-- The high word of a split access. -/
def Req.high (r : Req) : Req := { r with addr := (r.addr + 4) % 2 ^ 32, size := 4, data := r.data / 2 ^ 32 % 2 ^ 32 }

/-- A read of up to 64 bits: the words of a split one are accepted and refused each on its own. -/
def State.read (s : State) (r : Req) (who : Waiter) : Ans :=
  if r.splits then
    let x := s.access r.low who
    match x.resp with
    | .ok v =>
      let y := x.s.access r.high who
      ⟨y.s, mergeResp (.ok v) y.resp 4⟩
    | _ => x
  else s.access r who

/-- The Store address that a request reaches, if it reaches the Store (LRSV, SCND). -/
def State.storeEff (s : State) (r : Req) : Option Nat :=
  match regionOf r.addr with
  | .store => some r.addr
  | .window => s.windowAddr r
  | _ => none

end Sys2Proof.Machine
end

