-- ==== Sys2Proof/Machine/Exc.lean ====
section
/-!
DEFINITION. The core's own accesses (R163, R208, R228 to R231), its posted write buffer, taking an exception, an interrupt or
the NMI (R167 to R177), the tenant-level exception (R185), the return (R178, R186), and the boundary between two
instructions (R564).
-/
namespace Sys2Proof.Machine

/-! ## Requests of the core -/

/-- Core space as R166 names it. -/
def privateSpace (a : Word) : Bool := decide (0xE0000000 ≤ a.toNat) && decide (a.toNat < 0xF0000000)

/-- A request of the core's data port (R163). -/
def State.coreReq (s : State) (kind : ReqKind) (a : Word) (n data : Nat) : Req :=
  { mid := 0, aid := s.coreAid, tid := s.tidNum, cls := s.qosClass 0 s.coreAid, kind := kind, addr := a.toNat, size := n,
    data := data, rom := decide (regionOf s.pc.toNat = .rom) }

/-- The fetch of the instruction at PC. -/
def State.fetchReq (s : State) : Req := { s.coreReq .fetch s.pc 4 0 with mid := 1, cls := s.qosClass 1 s.coreAid }

/-- Neither answered nor refused: the request is held or waits at its target. -/
def Resp.waits (r : Resp) : Bool :=
  match r with
  | .held _ => true
  | .wait => true
  | _ => false

/-! ## The posted write buffer (R229, R230) -/

/-- Replace the buffer. -/
def State.setBuf (s : State) (b : List Posted) : State := { s with core := { s.core with buf := b } }

/-- Entry `k` may issue: no earlier one goes to its target, and no BAR.W lies between them (R214, R230). -/
def State.entryMay (s : State) (k : Nat) : Bool :=
  match s.core.buf[k]? with
  | some e => (s.core.buf.take k).all fun p => decide (targetOf p.req.addr ≠ targetOf e.req.addr) && decide (p.epoch = e.epoch)
  | none => false

/-- A store at the bus: what is left of it while it waits. -/
structure StoreAns where
  s : State
  left : Option Req

/-- A store goes to its target; the words of a split one land each on its own (R209, R226). -/
def State.storeOut (s : State) (r : Req) : StoreAns :=
  if r.splits then
    let x := s.access r.low .coreStore
    if x.resp.waits then ⟨x.s, some r⟩
    else
      let y := x.s.access r.high .coreStore
      ⟨y.s, if y.resp.waits then some r.high else none⟩
  else
    let x := s.access r .coreStore
    ⟨x.s, if x.resp.waits then some r else none⟩

/-- Entry `k` of the buffer issues. -/
def State.issueEntry (s : State) (k : Nat) : State :=
  match s.core.buf[k]? with
  | some e =>
    if s.entryMay k then
      let x := s.storeOut e.req
      match x.left with
      | none => x.s.setBuf (x.s.core.buf.eraseIdx k)
      | some r => x.s.setBuf (x.s.core.buf.set k { e with req := r })
    else s
  | none => s

/-- Issue the entries that satisfy `p`, and those a BAR.W puts before them, as far as their targets take them. -/
def State.drainFor (s : State) (fuel : Nat) (p : Posted → Bool) : State :=
  match fuel with
  | 0 => s
  | n + 1 =>
    match s.core.buf.findIdx? p with
    | none => s
    | some k => State.drainFor (s.issueEntry (if s.entryMay k then k else 0)) n p

/-- Every buffered store issues. -/
def State.drainAll (s : State) : State := s.drainFor 4 fun _ => true

/-- A buffered store goes to a target that an access of `n` bytes at `a` touches. -/
def sameTarget (a : Word) (n : Nat) (e : Posted) : Bool :=
  decide (targetOf e.req.addr = targetOf a.toNat) || decide (targetOf e.req.addr = targetOf ((a.toNat + n - 1) % 2 ^ 32))

/-- The stores before an access to the same target issue first (R229, R230). -/
def State.drainTo (s : State) (a : Word) (n : Nat) : State := s.drainFor 4 (sameTarget a n)

/-- A buffered store still stands before an access. -/
def State.storesBefore (s : State) (a : Word) (n : Nat) : Bool := s.core.buf.any (sameTarget a n)

/-! ## Entry -/

/-- STATUS in [8:0] and CC in [15:12] (ESTATUS, NSTATUS). -/
def State.savedStatus (s : State) : Word := (s.core.status &&& 0x1FF) ||| word (ccNum s.core.cc * 0x1000)

/-- The core stops until a SYSTEM reset: CORE 0x002 (R175, R425). -/
def State.stopCore (s : State) : State :=
  let s := s.abandon
  let s := { s with core := { s.core with stopped := true }, saf := { s.saf with coreStop := 2 } }
  s.safReport (faultWord 4 2 0) 0x7FF

/-- The vector of an exception, as an address. -/
def State.vectorAddr (s : State) (vec : Nat) : Word := s.core.vbase + word (4 * vec)

/-- The read of a vector (R174 step 6), behind the buffered stores to its target. -/
def State.vectorRead (s : State) (vec : Nat) : Ans :=
  let a := s.vectorAddr vec
  let s := s.drainTo a 4
  if s.storesBefore a 4 then ⟨s, .wait⟩ else s.read { s.coreReq .read a 4 0 with rom := false } .coreLoad

/-- The core waits. -/
def State.waitAt (s : State) (w : Stall) : State := { s with core := { s.core with stalled := some w } }

/-- The read of vector 13 has been answered: the core continues at it, waits for it, or stops where it cannot be read (R175). -/
def Ans.vector13 (x : Ans) : State :=
  match x.resp with
  | .ok v => x.s.setPc (word v)
  | .held _ => x.s.waitAt (.vector 13)
  | .wait => x.s.waitAt (.vector 13)
  | _ => x.s.stopCore

/-- Exception 13 on a vector read of another entry (R175), an NMI's or an interrupt's in a double fault as well (DESIGN CHOICE,
log 58): EPC and ESTATUS keep what that entry loaded (DEDUCED, log 33). -/
def State.vectorFault (s : State) (addr : Word) : State :=
  let s := { s with core := { s.core with ecause := 0xFF000D, eval := addr, status := s.core.status ||| 0xA } }
  (s.vectorRead 13).vector13

/-- Step 6 of an entry (R174, R175). A vector read that is held, or that waits at its target, delays the entry (R183). -/
def State.toVector (s : State) (vec : Nat) : State :=
  let x := s.vectorRead vec
  if vec = 13 then x.vector13
  else
    match x.resp with
    | .ok v => x.s.setPc (word v)
    | .held _ => x.s.waitAt (.vector vec)
    | .wait => x.s.waitAt (.vector vec)
    | _ => x.s.vectorFault (s.vectorAddr vec)

/-- The reservation ends at the core's own hand (R212). -/
def State.dropResv (s : State) : State := { s with core := { s.core with resv := none, guard := [] } }

/-- Steps 1 to 5 of a Warden entry (R174); `status` is what steps 4 leaves of STATUS besides MODE, EXL and IE. -/
def State.enterWarden (s : State) (epc cause eval status : Word) : State :=
  let saved := s.savedStatus
  let s := { s.abandon.dropResv with ten := { s.ten with exitDue := false } }
  { s with core := { s.core with
      epc := epc, estatus := saved, ecause := cause, eval := eval, status := (status &&& ~~~0x101) ||| 2 } }

/-- ECAUSE of an exception. -/
def causeWord (num sub : Nat) : Word := word (sub * 0x10000 + num)

/-- A synchronous exception is taken (R174, R175): `num` and `sub` of Table 06.5, EPC as Table 06.3 states it. -/
def State.raise (s : State) (num sub : Nat) (eval : Word) : State :=
  if wbit s.core.status 3 then s.stopCore
  else if wbit s.core.status 1 then (s.enterWarden s.pc (causeWord 13 num) eval (s.core.status ||| 8)).toVector 13
  else (s.enterWarden s.pc (causeWord num sub) eval s.core.status).toVector num

/-- A WRET to a tenant that is not READY (R165): exception 3 as that rule states it, with EPC kept (DEDUCED, log 33). -/
def State.refuseTenant (s : State) : State :=
  if wbit s.core.status 3 then s.stopCore
  else (s.enterWarden s.core.epc (causeWord 3 1) s.core.tid s.core.status).toVector 3

/-- An interrupt is taken at line `n` (R174): the class of its priority becomes PLVL, and EVAL becomes 0, for which Table 06.3 has
no value (DESIGN CHOICE, log 58). -/
def State.takeInterrupt (s : State) (n : Nat) : State :=
  (s.enterWarden s.pc (word (0x80000000 + n)) 0 (setFld s.core.status 4 4 (s.prio n))).toVector (32 + n)

/-- The safety NMI is taken (R176). -/
def State.takeNmi (s : State) : State :=
  let saved := s.savedStatus
  let s := { s.abandon.dropResv with ten := { s.ten with exitDue := false } }
  let s := { s with core := { s.core with
      nepc := s.pc, nstatus := saved, status := (s.core.status &&& ~~~0x101) ||| 4, nmi := false } }
  s.toVector 1

/-- The tenant-level exception for virtual line `v` (R185); delivery clears the injection latch (R367). -/
def State.takeTenant (s : State) (v : Nat) : State :=
  let c := s.core
  let s := (s.clearLatches s.tidNum (word (2 ^ v))).abandon.dropResv
  let s := { s with core := { s.core with
      tepc := c.pc, tstatus := (c.tstatus &&& 0xFFFF0FFF) ||| word (ccNum c.cc * 0x1000) ||| 2, tcause := word v } }
  s.setPc c.tvec

/-! ## The boundary between two instructions -/

/-- The NMI is due (R176). -/
def State.nmiDue (s : State) : Bool := s.core.nmi && !(wbit s.core.status 2)

/-- A step with MASKINT takes no interrupt and no NMI (R567). -/
def State.masked (s : State) : Bool := s.hdp.stepping && s.bit Reg.DBG_CTL 3

/-- The breakpoint that halts the core at this boundary; a step is not held by one (DEDUCED, log 31). -/
def State.breakHere (s : State) : Option Nat := if s.hdp.stepping then none else s.breakpoint

/-- What comes before the instruction at PC (R363, R564): a halt asked for, a watchpoint that has matched, a breakpoint, the
safety NMI, the exit of a tenant that is no longer READY. Interrupts are left to their own command (log 34). -/
def State.boundary (s : State) : Option State :=
  if s.hdp.haltReq then some (s.haltCore 1 0)
  else
    match s.hdp.wpHit with
    | some k => some (s.haltCore 4 k)
    | none =>
      match s.breakHere with
      | some n => some (s.haltCore 3 n)
      | none =>
        if s.nmiDue && !s.masked then some s.takeNmi
        else if s.ten.exitDue && s.tenantMode then some (s.raise 3 1 s.core.tid)
        else none

/-- The physical interrupt that the core takes at a boundary (R180, R181). -/
def State.interruptDue (s : State) : Option Nat :=
  if wbit s.core.status 1 || wbit s.core.status 2 || !(s.tenantMode || wbit s.core.status 0) then none else s.eligible

/-- The core stands at an instruction boundary, or waits (R183, R563). -/
def State.atBoundary (s : State) : Bool :=
  let t := { s with core := { s.core with stalled := none } }
  t.coreRuns

/-- A request of the core that, once it waits at its bank, is completed and not abandoned (R183): SCND, AMOADD, AMOSWP, and the
read of an atomic LDD (R237). -/
def Held.whole (h : Held) : Bool :=
  decide (h.who = .coreLoad) && (decide (h.req.kind = .scnd) || h.req.kind.atomic ||
    (decide (h.req.size = 8) && decide (h.req.addr % 8 = 0) && decide (portOf h.req.addr h.addr ≥ 32)))

/-- What the core waits with may be abandoned: a memory instruction without such a request, or a fetch; no entry (R174). -/
def State.mayAbandon (s : State) : Bool :=
  match s.core.stalled with
  | some (.vector _) => false
  | some _ => !(s.bus.held.any Held.whole)
  | none => true

/-- The virtual line that the core takes at a boundary (R185). -/
def State.tenantDue (s : State) : Option Nat :=
  if wbit s.core.tstatus 0 && !(wbit s.core.tstatus 1) && s.interruptDue.isNone then s.tenantLine else none

/-! ## Fetch -/

/-- What a fetch brings. -/
inductive Fetched where
  | word (w : Word)
  | fault (num sub : Nat) (eval : Word)
  | wait
  deriving DecidableEq, Repr

/-- A fetch, with the state after it. -/
structure FetchAns where
  s : State
  res : Fetched

/-- The key of an instruction cache entry: agent and address. -/
def State.cacheKey (s : State) : Nat := s.coreAid * 2 ^ 32 + s.pc.toNat

/-- A fetched word may stay in the cache. -/
def State.cacheFill (s : State) (w : Word) : State :=
  { s with core := { s.core with icache := alInsert (alDel s.core.icache s.cacheKey) s.cacheKey w } }

/-- The fetch at PC through the interconnect (R169, R221). -/
def State.fetchBus (s : State) : FetchAns :=
  let x := s.access s.fetchReq .coreFetch
  match x.resp with
  | .ok v => ⟨x.s.cacheFill (word v), .word (word v)⟩
  | .denied => ⟨x.s, .fault 5 1 s.pc⟩
  | .abort _ => ⟨x.s, .fault 5 2 s.pc⟩
  | .ecc a syn => ⟨x.s, .fault 6 syn (word a)⟩
  | .held _ => ⟨x.s, .wait⟩
  | .wait => ⟨x.s, .wait⟩

/-- The fetch of the instruction at PC. A word fetched before by the same agent, and not invalidated since, may be served by
the instruction cache, or not (DESIGN CHOICE, log 32; R215). -/
def State.fetch (s : State) : FetchAns :=
  if privateSpace s.pc then ⟨s, .fault 5 3 s.pc⟩
  else
    match alGet s.core.icache s.cacheKey with
    | some w => if s.freeBool then ⟨s.tickFree, .word w⟩ else s.tickFree.fetchBus
    | none => s.fetchBus

/-! ## One instruction -/

/-- The instruction waits with its first `n` stores issued (R210). -/
def State.stallAt (s : State) (i : Instr) (n : Nat) : State := s.waitAt (.instr i n)

/-- The instruction waits for its access, and goes on from its beginning when that can be served. -/
def State.stall (s : State) (i : Instr) : State := s.stallAt i 0

/-- The fetch of instruction `i`, whose effect is `body`, has been answered: exception 5 first (R171), the form of the word
(R194), then the effect. -/
def FetchAns.instr (x : FetchAns) (i : Instr) (body : State → State) : State :=
  match x.res with
  | .fault num sub eval => x.s.raise num sub eval
  | .wait => x.s.waitAt (.fetch (some i))
  | .word _ => if i.wf then body x.s else x.s.raise 2 0 (encodeWord i)

/-- The core executes instruction `i`, whose effect is `body`: the boundary, the fetch, the effect. -/
def State.coreInstr (s : State) (i : Instr) (body : State → State) : State :=
  if !s.coreRuns then s
  else
    match s.boundary with
    | some t => t
    | none => s.fetch.instr i body

/-- A command of the core: what the instruction does, and the events that follow from levels at once. -/
def State.runInstr (s : State) (i : Instr) (body : State → State) : State :=
  if s.coreRuns then (s.coreInstr i body).settle else s

/-- An instruction retires with a result and its flags. -/
def State.retire (s : State) (rd : Fin 16) (v : Word) (cc : CC) : State := ((s.setG rd v).setCC cc).advance

/-- An instruction signals overflow to ASTAT, having written `v` (R172, R198). -/
def State.signalOv (s : State) (ov : Bool) (v : Word) : State :=
  if ov then
    let s := { s with core := { s.core with astat := s.core.astat ||| 2 } }
    if wbit s.core.astat 9 then s.raise 10 0 v else s
  else s

/-- An instruction signals a division of `a` by zero to ASTAT (R172, R198). -/
def State.signalDz (s : State) (dz : Bool) (a : Word) : State :=
  if dz then
    let s := { s with core := { s.core with astat := s.core.astat ||| 1 } }
    if wbit s.core.astat 8 then s.raise 9 0 a else s
  else s

/-! ## Loads and stores -/

/-- The lowest byte an access touches; it wraps at the top of the address space (R195). -/
def lowestByte (a : Word) (n : Nat) : Word := if 2 ^ 32 < a.toNat + n then 0 else a

/-- The stack check fails: base register g15, SPLIM not 0, a byte below SPLIM (R170). -/
def State.stackBad (s : State) (ra : Fin 16) (a : Word) (n : Nat) : Bool :=
  decide (ra = 15) && decide (s.core.splim ≠ 0) && decide ((lowestByte a n).toNat < s.core.splim.toNat)

/-- A read of the core's data port, behind the buffered stores to its target. -/
def State.coreRead (s : State) (a : Word) (n : Nat) : Ans :=
  let s := s.drainTo a n
  if s.storesBefore a n then ⟨s, .wait⟩ else s.read (s.coreReq .read a n 0) .coreLoad

/-- What follows a read of the core: the data go on to `k`, a refusal is exception 7 or 6 (R167, R169). -/
def Ans.load (x : Ans) (i : Instr) (a : Word) (k : State → Nat → State) : State :=
  match x.resp with
  | .ok v => k x.s v
  | .denied => x.s.raise 7 1 a
  | .abort _ => x.s.raise 7 2 a
  | .ecc w syn => x.s.raise 6 syn (word w)
  | .held _ => x.s.stall i
  | .wait => x.s.stall i

/-- A load of `n` bytes at `a` (R166, R170, R208). -/
def State.loadInstr (s : State) (i : Instr) (ra : Fin 16) (a : Word) (n : Nat) (k : State → Nat → State) : State :=
  if s.stackBad ra a n then s.raise 8 0 (lowestByte a n)
  else if s.tenantMode && privateSpace a then s.raise 7 3 a
  else (s.coreRead a n).load i a k

/-- The core's own store clears a reservation of the granule it touches (R212). -/
def State.noteOwnStore (s : State) (r : Req) : State :=
  match s.resolve r with
  | some (a, _, some 1) => s.ownStore a r.size
  | _ => s

/-- Room in the buffer: a full one issues a store first, the oldest that its target takes (R230). -/
def State.makeRoom (s : State) : State :=
  if s.core.buf.length < 4 then s
  else
    (List.range 4).foldl (fun s k => if s.core.buf.length < 4 then s else s.issueEntry k) s

/-- The buffer takes a store. -/
def State.post (s : State) (r : Req) : State :=
  (s.setBuf (s.core.buf ++ [{ req := r, epoch := s.core.epoch }])).noteOwnStore r

/-- How a store left the core. -/
inductive Posting where
  | gone
  | full
  deriving DecidableEq, Repr

/-- One store of the core, and whether it could be issued. -/
structure PostAns where
  s : State
  res : Posting

/-- A store of `n` bytes of `data` at `a`: discarded with a record for core space from Tenant mode (R166), issued
after every earlier store for core space (R231), else posted (R230). -/
def State.coreWrite (s : State) (a : Word) (n data : Nat) : PostAns :=
  let r := s.coreReq .write a n data
  if privateSpace a then
    if s.tenantMode then ⟨s.errRecord 6 r, .gone⟩
    else
      let s := s.drainAll
      if s.core.buf.isEmpty then ⟨(s.storeOut r).s, .gone⟩ else ⟨s, .full⟩
  else
    let s := s.makeRoom
    if s.core.buf.length < 4 then ⟨s.post r, .gone⟩ else ⟨s, .full⟩

/-- A store instruction of one access (R170, R208). -/
def State.storeInstr (s : State) (i : Instr) (ra : Fin 16) (a : Word) (n data : Nat) (k : State → State) : State :=
  if s.stackBad ra a n then s.raise 8 0 (lowestByte a n)
  else
    let x := s.coreWrite a n data
    match x.res with
    | .gone => k x.s
    | .full => x.s.stall i

end Sys2Proof.Machine
end

