-- ==== Sys2Proof/Machine/Arith.lean ====
section
/-!
DEFINITION. The arithmetic instructions (Table 07.4, R200 to R202). Each has its effect, `op…`, once the core has fetched it, and
its command, `exec…`.
-/
namespace Sys2Proof.Machine

/-- ADD: rd ← ra + rb (Table 07.4). -/
def opAdd (rd ra rb : Fin 16) (s : State) : State :=
  s.retire rd (addcResult (s.g ra) (s.g rb) false) (ccAdd (s.g ra) (s.g rb) false)

/-- The command ADD. -/
def execAdd (rd ra rb : Fin 16) (s : State) : Host.Outcome State Fault Refusal :=
  .next (s.runInstr (.add rd ra rb) (opAdd rd ra rb))

/-- ADC: rd ← ra + rb + C. -/
def opAdc (rd ra rb : Fin 16) (s : State) : State :=
  s.retire rd (addcResult (s.g ra) (s.g rb) s.core.cc.c) (ccAdd (s.g ra) (s.g rb) s.core.cc.c)

/-- The command ADC. -/
def execAdc (rd ra rb : Fin 16) (s : State) : Host.Outcome State Fault Refusal :=
  .next (s.runInstr (.adc rd ra rb) (opAdc rd ra rb))

/-- SUB: rd ← ra − rb. -/
def opSub (rd ra rb : Fin 16) (s : State) : State :=
  s.retire rd (subbResult (s.g ra) (s.g rb) false) (ccSub (s.g ra) (s.g rb) false)

/-- The command SUB. -/
def execSub (rd ra rb : Fin 16) (s : State) : Host.Outcome State Fault Refusal :=
  .next (s.runInstr (.sub rd ra rb) (opSub rd ra rb))

/-- SBC: rd ← ra − rb − (1 − C). -/
def opSbc (rd ra rb : Fin 16) (s : State) : State :=
  s.retire rd (subbResult (s.g ra) (s.g rb) (!s.core.cc.c)) (ccSub (s.g ra) (s.g rb) (!s.core.cc.c))

/-- The command SBC. -/
def execSbc (rd ra rb : Fin 16) (s : State) : Host.Outcome State Fault Refusal :=
  .next (s.runInstr (.sbc rd ra rb) (opSbc rd ra rb))

/-- NEG: rd ← 0 − ra; MIN signals overflow (R201). -/
def opNeg (rd ra : Fin 16) (s : State) : State :=
  let a := s.g ra
  (s.retire rd (subbResult 0 a false) (ccSub 0 a false)).signalOv (decide (a = wordMin)) (subbResult 0 a false)

/-- The command NEG. -/
def execNeg (rd ra : Fin 16) (s : State) : Host.Outcome State Fault Refusal :=
  .next (s.runInstr (.neg rd ra) (opNeg rd ra))

/-- ADDSAT: the exact signed sum, held between MIN and MAX (R201). -/
def opAddsat (rd ra rb : Fin 16) (s : State) : State :=
  let e := (s.g ra).toInt + (s.g rb).toInt
  (s.retire rd (satWord e) { ccNZ s.core.cc (satWord e) with v := satOut e }).signalOv (satOut e) (satWord e)

/-- The command ADDSAT. -/
def execAddsat (rd ra rb : Fin 16) (s : State) : Host.Outcome State Fault Refusal :=
  .next (s.runInstr (.addsat rd ra rb) (opAddsat rd ra rb))

/-- SUBSAT: the exact signed difference, held between MIN and MAX (R201). -/
def opSubsat (rd ra rb : Fin 16) (s : State) : State :=
  let e := (s.g ra).toInt - (s.g rb).toInt
  (s.retire rd (satWord e) { ccNZ s.core.cc (satWord e) with v := satOut e }).signalOv (satOut e) (satWord e)

/-- The command SUBSAT. -/
def execSubsat (rd ra rb : Fin 16) (s : State) : Host.Outcome State Fault Refusal :=
  .next (s.runInstr (.subsat rd ra rb) (opSubsat rd ra rb))

/-- MUL: the low word of the product. -/
def opMul (rd ra rb : Fin 16) (s : State) : State :=
  s.retire rd (s.g ra * s.g rb) (ccNZ s.core.cc (s.g ra * s.g rb))

/-- The command MUL. -/
def execMul (rd ra rb : Fin 16) (s : State) : Host.Outcome State Fault Refusal :=
  .next (s.runInstr (.mul rd ra rb) (opMul rd ra rb))

/-- MULHS: the high word of the signed product. -/
def opMulhs (rd ra rb : Fin 16) (s : State) : State :=
  let r : Word := BitVec.ofInt 32 ((s.g ra).toInt * (s.g rb).toInt / 2 ^ 32)
  s.retire rd r (ccNZ s.core.cc r)

/-- The command MULHS. -/
def execMulhs (rd ra rb : Fin 16) (s : State) : Host.Outcome State Fault Refusal :=
  .next (s.runInstr (.mulhs rd ra rb) (opMulhs rd ra rb))

/-- MULHU: the high word of the unsigned product. -/
def opMulhu (rd ra rb : Fin 16) (s : State) : State :=
  let r := word ((s.g ra).toNat * (s.g rb).toNat / 2 ^ 32)
  s.retire rd r (ccNZ s.core.cc r)

/-- The command MULHU. -/
def execMulhu (rd ra rb : Fin 16) (s : State) : Host.Outcome State Fault Refusal :=
  .next (s.runInstr (.mulhu rd ra rb) (opMulhu rd ra rb))

/-- DIVS: quotient to rd, remainder to rc; with RC = RD only the quotient (R202). -/
def opDivs (rd ra rb rc : Fin 16) (s : State) : State :=
  let a := s.g ra
  let d := s.g rb
  let q := (divsResult a d).1
  let s := if rc = rd then s else s.setG rc (divsResult a d).2
  ((s.retire rd q { ccNZ s.core.cc q with v := divsOverflow a d }).signalDz (decide (d = 0)) a).signalOv (divsOverflow a d) q

/-- The command DIVS. -/
def execDivs (rd ra rb rc : Fin 16) (s : State) : Host.Outcome State Fault Refusal :=
  .next (s.runInstr (.divs rd ra rb rc) (opDivs rd ra rb rc))

/-- DIVU: quotient to rd, remainder to rc; with RC = RD only the quotient (R202). -/
def opDivu (rd ra rb rc : Fin 16) (s : State) : State :=
  let a := s.g ra
  let d := s.g rb
  let q := (divuResult a d).1
  let s := if rc = rd then s else s.setG rc (divuResult a d).2
  (s.retire rd q { ccNZ s.core.cc q with v := false }).signalDz (decide (d = 0)) a

/-- The command DIVU. -/
def execDivu (rd ra rb rc : Fin 16) (s : State) : Host.Outcome State Fault Refusal :=
  .next (s.runInstr (.divu rd ra rb rc) (opDivu rd ra rb rc))

/-- CLZ: the leading zeros of ra; no flag changes. -/
def opClz (rd ra : Fin 16) (s : State) : State :=
  s.retire rd (word (leadingZeros (s.g ra))) s.core.cc

/-- The command CLZ. -/
def execClz (rd ra : Fin 16) (s : State) : Host.Outcome State Fault Refusal :=
  .next (s.runInstr (.clz rd ra) (opClz rd ra))

/-- MINS: the signed lesser; no flag changes. -/
def opMins (rd ra rb : Fin 16) (s : State) : State :=
  s.retire rd (if (s.g ra).slt (s.g rb) then s.g ra else s.g rb) s.core.cc

/-- The command MINS. -/
def execMins (rd ra rb : Fin 16) (s : State) : Host.Outcome State Fault Refusal :=
  .next (s.runInstr (.mins rd ra rb) (opMins rd ra rb))

/-- MAXS: the signed greater; no flag changes. -/
def opMaxs (rd ra rb : Fin 16) (s : State) : State :=
  s.retire rd (if (s.g rb).slt (s.g ra) then s.g ra else s.g rb) s.core.cc

/-- The command MAXS. -/
def execMaxs (rd ra rb : Fin 16) (s : State) : Host.Outcome State Fault Refusal :=
  .next (s.runInstr (.maxs rd ra rb) (opMaxs rd ra rb))

/-- MINU: the unsigned lesser; no flag changes. -/
def opMinu (rd ra rb : Fin 16) (s : State) : State :=
  s.retire rd (if (s.g ra).ult (s.g rb) then s.g ra else s.g rb) s.core.cc

/-- The command MINU. -/
def execMinu (rd ra rb : Fin 16) (s : State) : Host.Outcome State Fault Refusal :=
  .next (s.runInstr (.minu rd ra rb) (opMinu rd ra rb))

/-- MAXU: the unsigned greater; no flag changes. -/
def opMaxu (rd ra rb : Fin 16) (s : State) : State :=
  s.retire rd (if (s.g rb).ult (s.g ra) then s.g ra else s.g rb) s.core.cc

/-- The command MAXU. -/
def execMaxu (rd ra rb : Fin 16) (s : State) : Host.Outcome State Fault Refusal :=
  .next (s.runInstr (.maxu rd ra rb) (opMaxu rd ra rb))

/-- ADDI: rd ← ra + sx16(imm). -/
def opAddi (rd ra : Fin 16) (imm : BitVec 16) (s : State) : State :=
  s.retire rd (addcResult (s.g ra) (sx16 imm) false) (ccAdd (s.g ra) (sx16 imm) false)

/-- The command ADDI. -/
def execAddi (rd ra : Fin 16) (imm : BitVec 16) (s : State) : Host.Outcome State Fault Refusal :=
  .next (s.runInstr (.addi rd ra imm) (opAddi rd ra imm))

/-- RSBI: rd ← sx16(imm) − ra. -/
def opRsbi (rd ra : Fin 16) (imm : BitVec 16) (s : State) : State :=
  s.retire rd (subbResult (sx16 imm) (s.g ra) false) (ccSub (sx16 imm) (s.g ra) false)

/-- The command RSBI. -/
def execRsbi (rd ra : Fin 16) (imm : BitVec 16) (s : State) : Host.Outcome State Fault Refusal :=
  .next (s.runInstr (.rsbi rd ra imm) (opRsbi rd ra imm))

end Sys2Proof.Machine
end

