-- ==== Sys2Proof/Machine/AtomicBar.lean ====
section
/-!
DEFINITION. Atomics and barriers (Table 07.9, R211 to R215).
-/
namespace Sys2Proof.Machine

/-- An address in the Store as LRSV and SCND need it (R168): the banks, the spare bank, or a tenant window. -/
def storeSpace (a : Word) : Bool := decide (regionOf a.toNat = .store) || decide (regionOf a.toNat = .window)

/-- Not 4-byte aligned. -/
def misaligned (a : Word) : Bool := decide (a.toNat % 4 ≠ 0)

/-- A buffered store comes before an atomic at `a`: one to its target (R229), or one with a BAR.W between, for the atomic stores
too (R214, R234). -/
def State.storeBefore (s : State) (a : Word) (e : Posted) : Bool := sameTarget a 4 e || decide (e.epoch ≠ s.core.epoch)

/-- An atomic request of the core, behind the buffered stores that come before it (R213). -/
def State.coreAtomic (s : State) (kind : ReqKind) (a : Word) (data : Word) : Ans :=
  let s := s.drainFor 4 (s.storeBefore a)
  if s.core.buf.any (s.storeBefore a) then ⟨s, .wait⟩ else s.access (s.coreReq kind a 4 data.toNat) .coreLoad

/-- The reservation that an LRSV makes, and the guard that it arms after a failed SCND to the same bank (R212, R240). Guards of
other banks last on. -/
def State.reserve (s : State) (a : Word) : State :=
  match s.storeEff (s.coreReq .read a 4 0) with
  | some e =>
    let b := bankOf e
    let others (l : List Nat) : List Nat := l.filter fun x => decide (x ≠ b)
    let s := { s with core := { s.core with resv := some (e - e % 32, s.coreAid) } }
    if s.core.scndFailed.contains b then
      { s with core := { s.core with guard := others s.core.guard ++ [b], scndFailed := others s.core.scndFailed } }
    else s
  | none => s

/-- LRSV: rd ← M32[ra], and the granule of ra is reserved (Table 07.9, R168, R212). -/
def opLrsv (rd ra : Fin 16) (s : State) : State :=
  let a := s.g ra
  if misaligned a || !(storeSpace a) then s.raise 4 0 a
  else (s.coreRead a 4).load (.lrsv rd ra) a fun s2 v => ((s2.reserve a).retire rd (word v) s2.core.cc).watch a false

/-- The command LRSV. -/
def execLrsv (rd ra : Fin 16) (s : State) : Host.Outcome State Fault Refusal :=
  .next (s.runInstr (.lrsv rd ra) (opLrsv rd ra))

/-- An SCND that fails at its bank's door: it makes no store, clears the reservation and writes 1 (R212, R213). -/
def State.scndRefused (s : State) (rd : Fin 16) (a : Word) : State :=
  let s := match s.storeEff (s.coreReq .scnd a 4 0) with
    | some e => s.scndFails (bankOf e)
    | none => s
  (s.dropResv.retire rd 1 s.core.cc).watch a true

/-- SCND: M32[ra] ← rb and rd ← 0 under a reservation, else rd ← 1 (R212); a refusal counts as a store's (R213). -/
def opScnd (rd rb ra : Fin 16) (s : State) : State :=
  let a := s.g ra
  if misaligned a || !(storeSpace a) then s.raise 4 0 a
  else
    let x := s.coreAtomic .scnd a (s.g rb)
    match x.resp with
    | .ok v => (x.s.retire rd (word v) x.s.core.cc).watch a true
    | .held _ => x.s.stall (.scnd rd rb ra)
    | .wait => x.s.stall (.scnd rd rb ra)
    | _ => x.s.scndRefused rd a

/-- The command SCND. -/
def execScnd (rd rb ra : Fin 16) (s : State) : Host.Outcome State Fault Refusal :=
  .next (s.runInstr (.scnd rd rb ra) (opScnd rd rb ra))

/-- AMOADD: at the bank, M32[ra] ← old + rb, rd ← old (R213, R242). -/
def opAmoadd (rd rb ra : Fin 16) (s : State) : State :=
  let a := s.g ra
  if misaligned a then s.raise 4 0 a
  else if s.tenantMode && privateSpace a then s.raise 7 3 a
  else
    (s.coreAtomic .amoAdd a (s.g rb)).load (.amoadd rd rb ra) a fun s2 v =>
      ((s2.retire rd (word v) s2.core.cc).watch a false).watch a true

/-- The command AMOADD. -/
def execAmoadd (rd rb ra : Fin 16) (s : State) : Host.Outcome State Fault Refusal :=
  .next (s.runInstr (.amoadd rd rb ra) (opAmoadd rd rb ra))

/-- AMOSWP: at the bank, M32[ra] ← rb, rd ← old (R213, R242). -/
def opAmoswp (rd rb ra : Fin 16) (s : State) : State :=
  let a := s.g ra
  if misaligned a then s.raise 4 0 a
  else if s.tenantMode && privateSpace a then s.raise 7 3 a
  else
    (s.coreAtomic .amoSwap a (s.g rb)).load (.amoswp rd rb ra) a fun s2 v =>
      ((s2.retire rd (word v) s2.core.cc).watch a false).watch a true

/-- The command AMOSWP. -/
def execAmoswp (rd rb ra : Fin 16) (s : State) : Host.Outcome State Fault Refusal :=
  .next (s.runInstr (.amoswp rd rb ra) (opAmoswp rd rb ra))

/-- BAR.W: stores before it come before stores after it (R214). -/
def opBarW (s : State) : State :=
  ({ s with core := { s.core with epoch := s.core.epoch + 1 } }).advance

/-- The command BAR.W. -/
def execBarW (s : State) : Host.Outcome State Fault Refusal :=
  .next (s.runInstr .barW opBarW)

/-- Every earlier store has been answered at its target, or the barrier waits (R214, R236). -/
def State.barrier (s : State) (i : Instr) (k : State → State) : State :=
  let s := s.drainAll
  if s.core.buf.isEmpty then k s else s.stall i

/-- BAR.RW. -/
def opBarRw (s : State) : State :=
  s.barrier .barRw State.advance

/-- The command BAR.RW. -/
def execBarRw (s : State) : Host.Outcome State Fault Refusal :=
  .next (s.runInstr .barRw opBarRw)

/-- BAR.IO: the notices of the stores are there when it retires. -/
def opBarIo (s : State) : State :=
  s.barrier .barIo State.advance

/-- The command BAR.IO. -/
def execBarIo (s : State) : Host.Outcome State Fault Refusal :=
  .next (s.runInstr .barIo opBarIo)

/-- BAR.SYNC: the NVM words that the core issued are in the array (R214), and the instruction cache is invalidated; it does not
wait for the words of other masters (R235). -/
def opBarSync (s : State) : State :=
  s.barrier .barSync fun s =>
    if s.bus.nvmQ.all fun w => decide (w.mid ≠ 0) then ({ s with core := { s.core with icache := [] } }).advance else s.stall .barSync

/-- The command BAR.SYNC. -/
def execBarSync (s : State) : Host.Outcome State Fault Refusal :=
  .next (s.runInstr .barSync opBarSync)

end Sys2Proof.Machine
end

