-- ==== Sys2Proof/Machine/Ap.lean ====
section
/-!
DEFINITION. The access ports of the debug port (R554 to R562, R571 to R574): packets and their acknowledge, the checks of an
access, and the access it starts.
-/
namespace Sys2Proof.Machine

/-! ## Ports -/

/-- Access port `n`. -/
def State.ap (s : State) (n : Fin 4) : Ap := s.hdp.aps.getD n.val Ap.reset

/-- Update it. -/
def State.setAp (s : State) (n : Fin 4) (a : Ap) : State := { s with hdp := { s.hdp with aps := s.hdp.aps.set n.val a } }

/-- Answer a packet (Table 20.3). -/
def State.hdpAck (s : State) (k : Nat) : State := { s with hdp := { s.hdp with ack := k } }

/-- FAULT with a cause. -/
def State.hdpFault (s : State) (ap : Fin 4) (cause : Nat) : State := (s.hdpCause ap.val cause).hdpAck 4

/-- The address of a register of AP2 or AP3 in this model (log 5). -/
def hdpAddr (ap : Fin 4) (a : Word) : Nat := (if ap = 2 then 0xA0002000 else 0xA0003000) + a.toNat

/-! ## Checks (Table 20.4, R560, R561, R568) -/

/-- AP0. -/
def State.apCheck0 (s : State) (a : Word) : Option Nat :=
  if !s.debugOpen then some 2
  else if a.toNat < 0xE0000000 ∨ 0xE0002FFF < a.toNat then some 4
  else if a.toNat % 4 ≠ 0 then some 5
  else if s.deep then some 3
  else if dbgNeedsHalt a.toNat && !s.core.halted then some 8
  else none

/-- AP1. -/
def State.apCheck1 (s : State) (a : Word) : Option Nat :=
  if !s.debugOpen then some 2 else if a.toNat % 4 ≠ 0 then some 5 else none

/-- AP2; `w` is the word of a write. -/
def State.apCheck2 (s : State) (a : Word) (w : Option Word) : Option Nat :=
  if a.toNat ≠ 0 ∧ a.toNat ≠ 4 then some 4
  else if s.lock = 3 then some 2
  else if s.lock = 1 ∧ a.toNat = 0 then
    match w with
    | some v => if v &&& 0xFFFFFFFE = 0 then none else some 2
    | none => some 2
  else none

/-- AP3. -/
def State.apCheck3 (s : State) (a : Word) (w : Option Word) : Option Nat :=
  if 0x5C < a.toNat ∨ a.toNat % 4 ≠ 0 then some 4
  else if s.lock = 3 ∧ 0x10 < a.toNat then some 2
  else
    match w with
    | some v =>
      if a.toNat = 0x14 ∧ fld v 16 16 = 0xD6B6 ∧ wbit v 0 = true ∧ (s.deep = true ∨ s.pwr.waking = true) then some 3 else none
    | none => none

/-- The check of a port that an access fails, with its cause. -/
def State.apCheck (s : State) (ap : Fin 4) (a : Word) (w : Option Word) : Option Nat :=
  match ap with
  | 0 => s.apCheck0 a
  | 1 => s.apCheck1 a
  | 2 => s.apCheck2 a w
  | 3 => s.apCheck3 a w

/-! ## Packets (R556 to R558) -/

/-- Rows 1 to 3 of Table 20.3, before a packet that goes on to `k`. -/
def State.packet (s : State) (ap : Fin 4) (q : PacketCheck) (k : State → State) : State :=
  if decide (s.hrv.pstate = .off) || s.hdp.lost then s.hdpAck 7
  else
    match q with
    | .header => { s.hdpAck 7 with hdp := { (s.hdpAck 7).hdp with lost := true } }
    | .bad => s.hdpFault ap 1
    | .good =>
      if (s.ap ap).pending then (s.setAp ap { s.ap ap with pending := false }).hdpAck 4
      else if (s.ap ap).busy.isSome then s.hdpAck 2
      else k s

/-- The buffer goes out in the DATA phase. -/
def State.hdpData (s : State) (ap : Fin 4) : State := { s with hdp := { s.hdp with data := (s.ap ap).buf, ack := 1 } }

/-- The access of an RD or WR, as its row 4 or 5 says. -/
def State.startAccess (s : State) (ap : Fin 4) (a : Word) (w : Option Word) : State :=
  match s.apCheck ap a w with
  | some c => s.hdpFault ap c
  | none =>
    let s := if w.isSome then s.hdpAck 1 else s.hdpData ap
    s.setAp ap { s.ap ap with busy := some (w.isSome, a, w.getD 0) }

/-! ## Accesses (R558, R559) -/

/-- The access of a port ends with an error. -/
def State.apFails (s : State) (ap : Fin 4) (cause : Nat) : State :=
  (s.setAp ap { s.ap ap with busy := none, pending := true }).hdpCause ap.val cause

/-- The access of a port ends; a read fills the buffer. -/
def State.apOk (s : State) (ap : Fin 4) (write : Bool) (v : Word) : State :=
  s.setAp ap { s.ap ap with busy := none, buf := if write then (s.ap ap).buf else v }

/-- An access of AP0: in DOZE and NAP it wakes the core first (R560). -/
def State.ap0Access (s : State) (write : Bool) (a v : Word) : State :=
  let s := if s.light then s.lightWake else s
  let wr : Writer := { mid := 10, aid := 0x40F }
  if s.deep then s.apFails 0 3
  else if dbgNeedsHalt a.toNat && !s.core.halted then s.apFails 0 8
  else if write then (s.writeReg a.toNat v wr).apOk 0 true 0
  else (s.readReg a.toNat wr).1.apOk 0 false (s.readReg a.toNat wr).2

/-- The request of AP1 (R561). -/
def State.ap1Req (s : State) (write : Bool) (a v : Word) : Req :=
  { mid := 10, aid := 0x40F, tid := 0, cls := s.qosClass 10 0x40F, kind := if write then .write else .read, addr := a.toNat,
    size := 4, data := v.toNat, rom := false }

/-- An access of AP1: while its request is held or waits, the port stays busy (R109, R559). -/
def State.ap1Issue (s : State) (write : Bool) (a v : Word) : State :=
  let x := s.access (s.ap1Req write a v) .ap1
  match x.resp with
  | .ok n => x.s.apOk 1 write (word n)
  | .denied => x.s.apFails 1 6
  | .abort _ => x.s.apFails 1 7
  | .ecc _ _ => x.s.apFails 1 7
  | .held _ => x.s
  | .wait => x.s

/-- The request of AP1 waits. -/
def State.ap1Waits (s : State) : Bool := s.bus.held.any fun h => decide (h.who = .ap1)

/-- The access of AP1 takes place. While a deep entry is in its steps 1 to 3 the port issues no new one (R96). -/
def State.ap1Access (s : State) (write : Bool) (a v : Word) : State :=
  if s.pwr.entry.isSome && !s.ap1Waits then s else s.ap1Issue write a v

/-- A write of HDP_UNLK or HDP_RESP that is turned away (R573). -/
def State.unlockTurned (s : State) (a : Nat) (v : Word) : Bool :=
  (decide (a = Reg.HDP_UNLK) && decide (fld v 16 16 = 0xD6B6) && wbit v 0 &&
    (if wbit v 1 then s.relock else s).unlockRefused) ||
  (decide (Reg.HDP_RESP 0 ≤ a) && decide (a ≤ Reg.HDP_RESP 7) && !(s.bit Reg.HDP_STAT 3))

/-- An access of AP2 or AP3. -/
def State.apRegAccess (s : State) (ap : Fin 4) (write : Bool) (a v : Word) : State :=
  if write then
    let t := s.writeHdp (hdpAddr ap a) v
    if s.unlockTurned (hdpAddr ap a) v then t.apFails ap 9 else t.apOk ap true 0
  else s.apOk ap false (s.readHdp (hdpAddr ap a))

/-- The access of a port takes place. AP0 and AP1 reach nothing in a part without power. -/
def State.apAccess (s : State) (ap : Fin 4) : State :=
  match (s.ap ap).busy with
  | some (write, a, v) =>
    if ap = 0 then (if s.powered then s.ap0Access write a v else s)
    else if ap = 1 then (if s.powered then s.ap1Access write a v else s)
    else s.apRegAccess ap write a v
  | none => s

end Sys2Proof.Machine
end

