-- ==== Sys2Proof/Machine/Boot.lean ====
section
/-!
DEFINITION. The boot ROM (R136 to R141, R151, R153): the steps of Table 05.4 as one event, cut where it waits for the cold
MATS+ (DESIGN CHOICE, log 36).
-/
namespace Sys2Proof.Machine

/-! ## Step 1: the journal (Table 05.8) -/

/-- LCS_STATE as the boot ROM loads it. -/
def State.setLcState (s : State) (code st : Nat) (jrnl jrev : Bool) : State :=
  s.wr Reg.LCS_STATE (word (code % 32 + 256 * st + 4096 * b2n jrnl + 8192 * b2n jrev))

/-- Clear a word of the journal that is not 0. -/
def State.clearNvm (s : State) (a : Nat) : State := if s.nvm64 a = 0 then s else s.setNvm64 a 0

/-- Journal resolution (R142, R153). -/
def State.bootJournal (s : State) : State :=
  let intent := s.nvm64 0x3F0108
  let st := s.nvm64 0x3F0100
  let lo := intent % 4294967296
  let tgt := lo % 32
  let code := st % 32
  if s.intentPending then
    if st = notWord tgt then
      let s := if s.nvm64 0x3F0110 = lo + 0xC3C3 * 4294967296 then s else s.setNvm64 0x3F0110 (lo + 0xC3C3 * 4294967296)
      ((s.setNvm64 0x3F0108 0).setNvm64 0x3F0110 0).setLcState tgt (stateOfCode tgt) true false
    else if stateOfWord st ≠ 7 then
      ((s.setNvm64 0x3F0108 0).clearNvm 0x3F0110).setLcState code (stateOfWord st) false true
    else s.setLcState code 7 false false
  else (s.clearNvm 0x3F0110).setLcState code (stateOfWord st) false false

/-! ## Step 2: RETIRED (R151, R152) -/

/-- Where the erasure resumes. -/
def State.eraseFrom (s : State) : Nat :=
  let w := s.nvm64 0x3F0118
  if notOk w then w % 4294967296 / 0x10000 * 0x10000 else 0

/-- The erasure of user NVM is not complete (R151). -/
def State.eraseDue (s : State) : Bool := decide (s.lcState = 4) && decide (s.eraseFrom < 0x3F0000)

/-- Every byte of the 64 KiB block at `a` reads 0. -/
def State.eraseBlockAt (s : State) (a : Nat) : State :=
  { s with nvm := { s.nvm with cells := s.nvm.cells.filter fun p => decide (p.1 < a) || decide (a + 0x10000 ≤ p.1) } }

/-- The next block is erased, and RET_PROG records the one after it (R151). -/
def State.eraseBlock (s : State) : State :=
  (s.eraseBlockAt s.eraseFrom).setNvm64 0x3F0118 (notWord (s.eraseFrom + 0x10000))

/-- Key destruction, at every RETIRED boot (R151, R152). -/
def State.bootRetire (s : State) : State := if s.lcState = 4 then s.destroyKeys else s

/-! ## Step 3: cause and history (R75, R77, R129 to R132) -/

/-- The record of slot `n` of the shutdown ring is valid (R75). -/
def State.recordOk (s : State) (n : Nat) : Bool :=
  decide (s.nvm32 (recordAddr n) / 65536 = 0x5D0A) &&
    decide (s.nvm32 (recordAddr n + 0x34) = crc32 (s.nvm.bytes memNvm (recordAddr n) 0x34))

/-- The sequence number of slot `n`. -/
def State.recordSeq (s : State) (n : Nat) : Nat := s.nvm32 (recordAddr n) % 256

/-- `b` is newer than `a`, or equal to it, in modulo-256 serial comparison. Exactly 128 apart neither is newer, and `a`, the lower
slot, is kept (DESIGN CHOICE, log 58). -/
def serial8 (a b : Nat) : Bool := decide ((b + 256 - a) % 256 < 128)

/-- The slot of the newest valid record; of two with one number the higher slot (R75). -/
def State.newestRecord (s : State) : Option Nat :=
  (List.range 64).foldl (fun best n =>
    if s.recordOk n then
      match best with
      | some m => if serial8 (s.recordSeq m) (s.recordSeq n) then some n else best
      | none => some n
    else best) none

/-- The record of slot `n` carries the resume value (Table 03.5). -/
def State.recordResumed (s : State) (n : Nat) : Bool := decide (s.nvm64 (recordAddr n + 0x38) = notWord 1)

/-- The next entry of the reset-cause ring; an invalid head word marks it empty (R131). -/
def State.ringHead (s : State) : Nat :=
  let w := s.nvm64 0x3F0200
  if notOk w && decide (w % 4294967296 ≤ 62) then w % 4294967296 else 0

/-- The ring is not marked empty. -/
def State.ringValid (s : State) : Bool := notOk (s.nvm64 0x3F0200) && decide (s.nvm64 0x3F0200 % 4294967296 ≤ 62)

/-- Where entry `i` of the ring lies. -/
def ringAddr (i : Nat) : Nat := 0x3F0208 + 8 * (i % 63)

/-- LCS_RCHIST takes the eight newest entries of the ring (R130). -/
def State.loadHistory (s : State) : State :=
  if s.ringValid then
    (List.range 8).foldl (fun s i => s.wr (Reg.LCS_RCHIST i) (word (s.nvm32 (ringAddr (s.ringHead + 62 - i))))) s
  else s

/-- The cold cause and the slot of the next shutdown record. -/
def State.bootCause (s : State) : State :=
  match s.newestRecord with
  | some n =>
    let s := s.wr Reg.HRV_SDSLOT (word ((n + 1) % 64 + 256 * ((s.recordSeq n + 1) % 256)))
    s.loadHistory.pushCause (if s.recordResumed n && s.hrv.fresh then 2 else 1) (b2n s.hrv.fresh) 0
  | none => (s.wr Reg.HRV_SDSLOT 0).loadHistory.pushCause 1 (b2n s.hrv.fresh) 0

/-- BOOTSEQ before this boot (R132). -/
def State.bootSeqOld (s : State) : Nat :=
  let w := s.nvm64 0x3F0130
  if notOk w then w % 4294967296 else 0

/-- One history word goes to the ring; the next entry follows it. -/
def State.pushRing (s : State) (i : Nat) (e : Word × Word) : State :=
  s.setNvm64 (ringAddr i) (e.1.toNat + e.2.toNat * 4294967296)

/-- BOOTSEQ, the history words of this boot oldest first, and the head word (R131, R132). -/
def State.writeHistory (s : State) (old : Nat) : State :=
  let new := (old + 1) % 4294967296
  let s := (s.setNvm64 0x3F0130 (notWord new)).wr Reg.LCS_BOOTSEQ (word new)
  let h := s.ringHead
  let words := s.lcs.pushed.reverse
  let s := words.zipIdx.foldl (fun s p => s.pushRing (h + p.2) p.1) s
  let s := s.setNvm64 0x3F0200 (notWord ((h + words.length) % 63))
  let s := if s.lcs.pushLost then s.setBit Reg.LCS_BOOT 5 else s
  { s with lcs := { s.lcs with pushed := [], pushLost := false } }

/-- The history of a cold start: its own entry, then those of the resets that came between it and the boot ROM, oldest first
(R130). -/
def State.coldHistory (s : State) : State :=
  let later := s.lcs.pushed.reverse
  let s := { s with lcs := { s.lcs with pushed := [] }, pwr := { s.pwr with coldDue := false } }
  later.foldl State.pushWord s.bootCause

/-- Step 3. -/
def State.bootHistory (s : State) : State :=
  let old := s.bootSeqOld
  let s := s.wr Reg.LCS_BOOTSEQ (word old)
  (if s.pwr.coldDue then s.coldHistory else s).writeHistory old

/-! ## Step 4: repairs (R302, R303, R319) -/

/-- Apply the word of one slot of the repair table; a valid record moves STC_RTNEXT behind it. -/
def State.applyRecord (s : State) (slot : Nat) : State :=
  let w := s.nvm64 (0x3F1000 + 8 * slot)
  let lo := word w
  let next (s : State) : State := s.wr Reg.STC_RTNEXT (word (slot + 1))
  if !(notOk w) then s
  else if fld lo 24 8 = 0x52 then
    next (if fld lo 16 5 ≤ 16 then s.placeRemap (fld lo 16 5) (fld lo 14 2) (fld lo 0 9) else s)
  else if fld lo 24 8 = 0x58 then next (s.exchange (fld lo 0 4))
  else s

/-- Step 4: SWAPLOST, then every valid record in slot order. -/
def State.bootRepairs (s : State) : State :=
  let s :=
    match s.stc.marker with
    | some n => { s.setF Reg.LCS_BOOT 16 5 (16 + n) with stc := { (s.setF Reg.LCS_BOOT 16 5 (16 + n)).stc with marker := none } }
    | none => s
  (List.range 512).foldl State.applyRecord (s.wr Reg.STC_RTNEXT 0)

/-! ## Failure (R140) -/

/-- A boot failure: ERR, and WFI at DOZE for ever. -/
def State.bootFails (s : State) (err : Nat) : State :=
  let s := s.setF Reg.LCS_BOOT 24 8 err
  let s := { s with pwr := { s.pwr with boot := false, cold := false }, core := { s.core with asleep := true, stopped := false } }
  s.setLevel .doze

/-! ## Step 5: the cold MATS+ (R136, R141) -/

/-- A word of BCFG. -/
def State.bcfg (s : State) (off : Nat) : Word := word (s.nvm32 (0x3F0000 + off))

/-- The cold MATS+ is due; STITCHCOLD counts in a valid BCFG only (DEDUCED, log 36). -/
def State.wantsMats (s : State) : Bool := s.pwr.cold && s.bcfgValid && wbit (s.bcfg 0x10) 0

/-- The spare rows for the failing rows of an array, as 4 × array + spare and row, or none where they do not suffice. Where the
repair table has no slot left for them the array counts as one that cannot be repaired (DESIGN CHOICE, log 58). -/
def State.coldPlan (s : State) (fails : List (Nat × Nat)) (arr : Nat) : Option (List (Nat × Nat)) :=
  let rows := (List.range 512).filter fun r => fails.contains (arr, r)
  let spares := (List.range 4).filter fun k => !(s.spareUsed arr k) && !(fails.contains (arr, 512 + k))
  if spares.length < rows.length ∨ 512 < (s.rd Reg.STC_RTNEXT).toNat + rows.length then none
  else some ((spares.map fun k => 4 * arr + k).zip rows)

/-- A repair record is written and applied. -/
def State.coldRepair (s : State) (cell row : Nat) : State :=
  let slot := (s.rd Reg.STC_RTNEXT).toNat
  let lo := 0x52000000 + cell / 4 * 0x10000 + cell % 4 * 0x4000 + row
  ((s.setNvm64 (0x3F1000 + 8 * slot) (notWord lo)).placeRemap (cell / 4) (cell % 4) row).wr Reg.STC_RTNEXT (word (slot + 1))

/-- Repair every array that can be repaired; the others are listed. -/
def State.coldRepairs (s : State) (fails : List (Nat × Nat)) : State × List Nat :=
  (List.range 17).foldl (fun p arr =>
    match p.1.coldPlan fails arr with
    | some l => (l.foldl (fun s c => s.coldRepair c.1 c.2) p.1, p.2)
    | none => (p.1, p.2 ++ [arr])) (s, [])

/-! ## Step 6: BCFG and the dictionary slot (R137, R138, R542, R543) -/

/-- The descriptors of an image at `base`: allowed indices, strictly rising (R539, R543). -/
def State.descsOk (s : State) (base nd : Nat) : Bool :=
  let ws := (List.range nd).map fun i => s.nvm32 (base + 16 * i)
  (ws.all fun w => (decide (0x1000 ≤ w / 256 % 65536) && decide (w / 256 % 65536 ≤ 0x15FF)) ||
    (decide (0x2000 ≤ w / 256 % 65536) && decide (w / 256 % 65536 ≤ 0x7FFF))) &&
  (ws.zip ws.tail).all fun p => decide (p.1 < p.2)

/-- The image at `base` is valid. -/
def State.imageOk (s : State) (base : Nat) : Bool :=
  let h (o : Nat) : Nat := s.nvm32 (base + o)
  if base % 8 ≠ 0 ∨ 0x3F0000 < base + 0x40 ∨ h 0 ≠ 0xD1C70001 then false
  else if h 8 % 8 ≠ 0 ∨ h 8 < 0x40 ∨ 0x40000 < h 8 ∨ 0x3F0000 < base + h 8 then false
  else if h 0x0C % 16 ≠ 0 ∨ h 0x14 % 16 ≠ 0 ∨ h 0x10 = 0 ∨ 4096 < h 0x10 ∨ 65535 < h 0x18 then false
  else if h 8 < h 0x0C + 16 * h 0x10 ∨ h 8 < h 0x14 + 16 * h 0x18 ∨ h 8 < h 0x1C + h 0x20 then false
  else
    s.descsOk (base + h 0x0C) (h 0x10) &&
      decide (h 0x3C = crc32 (s.nvm.bytes memNvm base 0x3C ++ s.nvm.bytes memNvm (base + 0x40) (h 8 - 0x40)))

/-- DSLOT: the valid slot with the greater generation, A where they are equal; half the number space apart neither is greater
and A is taken (DESIGN CHOICE, log 36). -/
def State.dslot (s : State) : Nat :=
  let a := (s.bcfg 0x14).toNat
  let b := (s.bcfg 0x18).toNat
  match s.imageOk a, s.imageOk b with
  | true, true =>
    let d := (s.nvm32 (b + 4) + 4294967296 - s.nvm32 (a + 4)) % 4294967296
    if 0 < d ∧ d < 2147483648 then 1 else 0
  | true, false => 0
  | false, true => 1
  | false, false => 3

/-! ## Step 7: the Warden image tag (R139) -/

/-- The tag matches; an image that runs beyond the NVM array cannot be read, and does not match (DEDUCED, log 36). -/
def State.tagOk (s : State) (slot : Nat) : Bool :=
  let wa := (s.bcfg 0x04).toNat
  let wl := (s.bcfg 0x08).toNat
  match s.usableKey slot with
  | some k =>
    decide (wa + wl + 32 ≤ 0x400000) &&
      decide (hmacSha256 k (s.nvm.bytes memNvm wa wl) = s.nvm.bytes memNvm (wa + wl) 32)
  | none => false

/-! ## Step 8: the Warden -/

/-- The Warden's first instruction follows; the CSRs keep their reset values (DEDUCED, log 36). -/
def State.enterImage (s : State) : State :=
  let s := { s with
    pwr := { s.pwr with boot := false, cold := false }
    core := { s.core with g := (Vector.replicate 16 0).set 15 (s.bcfg 0x1C), stopped := false } }
  s.setPc (s.bcfg 0x04 + s.bcfg 0x0C)

/-- Steps 6 to 8. -/
def State.bootRest (s : State) : State :=
  if !s.bcfgValid then s.bootFails 1
  else
    let s := s.setF Reg.LCS_BOOT 0 2 s.dslot
    match fld (s.bcfg 0x10) 1 2 with
    | 0 => s.enterImage
    | 1 => if s.tagOk 4 then (s.setBit Reg.LCS_BOOT 4).enterImage else s.bootFails 2
    | 2 => if s.tagOk 5 then (s.setBit Reg.LCS_BOOT 4).enterImage else s.bootFails 2
    | _ => s.bootFails 2

/-- The boot ROM goes on to a step that takes several events. -/
def State.toStage (s : State) (g : BootStage) : State := { s with pwr := { s.pwr with stage := g } }

/-- The cold MATS+ may run: SEC is ON after staggered step 14 (Table 05.4). -/
def State.matsReady (s : State) : Bool := s.domOn .sec && s.pwr.stagger.isEmpty

/-- The cold MATS+ starts, as a destructive run over all arrays with AID 0x401 (R311). -/
def State.coldStart (s : State) : State :=
  let s := (s.stcNewLog).setF Reg.STC_STAT 24 4 0
  let s := { s with stc := { s.stc with arrays := List.range 17, prog := preset 1, custom := 0, transp := false, repair := false,
                                        aid := 0x401 } }
  (s.setF Reg.STC_STAT 16 5 0).stcPhase 1

/-- The boot ROM waits for the cold MATS+, and starts it when it may run. -/
def State.matsBegin (s : State) : State := if s.matsReady && decide (s.stcPh = 0) then s.coldStart else s

/-- Steps 3 and 4, and what follows where no cold MATS+ is due; else the boot ROM waits for it. -/
def State.bootOn (s : State) : State :=
  let s := s.bootHistory
  if s.lcState = 4 ∨ s.lcState = 7 then s.bootFails 4
  else
    let s := s.bootRepairs
    if s.wantsMats then (s.toStage .mats).matsBegin else s.bootRest

/-- Steps 1 and 2, and what follows where no erasure is due. -/
def State.bootRom (s : State) : State :=
  let s := (s.bootJournal.wr Reg.LCS_BOOT 3).bootRetire
  if s.eraseDue then s.toStage .erase else s.bootOn

/-- The boot ROM goes on: from its beginning, with the next block of the erasure (R151; log 36), or with the start of the cold
MATS+. -/
def State.bootRuns (s : State) : State :=
  match s.pwr.stage with
  | .first => s.bootRom
  | .erase =>
    let s := s.eraseBlock
    if s.eraseDue then s else s.bootOn
  | .mats => s.matsBegin

/-- After a boot failure the boot ROM runs WFI at DOZE in a loop (R140): a core that something woke sleeps again, unless the
debug port takes it. -/
def State.bootLoop (s : State) : State :=
  if decide (s.f Reg.LCS_BOOT 24 8 ≠ 0) && s.coreRuns && decide (s.pc = 0xF0000000) && !s.tenantMode && !s.core.nmi &&
      !s.hdp.haltReq && !s.hdp.stepping then
    ({ s with core := { s.core with asleep := true } }).setLevel .doze
  else s

/-- The boot ROM begins once the core is usable, and not halted by RSTHALT (R105, R571). -/
def State.bootStep (s : State) : State :=
  if s.pwr.boot && s.domOn .core && !s.core.halted && !s.core.stopped then s.bootRuns else s.bootLoop

/-- After the cold MATS+ every word of an array, its spare rows included, holds 0 with valid check bits (R300); a granule whose
writes gate G1 denies keeps its words (R326). -/
def State.coldLeave (s : State) (arr : Nat) : State := s.setArray arr (s.keepDenied arr 0x401 (.blank .zeros))

/-- The destructive MATS+ over all arrays: its denials, its failing reads and rows, and what it leaves. -/
def State.coldMarch (s : State) (r : MarchResult) : MarchAns :=
  let arrays := List.range 17
  let ds := s.marchDenials 0x401 arrays (preset 1) false
  let found := s.marchFound 0x401 arrays (preset 1) 0 r
  let s := s.marchCount 0x401 ds
  if marchEnds ds then ⟨s, none⟩ else ⟨(arrays.foldl State.coldLeave s).stcLog found.reads found.rows, some found.rows⟩

/-- What follows the cold MATS+ with its failing rows (R141). A spare bank whose failing rows could all be repaired counts as one
that passed (DESIGN CHOICE, log 58). -/
def State.coldResult (s : State) (rows : List (Nat × Nat)) : State :=
  let x := s.coldRepairs rows
  let s := x.1
  let u := s.arrayOf 16
  match x.2.filter fun a => decide (a ≠ u) with
  | [] => s.bootRest
  | [a] =>
    if x.2.contains u then s.bootFails 3
    else ((s.setF Reg.LCS_BOOT 8 5 (16 + s.slotOf a)).exchange (s.slotOf a)).bootRest
  | _ => s.bootFails 3

/-- BOOT_COLD_MATS: the cold MATS+ ends (R141, R300, R311). A run that gate G1 ends counts as a failure of the Store (DESIGN
CHOICE, log 58). -/
def State.coldMats (s : State) (r : MarchResult) : State :=
  if s.pwr.boot && s.domOn .core && !s.core.halted && !s.core.stopped && decide (s.pwr.stage = .mats) && s.matsReady &&
      decide (s.stcPh = 1) then
    let x := (s.setF Reg.STC_STAT 16 5 16).coldMarch r
    let s := x.s.stcIdle.setBit Reg.LCS_BOOT 3
    match x.rows with
    | some rows => s.coldResult rows
    | none => ((List.range 17).foldl State.loseArray (s.stcErr 6)).bootFails 3
  else s

end Sys2Proof.Machine
end

