-- ==== Sys2Proof/Machine/Branch.lean ====
section
/-!
DEFINITION. Branches (Table 07.10, R216).
-/
namespace Sys2Proof.Machine

/-- Bcc: the branch is taken if its condition holds (Tables 07.3, 07.10). -/
def opBcc (cond : Fin 16) (off : BitVec 20) (s : State) : State :=
  if condHolds s.core.cc cond then s.setPc (s.target off) else s.advance

/-- The command Bcc. -/
def execBcc (cond : Fin 16) (off : BitVec 20) (s : State) : Host.Outcome State Fault Refusal :=
  .next (s.runInstr (.bcc cond off) (opBcc cond off))

/-- CBZ: taken if rt = 0. -/
def opCbz (rt : Fin 16) (off : BitVec 20) (s : State) : State :=
  if s.g rt = 0 then s.setPc (s.target off) else s.advance

/-- The command CBZ. -/
def execCbz (rt : Fin 16) (off : BitVec 20) (s : State) : Host.Outcome State Fault Refusal :=
  .next (s.runInstr (.cbz rt off) (opCbz rt off))

/-- CBNZ: taken if rt ≠ 0. -/
def opCbnz (rt : Fin 16) (off : BitVec 20) (s : State) : State :=
  if s.g rt = 0 then s.advance else s.setPc (s.target off)

/-- The command CBNZ. -/
def execCbnz (rt : Fin 16) (off : BitVec 20) (s : State) : Host.Outcome State Fault Refusal :=
  .next (s.runInstr (.cbnz rt off) (opCbnz rt off))

/-- BL: the link, then the branch. -/
def opBl (off : BitVec 20) (s : State) : State :=
  (s.setG 14 (s.pc + 4)).setPc (s.target off)

/-- The command BL. -/
def execBl (off : BitVec 20) (s : State) : Host.Outcome State Fault Refusal :=
  .next (s.runInstr (.bl off) (opBl off))

/-- BLR: the target is read before the link is written (R192). -/
def opBlr (ra : Fin 16) (s : State) : State :=
  (s.setG 14 (s.pc + 4)).setPc (s.g ra)

/-- The command BLR. -/
def execBlr (ra : Fin 16) (s : State) : Host.Outcome State Fault Refusal :=
  .next (s.runInstr (.blr ra) (opBlr ra))

/-- JR. -/
def opJr (ra : Fin 16) (s : State) : State :=
  s.setPc (s.g ra)

/-- The command JR. -/
def execJr (ra : Fin 16) (s : State) : Host.Outcome State Fault Refusal :=
  .next (s.runInstr (.jr ra) (opJr ra))

end Sys2Proof.Machine
end

