-- ==== Sys2Proof/Machine/DmaRun.lean ====
section
/-!
DEFINITION. The general DMA at work (R255 to R260): descriptors, the accesses of each operation, write-backs and completion.
One access is one beat of a channel (R257).
-/
namespace Sys2Proof.Machine

/-! ## Accesses of a channel -/

/-- The AID a channel carries. -/
def State.dmaAid (s : State) (n : Nat) : Nat := s.f (Reg.DMA_CHCTL n) 16 11

/-- A request of channel `n` (R254). -/
def State.dmaReq (s : State) (n : Nat) (kind : ReqKind) (a size data : Nat) : Req :=
  { mid := 2, aid := s.dmaAid n, tid := (s.dmaCh n).tid, cls := s.qosClass 2 (s.dmaAid n), kind := kind, addr := a,
    size := size, data := data, rom := false }

/-- An access of the channel fails (R260): ERRA, the channel's event, ERROR. -/
def State.dmaFail (s : State) (n code a : Nat) : State :=
  ((s.wr (Reg.DMA_CHERRA n) (word a)).setBit Reg.DMA_IRQ n).dmaError n code

/-- What follows an access of channel `n` at `a`. -/
def Ans.dma (x : Ans) (n a : Nat) (k : State → Nat → State) : State :=
  match x.resp with
  | .ok v => k x.s v
  | .denied => x.s.dmaFail n 2 a
  | .abort _ => x.s.dmaFail n 2 a
  | .ecc _ _ => x.s.dmaFail n 3 a
  | .held _ => x.s
  | .wait => x.s

/-- A read of the channel. -/
def State.dmaRead (s : State) (n a size : Nat) (k : State → Nat → State) : State :=
  (s.read (s.dmaReq n .read a size 0) (.dma n)).dma n a k

/-- The low word of a split write has landed, or the high one too. -/
def State.dmaHalf (s : State) (n : Nat) (b : Bool) : State := s.setDmaCh n { s.dmaCh n with half := b }

/-- The high word of a split write. -/
def State.dmaWriteHigh (s : State) (n : Nat) (r : Req) (k : State → State) : State :=
  (s.access r.high (.dma n)).dma n r.high.addr fun s _ => k (s.dmaHalf n false)

/-- A write of the channel; the words of a split one are accepted and refused each on its own (R226). -/
def State.dmaWrite (s : State) (n a size data : Nat) (k : State → State) : State :=
  let r := s.dmaReq n .write a size data
  if r.splits then
    if (s.dmaCh n).half then s.dmaWriteHigh n r k
    else (s.access r.low (.dma n)).dma n a fun s _ => (s.dmaHalf n true).dmaWriteHigh n r k
  else (s.access r (.dma n)).dma n a fun s _ => k s

/-! ## Descriptors (Table 08.6) -/

/-- Word `i` of the descriptor of channel `n`. -/
def State.dmaWord (s : State) (n i : Nat) : Word := (s.dmaCh n).desc.getD i 0

/-- OP of the descriptor. -/
def State.dmaOp (s : State) (n : Nat) : Nat := fld (s.dmaWord n 0) 28 4

/-- SRC and DST of the descriptor. -/
def State.dmaSrc (s : State) (n : Nat) : Nat := (s.dmaWord n 2).toNat

/-- DST. -/
def State.dmaDst (s : State) (n : Nat) : Nat := (s.dmaWord n 3).toNat

/-- LEN. -/
def State.dmaLen (s : State) (n : Nat) : Nat := (s.dmaWord n 1).toNat

/-- A descriptor may stand at an address: aligned, in the Store banks or in a tenant window (R255). -/
def descriptorAt (a : Nat) : Bool := decide (a % 32 = 0) && (inStore a || decide (regionOf a = .window))

/-- The conditions on a descriptor (R255, R256). -/
def State.dmaDescOk (s : State) (n : Nat) : Bool :=
  match s.dmaOp n with
  | 1 => decide (s.dmaSrc n % 4 = 0) && decide (s.dmaDst n % 4 = 0) && decide (s.dmaLen n % 4 = 0) && decide (4 ≤ s.dmaLen n)
  | 2 => decide (s.dmaDst n % 8 = 0) && decide (s.dmaLen n % 8 = 0)
  | 3 => decide (s.dmaDst n % 4 = 0)
  | 4 => decide (s.dmaDst n % 4 = 0)
  | 5 => decide (s.dmaDst n % 4 = 0)
  | _ => false

/-- The operation has ended; its write-backs and its completion are due (R259). -/
def State.dmaOpDone (s : State) (n : Nat) (result : Option Word) : State :=
  let wb := if wbit (s.dmaWord n 0) 26 then (if 3 ≤ s.dmaOp n then 1 else 2) else 3
  s.setDmaCh n { s.dmaCh n with copy := none, handle := result, wb := wb }

/-- A fetched descriptor is taken up, or ends the channel. A FILL of no bytes has ended already. -/
def State.dmaTake (s : State) (n : Nat) : State :=
  if s.dmaDescOk n then
    let s := s.dmaTo n 2
    if s.dmaOp n = 2 ∧ s.dmaLen n = 0 then s.dmaOpDone n none else s
  else s.dmaError n 1

/-- The next 64-bit read of a descriptor fetch (R255). -/
def State.dmaFetch (s : State) (n : Nat) : State :=
  let a := (s.rd (Reg.DMA_CHCUR n)).toNat
  if !(descriptorAt a) then s.dmaError n 1
  else
    s.dmaRead n (a + 4 * (s.dmaCh n).desc.length) 8 fun s v =>
      let d := (s.dmaCh n).desc ++ [word v, word (v / 2 ^ 32)]
      let s := s.setDmaCh n { s.dmaCh n with desc := d }
      if 8 ≤ d.length then s.dmaTake n else s

/-! ## COPY and FILL (R256) -/

/-- A target accepts 64-bit beats (Table 08.1). -/
def wideTarget (a : Nat) : Bool :=
  match regionOf a with
  | .nvm => true
  | .store => true
  | .ram => true
  | .window => true
  | _ => false

/-- Bytes landed. -/
def State.dmaPos (s : State) (n : Nat) : Nat := (s.rd (Reg.DMA_CHPOS n)).toNat

/-- The size of the COPY step that comes next. -/
def State.copyStep (s : State) (n : Nat) : Nat :=
  let p := s.dmaPos n
  let a := s.dmaSrc n + p
  let d := s.dmaDst n + p
  if a % 8 = 0 ∧ d % 8 = 0 ∧ p + 8 ≤ s.dmaLen n ∧ wideTarget a = true ∧ wideTarget d = true then 8 else 4

/-- Bytes of COPY or FILL have landed. -/
def State.dmaLanded (s : State) (n k : Nat) : State :=
  let s := s.wr (Reg.DMA_CHPOS n) (word (s.dmaPos n + k))
  if s.dmaLen n ≤ s.dmaPos n then s.dmaOpDone n none else s

/-- The next access of a COPY: the read of a step, then its write (R257). -/
def State.dmaCopy (s : State) (n : Nat) : State :=
  let k := s.copyStep n
  match (s.dmaCh n).copy with
  | none => s.dmaRead n ((s.dmaSrc n + s.dmaPos n) % 2 ^ 32) k fun s v => s.setDmaCh n { s.dmaCh n with copy := some v }
  | some v =>
    s.dmaWrite n ((s.dmaDst n + s.dmaPos n) % 2 ^ 32) k v fun s => (s.setDmaCh n { s.dmaCh n with copy := none }).dmaLanded n k

/-- The next access of a FILL. -/
def State.dmaFill (s : State) (n : Nat) : State :=
  let v := (s.dmaWord n 4).toNat + (s.dmaWord n 5).toNat * 2 ^ 32
  s.dmaWrite n ((s.dmaDst n + s.dmaPos n) % 2 ^ 32) 8 v fun s => s.dmaLanded n 8

/-! ## Atomics and ALLOC (R256, R258) -/

/-- AMOADD and AMOSWP: one access at the bank. -/
def State.dmaAmo (s : State) (n : Nat) (kind : ReqKind) : State :=
  (s.access (s.dmaReq n kind (s.dmaDst n) 4 (s.dmaSrc n)) (.dma n)).dma n (s.dmaDst n) fun s v => s.dmaOpDone n (some (word v))

/-- The codes of a refused allocation that make the channel wait: EMPTY, QUOTA, FLOOR and PRESSURE (R345). -/
def allocWaits (code : Nat) : Bool := decide (3 ≤ code) && decide (code ≤ 6)

/-- What a channel that waits for the pool looks at: the free count of its class and the usage of its AID (R258). -/
def State.dmaSees (s : State) (n : Nat) : Nat × Nat :=
  let c := fld (s.dmaWord n 0) 16 2
  (s.poolFreeCount c, s.usage (s.dmaAid n) c)

/-- The pool has answered the channel's read with a handle, or with a code in POOL_OPRES of MID 2 (R258, R347). -/
def State.dmaAllocated (s : State) (n : Nat) (h : Word) : State :=
  let code := s.f (Reg.POOL_OPRES 2) 16 8
  if code = 0 then
    let s := s.dmaTo n 2
    if s.dmaDst n = 0 then s.dmaOpDone n (some h) else s.setDmaCh n { s.dmaCh n with handle := some h }
  else if allocWaits code then (s.setDmaCh n { s.dmaCh n with seen := s.dmaSees n }).dmaTo n 3
  else (s.dmaError n 4).setF (Reg.DMA_CHSTAT n) 16 8 code

/-- The read of POOL_ALLOCc (R258, R334). -/
def State.dmaAllocate (s : State) (n : Nat) : State :=
  let a := Reg.POOL_ALLOC (fld (s.dmaWord n 0) 16 2)
  (s.access (s.dmaReq n .read a 4 0) (.dma n)).dma n a fun s v => s.dmaAllocated n (word v)

/-- ALLOC: the allocation, then the write of the handle to DST. -/
def State.dmaAlloc (s : State) (n : Nat) : State :=
  match (s.dmaCh n).handle with
  | none => s.dmaAllocate n
  | some h => s.dmaWrite n (s.dmaDst n) 4 h.toNat fun s => s.dmaOpDone n (some h)

/-! ## Completion (R259) -/

/-- Steps 3 to 5: the result register, the event, the next descriptor or the end of the chain. -/
def State.dmaComplete (s : State) (n : Nat) : State :=
  let d0 := s.dmaWord n 0
  let next := s.dmaWord n 6
  let s := match (s.dmaCh n).handle with
    | some v => s.wr (Reg.DMA_CHRES n) v
    | none => s
  let s := if wbit d0 27 then s.setBit Reg.DMA_IRQ n else s
  if wbit d0 25 || decide (next = 0) then
    let s := s.setDmaCh n (s.dmaCh n).clear
    (s.setBit Reg.DMA_IRQ n).dmaTo n 5
  else s.dmaFetchFrom n next

/-- The next step of a descriptor whose operation has ended: RESULT, STAT, completion. -/
def State.dmaWriteBack (s : State) (n : Nat) : State :=
  let c := s.dmaCh n
  let a := (s.rd (Reg.DMA_CHCUR n)).toNat
  if c.wb = 1 then
    s.dmaWrite n (a + 0x14) 4 (c.handle.getD 0).toNat fun s => s.setDmaCh n { s.dmaCh n with wb := 2 }
  else if c.wb = 2 then
    s.dmaWrite n (a + 0x1C) 4 0x80000000 fun s => s.setDmaCh n { s.dmaCh n with wb := 3 }
  else s.dmaComplete n

/-! ## The rotation (R257) -/

/-- The last write of the channel's descriptor has been accepted, and its completion is due. -/
def State.dmaCompletes (s : State) (n : Nat) : Bool := decide (s.dmaState n = 2) && decide ((s.dmaCh n).wb = 3)

/-- A channel has an access ready: none is outstanding, and it does not wait for the pool, for a deep sleep or for its
completion. -/
def State.dmaReady (s : State) (n : Nat) : Bool :=
  (decide (s.dmaState n = 1) || decide (s.dmaState n = 2)) && !(s.dmaCompletes n) && !(s.dmaWaits n)

/-- The channel whose turn it is: the next ready one after the one that issued last. -/
def State.dmaTurn (s : State) : Option Nat :=
  ((List.range 8).map fun i => (s.dma.last + 1 + i) % 8).find? fun n => s.dmaReady n

/-- Channel `n` may issue now. -/
def State.dmaMay (s : State) (n : Nat) : Bool := s.busUp && decide (s.dmaTurn = some n)

/-- The next access of channel `n`. -/
def State.dmaAccess (s : State) (n : Nat) : State :=
  if s.dmaState n = 1 then s.dmaFetch n
  else if s.dmaState n = 2 then
    if (s.dmaCh n).wb ≠ 0 then s.dmaWriteBack n
    else
      match s.dmaOp n with
      | 1 => s.dmaCopy n
      | 2 => s.dmaFill n
      | 3 => s.dmaAmo n .amoAdd
      | 4 => s.dmaAmo n .amoSwap
      | _ => s.dmaAlloc n
  else s

/-- The outstanding access of channel `n` is served, and its beat boundary follows. -/
def State.dmaServed (s : State) (n : Nat) : State :=
  (if s.dmaState n = 3 then s.dmaAllocate n else s.dmaAccess n).dmaBoundary n

/-- Channel `n` has issued. -/
def State.dmaIssued (s : State) (n : Nat) : State := { s with dma := { s.dma with last := n } }

/-- Descriptors whose last write has been accepted complete (R259). -/
def State.dmaCompleteAll (s : State) : State :=
  (List.range 8).foldl (fun s n => if s.dmaCompletes n then s.dmaComplete n else s) s

/-- The next ready channel of the rotation does its access. -/
def State.dmaBeat (s : State) : State :=
  if s.busUp then
    let s := s.dmaCompleteAll
    match s.dmaTurn with
    | some n => (s.dmaIssued n).dmaAccess n
    | none => s
  else s

/-- The next access of a channel, where it is its turn and its operation in progress is `op`. -/
def State.dmaOpBeat (s : State) (n op : Nat) : State :=
  if s.dmaMay n && decide (s.dmaState n = 2) && decide ((s.dmaCh n).wb = 0) && decide (s.dmaOp n = op) then
    (s.dmaIssued n).dmaAccess n
  else s

/-- A descriptor is fetched: the reads that are still to come, while they are answered and it is the channel's turn. -/
def State.dmaFetchAll (s : State) (n : Nat) : State :=
  (List.range 4).foldl (fun s _ => if s.dmaMay n && decide (s.dmaState n = 1) then (s.dmaIssued n).dmaAccess n else s) s

/-- A descriptor completes: the write-backs that are still to come, each at the channel's turn, then the completion. -/
def State.dmaDescComplete (s : State) (n : Nat) : State :=
  let back (s : State) : State :=
    if s.dmaMay n && decide (s.dmaState n = 2) && decide ((s.dmaCh n).wb ≠ 0) then (s.dmaIssued n).dmaWriteBack n else s
  let s := back (back s)
  if s.busUp && s.dmaCompletes n then s.dmaComplete n else s

/-- A waiting channel asks again, once the free count of its class or the usage of its AID has changed (R258). -/
def State.dmaRetry (s : State) (n : Nat) : State :=
  if s.busUp && decide (s.dmaState n = 3) && !(s.dmaWaits n) && decide ((s.dmaCh n).seen ≠ s.dmaSees n) then s.dmaAllocate n
  else s

end Sys2Proof.Machine
end

