-- ==== Sys2Proof/Machine/LoadStore.lean ====
section
/-!
DEFINITION. Loads and stores (Table 07.8, R207 to R210).
-/
namespace Sys2Proof.Machine

/-- A load writes rd once its data has returned (R208); watchpoints see the access (R566). -/
def State.loaded (s : State) (rd : Fin 16) (a v : Word) : State := (s.retire rd v s.core.cc).watch a false

/-- LDW: rd ← M32[ea] (Table 07.8). -/
def opLdw (rd ra : Fin 16) (off : BitVec 16) (s : State) : State :=
  s.loadInstr (.ldw rd ra off) ra (s.ea ra off) 4 fun s2 v => s2.loaded rd (s.ea ra off) (word v)

/-- The command LDW. -/
def execLdw (rd ra : Fin 16) (off : BitVec 16) (s : State) : Host.Outcome State Fault Refusal :=
  .next (s.runInstr (.ldw rd ra off) (opLdw rd ra off))

/-- LDH: rd ← M16[ea], sign-extended (Table 07.8). -/
def opLdh (rd ra : Fin 16) (off : BitVec 16) (s : State) : State :=
  s.loadInstr (.ldh rd ra off) ra (s.ea ra off) 2 fun s2 v => s2.loaded rd (s.ea ra off) (sxBytes 2 v)

/-- The command LDH. -/
def execLdh (rd ra : Fin 16) (off : BitVec 16) (s : State) : Host.Outcome State Fault Refusal :=
  .next (s.runInstr (.ldh rd ra off) (opLdh rd ra off))

/-- LDHU: rd ← M16[ea], zero-extended (Table 07.8). -/
def opLdhu (rd ra : Fin 16) (off : BitVec 16) (s : State) : State :=
  s.loadInstr (.ldhu rd ra off) ra (s.ea ra off) 2 fun s2 v => s2.loaded rd (s.ea ra off) (word v)

/-- The command LDHU. -/
def execLdhu (rd ra : Fin 16) (off : BitVec 16) (s : State) : Host.Outcome State Fault Refusal :=
  .next (s.runInstr (.ldhu rd ra off) (opLdhu rd ra off))

/-- LDB: rd ← M8[ea], sign-extended (Table 07.8). -/
def opLdb (rd ra : Fin 16) (off : BitVec 16) (s : State) : State :=
  s.loadInstr (.ldb rd ra off) ra (s.ea ra off) 1 fun s2 v => s2.loaded rd (s.ea ra off) (sxBytes 1 v)

/-- The command LDB. -/
def execLdb (rd ra : Fin 16) (off : BitVec 16) (s : State) : Host.Outcome State Fault Refusal :=
  .next (s.runInstr (.ldb rd ra off) (opLdb rd ra off))

/-- LDBU: rd ← M8[ea], zero-extended (Table 07.8). -/
def opLdbu (rd ra : Fin 16) (off : BitVec 16) (s : State) : State :=
  s.loadInstr (.ldbu rd ra off) ra (s.ea ra off) 1 fun s2 v => s2.loaded rd (s.ea ra off) (word v)

/-- The command LDBU. -/
def execLdbu (rd ra : Fin 16) (off : BitVec 16) (s : State) : Host.Outcome State Fault Refusal :=
  .next (s.runInstr (.ldbu rd ra off) (opLdbu rd ra off))

/-- LDD: rd ← M32[ea], g(d+1) ← M32[ea + 4], both once both have returned (R209). -/
def opLdd (rd ra : Fin 16) (off : BitVec 16) (s : State) : State :=
  let a := s.ea ra off
  s.loadInstr (.ldd rd ra off) ra a 8 fun s2 v =>
    let s3 := (s2.setG (pairOf rd) (word (v / 2 ^ 32))).retire rd (word v) s2.core.cc
    (s3.watch a false).watch (a + 4) false

/-- The command LDD. -/
def execLdd (rd ra : Fin 16) (off : BitVec 16) (s : State) : Host.Outcome State Fault Refusal :=
  .next (s.runInstr (.ldd rd ra off) (opLdd rd ra off))

/-- STW: M32[ea] ← rd. -/
def opStw (rd ra : Fin 16) (off : BitVec 16) (s : State) : State :=
  let a := s.ea ra off
  s.storeInstr (.stw rd ra off) ra a 4 (s.g rd).toNat fun s2 => s2.advance.watch a true

/-- The command STW. -/
def execStw (rd ra : Fin 16) (off : BitVec 16) (s : State) : Host.Outcome State Fault Refusal :=
  .next (s.runInstr (.stw rd ra off) (opStw rd ra off))

/-- STH: M16[ea] ← rd[15:0]. -/
def opSth (rd ra : Fin 16) (off : BitVec 16) (s : State) : State :=
  let a := s.ea ra off
  s.storeInstr (.sth rd ra off) ra a 2 ((s.g rd).toNat % 2 ^ 16) fun s2 => s2.advance.watch a true

/-- The command STH. -/
def execSth (rd ra : Fin 16) (off : BitVec 16) (s : State) : Host.Outcome State Fault Refusal :=
  .next (s.runInstr (.sth rd ra off) (opSth rd ra off))

/-- STB: M8[ea] ← rd[7:0]. -/
def opStb (rd ra : Fin 16) (off : BitVec 16) (s : State) : State :=
  let a := s.ea ra off
  s.storeInstr (.stb rd ra off) ra a 1 ((s.g rd).toNat % 2 ^ 8) fun s2 => s2.advance.watch a true

/-- The command STB. -/
def execStb (rd ra : Fin 16) (off : BitVec 16) (s : State) : Host.Outcome State Fault Refusal :=
  .next (s.runInstr (.stb rd ra off) (opStb rd ra off))

/-- STD: M32[ea] ← rd, M32[ea + 4] ← g(d+1) (R209). -/
def opStd (rd ra : Fin 16) (off : BitVec 16) (s : State) : State :=
  let a := s.ea ra off
  let v := (s.g rd).toNat + (s.g (pairOf rd)).toNat * 2 ^ 32
  s.storeInstr (.std rd ra off) ra a 8 v fun s2 => (s2.advance.watch a true).watch (a + 4) true

/-- The command STD. -/
def execStd (rd ra : Fin 16) (off : BitVec 16) (s : State) : Host.Outcome State Fault Refusal :=
  .next (s.runInstr (.std rd ra off) (opStd rd ra off))

/-- A PUSHM under way, and how many of its words could not be issued. -/
structure PushAns where
  s : State
  left : Nat

/-- Store the words of `vs` at rising addresses from `a`, in ascending order (R210). -/
def State.pushWords (s : State) (a : Word) (vs : List Word) : PushAns :=
  match vs with
  | [] => ⟨s, 0⟩
  | v :: t =>
    let x := s.coreWrite a 4 v.toNat
    match x.res with
    | .gone => State.pushWords x.s (a + 4) t
    | .full => ⟨x.s, t.length + 1⟩

/-- The watchpoints on `n` words from `a`, word by word (R566). -/
def State.watchWords (s : State) (a : Word) (n : Nat) (write : Bool) : State :=
  (List.range n).foldl (fun s i => s.watch (a + word (4 * i)) write) s

/-- PUSHM whose first `n` stores have been issued: the masked registers at g15 − 4k upwards, then g15 ← g15 − 4k (R210). -/
def opPushmFrom (mask : BitVec 16) (n : Nat) (s : State) : State :=
  let rs := maskRegs mask
  let k := rs.length
  let a := s.g 15 - word (4 * k)
  if k = 0 then s.advance
  else if s.stackBad 15 a (4 * k) then s.raise 8 0 (lowestByte a (4 * k))
  else
    let x := s.pushWords (a + word (4 * n)) ((rs.map s.g).drop n)
    if x.left = 0 then ((x.s.setG 15 a).advance).watchWords a k true else x.s.stallAt (.pushm mask) (k - x.left)

/-- PUSHM from its first store (R210). -/
def opPushm (mask : BitVec 16) (s : State) : State := opPushmFrom mask 0 s

/-- The command PUSHM. -/
def execPushm (mask : BitVec 16) (s : State) : Host.Outcome State Fault Refusal :=
  .next (s.runInstr (.pushm mask) (opPushm mask))

/-- The words a POPM has read, the first word lowest, or how the word at `addr` failed; `priv` tells core space from
Tenant mode (R166). -/
structure PopAns where
  s : State
  resp : Resp
  addr : Word
  priv : Bool

/-- Read `n` words from `a` upwards; each is a load of its own, and the first that fails ends it. -/
def State.popWords (s : State) (a : Word) (n : Nat) : PopAns :=
  match n with
  | 0 => ⟨s, .ok 0, a, false⟩
  | m + 1 =>
    if s.tenantMode && privateSpace a then ⟨s, .wait, a, true⟩
    else
      let x := s.coreRead a 4
      match x.resp with
      | .ok v =>
        let y := State.popWords x.s (a + 4) m
        { y with resp := mergeResp (.ok v) y.resp 4 }
      | r => ⟨x.s, r, a, false⟩

/-- Write the words of a POPM to their registers. -/
def State.popRegs (s : State) (rs : List (Fin 16)) (v : Nat) : State :=
  match rs with
  | [] => s
  | r :: t => State.popRegs (s.setG r (word v)) t (v / 2 ^ 32)

/-- POPM: the masked registers from g15 upwards, then g15 ← g15 + 4k, once every word has returned (R210). -/
def opPopm (mask : BitVec 16) (s : State) : State :=
  let rs := maskRegs mask
  let k := rs.length
  let a := s.g 15
  if k = 0 then s.advance
  else if s.stackBad 15 a (4 * k) then s.raise 8 0 (lowestByte a (4 * k))
  else
    let x := s.popWords a k
    if x.priv then x.s.raise 7 3 x.addr
    else
      (Ans.mk x.s x.resp).load (.popm mask) x.addr fun s2 v =>
        (((s2.popRegs rs v).setG 15 (a + word (4 * k))).advance).watchWords a k false

/-- The command POPM. -/
def execPopm (mask : BitVec 16) (s : State) : Host.Outcome State Fault Refusal :=
  .next (s.runInstr (.popm mask) (opPopm mask))

end Sys2Proof.Machine
end

