-- ==== Sys2Proof/Machine/Logic.lean ====
section
/-!
DEFINITION. The logic, shift and bit-field instructions (Tables 07.5, 07.6, R203 to R205).
-/
namespace Sys2Proof.Machine

/-- A logic instruction retires: N and Z follow the result. -/
def State.retireNZ (s : State) (rd : Fin 16) (v : Word) : State := s.retire rd v (ccNZ s.core.cc v)

/-- A shift retires: N and Z follow the result, C is the shift's (R204). -/
def State.retireShift (s : State) (rd : Fin 16) (r : Word × Bool) : State :=
  s.retire rd r.1 { ccNZ s.core.cc r.1 with c := r.2 }

/-- AND: rd ← ra AND rb (Table 07.5). -/
def opAnd (rd ra rb : Fin 16) (s : State) : State :=
  s.retireNZ rd (s.g ra &&& s.g rb)

/-- The command AND. -/
def execAnd (rd ra rb : Fin 16) (s : State) : Host.Outcome State Fault Refusal :=
  .next (s.runInstr (.and rd ra rb) (opAnd rd ra rb))

/-- OR: rd ← ra OR rb (Table 07.5). -/
def opOr (rd ra rb : Fin 16) (s : State) : State :=
  s.retireNZ rd (s.g ra ||| s.g rb)

/-- The command OR. -/
def execOr (rd ra rb : Fin 16) (s : State) : Host.Outcome State Fault Refusal :=
  .next (s.runInstr (.or rd ra rb) (opOr rd ra rb))

/-- XOR: rd ← ra XOR rb (Table 07.5). -/
def opXor (rd ra rb : Fin 16) (s : State) : State :=
  s.retireNZ rd (s.g ra ^^^ s.g rb)

/-- The command XOR. -/
def execXor (rd ra rb : Fin 16) (s : State) : Host.Outcome State Fault Refusal :=
  .next (s.runInstr (.xor rd ra rb) (opXor rd ra rb))

/-- ANDN: rd ← ra AND NOT rb (Table 07.5). -/
def opAndn (rd ra rb : Fin 16) (s : State) : State :=
  s.retireNZ rd (s.g ra &&& ~~~(s.g rb))

/-- The command ANDN. -/
def execAndn (rd ra rb : Fin 16) (s : State) : Host.Outcome State Fault Refusal :=
  .next (s.runInstr (.andn rd ra rb) (opAndn rd ra rb))

/-- NOT: rd ← NOT ra. -/
def opNot (rd ra : Fin 16) (s : State) : State :=
  s.retireNZ rd (~~~(s.g ra))

/-- The command NOT. -/
def execNot (rd ra : Fin 16) (s : State) : Host.Outcome State Fault Refusal :=
  .next (s.runInstr (.not rd ra) (opNot rd ra))

/-- ANDI: rd ← ra AND zx16(imm). -/
def opAndi (rd ra : Fin 16) (imm : BitVec 16) (s : State) : State :=
  s.retireNZ rd (s.g ra &&& zx16 imm)

/-- The command ANDI. -/
def execAndi (rd ra : Fin 16) (imm : BitVec 16) (s : State) : Host.Outcome State Fault Refusal :=
  .next (s.runInstr (.andi rd ra imm) (opAndi rd ra imm))

/-- ORI: rd ← ra OR zx16(imm). -/
def opOri (rd ra : Fin 16) (imm : BitVec 16) (s : State) : State :=
  s.retireNZ rd (s.g ra ||| zx16 imm)

/-- The command ORI. -/
def execOri (rd ra : Fin 16) (imm : BitVec 16) (s : State) : Host.Outcome State Fault Refusal :=
  .next (s.runInstr (.ori rd ra imm) (opOri rd ra imm))

/-- XORI: rd ← ra XOR zx16(imm). -/
def opXori (rd ra : Fin 16) (imm : BitVec 16) (s : State) : State :=
  s.retireNZ rd (s.g ra ^^^ zx16 imm)

/-- The command XORI. -/
def execXori (rd ra : Fin 16) (imm : BitVec 16) (s : State) : Host.Outcome State Fault Refusal :=
  .next (s.runInstr (.xori rd ra imm) (opXori rd ra imm))

/-- LSL by rb[7:0] (R204, R205). -/
def opLsl (rd ra rb : Fin 16) (s : State) : State :=
  s.retireShift rd (lslResult (s.g ra) (fld (s.g rb) 0 8) s.core.cc.c)

/-- The command LSL. -/
def execLsl (rd ra rb : Fin 16) (s : State) : Host.Outcome State Fault Refusal :=
  .next (s.runInstr (.lsl rd ra rb) (opLsl rd ra rb))

/-- LSR by rb[7:0] (R204, R205). -/
def opLsr (rd ra rb : Fin 16) (s : State) : State :=
  s.retireShift rd (lsrResult (s.g ra) (fld (s.g rb) 0 8) s.core.cc.c)

/-- The command LSR. -/
def execLsr (rd ra rb : Fin 16) (s : State) : Host.Outcome State Fault Refusal :=
  .next (s.runInstr (.lsr rd ra rb) (opLsr rd ra rb))

/-- ASR by rb[7:0] (R204, R205). -/
def opAsr (rd ra rb : Fin 16) (s : State) : State :=
  s.retireShift rd (asrResult (s.g ra) (fld (s.g rb) 0 8) s.core.cc.c)

/-- The command ASR. -/
def execAsr (rd ra rb : Fin 16) (s : State) : Host.Outcome State Fault Refusal :=
  .next (s.runInstr (.asr rd ra rb) (opAsr rd ra rb))

/-- ROR by rb[7:0] (R204, R205). -/
def opRor (rd ra rb : Fin 16) (s : State) : State :=
  s.retireShift rd (rorResult (s.g ra) (fld (s.g rb) 0 8) s.core.cc.c)

/-- The command ROR. -/
def execRor (rd ra rb : Fin 16) (s : State) : Host.Outcome State Fault Refusal :=
  .next (s.runInstr (.ror rd ra rb) (opRor rd ra rb))

/-- LSLI by n. -/
def opLsli (rd ra : Fin 16) (n : BitVec 5) (s : State) : State :=
  s.retireShift rd (lslResult (s.g ra) n.toNat s.core.cc.c)

/-- The command LSLI. -/
def execLsli (rd ra : Fin 16) (n : BitVec 5) (s : State) : Host.Outcome State Fault Refusal :=
  .next (s.runInstr (.lsli rd ra n) (opLsli rd ra n))

/-- LSRI by n. -/
def opLsri (rd ra : Fin 16) (n : BitVec 5) (s : State) : State :=
  s.retireShift rd (lsrResult (s.g ra) n.toNat s.core.cc.c)

/-- The command LSRI. -/
def execLsri (rd ra : Fin 16) (n : BitVec 5) (s : State) : Host.Outcome State Fault Refusal :=
  .next (s.runInstr (.lsri rd ra n) (opLsri rd ra n))

/-- ASRI by n. -/
def opAsri (rd ra : Fin 16) (n : BitVec 5) (s : State) : State :=
  s.retireShift rd (asrResult (s.g ra) n.toNat s.core.cc.c)

/-- The command ASRI. -/
def execAsri (rd ra : Fin 16) (n : BitVec 5) (s : State) : Host.Outcome State Fault Refusal :=
  .next (s.runInstr (.asri rd ra n) (opAsri rd ra n))

/-- RORI by n. -/
def opRori (rd ra : Fin 16) (n : BitVec 5) (s : State) : State :=
  s.retireShift rd (rorResult (s.g ra) n.toNat s.core.cc.c)

/-- The command RORI. -/
def execRori (rd ra : Fin 16) (n : BitVec 5) (s : State) : Host.Outcome State Fault Refusal :=
  .next (s.runInstr (.rori rd ra n) (opRori rd ra n))

/-- BSET: rd ← ra OR (1 << B). -/
def opBset (rd ra : Fin 16) (b : BitVec 5) (s : State) : State :=
  s.retireNZ rd (s.g ra ||| word (2 ^ b.toNat))

/-- The command BSET. -/
def execBset (rd ra : Fin 16) (b : BitVec 5) (s : State) : Host.Outcome State Fault Refusal :=
  .next (s.runInstr (.bset rd ra b) (opBset rd ra b))

/-- BCLR: rd ← ra AND NOT (1 << B). -/
def opBclr (rd ra : Fin 16) (b : BitVec 5) (s : State) : State :=
  s.retireNZ rd (s.g ra &&& ~~~(word (2 ^ b.toNat)))

/-- The command BCLR. -/
def execBclr (rd ra : Fin 16) (b : BitVec 5) (s : State) : Host.Outcome State Fault Refusal :=
  .next (s.runInstr (.bclr rd ra b) (opBclr rd ra b))

/-- BTST: Z ← NOT ra[B]. -/
def opBtst (ra : Fin 16) (b : BitVec 5) (s : State) : State :=
  (s.setCC { s.core.cc with z := !(wbit (s.g ra) b.toNat) }).advance

/-- The command BTST. -/
def execBtst (ra : Fin 16) (b : BitVec 5) (s : State) : Host.Outcome State Fault Refusal :=
  .next (s.runInstr (.btst ra b) (opBtst ra b))

/-- BEXT: a field of ra, sign-extended with S = 1; its width is w + 1. -/
def opBext (rd ra : Fin 16) (pos w : BitVec 5) (sgn : Bool) (s : State) : State :=
  s.retireNZ rd (bitField (s.g ra) pos.toNat (w.toNat + 1) sgn)

/-- The command BEXT. -/
def execBext (rd ra : Fin 16) (pos w : BitVec 5) (sgn : Bool) (s : State) : Host.Outcome State Fault Refusal :=
  .next (s.runInstr (.bext rd ra pos w sgn) (opBext rd ra pos w sgn))

/-- BINS: the low bits of ra into a field of rd; its width is w + 1. -/
def opBins (rd ra : Fin 16) (pos w : BitVec 5) (s : State) : State :=
  s.retireNZ rd (setFld (s.g rd) pos.toNat (w.toNat + 1) (s.g ra).toNat)

/-- The command BINS. -/
def execBins (rd ra : Fin 16) (pos w : BitVec 5) (s : State) : Host.Outcome State Fault Refusal :=
  .next (s.runInstr (.bins rd ra pos w) (opBins rd ra pos w))

end Sys2Proof.Machine
end

