-- ==== Sys2Proof/Machine/MoveCmp.lean ====
section
/-!
DEFINITION. The compare and move instructions (Table 07.7, R206).
-/
namespace Sys2Proof.Machine

/-- CMP: ra − rb, discarded (Table 07.7). -/
def opCmp (ra rb : Fin 16) (s : State) : State :=
  (s.setCC (ccSub (s.g ra) (s.g rb) false)).advance

/-- The command CMP. -/
def execCmp (ra rb : Fin 16) (s : State) : Host.Outcome State Fault Refusal :=
  .next (s.runInstr (.cmp ra rb) (opCmp ra rb))

/-- CMN: ra + rb, discarded. -/
def opCmn (ra rb : Fin 16) (s : State) : State :=
  (s.setCC (ccAdd (s.g ra) (s.g rb) false)).advance

/-- The command CMN. -/
def execCmn (ra rb : Fin 16) (s : State) : Host.Outcome State Fault Refusal :=
  .next (s.runInstr (.cmn ra rb) (opCmn ra rb))

/-- TST: ra AND rb, discarded. -/
def opTst (ra rb : Fin 16) (s : State) : State :=
  (s.setCC (ccNZ s.core.cc (s.g ra &&& s.g rb))).advance

/-- The command TST. -/
def execTst (ra rb : Fin 16) (s : State) : Host.Outcome State Fault Refusal :=
  .next (s.runInstr (.tst ra rb) (opTst ra rb))

/-- MOV: rd ← ra. -/
def opMov (rd ra : Fin 16) (s : State) : State :=
  s.retire rd (s.g ra) s.core.cc

/-- The command MOV. -/
def execMov (rd ra : Fin 16) (s : State) : Host.Outcome State Fault Refusal :=
  .next (s.runInstr (.mov rd ra) (opMov rd ra))

/-- CMPI: ra − sx16(imm), discarded. -/
def opCmpi (ra : Fin 16) (imm : BitVec 16) (s : State) : State :=
  (s.setCC (ccSub (s.g ra) (sx16 imm) false)).advance

/-- The command CMPI. -/
def execCmpi (ra : Fin 16) (imm : BitVec 16) (s : State) : Host.Outcome State Fault Refusal :=
  .next (s.runInstr (.cmpi ra imm) (opCmpi ra imm))

/-- MOVI: rd ← sx20(imm). -/
def opMovi (rd : Fin 16) (imm : BitVec 20) (s : State) : State :=
  s.retire rd (sx20 imm) s.core.cc

/-- The command MOVI. -/
def execMovi (rd : Fin 16) (imm : BitVec 20) (s : State) : Host.Outcome State Fault Refusal :=
  .next (s.runInstr (.movi rd imm) (opMovi rd imm))

/-- MOVHI: the high half of rd. -/
def opMovhi (rd : Fin 16) (imm : BitVec 16) (s : State) : State :=
  s.retire rd (setFld (s.g rd) 16 16 imm.toNat) s.core.cc

/-- The command MOVHI. -/
def execMovhi (rd : Fin 16) (imm : BitVec 16) (s : State) : Host.Outcome State Fault Refusal :=
  .next (s.runInstr (.movhi rd imm) (opMovhi rd imm))

/-- ADR: rd ← PC + sx20(off) × 4. -/
def opAdr (rd : Fin 16) (off : BitVec 20) (s : State) : State :=
  s.retire rd (s.target off) s.core.cc

/-- The command ADR. -/
def execAdr (rd : Fin 16) (off : BitVec 20) (s : State) : Host.Outcome State Fault Refusal :=
  .next (s.runInstr (.adr rd off) (opAdr rd off))

end Sys2Proof.Machine
end

