-- ==== Sys2Proof/Machine/System.lean ====
section
/-!
DEFINITION. The system instructions (Table 07.11, R217, R218), with the first steps of sleep (R91 to R96).
-/
namespace Sys2Proof.Machine

/-- NOP: no effect (Table 07.11). -/
def opNop (s : State) : State :=
  s.advance

/-- The command NOP. -/
def execNop (s : State) : Host.Outcome State Fault Refusal :=
  .next (s.runInstr .nop opNop)

/-- WCALL: exception 11, with EPC the next instruction. -/
def opWcall (svc : BitVec 20) (s : State) : State :=
  s.advance.raise 11 0 (zx20 svc)

/-- The command WCALL. -/
def execWcall (svc : BitVec 20) (s : State) : Host.Outcome State Fault Refusal :=
  .next (s.runInstr (.wcall svc) (opWcall svc))

/-- WRET to Tenant mode's interrupted code (R186). -/
def State.wretTenant (s : State) : State :=
  let c := s.core
  let s := s.dropResv.setCC (ccOf (fld c.tstatus 12 4))
  ({ s with core := { s.core with tstatus := c.tstatus &&& 0xFFFFFFFD } }).setPc c.tepc

/-- WRET in Warden mode, from the NMI or from an entry (R178); a saved PLVL above 8 acts as 8. -/
def State.wretWarden (s : State) : State :=
  let nmi := wbit s.core.status 2
  let saved := if nmi then s.core.nstatus else s.core.estatus
  if wbit saved 8 && decide (s.tenState s.tidNum ≠ 1) then s.refuseTenant
  else
    let pc := if nmi then s.core.nepc else s.core.epc
    let s := s.dropResv.setCC (ccOf (fld saved 12 4))
    ({ s with core := { s.core with status := statusPlvl (saved &&& 0x1FF) } }).setPc pc

/-- WRET (R164, R165, R178, R186). -/
def opWret (s : State) : State :=
  if s.tenantMode then (if wbit s.core.tstatus 1 then s.wretTenant else s.raise 3 0 (encodeWord .wret))
  else s.wretWarden

/-- The command WRET. -/
def execWret (s : State) : Host.Outcome State Fault Refusal :=
  .next (s.runInstr .wret opWret)

/-- The core sleeps in DOZE. -/
def State.doze (s : State) : State := ({ s with core := { s.core with asleep := true } }).setLevel .doze

/-- NAP waits for the posted write buffer to drain, then takes CORE to RETENTION (R94). -/
def State.nap (s : State) : State :=
  let s := s.drainAll
  if s.core.buf.isEmpty then
    let s := (s.advance.setDom .core .retention).setLevel .nap
    { s with core := { s.core with asleep := true } }
  else s.stall .wfi

/-- The entry to a deep level is in progress, and the core waits. -/
def State.entering (s : State) (l : Level) : State :=
  { s with pwr := { s.pwr with entry := some l }, core := { s.core with asleep := true } }

/-- Steps 1 and 2 of a deep entry (Table 04.3). -/
def State.deepEntry (s : State) (l : Level) : State :=
  ((((s.advance.dmaPauseAll).entering l).setBit Reg.SDL_STAT 4).clearReq 0xFFFF).boostStop.wdSync s

/-- WFI (R91 to R96); a step of the debug port completes it with no effect (R567). -/
def opWfi (s : State) : State :=
  if s.hdp.stepping || s.eligible.isSome then s.advance
  else if s.tenantMode || s.bit Reg.HDP_PWR 1 then s.advance.doze
  else
    match s.f Reg.SDL_CFG 0 2 with
    | 0 => s.advance.doze
    | 1 => s.nap
    | 2 => s.deepEntry .hibernate
    | _ => s.deepEntry .shelf

/-- The command WFI. -/
def execWfi (s : State) : Host.Outcome State Fault Refusal :=
  .next (s.runInstr .wfi opWfi)

/-- BRK: exception 12, or a halt where the debug port has asked for it (R173, R565). -/
def opBrk (code : BitVec 20) (s : State) : State :=
  if s.bit Reg.DBG_CTL 0 then s.haltCore 5 0 else s.raise 12 0 (encodeWord (.brk code))

/-- The command BRK. -/
def execBrk (code : BitVec 20) (s : State) : Host.Outcome State Fault Refusal :=
  .next (s.runInstr (.brk code) (opBrk code))

/-- A CSR instruction: a number absent from Table 06.2 is illegal, and a Warden CSR is refused to Tenant mode (R160). -/
def State.csrInstr (s : State) (i : Instr) (n : Nat) (k : State → State) : State :=
  if !(csrKnown n) then s.raise 2 0 (encodeWord i)
  else if s.tenantMode && csrWarden n then s.raise 3 2 (encodeWord i)
  else k s

/-- CSRR: rd ← CSR. -/
def opCsrr (rd : Fin 16) (csr : BitVec 12) (s : State) : State :=
  s.csrInstr (.csrr rd csr) csr.toNat fun s => s.retire rd (s.csrGet csr.toNat) s.core.cc

/-- The command CSRR. -/
def execCsrr (rd : Fin 16) (csr : BitVec 12) (s : State) : Host.Outcome State Fault Refusal :=
  .next (s.runInstr (.csrr rd csr) (opCsrr rd csr))

/-- CSRW: CSR ← ra (R218). -/
def opCsrw (csr : BitVec 12) (ra : Fin 16) (s : State) : State :=
  s.csrInstr (.csrw csr ra) csr.toNat fun s => (s.csrWrite csr.toNat (s.g ra)).advance

/-- The command CSRW. -/
def execCsrw (csr : BitVec 12) (ra : Fin 16) (s : State) : Host.Outcome State Fault Refusal :=
  .next (s.runInstr (.csrw csr ra) (opCsrw csr ra))

/-- CSRS: CSR ← CSR OR ra (R218). -/
def opCsrs (csr : BitVec 12) (ra : Fin 16) (s : State) : State :=
  s.csrInstr (.csrs csr ra) csr.toNat fun s => (s.csrWrite csr.toNat (s.csrGet csr.toNat ||| s.g ra)).advance

/-- The command CSRS. -/
def execCsrs (csr : BitVec 12) (ra : Fin 16) (s : State) : Host.Outcome State Fault Refusal :=
  .next (s.runInstr (.csrs csr ra) (opCsrs csr ra))

/-- CSRC: CSR ← CSR AND NOT ra (R218). -/
def opCsrc (csr : BitVec 12) (ra : Fin 16) (s : State) : State :=
  s.csrInstr (.csrc csr ra) csr.toNat fun s => (s.csrWrite csr.toNat (s.csrGet csr.toNat &&& ~~~(s.g ra))).advance

/-- The command CSRC. -/
def execCsrc (csr : BitVec 12) (ra : Fin 16) (s : State) : Host.Outcome State Fault Refusal :=
  .next (s.runInstr (.csrc csr ra) (opCsrc csr ra))

end Sys2Proof.Machine
end

