-- ==== Sys2Proof/Machine/CoreBody.lean ====
section
/-!
DEFINITION. The effect of a core instruction by its form, the requests that wait and what goes on when they are served, and the
frame of every command that comes from outside the core.
-/
namespace Sys2Proof.Machine

/-- What a core instruction does once it is fetched; a command that is none does nothing. -/
def coreBody (i : Instr) : State → State :=
  match i with
  | .nop => opNop
  | .wcall svc => opWcall svc
  | .wret => opWret
  | .wfi => opWfi
  | .brk code => opBrk code
  | .csrr rd csr => opCsrr rd csr
  | .csrw csr ra => opCsrw csr ra
  | .csrs csr ra => opCsrs csr ra
  | .csrc csr ra => opCsrc csr ra
  | .add rd ra rb => opAdd rd ra rb
  | .adc rd ra rb => opAdc rd ra rb
  | .sub rd ra rb => opSub rd ra rb
  | .sbc rd ra rb => opSbc rd ra rb
  | .neg rd ra => opNeg rd ra
  | .addsat rd ra rb => opAddsat rd ra rb
  | .subsat rd ra rb => opSubsat rd ra rb
  | .mul rd ra rb => opMul rd ra rb
  | .mulhs rd ra rb => opMulhs rd ra rb
  | .mulhu rd ra rb => opMulhu rd ra rb
  | .divs rd ra rb rc => opDivs rd ra rb rc
  | .divu rd ra rb rc => opDivu rd ra rb rc
  | .clz rd ra => opClz rd ra
  | .mins rd ra rb => opMins rd ra rb
  | .maxs rd ra rb => opMaxs rd ra rb
  | .minu rd ra rb => opMinu rd ra rb
  | .maxu rd ra rb => opMaxu rd ra rb
  | .addi rd ra imm => opAddi rd ra imm
  | .rsbi rd ra imm => opRsbi rd ra imm
  | .and rd ra rb => opAnd rd ra rb
  | .or rd ra rb => opOr rd ra rb
  | .xor rd ra rb => opXor rd ra rb
  | .andn rd ra rb => opAndn rd ra rb
  | .not rd ra => opNot rd ra
  | .andi rd ra imm => opAndi rd ra imm
  | .ori rd ra imm => opOri rd ra imm
  | .xori rd ra imm => opXori rd ra imm
  | .lsl rd ra rb => opLsl rd ra rb
  | .lsr rd ra rb => opLsr rd ra rb
  | .asr rd ra rb => opAsr rd ra rb
  | .ror rd ra rb => opRor rd ra rb
  | .lsli rd ra n => opLsli rd ra n
  | .lsri rd ra n => opLsri rd ra n
  | .asri rd ra n => opAsri rd ra n
  | .rori rd ra n => opRori rd ra n
  | .bset rd ra b => opBset rd ra b
  | .bclr rd ra b => opBclr rd ra b
  | .btst ra b => opBtst ra b
  | .bext rd ra pos w sgn => opBext rd ra pos w sgn
  | .bins rd ra pos w => opBins rd ra pos w
  | .cmp ra rb => opCmp ra rb
  | .cmn ra rb => opCmn ra rb
  | .tst ra rb => opTst ra rb
  | .mov rd ra => opMov rd ra
  | .cmpi ra imm => opCmpi ra imm
  | .movi rd imm => opMovi rd imm
  | .movhi rd imm => opMovhi rd imm
  | .adr rd off => opAdr rd off
  | .ldw rd ra off => opLdw rd ra off
  | .ldh rd ra off => opLdh rd ra off
  | .ldhu rd ra off => opLdhu rd ra off
  | .ldb rd ra off => opLdb rd ra off
  | .ldbu rd ra off => opLdbu rd ra off
  | .ldd rd ra off => opLdd rd ra off
  | .stw rd ra off => opStw rd ra off
  | .sth rd ra off => opSth rd ra off
  | .stb rd ra off => opStb rd ra off
  | .std rd ra off => opStd rd ra off
  | .pushm mask => opPushm mask
  | .popm mask => opPopm mask
  | .lrsv rd ra => opLrsv rd ra
  | .scnd rd rb ra => opScnd rd rb ra
  | .amoadd rd rb ra => opAmoadd rd rb ra
  | .amoswp rd rb ra => opAmoswp rd rb ra
  | .barW => opBarW
  | .barRw => opBarRw
  | .barIo => opBarIo
  | .barSync => opBarSync
  | .bcc cond off => opBcc cond off
  | .cbz rt off => opCbz rt off
  | .cbnz rt off => opCbnz rt off
  | .bl off => opBl off
  | .blr ra => opBlr ra
  | .jr ra => opJr ra
  | _ => fun s => s

/-- What an instruction that waited does when it goes on: a PUSHM has issued its first `n` stores already (R210). -/
def coreResume (i : Instr) (n : Nat) : State → State :=
  match i with
  | .pushm mask => opPushmFrom mask n
  | i => coreBody i

/-- A debug step has its word. -/
def FetchAns.stepped (x : FetchAns) : State :=
  match x.res with
  | .fault num sub eval => x.s.raise num sub eval
  | .wait => x.s.waitAt (.fetch none)
  | .word w =>
    match decodeWord w with
    | some i => coreBody i x.s
    | none => x.s.raise 2 0 w

/-- What the core waited with goes on. -/
def State.coreGoesOn (s : State) (w : Stall) : State :=
  match w with
  | .instr i n => coreResume i n s
  | .fetch (some i) => s.fetchBus.instr i (coreBody i)
  | .fetch none => s.fetchBus.stepped
  | .vector vec => s.toVector vec

/-- A request of the core itself waits and cannot be served yet. -/
def State.coreHeld (s : State) : Bool := s.bus.held.any fun h => h.who.loads && !(s.heldReady h)

/-- The core that waits tries again, once its request can be served. What may be abandoned gives way to what comes at its boundary
(R183). -/
def State.retryStalled (s : State) : State :=
  match s.core.stalled with
  | some w =>
    let t := { s with core := { s.core with stalled := none } }
    if t.coreRuns && !s.coreHeld then
      match if s.mayAbandon then t.boundary else none with
      | some u => u
      | none => t.coreGoesOn w
    else s
  | none => s

/-! ## Requests that wait (R109, R229, R250) -/

/-- The master of a waiting request can take its answer. -/
def State.masterReady (s : State) (w : Waiter) : Bool :=
  match w with
  | .coreLoad => s.core.stalled.isSome && s.atBoundary
  | .coreFetch => s.core.stalled.isSome && s.atBoundary
  | .coreStore => !s.core.buf.isEmpty
  | .dma n => s.dmaBusy n
  | .ap1 => (s.ap 1).busy.isSome

/-- A waiting request is served. -/
def State.serve1 (s : State) (h : Held) : State :=
  match h.who with
  | .coreLoad => s.retryStalled
  | .coreFetch => s.retryStalled
  | .coreStore => s.issueEntry (s.core.buf.findIdx fun e => decide (e.req.addr = h.req.addr) || decide (e.req.high.addr = h.req.addr))
  | .dma n => s.dmaServed n
  | .ap1 => s.apAccess 1

/-- The waiting requests that can be served now, in the order of their issue. -/
def State.readyHeld (s : State) : List Held := s.bus.held.filter fun h => s.heldReady h && s.masterReady h.who

/-- Waiting requests are served, each as the arbiter of its port picks it (R250). -/
def State.serveWaits (s : State) (fuel : Nat) : State :=
  match fuel with
  | 0 => s
  | n + 1 =>
    match s.readyHeld with
    | [] => s
    | f :: l =>
      let port := portOf f.req.addr f.addr
      let mine := (f :: l).filter fun h => decide (portOf h.req.addr h.addr = port)
      match s.arbPick port (mine.map fun h => h.req) with
      | none => s
      | some (r, a) => State.serveWaits ((s.setArb a).serve1 ((mine.find? fun h => decide (h.req = r)).getD f)) n

/-- Every request that waits and can be served is. -/
def State.serveHeld (s : State) : State := s.serveWaits s.bus.held.length

/-! ## Stepping (R567) -/

/-- The core halts after the instruction of a step; a watchpoint that it matched halts it with its own reason. -/
def State.stepEnd (s : State) : State :=
  if s.hdp.stepping && !s.core.halted && s.core.stalled.isNone then
    match s.hdp.wpHit with
    | some k => s.haltCore 4 k
    | none => s.haltCore 2 0
  else s

/-- One instruction, or what is taken in its place: what a boundary gives first, then an interrupt, then a tenant-level exception
(R363, R564). -/
def State.stepOne (s : State) : State :=
  match s.boundary with
  | some t => t
  | none =>
    match if s.masked then none else s.interruptDue, if s.masked then none else s.tenantDue with
    | some n, _ => s.takeInterrupt n
    | none, some v => s.takeTenant v
    | none, none => s.fetch.stepped

/-- A step that was asked for begins on a halted core. The boot ROM is one step (DESIGN CHOICE, log 36). -/
def State.stepBegin (s : State) : State :=
  if s.hdp.stepping && s.core.halted then
    let t := { s with core := { s.core with halted := false } }
    if t.pwr.boot then t.bootStep.stepEnd else if t.coreRuns then t.stepOne.stepEnd else s
  else s

/-- What follows every command at once: requests that waited are served, the core that waited goes on, a step or the boot ROM
runs, and level events settle. -/
def State.finish (s : State) : State := s.serveHeld.retryStalled.stepEnd.stepBegin.bootStep.settle

/-- A command from outside the core: nothing happens in a part without power. -/
def State.cmd (s : State) (f : State → State) : State := if s.powered then (f s).finish else s

end Sys2Proof.Machine
end

