-- ==== Sys2Proof/Machine/Hdp.lean ====
section
/-!
DEFINITION. The rows of the debug port (R554 to R569, R571 to R574).
-/
namespace Sys2Proof.Machine

/-! ## Rows of the wire -/

/-- A command of the debug port, which answers in every state but OFF. -/
def State.hdpCmd (s : State) (f : State → State) : State :=
  if s.hrv.pstate = .off then s else if s.powered then (f s).finish else f s

/-- A line reset (R555). -/
def State.lineReset (s : State) : State := { s with hdp := { s.hdp with lost := false } }

/-- The command HDP_LINE_RESET. -/
def execHdpLineReset (s : State) : Host.Outcome State Fault Refusal := .next (s.hdpCmd State.lineReset)

/-- The command HDP_RD. -/
def execHdpRd (ap : Fin 4) (addr : Word) (q : PacketCheck) (s : State) : Host.Outcome State Fault Refusal :=
  .next (s.packet ap q fun s => s.startAccess ap addr none)

/-- The command HDP_WR. -/
def execHdpWr (ap : Fin 4) (addr v : Word) (q : PacketCheck) (s : State) : Host.Outcome State Fault Refusal :=
  .next (s.packet ap q fun s => s.startAccess ap addr (some v))

/-- The command HDP_RDBUF. -/
def execHdpRdbuf (ap : Fin 4) (q : PacketCheck) (s : State) : Host.Outcome State Fault Refusal :=
  .next (s.packet ap q fun s => s.hdpData ap)

/-- The command HDP_ACCESS_DONE. -/
def execHdpAccessDone (ap : Fin 4) (s : State) : Host.Outcome State Fault Refusal :=
  .next (s.hdpCmd fun s => s.apAccess ap)

/-! ## Rows of the core control (R563 to R569) -/

/-- A write of a DBG register: it comes through AP0 alone, which wakes the core from DOZE and NAP (R560, R570). -/
def State.dbgWrite (s : State) (a : Nat) (v : Word) (wr : Writer) : State :=
  if decide (wr.mid = 10) && (s.apCheck0 (word a)).isNone then
    let s := if s.light then s.lightWake else s
    s.writeReg a v wr
  else s

/-- The command DBG_HALT. -/
def execDbgHalt (v : Word) (wr : Writer) (s : State) : Host.Outcome State Fault Refusal :=
  .next (s.cmd fun s => s.dbgWrite Reg.DBG_CTL v wr)

/-- The command DBG_STEP. -/
def execDbgStep (v : Word) (wr : Writer) (s : State) : Host.Outcome State Fault Refusal :=
  .next (s.cmd fun s => s.dbgWrite Reg.DBG_CTL v wr)

/-- The command DBG_RESUME. -/
def execDbgResume (v : Word) (wr : Writer) (s : State) : Host.Outcome State Fault Refusal :=
  .next (s.cmd fun s => s.dbgWrite Reg.DBG_CTL v wr)

/-- An access to a DBG register (R568, R570): a read has no side effect in the state. -/
def State.dbgAccess (s : State) (write : Bool) (a : Nat) (v : Word) (wr : Writer) : State :=
  if write && decide (a / 0x1000 = 0xE0002) then s.dbgWrite a v wr else s

/-- The command DBG_REG_ACCESS. -/
def execDbgRegAccess (write : Bool) (addr : Nat) (v : Word) (wr : Writer) (s : State) : Host.Outcome State Fault Refusal :=
  .next (s.cmd fun s => s.dbgAccess write addr v wr)

/-- The reason for which the core halts at the boundary it stands at: a request, a watchpoint, a breakpoint (R564). -/
def State.haltDue (s : State) : Option (Nat × Nat) :=
  if s.hdp.haltReq then some (1, 0)
  else
    match s.hdp.wpHit with
    | some k => some (4, k)
    | none => s.breakHere.map fun n => (3, n)

/-- The core halts (R564). -/
def State.coreHalts (s : State) : State :=
  if s.atBoundary && s.mayAbandon then
    match s.haltDue with
    | some (why, idx) => s.haltCore why idx
    | none => s
  else s

/-- The command CORE_HALT. -/
def execCoreHalt (s : State) : Host.Outcome State Fault Refusal := .next (s.cmd State.coreHalts)

/-! ## Rows of AP2 and AP3 (R559, R571 to R574) -/

/-- A write of a register of AP2 or AP3, where the port allows it. -/
def State.apWrite (s : State) (ap : Fin 4) (a v : Word) : State :=
  if (s.apCheck ap a (some v)).isNone then s.writeHdp (hdpAddr ap a) v else s

/-- The command HDP_WAKE: a write of HDP_PWR. -/
def execHdpWake (v : Word) (s : State) : Host.Outcome State Fault Refusal := .next (s.hdpCmd fun s => s.apWrite 2 0 v)

/-- The command HDP_UNLOCK_REQUEST: a write of HDP_UNLK. -/
def execHdpUnlockRequest (v : Word) (s : State) : Host.Outcome State Fault Refusal :=
  .next (s.hdpCmd fun s => s.apWrite 3 0x14 v)

/-- The command HDP_RESPONSE_WRITE: a write of HDP_RESP7. -/
def execHdpResponseWrite (v : Word) (s : State) : Host.Outcome State Fault Refusal :=
  .next (s.hdpCmd fun s => s.apWrite 3 0x5C v)

/-- The command HDP_UNLOCK_CHECK_DONE. -/
def execHdpUnlockCheckDone (s : State) : Host.Outcome State Fault Refusal := .next (s.cmd State.unlockCheckDone)

/-- The command HDP_RELOCK: a write of HDP_UNLK. -/
def execHdpRelock (v : Word) (s : State) : Host.Outcome State Fault Refusal := .next (s.hdpCmd fun s => s.apWrite 3 0x14 v)

/-- The command HDP_CAUSE_CLR: a write of HDP_STAT. -/
def execHdpCauseClr (v : Word) (s : State) : Host.Outcome State Fault Refusal := .next (s.hdpCmd fun s => s.apWrite 3 0 v)

end Sys2Proof.Machine
end

