-- ==== Sys2Proof/Machine/LinkRun.lean ====
section
/-!
DEFINITION. The field link at work: what the LKE does with the entry at RD (R509, R526 to R529, R535, R540, R548), the moves of
the CAN DMA (R509, R510, R514) and the transmission of posted images (R512, R513).
-/
namespace Sys2Proof.Machine

/-! ## The entry at RD -/

/-- An entry of the ring as its words spell it (Table 18.2). -/
structure Entry where
  id : Nat
  fd : Bool
  brs : Bool
  len : Nat
  /-- Data bytes 0 to 3. -/
  opcode : Nat
  index : Nat
  sub : Nat
  deriving DecidableEq, Repr

/-- The entry at RD; none where Saddle RAM cannot give its first words. -/
structure EntryAns where
  s : State
  e : Option Entry

/-- Read the entry at RD. Bytes that a short frame lacks are open: an entry without data has no opcode (log 2). -/
def State.entry (s : State) : EntryAns :=
  let x := s.saddleRead s.rdAddr 8 0x7FF
  let y := x.s.saddleRead (s.rdAddr + 8) 4 0x7FF
  let len := x.val / 2 ^ 40 % 128
  let y := if len = 0 then ⟨x.s.tickFree, x.s.freeWord.toNat, none⟩ else y
  let e : Entry :=
    { id := x.val % 2 ^ 29, fd := decide (x.val / 2 ^ 29 % 2 = 1), brs := decide (x.val / 2 ^ 30 % 2 = 1), len := len
      opcode := if len = 0 then 0 else y.val % 256, index := y.val / 256 % 65536, sub := y.val / 2 ^ 24 % 256 }
  if x.ue.isSome || y.ue.isSome then ⟨y.s, none⟩ else ⟨y.s, some e⟩

/-- Decide the entry at RD. -/
def State.setRd (s : State) (x : RdState) : State := { s with lnk := { s.lnk with rd := x } }

/-! ## Answers of the LKE (R518, R526) -/

/-- A response to a request: its status, and what follows byte 3. -/
def Entry.response (e : Entry) (node status : Nat) (rest : List Byte) : CanFrame :=
  { id := lppId 2 (idTenant e.id) node (idTag e.id), ext := true, remote := false, fd := e.fd, brs := e.brs, esi := false,
    dlc := dlcOf (4 + rest.length), data := bytesLE 1 status ++ bytesLE 2 e.index ++ bytesLE 1 e.sub ++ rest }

/-- The response goes to its slot; the entry leaves the ring, or waits at RD for the rate limit (R529). -/
def State.answer (s : State) (e : Entry) (status : Nat) (rest : List Byte) : State :=
  let s := { s with lnk := { s.lnk with resp := some (e.response s.node status rest) } }
  if s.lkeOwns && decide (s.lnk.rate ≠ 0) then s.setRd .respond else s.ringAdvance

/-- ABORT with a code. -/
def State.answerAbort (s : State) (e : Entry) (code : Nat) : State := s.answer e 1 (bytesLE 4 code)

/-- SLEEPING with the retry-after time. -/
def State.answerSleeping (s : State) (e : Entry) : State := s.answer e 2 (bytesLE 2 (s.f Reg.LKE_RETRY 0 16))

/-- The LKE asserts its wake request for the entry, or answers SLEEPING where it may not (R529). -/
def State.entryWakes (s : State) (e : Entry) : State :=
  if s.bit Reg.SDL_WAKEEN 3 then (s.setRd .wake).wakeEvent .lke else s.answerSleeping e

/-! ## The object table (R527, R539, R540) -/

/-- Word `i` of descriptor `k`. -/
def State.descWord (s : State) (k i : Nat) : LkeRead := s.lkeRead (s.f Reg.LKE_OBJ 4 10 * 16 + 16 * k + 4 * i) 4 s.lnk.objAid

/-- What a search of the table brings: the number of the descriptor with a key, `bad` where a word could not be read. -/
structure FoundAns where
  s : State
  k : Option Nat
  bad : Bool

/-- The binary search of R527 over descriptors `lo` to `lo + n - 1`. -/
def State.findDesc (s : State) (fuel lo n key : Nat) : FoundAns :=
  match fuel with
  | 0 => ⟨s, none, false⟩
  | m + 1 =>
    if n = 0 then ⟨s, none, false⟩
    else
      let k := lo + n / 2
      let x := s.descWord k 0
      if !x.ok then ⟨x.s, none, true⟩
      else if key = x.val % 2 ^ 24 then ⟨x.s, some k, false⟩
      else if key < x.val % 2 ^ 24 then State.findDesc x.s m lo (n / 2) key
      else State.findDesc x.s m (k + 1) (n - n / 2 - 1) key

/-- An object as the LKE sees it: word 1 and VLOC of its descriptor. -/
structure Object where
  w1 : Word
  vloc : Nat
  deriving DecidableEq, Repr

/-- The object of an entry; none where it is absent or its descriptor cannot be read. -/
structure ObjectAns where
  s : State
  o : Option Object

/-- Look up the object of an entry. -/
def State.object (s : State) (e : Entry) : ObjectAns :=
  let x := s.findDesc 10 0 (s.f Reg.LKE_OBJ 16 10) (e.index * 256 + e.sub)
  match x.k with
  | some k =>
    let y := x.s.descWord k 1
    let z := y.s.descWord k 2
    if !y.ok || !z.ok then ⟨z.s, none⟩ else ⟨z.s, some { w1 := word y.val, vloc := z.val }⟩
  | none => ⟨x.s, none⟩

/-- SIZE, ACCESS and TYPE of a descriptor. -/
def Object.size (o : Object) : Nat := fld o.w1 24 8

/-- ACCESS. -/
def Object.access (o : Object) : Nat := fld o.w1 4 3

/-- TYPE. -/
def Object.type (o : Object) : Nat := fld o.w1 0 4

/-- SRC = 1: a Saddle register. -/
def Object.isReg (o : Object) : Bool := wbit o.w1 12

/-- The descriptor is Saddle-served (R540). -/
def Object.served (o : Object) : Bool :=
  wbit o.w1 10 && decide (o.type ≤ 11) && decide (fld o.w1 8 2 = 0) &&
    (if o.isReg then decide (o.access = 0) && (decide (o.type = 5) || decide (o.type = 6)) && decide (o.vloc < 0x5000) &&
        decide (o.vloc % 4 = 0)
     else decide (o.vloc % 8 = 0) && decide (o.vloc + o.size ≤ 0x4000))

/-- The access of a request suits the object: RO, RW or CONST for a READ; RW, and a length equal to SIZE, for a WRITE (R526). -/
def Object.allows (o : Object) (e : Entry) : Bool :=
  if e.opcode = 1 then decide (o.access = 0) || decide (o.access = 2) || decide (o.access = 4)
  else decide (o.access = 2) && decide (e.len = 4 + o.size)

/-- A value as the LKE reads it; `bad` where it cannot. -/
structure ValueAns where
  s : State
  v : List Byte
  bad : Bool

/-- The value of an object: a Saddle register through the local port, or Saddle RAM with the AID that wrote LKE_OBJ (R224, R276); STR ends before its first 0x00 (R535,
R540, R541). -/
def State.objectValue (s : State) (o : Object) : ValueAns :=
  if o.isReg then
    let x := s.readReg (0x30000000 + o.vloc) { mid := 8, aid := 0x7FF }
    ⟨x.1, bytesLE 4 x.2.toNat, false⟩
  else
    let x := s.lkeRead o.vloc o.size s.lnk.objAid
    let v := bytesLE o.size x.val
    ⟨x.s, if o.type = 10 then v.takeWhile fun b => decide (b ≠ 0) else v, !x.ok⟩

/-- The object that the LKE wrote last, and its event (R526). -/
def State.noteLast (s : State) (e : Entry) : State := (s.wr Reg.LKE_LASTW (word (e.index * 256 + e.sub))).lkeIrq 0x10

/-- A READ or WRITE that the LKE answers itself (R526, R548); none where it cannot read the value. -/
def State.serve (s : State) (e : Entry) (o : Object) : Option State :=
  if !e.fd && decide (4 < o.size) then some (s.answerAbort e 0x01000003)
  else if e.opcode = 1 then
    let x := s.objectValue o
    if x.bad then none else some (x.s.answer e 0 x.v)
  else
    let x := s.saddleRead (s.rdAddr + 12) o.size 0x7FF
    if x.ue.isSome then none
    else if o.type = 0 ∧ 1 < x.val then some (x.s.answerAbort e 0x05000001)
    else some (((x.s.lkeWrite o.vloc x.s.lnk.objAid (bytesLE o.size x.val)).noteLast e).answer e 0 [])

/-! ## The decision (R509, R528, R529) -/

/-- A KIND 1 entry that the LKE does not answer: it goes on to the CAN DMA, or is decided by R529. -/
def State.notServed (s : State) (e : Entry) (o : Option Object) : State :=
  if !s.lkeOwns then s.setRd .pass
  else if e.opcode = 5 ∨ e.opcode = 6 then s.ringAdvance
  else
    match o with
    | some o => if wbit o.w1 11 then s.entryWakes e else s.answerSleeping e
    | none => if s.bit Reg.LKE_CFG 2 then s.entryWakes e else s.answerSleeping e

/-- An index of the per-tenant objects, which are never Saddle-served (R377). -/
def perTenant (index : Nat) : Bool := decide (0x8000 ≤ index) && decide (index < 0x9000)

/-- An entry for an object of the table (R526): answered, or not. -/
def State.decideObject (s : State) (e : Entry) : State :=
  let x := if e.len < 4 then ⟨s, none⟩ else s.object e
  match x.o with
  | none => x.s.notServed e none
  | some o =>
    let may := ¬ perTenant e.index = true ∧ (e.opcode = 1 ∨ e.opcode = 2) ∧ o.served = true ∧ o.allows e = true ∧
      (x.s.lkeOwns = true ∧ o.size ≤ 4 ∨ x.s.lkeOwns = false ∧ x.s.bit Reg.LKE_CFG 1 = true)
    if may then
      match x.s.serve e o with
      | some t => t
      | none => x.s.notServed e none
    else x.s.notServed e (some o)

/-- The opcodes that name a per-tenant object, and those among them that a classic frame may not carry (R519). -/
def objectOp (op : Nat) : Bool := [1, 2, 3, 4, 10].contains op

/-- A classic frame may not carry the opcode. -/
def fdOnly (op : Nat) : Bool := [3, 4, 10].contains op

/-- A request for an object of 0x8000 to 0x8FFF while STORE is ON (R376, R528): answered where the tenant is RESETTING or has
none of its own. -/
def State.decideTenant (s : State) (e : Entry) : State :=
  let t := idTenant e.id
  if !s.lkeOwns && !e.fd && fdOnly e.opcode then s.answerAbort e 0x01000003
  else if s.tenState t = 3 then s.answerAbort e 0x06000001
  else if s.tenOpen t && decide (fld (s.trec t 6) 0 16 ≠ 0xFFFF) then (s.object e).s.notServed e (s.object e).o
  else s.answerAbort e 0x02000003

/-- A KIND 1 entry. NODE 0 is not answered; one for another node is none of the part's (DEDUCED, log 29). -/
def State.decideRequest (s : State) (e : Entry) : State :=
  if idNode e.id = 0 then s.ringAdvance
  else if idNode e.id ≠ s.node then (if s.lkeOwns then s.ringAdvance else s.setRd .pass)
  else if s.lnk.resp.isSome then s
  else if perTenant e.index = true ∧ objectOp e.opcode = true ∧ 4 ≤ e.len ∧ s.domOn .store = true then s.decideTenant e
  else s.decideObject e

/-- An entry of another kind (R529): a wake frame asserts the request; everything else leaves, or goes to the CAN DMA. -/
def State.decideOther (s : State) (e : Entry) : State :=
  if !s.lkeOwns then s.setRd .pass
  else if idKind e.id = 5 ∧ (idNode e.id = 0 ∨ idNode e.id = s.node) then s.ringAdvance.wakeEvent .lke
  else s.ringAdvance

/-- RING_EXAMINE. -/
def State.ringExamine (s : State) : State :=
  if decide (s.ringCount = 0) || decide (s.lnk.rd ≠ .unseen) || !s.powered then s
  else
    let x := s.entry
    match x.e with
    | none => if x.s.lkeOwns then x.s.ringAdvance else x.s.setRd .pass
    | some e => if idKind e.id = 1 then x.s.decideRequest e else x.s.decideOther e

/-! ## The CAN DMA (R509, R510, R514) -/

/-- An entry is dropped at the CAN DMA: its tenant's counter, the event; the entry leaves the ring. -/
def State.canDrop (s : State) (e : Entry) : State := ((s.tenantDrop (idTenant e.id)).lnkIrq 0x40).ringAdvance

/-- The buffer class of an image. -/
def imageClass (len : Nat) : Nat := if len ≤ 56 then 0 else 1

/-- Give up a transaction table entry. -/
def State.txnDrop (s : State) (e : Entry) : State :=
  { s with lnk := { s.lnk with txns := s.lnk.txns.filter fun t =>
      !(decide (t.tenant = idTenant e.id) && decide (t.tag = idTag e.id) && !t.marked) } }

/-- Claim a transaction table entry (R514). -/
def State.txnClaim (s : State) (e : Entry) : State :=
  { s with lnk := { s.lnk with txns := s.lnk.txns ++
      [{ tenant := idTenant e.id, tag := idTag e.id, index := e.index, sub := e.sub, marked := false, fd := e.fd,
         brs := e.brs }] } }

/-- The AID of the CAN DMA. -/
def State.canAid (s : State) : Nat := s.f Reg.LNK_RXCFG 16 11

/-- The beats of an image into its buffer at `a`: those of the ring entry at `src`. A beat that cannot be made ends it; none
where one has to wait at its bank (R240, R312). -/
def State.canBeats (s : State) (n src a : Nat) : Option BeatsAns :=
  match n with
  | 0 => some ⟨s, true⟩
  | m + 1 =>
    let x := s.saddleRead src 8 0x7FF
    if x.ue.isSome || !(inStore a) then some ⟨x.s, false⟩
    else if x.s.storeWaits 9 s.canAid a 8 then none
    else
      let y := x.s.storeBeat 9 s.canAid a (bytesLE 8 x.val)
      if y.ok then State.canBeats y.s m (src + 8) (a + 8) else some y

/-- A failed move: the buffer is freed, DMAERR is set and the entry dropped (R510). -/
def State.canFail (s : State) (e : Entry) (h : Word) : State :=
  let s := (s.lnkPoolWrite Reg.POOL_FREE 2 h s.canAid).setBit Reg.LNK_STAT 5
  (s.incSat Reg.LNK_CNT 16 16).canDrop e

/-- The allocation of the CAN DMA through gate G4; none where the gate or the domain's policy answers it. -/
structure CanAllocAns where
  s : State
  ans : Option (Nat × Word)

/-- The read of POOL_ALLOC as MID 9. -/
def State.canAlloc (s : State) (c : Nat) : CanAllocAns :=
  let g := s.engineGate 4 (Reg.POOL_ALLOC c) 9 s.canAid 4 false
  if g.ok && g.s.domOn .store then
    let x := g.s.poolAlloc c 9 s.canAid
    ⟨x.s, some (x.code, x.handle)⟩
  else ⟨g.s, none⟩

/-- The move of an entry whose transaction is known; `claimed` gives the new table entry back when the frame is dropped. None
while a beat has to wait: the move is one command, so it begins when every beat can be made (DESIGN CHOICE, log 58). -/
def State.canMove (s : State) (e : Entry) (claimed : Bool) : Option State :=
  let back (s : State) : State := if claimed then s.txnDrop e else s
  let c := imageClass e.len
  let x := s.canAlloc c
  match x.ans with
  | none => some (back (((x.s.setBit Reg.LNK_STAT 5).incSat Reg.LNK_CNT 16 16).canDrop e))
  | some (code, h) =>
    if code ≠ 0 then some (back (((x.s.poolDrop c s.canAid).incSat Reg.LNK_CNT 16 16).canDrop e))
    else
      (x.s.canBeats ((15 + e.len) / 8) s.rdAddr (x.s.hAddr h)).map fun y =>
        if !y.ok then back (y.s.canFail e h)
        else
          let s := if idKind e.id = 1 ∧ e.opcode = 6 then y.s.txnDrop e else y.s
          ({ s with lnk := { s.lnk with rxq := s.lnk.rxq ++ [h] } }).ringAdvance

/-- STORE is not ON and does not answer with an ABORT: the access is held, and wakes the domain (R107, R109). -/
def State.storeHolds (s : State) : Bool :=
  !(s.domOn .store) && !(s.inDomReset .store) &&
    (decide (s.dom .store = .transition) && s.pwr.pdown.contains .store = false || !(s.bit Reg.PWR_POL (domBit .store)))

/-- The held access asks for the domain. -/
def State.askStore (s : State) : State := if s.dom .store = .transition ∧ s.pwr.pdown.contains .store = false then s else s.wakeDomain .store

/-- CAN_DMA_MOVE. -/
def State.canDmaMove (s : State) : State :=
  let ready := (decide (s.lnk.rd = .pass) || decide (s.lnk.rd = .wake)) && decide (s.ringCount ≠ 0) && s.domOn .link &&
    s.bit Reg.LNK_RXCFG 0 && s.busUp && decide (s.lnk.rxq.length < 32)
  if !ready then s
  else if s.storeHolds then s.askStore
  else
    let x := s.entry
    match x.e with
    | none => x.s.ringAdvance
    | some e =>
      let t := x.s
      if decide (idKind e.id = 1) && (t.txnOf (idTenant e.id) (idTag e.id)).isNone then
        if 64 ≤ t.lnk.txns.length then (t.incSat Reg.LNK_TXN 0 16).canDrop e else ((t.txnClaim e).canMove e true).getD s
      else (t.canMove e false).getD s

/-! ## Transmission (R512, R513) -/

/-- What the LNK has read of a posted image: whether it could be read whole, and the bytes. -/
structure ImageRead where
  s : State
  ok : Bool
  data : List Byte

/-- The image of a posted frame, `n` pairs from `a`; none while a read has to wait. -/
def State.imageRest (s : State) (a aid n : Nat) (got : List Byte) : Option ImageRead :=
  match n with
  | 0 => some ⟨s, true, got⟩
  | m + 1 =>
    let x := s.imagePair a aid
    match x.data with
    | .ok v => State.imageRest x.s (a + 8) aid m (got ++ bytesLE 8 v)
    | .wait => none
    | _ => some ⟨x.s, false, got⟩

/-- The image of a posted frame is read as MID 9 with the poster's AID: the words that give its length, then its data. -/
def State.imageRead (s : State) (a aid : Nat) : Option ImageRead :=
  let x := s.imagePair a aid
  match x.data with
  | .ok v => x.s.imageRest (a + 8) aid ((v / 2 ^ 40 % 128 + 7) / 8) (bytesLE 8 v)
  | .wait => none
  | _ => some ⟨x.s, false, []⟩

/-- The frame that an image spells (Table 18.2); a classic frame has at most 8 data bytes. -/
def imageFrame (b : List Byte) : CanFrame :=
  let w := numLE (b.take 8)
  let fd := decide (w / 2 ^ 29 % 2 = 1)
  { id := w % 2 ^ 29, ext := true, remote := false, fd := fd, brs := decide (w / 2 ^ 30 % 2 = 1), esi := false, dlc := 0,
    data := ((b.drop 8).take (w / 2 ^ 40 % 128)).take (if fd then 64 else 8) }

/-- FRAME_TRANSMITTED: the posted image that is offered has been sent, or its read has failed. -/
def State.frameTransmitted (s : State) : State :=
  match s.txOffered with
  | none => s
  | some p =>
    if !(s.txLive && !(s.bit Reg.LNK_CTL 4) && s.busUp && s.txLowest p.id) then s
    else if s.storeHolds then s.askStore
    else
      let a := s.hAddr p.handle
      match s.imageRead a p.aid with
      | none => s
      | some x =>
        let s := { x.s with lnk := { x.s.lnk with txq := x.s.lnk.txq.erase p } }
        let s := s.finishAs p.handle p.aid
        if x.ok then (s.lnkIrq 4).sends (s.onBus (imageFrame x.data)) else s.lnkIrq 8

end Sys2Proof.Machine
end

