-- ==== Sys2Proof/Machine/Power.lean ====
section
/-!
DEFINITION. The domain sequencer at work (R96 to R112), and the SYSTEM reset (R116 to R121, R128, R575).
-/
namespace Sys2Proof.Machine

/-! ## What a domain loses as it leaves ON -/

/-- Domain `d` enters RETENTION. A flip of the Stitch engine in progress completes first (R325). -/
def State.domDown (s : State) (d : Domain) : State :=
  let s :=
    match d with
    | .hmi => s.touchDrop.panelOff
    | .link => s.linkOff
    | .sec => s.flipNow
    | _ => s
  let s := s.setDom d .retention
  (if d = .meas then s.msrOff else s).safOut

/-! ## Deep entry (R96) -/

/-- MEAS stays ON in HIBERNATE (Table 04.1). -/
def State.keepsMeas (s : State) (l : Level) : Bool :=
  decide (l = .hibernate) && s.bit Reg.SDL_CFG 4 && s.domctl .meas

/-- Step 3 is complete: nothing is outstanding (R96, R157). -/
def State.entryQuiet (s : State) : Bool :=
  s.core.buf.isEmpty && s.bus.nvmQ.isEmpty && s.bus.held.isEmpty && !s.lcsBusy && s.lcs.keyLoad.isNone

/-- MEAS at step 4 of an entry that keeps it ON: the steps of its start that are still to begin go on, and a power-down that its
bit has revoked ends first (R108). -/
def State.measStays (s : State) : State :=
  let steps := s.pwr.stagger.filter fun k => decide (stepDom k = .meas)
  if s.pwr.pdown.contains .meas then
    let s := s.domDown .meas
    { s with pwr := { s.pwr with stagger := domSteps .meas } }
  else { s with pwr := { s.pwr with stagger := steps } }

/-- Step 4 of Table 04.3: the domains in its order. -/
def State.retainAll (s : State) (l : Level) : State :=
  [Domain.sec, .hmi, .meas, .link, .core, .store, .sys].foldl
    (fun s d => if d = .meas ∧ s.keepsMeas l = true then s else s.domDown d) s

/-- Steps 4 and 5; a flip in progress completes with the outstanding transactions, and frames still held go to the Saddle ring
(R399). -/
def State.deepCommit (s : State) : State :=
  match s.pwr.entry with
  | none => s
  | some l =>
    let s := s.drainAll
    if s.entryQuiet then
      let s := s.flipNow
      let tail := s.heartbeatTail
      let keep := s.keepsMeas l
      let s := s.retainAll l
      let s := if keep then s.measStays else { s with pwr := { s.pwr with stagger := [] } }
      let s := { s with
        lnk := { s.lnk with latched := tail }
        stc := { s.stc with storeMoved := true }
        pwr := { s.pwr with entry := none, pdown := [], waking := false } }
      let s := (s.setLevel l).publishHeld
      let s := if l = .shelf then s.sentinelStart else s
      s.setOwner s.ownerDue
    else s

/-! ## The staggered start (R103 to R107) -/

/-- A step that is skipped: its domain is ON, or PWR_DOMCTL keeps it in RETENTION (R105). -/
def State.skips (s : State) (k : Nat) : Bool :=
  let d := stepDom k
  s.domOn d || (decide (s.dom d = .retention) && decide (domBit d < 4) && !(s.domctl d) && !(s.inDomReset d))

/-- The steps that remain once the skipped ones at the front are dropped. -/
def State.stepsDue (s : State) : List Nat := s.pwr.stagger.dropWhile fun k => s.skips k

/-- No step is under way: the sequence is over. -/
def State.staggerEnds (s : State) : State :=
  if s.stepsDue.isEmpty then
    let moving := [Domain.sys, .store, .core, .link, .meas, .hmi, .sec].any fun d =>
      decide (s.dom d = .transition) && !(s.pwr.pdown.contains d)
    { s with pwr := { s.pwr with stagger := [], waking := s.pwr.waking && moving } }
  else s

/-- STAGGER_STEP: the next step begins, and its domain powers up; the safety block comes up with the first group of MEAS (R409,
R621). While nRESET is low every domain is held (R120). -/
def State.staggerStep (s : State) : State :=
  if s.lcs.nresetLow then s
  else
    match s.stepsDue with
    | k :: rest =>
      let s1 := { s with pwr := { s.pwr with stagger := rest } }
      let s1 := if s.dom (stepDom k) = .transition then s1 else s1.setDom (stepDom k) .transition
      if s1.safReady && !s.safReady then s1.safRestart else s1
    | [] => s.staggerEnds

/-- What a domain does as it becomes usable. SYS counts as powered since the cold start from then on, so a SHUTDOWN in the 2 µs
before writes no record (DESIGN CHOICE, log 58; R74). -/
def State.domUp (s : State) (d : Domain) : State :=
  match d with
  | .sys =>
    let s := s.hfoRestart.dmaResumeAll.gpioLoad
    { s with pwr := { s.pwr with sysPowered := true } }
  | .core => if s.pwr.boot then s else { s.setLevel .run with core := { (s.setLevel .run).core with asleep := false } }
  | .meas => if s.inDomReset .meas then s.msrOn.safRestart else s.msrOn
  | .hmi => s.touchReturn
  | .sec => s.tenSecUsable
  | .store => { s with stc := { s.stc with storeMoved := true } }
  | _ => s

/-- The first power-down of a domain that PWR_DOMCTL no longer wants (R105). -/
def State.downAgain (s : State) (d : Domain) : State :=
  if decide (domBit d < 4) && !(s.domctl d) then s.powerDown d else s

/-- The domain may become usable now: its last step has begun, and the core comes after SYS and STORE. -/
def State.mayUse (s : State) (d : Domain) : Bool :=
  decide (s.dom d = .transition) && !(s.stepsLeft d) && !(s.pwr.pdown.contains d) && !s.lcs.nresetLow &&
    (decide (d ≠ .core) || (s.domOn .sys && s.domOn .store))

/-- DOMAIN_USABLE, 2 µs after the domain's last step began (R103, R109). -/
def State.domUsable (s : State) (d : Domain) : State :=
  if s.mayUse d then
    let s := ((s.setDom d .on).domUp d).domResetEnds d
    (s.serveHeld.downAgain d).staggerEnds
  else s

/-- POWER_DOWN_DONE: step 4 of R108; a bit that was set meanwhile powers the domain again. -/
def State.downDone (s : State) (d : Domain) : State :=
  if s.pwr.pdown.contains d then
    let s := s.domDown d
    let s := { s with pwr := { s.pwr with pdown := s.pwr.pdown.filter fun x => decide (x ≠ d) } }
    if s.domctl d || (s.bus.held.any fun h => decide (h.dom = d)) then s.powerUp d else s
  else s

/-! ## SYSTEM reset -/

/-- The kinds of SYSTEM trigger, the highest first (R121). -/
def resetOrder : List ResetCause := [.lockstep, .safetyEsc, .lifecycle, .nreset, .software]

/-- CAUSE and DETAIL of a trigger (Table 05.2). -/
def State.causeOf (s : State) (c : ResetCause) : Nat × Nat :=
  match c with
  | .nreset => (0x10, 0)
  | .software => (0x11, s.lcs.softMid)
  | .safetyEsc => (0x12, s.lcs.escDomain)
  | .lockstep => (0x13, 0)
  | .lifecycle => (0x14, s.lcs.newState)

/-- Step 3 of R119: the NVM word in progress completes, the others are discarded. -/
def State.nvmStop (s : State) : State :=
  let s :=
    match s.bus.nvmQ with
    | w :: _ => s.nvmCommit w
    | [] => s
  { s with bus := Bus.reset }

/-- An access in progress through AP0 or AP1 is answered with ABORT (R128, R575). -/
def State.hdpAbort (s : State) : State :=
  [(0 : Fin 4), 1].foldl (fun s ap => if (s.ap ap).busy.isSome then s.apFails ap 7 else s) s

/-- Arrays whose destructive test the reset cuts short, and the bank of a swap past its flip, become undefined (R118, R313). A
transparent run that a SYSTEM reset cuts leaves the content as before the run (DESIGN CHOICE, log 42). -/
def State.stitchCut (s : State) : State :=
  let s :=
    match s.stcPh with
    | 1 => s.stc.arrays.foldl State.loseArray s
    | 2 => if s.stc.transp || !s.stc.todo.isEmpty then s else s.stc.arrays.foldl State.loseArray s
    | 3 => s.loseArray s.stc.u
    | 6 => s.loseArray s.stc.f
    | _ => s
  match s.stc.marker with
  | some _ => s.loseArray s.stc.f
  | none => s

/-- The blocks beside their registers; Saddle RAM, the Store and the ledger keep their content (R118). -/
def State.blocksReset (s : State) : State :=
  let marker := s.stc.marker
  let s := s.stitchCut.panelReset
  { s with
    core := { Core.reset with g := s.core.g }
    dma := Dma.reset, gtc := Gtc.reset, stc := { Stc.reset with marker := marker }, ten := Ten.reset, msr := Msr.reset,
    saf := Saf.reset, tch := Tch.reset, dgs := Dgs.reset, lnk := Lnk.reset
    pool := { Pool.reset with undef := some s.freeCtr }
    freeCtr := s.freeCtr + 1 }

/-- Registers of the LKE (R117). -/
def State.lkeRegsReset (s : State) : State :=
  { s with regs := s.regs.filter fun p => decide (p.1 / 0x1000 ≠ 0x30004) && decide (p.1 ≠ Reg.BRT_CFG) }

/-- Every domain but SADDLE takes its reset values and enters RESET; the sequencer starts again from step 0. -/
def State.domainsReset (s : State) : State :=
  let ds := [Domain.sys, .store, .core, .link, .meas, .hmi, .sec]
  let s := (ds.foldl State.resetDomRegs s).lkeRegsReset
  let s := ds.foldl (fun s d => s.setDom d .reset) s
  let s := { s with pwr := { s.pwr with
      entry := none, waking := false, stagger := staggerSteps, boot := true, cold := s.pwr.coldDue, stage := .first, pdown := [] } }
  s.setLevel .run

/-- What the SYSTEM reset changes in the Saddle domain beside its registers: challenge, key unlock, watchdog, monitors. -/
def State.saddleReset (s : State) (c : ResetCause) : State :=
  let s := s.dropChallenge
  { s with
    lcs := { s.lcs with pendingResets := [], chalWrite := false, checking := false, journal := false, journalDone := 0 }
    hdp := { s.hdp with unlocking := false, haltReq := false, wpHit := none, stepping := false,
                        unlocked := s.hdp.unlocked && decide (c ≠ .lifecycle) }
    tmb := { s.tmb with brtDone := false, brtWhole := false, escalated := false, busySeen := false, lrcRun := 0,
                        lrcFail := false, hfoFail := false, opTarget := 0x10 } }

/-- RSTHALT halts the core before its first boot ROM instruction (R571, R575). -/
def State.rstHalt (s : State) : State :=
  if s.bit Reg.HDP_PWR 2 then
    { s with core := { s.core with halted := true } }.wr Reg.DBG_STAT 0x160
  else s

/-- A SYSTEM reset for trigger `c`. -/
def State.systemResetFor (s : State) (c : ResetCause) : State :=
  let s := s.pushCause (s.causeOf c).1 (s.causeOf c).2 (s.rd Reg.RTC_SEC).toNat
  let s := s.nvmStop.hdpAbort.blocksReset
  (((s.domainsReset).saddleReset c).rstHalt).safOut

/-- SYSTEM_RESET: one reset for the triggers that wait, unless R150 defers it. -/
def State.systemReset (s : State) : State :=
  match resetOrder.find? fun c => s.lcs.pendingResets.contains c with
  | some c => if s.resetDeferred then s else s.systemResetFor c
  | none => s

end Sys2Proof.Machine
end

