-- ==== Sys2Proof/Machine/Boundary.lean ====
section
/-!
DEFINITION. Cycle and Breath boundaries in the order of Table 02.3 (R27, R28, R35), the entries of the core that come from
outside its instructions (R176, R180, R185, R363), and the tick that an empty queue brings.
-/
namespace Sys2Proof.Machine

/-! ## Boundaries -/

/-- The ticks of one Cycle on the accumulator. -/
def cycleLen : Nat := 16777216

/-- R95: a Breath boundary wakes the core from NAP while the watchdog is active. -/
def State.napWake (s : State) : State := if decide (s.pwr.level = .nap) && s.wdActive then s.lightWake else s

/-- What every Breath boundary brings: the readback faults it has found, the fault of a debug halt, the wake from NAP. -/
def State.breathTail (s : State) (faults : List Word) : State :=
  ((faults.foldl (fun s fw => s.safReport fw 0x7FF) s).haltFault).napWake

/-- Steps 1 and 2 of Table 02.3, with the accumulator, the increment and the Cycle count. -/
def State.cycleStart (s : State) (b : BoundaryInput) : State :=
  let x := (s.sentinelCycle b).frameLatch b
  (x.s.startCycle.msrCycleStart.slotCycle).slowLimits x.evs

/-- Steps 3 to 6 of Table 02.3 for the Cycle `cyc` that ended. -/
def State.cycleRest (s : State) (cyc : Nat) : State :=
  let s := (s.setBit Reg.TMB_IRQ 0).setBit Reg.TMB_IRQ 1
  let s := (s.touchPost cyc).touchCycle ((cyc + 1) % 4294967296)
  (s.frameStart 0).heartbeatStep

/-- What else acts at a Cycle boundary: the object table, the scrubber, the gate check. -/
def State.cycleEngines (s : State) : State := s.lkeTableSwitch.scrubBoundary.gateCrcStart

/-- The boundary itself, once the accumulator has wrapped. The escalation timer counts it, and the readback compares, before
anything that the boundary brings. -/
def State.cycleBoundaryAt (s : State) (b : BoundaryInput) : State :=
  let cyc := (s.rd Reg.TMB_CYCCNT).toNat
  let faults := s.readbackFaults b.sfb
  let s := (((s.escCount.readbackAll b.sfb).wdClose).cycleStart b).cycleRest cyc
  (s.wdOpen.breathTail faults).cycleEngines

/-- CYCLE_BOUNDARY: its ticks run first. -/
def State.cycleBoundary (s : State) (b : BoundaryInput) : State :=
  let s := s.advanceTicks b.ticks
  if cycleLen ≤ s.tmb.acc then s.cycleBoundaryAt b else s

/-- The Breath that comes next in the Cycle, if the accumulator has reached its start (R28). -/
def State.breathDue (s : State) : Option Nat :=
  let b := s.f Reg.TMB_STAT 0 5 + 1
  if b < s.tmb.breathDiv ∧ b * cycleLen / s.tmb.breathDiv ≤ s.tmb.acc then some b else none

/-- The boundary of Breath `b`; the second panel frame starts at Breath BREATHDIV/2. -/
def State.breathBoundaryAt (s : State) (b sfb : Nat) : State :=
  let faults := s.readbackFaults sfb
  let s := ((s.readbackAll sfb).wdClose.setF Reg.TMB_STAT 0 5 b).setBit Reg.TMB_IRQ 0
  let s := if 2 * b = s.tmb.breathDiv then s.frameStart 1 else s
  s.wdOpen.breathTail faults

/-- BREATH_BOUNDARY: its ticks run first. -/
def State.breathBoundary (s : State) (ticks sfb : Nat) : State :=
  let s := s.advanceTicks ticks
  match s.breathDue with
  | some b => s.breathBoundaryAt b sfb
  | none => s

/-- The command CYCLE_BOUNDARY. -/
def execCycleBoundary (b : BoundaryInput) (s : State) : Host.Outcome State Fault Refusal :=
  .next (s.cmd fun s => s.cycleBoundary b)

/-- The command BREATH_BOUNDARY. -/
def execBreathBoundary (ticks sfb : Nat) (s : State) : Host.Outcome State Fault Refusal :=
  .next (s.cmd fun s => s.breathBoundary ticks sfb)

/-! ## Entries of the core -/

/-- The core at an instruction boundary takes what `boundary` gives it, else `k`. -/
def State.atEntry (s : State) (k : State → State) : State :=
  if s.atBoundary && s.mayAbandon then
    match s.boundary with
    | some t => t
    | none => k s
  else s

/-- INTERRUPT_ENTRY: a line that becomes eligible wakes the core from DOZE and NAP first (R184). -/
def State.interruptEntry (s : State) : State :=
  let s := if s.light && s.eligible.isSome then s.lightWake else s
  s.atEntry fun s =>
    match s.interruptDue with
    | some n => s.takeInterrupt n
    | none => s

/-- SAFETY_NMI: it wakes the core from DOZE and NAP, and it is taken at the boundary (R176, R427). -/
def State.safetyNmi (s : State) : State :=
  let s := if s.light && s.core.nmi then s.lightWake else s
  s.atEntry fun s => s

/-- TENANT_EXCEPTION_ENTRY (R185); a deliverable line wakes the core from DOZE (R369). -/
def State.tenantEntry (s : State) : State :=
  let s := if s.light && s.tenantLine.isSome then s.lightWake else s
  s.atEntry fun s =>
    match s.tenantDue with
    | some v => s.takeTenant v
    | none => s

/-- TENANT_NOT_READY_EXIT (R363). -/
def State.tenantExit (s : State) : State := s.atEntry fun s => s

/-- LOCKSTEP_MISMATCH (R158): both cores stop, and CORE 0x001 is reported. -/
def State.lockstep (s : State) : State :=
  let held := s.bus.held.filter fun h => decide (h.who ≠ .coreStore)
  let s := { s with bus := { s.bus with held := held } }.abandon
  let s := { s with
    core := { s.core with stopped := true, buf := [] }
    saf := { s.saf with coreStop := 1 } }
  s.safReport (faultWord 4 1 0) 0x7FF

/-- The command INTERRUPT_ENTRY. -/
def execInterruptEntry (s : State) : Host.Outcome State Fault Refusal := .next (s.cmd State.interruptEntry)

/-- The command SAFETY_NMI. -/
def execSafetyNmi (s : State) : Host.Outcome State Fault Refusal := .next (s.cmd State.safetyNmi)

/-- The command TENANT_EXCEPTION_ENTRY. -/
def execTenantExceptionEntry (s : State) : Host.Outcome State Fault Refusal := .next (s.cmd State.tenantEntry)

/-- The command TENANT_NOT_READY_EXIT. -/
def execTenantNotReadyExit (s : State) : Host.Outcome State Fault Refusal := .next (s.cmd State.tenantExit)

/-- The command LOCKSTEP_MISMATCH. -/
def execLockstepMismatch (s : State) : Host.Outcome State Fault Refusal := .next (s.cmd State.lockstep)

/-! ## An idle tick -/

/-- One tick of the tick clock. Events that follow from counts alone, the miss timer and the RTC trim, are put in the queue
(DESIGN CHOICE, log 8). -/
def State.tick (s : State) : State :=
  let s := s.advanceTicks 1
  let due := (if s.tmb.missLeft = 0 ∧ (s.mstate = 1 ∨ s.mstate = 2) then [Instr.mainsMiss 0] else []) ++
    (if 1048576 ≤ s.tmb.trimTicks then [Instr.rtcTrim] else [])
  { s with pending := s.pending ++ due }

/-- What the block does with an empty queue: a tick, with which the boot ROM goes on; in SHUTDOWN the sequence of Table 03.4 runs to OFF (log 8). -/
def State.idle (s : State) : State :=
  match s.hrv.pstate with
  | .off => s
  | .shutdown => s.powerOff
  | _ => s.tick.bootStep.settle

end Sys2Proof.Machine
end

