-- ==== Sys2Proof/Machine/RegRow.lean ====
section
/-!
DEFINITION. The frame of the rows that are a write or a read of one register, after gating, and of the rows that act in
every power state.
-/
namespace Sys2Proof.Machine

/-- The block that holds the register at an address answers: its domain is ON (R107, R109), and nRESET does not hold it (R120). -/
def State.regUp (s : State) (a : Nat) : Bool :=
  match regionOf a with
  | .block d _ => s.domOn d && !(s.lkeHeld a)
  | .core => s.domOn .core
  | _ => false

/-- A write of the register at `a` at its block (log 10). -/
def State.regRow (s : State) (a : Nat) (v : Word) (wr : Writer) : State := if s.regUp a then s.writeReg a v wr else s

/-- A read of the register at `a`, with its side effects. -/
def State.readRow (s : State) (a : Nat) (wr : Writer) : State := if s.regUp a then (s.readReg a wr).1 else s

/-- A command that acts in OFF and in SHUTDOWN as well. -/
def State.always (s : State) (f : State → State) : State := if (f s).powered then (f s).finish else f s

/-- A sample of the supplies: in SHUTDOWN only the raw comparators see it (R76). -/
def State.sampleRow (s : State) (x : SupplySample) : State :=
  if s.hrv.pstate = .shutdown then (s.cmpPass x.us).setLevels x.now else s.cmd fun s => s.supplySample x

/-- The oldest guard of R240 ends after its 64 bank cycles. -/
def State.guardExpires (s : State) : State := { s with core := { s.core with guard := s.core.guard.drop 1 } }

/-- The command REGISTER_WRITE (R6). -/
def execRegisterWrite (addr : Nat) (v : Word) (wr : Writer) (s : State) : Host.Outcome State Fault Refusal :=
  .next (s.cmd fun s => s.regRow addr v wr)

/-- The command VIO_BANK_CROSSING (R590): bank VIO0 that rises while TESTEN is high enters the factory test mode, to which the
manual gives no behaviour (R593). -/
def execVioBankCrossing (bank : Fin 4) (above testen : Bool) (s : State) : Host.Outcome State Fault Refusal :=
  if bank = 0 ∧ above = true ∧ testen = true ∧ s.pins.vio.getD 0 true = false then .fault .factoryTest
  else .next (s.always fun s => s.vioCross bank.val above)

end Sys2Proof.Machine
end

