-- ==== Sys2Proof/Machine/BusRows.lean ====
section
/-!
DEFINITION. The interconnect, the NVM controller, GPIO and the supply monitors (chapters 08 and 22), and the gates (chapter 09).
Each command by its row of the table.
-/
namespace Sys2Proof.Machine

/-- The command POSTED_STORE_ISSUE (R230). -/
def execPostedStoreIssue (k : Nat) (s : State) : Host.Outcome State Fault Refusal :=
  .next (s.cmd fun s => s.issueEntry k)

/-- The command ICT_ERRPOP (R253): a write of its register. -/
def execIctErrpop (v : Word) (wr : Writer) (s : State) : Host.Outcome State Fault Refusal :=
  .next (s.cmd fun s => s.regRow Reg.ICT_ERRPOP v wr)

/-- The command NVM_WORD_WRITE (R247). -/
def execNvmWordWrite (s : State) : Host.Outcome State Fault Refusal :=
  .next (s.cmd fun s => s.nvmWordDone)

/-- The command SCND_GUARD_EXPIRY (R240). -/
def execScndGuardExpiry (s : State) : Host.Outcome State Fault Refusal :=
  .next (s.cmd fun s => s.guardExpires)

/-- The command GPIO_EDGE (R267). -/
def execGpioEdge (pin : Fin 16) (x : PinSample) (s : State) : Host.Outcome State Fault Refusal :=
  .next (s.cmd fun s => s.gpioEdge pin.val x)

/-- The command SUPPLY_MONITOR_FAULT (R418). -/
def execSupplyMonitorFault (m : SupplyMonitor) (s : State) : Host.Outcome State Fault Refusal :=
  .next (s.cmd fun s => s.monitorFault m)

/-- The command SUPPLY_MONITOR_CLEAR (R418). -/
def execSupplyMonitorClear (m : SupplyMonitor) (s : State) : Host.Outcome State Fault Refusal :=
  .next (s.cmd fun s => s.monitorClear m)

/-- The command GATE_RULE_COMMIT (R286): a write of its register. -/
def execGateRuleCommit (gate : Fin 8) (entry : Fin 16) (v : Word) (wr : Writer) (s : State) : Host.Outcome State Fault Refusal :=
  .next (s.cmd fun s => s.regRow (Reg.GATE_RULE_CTL (16 * gate.val + entry.val)) v wr)

/-- The command GTC_LOCKG3 (R288): a write of its register. -/
def execGtcLockg3 (v : Word) (wr : Writer) (s : State) : Host.Outcome State Fault Refusal :=
  .next (s.cmd fun s => s.regRow Reg.GTC_CTL v wr)

/-- The command GATE_VCNT_CLR (R284): a write of its register. -/
def execGateVcntClr (gate : Fin 8) (v : Word) (wr : Writer) (s : State) : Host.Outcome State Fault Refusal :=
  .next (s.cmd fun s => s.regRow (Reg.GATE_VSTAT gate.val) v wr)

/-- The command GATE_CRC_DONE (R290). -/
def execGateCrcDone (s : State) : Host.Outcome State Fault Refusal :=
  .next (s.cmd fun s => s.gateCrcDone)

end Sys2Proof.Machine
end

