-- ==== Sys2Proof/Machine/DigestRows.lean ====
section
/-!
DEFINITION. The digest engine (chapter 17).
Each command by its row of the table.
-/
namespace Sys2Proof.Machine

/-- The command DGS_CLAIM (R482): a write of its register. -/
def execDgsClaim (v : Word) (wr : Writer) (s : State) : Host.Outcome State Fault Refusal :=
  .next (s.cmd fun s => s.regRow Reg.DGS_CMD v wr)

/-- The command DGS_RELEASE (R482): a write of its register. -/
def execDgsRelease (v : Word) (wr : Writer) (s : State) : Host.Outcome State Fault Refusal :=
  .next (s.cmd fun s => s.regRow Reg.DGS_CMD v wr)

/-- The command DGS_START (R486): a write of its register. -/
def execDgsStart (v : Word) (wr : Writer) (s : State) : Host.Outcome State Fault Refusal :=
  .next (s.cmd fun s => s.regRow Reg.DGS_CMD v wr)

/-- The command DGS_FINISH (R490): a write of its register. -/
def execDgsFinish (v : Word) (wr : Writer) (s : State) : Host.Outcome State Fault Refusal :=
  .next (s.cmd fun s => s.regRow Reg.DGS_CMD v wr)

/-- The command DGS_ABORT (R494): a write of its register. -/
def execDgsAbort (v : Word) (wr : Writer) (s : State) : Host.Outcome State Fault Refusal :=
  .next (s.cmd fun s => s.regRow Reg.DGS_CMD v wr)

/-- The command DGS_COMPARE (R493): a write of its register. -/
def execDgsCompare (v : Word) (wr : Writer) (s : State) : Host.Outcome State Fault Refusal :=
  .next (s.cmd fun s => s.regRow Reg.DGS_CMD v wr)

/-- The command DGS_DIN_WRITE (R489): a write of its register. -/
def execDgsDinWrite (ctx : Fin 16) (v : Word) (wr : Writer) (s : State) : Host.Outcome State Fault Refusal :=
  .next (s.cmd fun s => s.regRow (0x20017100 + 32 * ctx.val) v wr)

/-- The command DGS_LAST_WRITE (R490): a write of its register. -/
def execDgsLastWrite (ctx : Fin 16) (count : Fin 4) (v : Word) (wr : Writer) (s : State) : Host.Outcome State Fault Refusal :=
  .next (s.cmd fun s => s.regRow (0x20017110 + 32 * ctx.val + 4 * count.val) v wr)

/-- The command DGS_COMPRESSION (R480). -/
def execDgsCompression (s : State) : Host.Outcome State Fault Refusal :=
  .next (s.cmd fun s => s.dgsCompression)

/-- The command DGS_LIST_START (R495): a write of its register. -/
def execDgsListStart (v : Word) (wr : Writer) (s : State) : Host.Outcome State Fault Refusal :=
  .next (s.cmd fun s => s.regRow Reg.DGS_DMACTL v wr)

/-- The command DGS_LIST_ENTRY (R496). -/
def execDgsListEntry (s : State) : Host.Outcome State Fault Refusal :=
  .next (s.cmd fun s => s.dgsListEntry)

end Sys2Proof.Machine
end

