-- ==== Sys2Proof/Machine/DmaRows.lean ====
section
/-!
DEFINITION. The general DMA (chapter 08).
Each command by its row of the table.
-/
namespace Sys2Proof.Machine

/-- The command DMA_START (R254): a write of its register. -/
def execDmaStart (ch : Fin 8) (v : Word) (wr : Writer) (s : State) : Host.Outcome State Fault Refusal :=
  .next (s.cmd fun s => s.regRow (Reg.DMA_CHCTL ch.val) v wr)

/-- The command DMA_ABORT (R261): a write of its register. -/
def execDmaAbort (ch : Fin 8) (v : Word) (wr : Writer) (s : State) : Host.Outcome State Fault Refusal :=
  .next (s.cmd fun s => s.regRow (Reg.DMA_CHCTL ch.val) v wr)

/-- The command DMA_DESC_FETCH (R255). -/
def execDmaDescFetch (ch : Fin 8) (s : State) : Host.Outcome State Fault Refusal :=
  .next (s.cmd fun s => s.dmaFetchAll ch.val)

/-- The command DMA_COPY (R256). -/
def execDmaCopy (ch : Fin 8) (s : State) : Host.Outcome State Fault Refusal :=
  .next (s.cmd fun s => s.dmaOpBeat ch.val 1)

/-- The command DMA_FILL (R256). -/
def execDmaFill (ch : Fin 8) (s : State) : Host.Outcome State Fault Refusal :=
  .next (s.cmd fun s => s.dmaOpBeat ch.val 2)

/-- The command DMA_AMOADD (R256). -/
def execDmaAmoadd (ch : Fin 8) (s : State) : Host.Outcome State Fault Refusal :=
  .next (s.cmd fun s => s.dmaOpBeat ch.val 3)

/-- The command DMA_AMOSWP (R256). -/
def execDmaAmoswp (ch : Fin 8) (s : State) : Host.Outcome State Fault Refusal :=
  .next (s.cmd fun s => s.dmaOpBeat ch.val 4)

/-- The command DMA_ALLOC (R256). -/
def execDmaAlloc (ch : Fin 8) (s : State) : Host.Outcome State Fault Refusal :=
  .next (s.cmd fun s => s.dmaOpBeat ch.val 5)

/-- The command DMA_BEAT (R257). -/
def execDmaBeat (s : State) : Host.Outcome State Fault Refusal :=
  .next (s.cmd fun s => s.dmaBeat)

/-- The command DMA_WAITPOOL_RETRY (R258). -/
def execDmaWaitpoolRetry (ch : Fin 8) (s : State) : Host.Outcome State Fault Refusal :=
  .next (s.cmd fun s => s.dmaRetry ch.val)

/-- The command DMA_DESC_COMPLETE (R259). -/
def execDmaDescComplete (ch : Fin 8) (s : State) : Host.Outcome State Fault Refusal :=
  .next (s.cmd fun s => s.dmaDescComplete ch.val)

end Sys2Proof.Machine
end

