-- ==== Sys2Proof/Machine/HmiRows.lean ====
section
/-!
DEFINITION. Touch keys and the emissive panel (chapters 15 and 16).
Each command by its row of the table.
-/
namespace Sys2Proof.Machine

/-- The command TOUCH_BURST (R437). -/
def execTouchBurst (tx : Fin 8) (counts : List Nat) (s : State) : Host.Outcome State Fault Refusal :=
  .next (s.cmd fun s => s.touchBurst tx.val counts)

/-- The command TOUCH_RAW_BEAT (R452). -/
def execTouchRawBeat (s : State) : Host.Outcome State Fault Refusal :=
  .next (s.cmd fun s => s.touchRawBeat)

/-- The command TOUCH_ENABLE (R449): a write of its register. -/
def execTouchEnable (v : Word) (wr : Writer) (s : State) : Host.Outcome State Fault Refusal :=
  .next (s.cmd fun s => s.regRow Reg.TCH_CTL v wr)

/-- The command KEY_CONFIG_WRITE (R445): a write of its register. -/
def execKeyConfigWrite (key : Fin 32) (thr : Bool) (v : Word) (wr : Writer) (s : State) : Host.Outcome State Fault Refusal :=
  .next (s.cmd fun s => s.regRow (if thr then Reg.TCH_KTHR key.val else Reg.TCH_KCFG key.val) v wr)

/-- The command TCH_BURST_WRITE (R436): a write of its register. -/
def execTchBurstWrite (v : Word) (wr : Writer) (s : State) : Host.Outcome State Fault Refusal :=
  .next (s.cmd fun s => s.regRow Reg.TCH_BURST v wr)

/-- The command TCH_RAW_ENABLE (R453): a write of its register. -/
def execTchRawEnable (v : Word) (wr : Writer) (s : State) : Host.Outcome State Fault Refusal :=
  .next (s.cmd fun s => s.regRow Reg.TCH_RAWCTL v wr)

/-- The command ROW_SLOT (R459). -/
def execRowSlot (s : State) : Host.Outcome State Fault Refusal :=
  .next (s.cmd fun s => s.rowSlot)

/-- The command FB_ROW_READ (R462). -/
def execFbRowRead (late : Bool) (s : State) : Host.Outcome State Fault Refusal :=
  .next (s.cmd fun s => s.fbRowRead late)

/-- The command QUIET_SLOT (R460). -/
def execQuietSlot (s : State) : Host.Outcome State Fault Refusal :=
  .next (s.cmd fun s => s.quietSlot)

/-- The command CATCHUP (R466). -/
def execCatchup (s : State) : Host.Outcome State Fault Refusal :=
  .next (s.cmd fun s => s.catchUp)

/-- The command PANEL_ENABLE (R470): a write of its register. -/
def execPanelEnable (v : Word) (wr : Writer) (s : State) : Host.Outcome State Fault Refusal :=
  .next (s.cmd fun s => s.regRow Reg.PNL_CTL v wr)

/-- The command LEDGER_WINDOW_WRITE (R469): a write of its register. -/
def execLedgerWindowWrite (px : Fin 2048) (v : Word) (wr : Writer) (s : State) : Host.Outcome State Fault Refusal :=
  .next (s.cmd fun s => s.regRow (0x20020000 + 4 * px.val) v wr)

/-- The command LEDGER_INIT (R469): a write of its register. -/
def execLedgerInit (v : Word) (wr : Writer) (s : State) : Host.Outcome State Fault Refusal :=
  .next (s.cmd fun s => s.regRow Reg.PNL_LCTL v wr)

/-- The command LEDGER_INIT_DONE (R469). -/
def execLedgerInitDone (s : State) : Host.Outcome State Fault Refusal :=
  .next (s.cmd fun s => s.ledgerInitDone)

/-- The command LEDGER_MARK (R469): a write of its register. -/
def execLedgerMark (v : Word) (wr : Writer) (s : State) : Host.Outcome State Fault Refusal :=
  .next (s.cmd fun s => s.regRow Reg.PNL_LCTL v wr)

/-- The command MAXBAL_READ (R467): a read of its register. -/
def execMaxbalRead (wr : Writer) (s : State) : Host.Outcome State Fault Refusal :=
  .next (s.cmd fun s => s.readRow Reg.PNL_LSTAT wr)

/-- The command VPANEL_SOFT_START (R472). -/
def execVpanelSoftStart (s : State) : Host.Outcome State Fault Refusal :=
  .next (s.cmd fun s => s.softStart)

/-- The command VPANEL_READY (R472). -/
def execVpanelReady (s : State) : Host.Outcome State Fault Refusal :=
  .next (s.cmd fun s => s.vpanelReady)

/-- The command VPANEL_SHORT (R473). -/
def execVpanelShort (cut : Option (Fin 32)) (s : State) : Host.Outcome State Fault Refusal :=
  .next (s.cmd fun s => s.vpanelShort cut)

/-- The command VPANEL_RETRY (R474). -/
def execVpanelRetry (s : State) : Host.Outcome State Fault Refusal :=
  .next (s.cmd fun s => s.vpanelRetry)

/-- The command VPANEL_RETRIES_RESET (R474). -/
def execVpanelRetriesReset (s : State) : Host.Outcome State Fault Refusal :=
  .next (s.cmd fun s => s.vpanelRetriesReset)

/-- The command VPANEL_LATCH_CLEAR (R474): a write of its register. -/
def execVpanelLatchClear (v : Word) (wr : Writer) (s : State) : Host.Outcome State Fault Refusal :=
  .next (s.cmd fun s => s.regRow Reg.PNL_FAULT v wr)

end Sys2Proof.Machine
end

