-- ==== Sys2Proof/Machine/LifeRows.lean ====
section
/-!
DEFINITION. Resets, boot and the life cycle (chapter 05).
Each command by its row of the table.
-/
namespace Sys2Proof.Machine

/-- The command NRESET_ASSERT (R120): it acts whatever the power state. -/
def execNresetAssert (ns : Nat) (s : State) : Host.Outcome State Fault Refusal :=
  .next (s.always fun s => s.nresetAssert ns)

/-- The command NRESET_RELEASE (R120): it acts whatever the power state. -/
def execNresetRelease (s : State) : Host.Outcome State Fault Refusal :=
  .next (s.always fun s => s.nresetRelease)

/-- The command RST_SYSRST (R122): a write of its register. -/
def execRstSysrst (v : Word) (wr : Writer) (s : State) : Host.Outcome State Fault Refusal :=
  .next (s.cmd fun s => s.regRow Reg.RST_CTL v wr)

/-- The command RST_DOMRST (R122): a write of its register. -/
def execRstDomrst (v : Word) (wr : Writer) (s : State) : Host.Outcome State Fault Refusal :=
  .next (s.cmd fun s => s.regRow Reg.RST_CTL v wr)

/-- The command SYSTEM_RESET (R119). -/
def execSystemReset (s : State) : Host.Outcome State Fault Refusal :=
  .next (s.cmd fun s => s.systemReset)

/-- The command BOOT_COLD_MATS (R141). -/
def execBootColdMats (r : MarchResult) (s : State) : Host.Outcome State Fault Refusal :=
  .next (s.cmd fun s => s.coldMats r)

/-- The command LIFECYCLE_REQUEST (R145): a write of its register. -/
def execLifecycleRequest (v : Word) (wr : Writer) (s : State) : Host.Outcome State Fault Refusal :=
  .next (s.cmd fun s => s.regRow Reg.LCS_REQ v wr)

/-- The command CHALLENGE_READY (R146). -/
def execChallengeReady (s : State) : Host.Outcome State Fault Refusal :=
  .next (s.cmd fun s => s.challengeReady)

/-- The command LCS_RESPONSE_WRITE (R146): a write of its register. -/
def execLcsResponseWrite (v : Word) (wr : Writer) (s : State) : Host.Outcome State Fault Refusal :=
  .next (s.cmd fun s => s.regRow (Reg.LCS_RESP 7) v wr)

/-- The command CHALLENGE_CHECK_DONE (R148). -/
def execChallengeCheckDone (s : State) : Host.Outcome State Fault Refusal :=
  .next (s.cmd fun s => s.lcsCheckDone)

/-- The command CHALLENGE_EXPIRY (R147). -/
def execChallengeExpiry (s : State) : Host.Outcome State Fault Refusal :=
  .next (s.cmd fun s => s.challengeExpiry)

/-- The command LOCKOUT_END (R148). -/
def execLockoutEnd (s : State) : Host.Outcome State Fault Refusal :=
  .next (s.cmd fun s => s.lockoutEnd)

/-- The command JOURNAL_WRITE (R150). -/
def execJournalWrite (s : State) : Host.Outcome State Fault Refusal :=
  .next (s.cmd fun s => s.journalWrite)

/-- The command KEY_LOAD (R155): a write of its register. -/
def execKeyLoad (v : Word) (wr : Writer) (s : State) : Host.Outcome State Fault Refusal :=
  .next (s.cmd fun s => s.regRow Reg.LCS_KEYCTL v wr)

/-- The command KEY_LOAD_DONE (R155). -/
def execKeyLoadDone (s : State) : Host.Outcome State Fault Refusal :=
  .next (s.cmd fun s => s.keyLoadDone)

end Sys2Proof.Machine
end

