-- ==== Sys2Proof/Machine/LinkRows.lean ====
section
/-!
DEFINITION. The field link (chapters 18 and 19).
Each command by its row of the table.
-/
namespace Sys2Proof.Machine

/-- The command CAN_FRAME_RECEIVED (R508). -/
def execCanFrameReceived (f : CanFrame) (s : State) : Host.Outcome State Fault Refusal :=
  .next (s.cmd fun s => s.frameReceived f)

/-- The command RING_EXAMINE (R509). -/
def execRingExamine (s : State) : Host.Outcome State Fault Refusal :=
  .next (s.cmd fun s => s.ringExamine)

/-- The command LKE_RESPONSE_SEND (R529). -/
def execLkeResponseSend (s : State) : Host.Outcome State Fault Refusal :=
  .next (s.cmd fun s => s.lkeRespond)

/-- The command CAN_DMA_MOVE (R509). -/
def execCanDmaMove (s : State) : Host.Outcome State Fault Refusal :=
  .next (s.cmd fun s => s.canDmaMove)

/-- The command LNK_RXQ_READ (R511): a read of its register. -/
def execLnkRxqRead (wr : Writer) (s : State) : Host.Outcome State Fault Refusal :=
  .next (s.cmd fun s => s.readRow Reg.LNK_RXQ wr)

/-- The command LNK_TXPOST (R512): a write of its register. -/
def execLnkTxpost (v : Word) (wr : Writer) (s : State) : Host.Outcome State Fault Refusal :=
  .next (s.cmd fun s => s.regRow Reg.LNK_TXPOST v wr)

/-- The command FRAME_TRANSMITTED (R513). -/
def execFrameTransmitted (s : State) : Host.Outcome State Fault Refusal :=
  .next (s.cmd fun s => s.frameTransmitted)

/-- The command BUS_OFF (R505). -/
def execBusOff (s : State) : Host.Outcome State Fault Refusal :=
  .next (s.cmd fun s => s.busOff)

/-- The command LNK_RECOVER (R505): a write of its register. -/
def execLnkRecover (v : Word) (wr : Writer) (s : State) : Host.Outcome State Fault Refusal :=
  .next (s.cmd fun s => s.regRow Reg.LNK_CTL v wr)

/-- The command BUSOFF_RECOVERY (R505). -/
def execBusoffRecovery (s : State) : Host.Outcome State Fault Refusal :=
  .next (s.cmd fun s => s.busoffRecovery)

/-- The command BUS_OWNERSHIP_CHANGE (R503). -/
def execBusOwnershipChange (s : State) : Host.Outcome State Fault Refusal :=
  .next (s.cmd fun s => s.ownershipChange)

/-- The command LKE_HEARTBEAT (R522). -/
def execLkeHeartbeat (s : State) : Host.Outcome State Fault Refusal :=
  .next (s.cmd fun s => s.lkeHeartbeat)

/-- The command CAN_CLOCK_READY (R503). -/
def execCanClockReady (s : State) : Host.Outcome State Fault Refusal :=
  .next (s.cmd fun s => s.canClockReady)

/-- The command CAN_BUS_ERROR (R505). -/
def execCanBusError (transmitting : Bool) (e : CanError) (s : State) : Host.Outcome State Fault Refusal :=
  .next (s.cmd fun s => s.canBusError transmitting e)

/-- The command CAN_PROTOCOL_EXCEPTION (R504). -/
def execCanProtocolException (s : State) : Host.Outcome State Fault Refusal :=
  .next (s.cmd fun s => s.canException)

/-- The command SLOT_FRAME_SENT (R513). -/
def execSlotFrameSent (slot : SlotKind) (s : State) : Host.Outcome State Fault Refusal :=
  .next (s.cmd fun s => s.slotSent slot)

end Sys2Proof.Machine
end

