-- ==== Sys2Proof/Machine/MeasRows.lean ====
section
/-!
DEFINITION. The measurement subsystem (chapter 13) and the safety function (chapter 14).
Each command by its row of the table.
-/
namespace Sys2Proof.Machine

/-- The command FRAME_PUBLISH (R392). -/
def execFramePublish (s : State) : Host.Outcome State Fault Refusal :=
  .next (s.cmd fun s => s.framePublish)

/-- The command MSR_RING_ENABLE (R391): a write of its register. -/
def execMsrRingEnable (v : Word) (wr : Writer) (s : State) : Host.Outcome State Fault Refusal :=
  .next (s.cmd fun s => s.regRow Reg.MSR_RINGCTL v wr)

/-- The command MSR_RINGREL (R393): a write of its register. -/
def execMsrRingrel (saddle : Bool) (v : Word) (wr : Writer) (s : State) : Host.Outcome State Fault Refusal :=
  .next (s.cmd fun s => s.regRow (if saddle then Reg.MSR_HRINGREL else Reg.MSR_RINGREL) v wr)

/-- The command FAST_TAP_UPDATE (R401). -/
def execFastTapUpdate (ch : Fin 48) (bits : BitVec 8) (s : State) : Host.Outcome State Fault Refusal :=
  .next (s.cmd fun s => s.fastTap ch.val bits)

/-- The command DRONE_SLOT (R403). -/
def execDroneSlot (d : DroneInput) (s : State) : Host.Outcome State Fault Refusal :=
  .next (s.cmd fun s => s.droneSlot d)

/-- The command REF_SAMPLE (R386): the reference is driven for 20 µs and held, which changes nothing a register or a
result shows. -/
def execRefSample (s : State) : Host.Outcome State Fault Refusal :=
  .next (s.cmd fun s => s)

/-- The command REFERENCE_SETTLED (R386). -/
def execReferenceSettled (s : State) : Host.Outcome State Fault Refusal :=
  .next (s.cmd fun s => s.referenceSettled)

/-- The command SENTINEL_RECORD (R407). -/
def execSentinelRecord (s : State) : Host.Outcome State Fault Refusal :=
  .next (s.cmd fun s => s.sentinelRecord)

/-- The command MSR_SENTREL (R407): a write of its register. -/
def execMsrSentrel (v : Word) (wr : Writer) (s : State) : Host.Outcome State Fault Refusal :=
  .next (s.cmd fun s => s.regRow Reg.MSR_SENTREL v wr)

/-- The command OUTPUT_REQUEST (R415): a write of its register. -/
def execOutputRequest (v : Word) (wr : Writer) (s : State) : Host.Outcome State Fault Refusal :=
  .next (s.cmd fun s => s.regRow Reg.SAF_OUTREQ v wr)

/-- The command SAFE_ACK (R424): a write of its register. -/
def execSafeAck (v : Word) (wr : Writer) (s : State) : Host.Outcome State Fault Refusal :=
  .next (s.cmd fun s => s.regRow Reg.SAF_ACK v wr)

/-- The command SAFE_CLEAR (R423): a write of its register. -/
def execSafeClear (v : Word) (wr : Writer) (s : State) : Host.Outcome State Fault Refusal :=
  .next (s.cmd fun s => s.regRow Reg.SAF_ACK v wr)

/-- The command FORCED_TRIP (R419): a write of its register. -/
def execForcedTrip (v : Word) (wr : Writer) (s : State) : Host.Outcome State Fault Refusal :=
  .next (s.cmd fun s => s.regRow Reg.SAF_TEST v wr)

/-- The command SAFETY_ESCALATION (R424). -/
def execSafetyEscalation (s : State) : Host.Outcome State Fault Refusal :=
  .next (s.cmd fun s => if s.escDue then s.escalate else s)

end Sys2Proof.Machine
end

