-- ==== Sys2Proof/Machine/PoolRows.lean ====
section
/-!
DEFINITION. The pool manager (chapter 11).
Each command by its row of the table.
-/
namespace Sys2Proof.Machine

/-- The command POOL_ENABLE (R329): a write of its register. -/
def execPoolEnable (v : Word) (wr : Writer) (s : State) : Host.Outcome State Fault Refusal :=
  .next (s.cmd fun s => s.regRow Reg.POOL_CTL v wr)

/-- The command POOL_INIT_DONE (R329). -/
def execPoolInitDone (s : State) : Host.Outcome State Fault Refusal :=
  .next (s.cmd fun s => s.poolInitDone)

/-- The command POOL_ALLOC (R334): a read of its register. -/
def execPoolAlloc (cls : Fin 4) (wr : Writer) (s : State) : Host.Outcome State Fault Refusal :=
  .next (s.cmd fun s => s.readRow (Reg.POOL_ALLOC cls.val) wr)

/-- The command POOL_FREE (R337): a write of its register. -/
def execPoolFree (v : Word) (wr : Writer) (s : State) : Host.Outcome State Fault Refusal :=
  .next (s.cmd fun s => s.regRow Reg.POOL_FREE v wr)

/-- The command POOL_RELEASE (R337): a write of its register. -/
def execPoolRelease (v : Word) (wr : Writer) (s : State) : Host.Outcome State Fault Refusal :=
  .next (s.cmd fun s => s.regRow Reg.POOL_RELEASE v wr)

/-- The command POOL_DONE (R337): a write of its register. -/
def execPoolDone (v : Word) (wr : Writer) (s : State) : Host.Outcome State Fault Refusal :=
  .next (s.cmd fun s => s.regRow Reg.POOL_DONE v wr)

/-- The command POOL_SHAREH (R338): a write of its register. -/
def execPoolShareh (v : Word) (wr : Writer) (s : State) : Host.Outcome State Fault Refusal :=
  .next (s.cmd fun s => s.regRow Reg.POOL_SHAREH v wr)

/-- The command POOL_SHARE (R338): a write of its register. -/
def execPoolShare (v : Word) (wr : Writer) (s : State) : Host.Outcome State Fault Refusal :=
  .next (s.cmd fun s => s.regRow Reg.POOL_SHARE v wr)

/-- The command POOL_THR_WRITE (R343): a write of its register. -/
def execPoolThrWrite (cls : Fin 4) (second : Bool) (v : Word) (wr : Writer) (s : State) : Host.Outcome State Fault Refusal :=
  .next (s.cmd fun s => s.regRow (if second then Reg.POOL_THRB cls.val else Reg.POOL_THRA cls.val) v wr)

/-- The command POOL_ERR_CLR (R347): a write of its register. -/
def execPoolErrClr (v : Word) (wr : Writer) (s : State) : Host.Outcome State Fault Refusal :=
  .next (s.cmd fun s => s.regRow Reg.POOL_ERRSTAT v wr)

end Sys2Proof.Machine
end

