-- ==== Sys2Proof/Machine/PowerRows.lean ====
section
/-!
DEFINITION. The power path, sleep and waking, and the domain sequencer (chapters 03 and 04).
Each command by its row of the table.
-/
namespace Sys2Proof.Machine

/-- The command SOURCE_INVALID (R56). -/
def execSourceInvalid (x : SupplySample) (s : State) : Host.Outcome State Fault Refusal :=
  .next (s.sampleRow x)

/-- The command SOURCE_VALID (R56). -/
def execSourceValid (x : SupplySample) (s : State) : Host.Outcome State Fault Refusal :=
  .next (s.sampleRow x)

/-- The command OVERLAP_END (R63). -/
def execOverlapEnd (s : State) : Host.Outcome State Fault Refusal :=
  .next (s.cmd fun s => s.overlapEnd)

/-- The command SETTLE_END (R64). -/
def execSettleEnd (s : State) : Host.Outcome State Fault Refusal :=
  .next (s.cmd fun s => s.settleEnd)

/-- The command SOURCE_RETURN_IN_SHUTDOWN (R76): it acts whatever the power state. -/
def execSourceReturnInShutdown (s : State) : Host.Outcome State Fault Refusal :=
  .next (s.always fun s => s.sourceReturn)

/-- The command OFF_EXIT (R79): it acts whatever the power state. -/
def execOffExit (x : SupplySample) (hcold : Bool) (s : State) : Host.Outcome State Fault Refusal :=
  .next (s.always fun s => s.offExit x hcold)

/-- The command HARVEST_SAMPLE (R69). -/
def execHarvestSample (mv vhin : Nat) (s : State) : Host.Outcome State Fault Refusal :=
  .next (s.cmd fun s => s.harvestSample mv vhin)

/-- The command BELLOWS_FULL (R67). -/
def execBellowsFull (s : State) : Host.Outcome State Fault Refusal :=
  .next (s.cmd fun s => s.bellowsFull)

/-- The command BELLOWS_RESUME (R67). -/
def execBellowsResume (s : State) : Host.Outcome State Fault Refusal :=
  .next (s.cmd fun s => s.bellowsResume)

/-- The command COLD_START_HANDOFF (R70): it acts whatever the power state. -/
def execColdStartHandoff (s : State) : Host.Outcome State Fault Refusal :=
  .next (s.always fun s => s.coldHandoff)

/-- The command HRV_THR_WRITE (R58): a write of its register. -/
def execHrvThrWrite (v : Word) (wr : Writer) (s : State) : Host.Outcome State Fault Refusal :=
  .next (s.cmd fun s => s.regRow Reg.HRV_THR v wr)

/-- The command HRV_CFG_WRITE (R58): a write of its register. -/
def execHrvCfgWrite (v : Word) (wr : Writer) (s : State) : Host.Outcome State Fault Refusal :=
  .next (s.cmd fun s => s.regRow Reg.HRV_CFG v wr)

/-- The command HRV_LEVEL_UPDATE (R85). -/
def execHrvLevelUpdate (vhin vmain vbel vbat : Nat) (s : State) : Host.Outcome State Fault Refusal :=
  .next (s.cmd fun s => s.hrvLevel ⟨vhin, vmain, vbel, vbat⟩)

/-- The command DEEP_ENTRY_COMMIT (R96). -/
def execDeepEntryCommit (s : State) : Host.Outcome State Fault Refusal :=
  .next (s.cmd fun s => s.deepCommit)

/-- The command WAKE_EVENT (R99). -/
def execWakeEvent (src : WakeSource) (s : State) : Host.Outcome State Fault Refusal :=
  .next (s.cmd fun s => s.wakeEvent src)

/-- The command STAGGER_STEP (R103). -/
def execStaggerStep (s : State) : Host.Outcome State Fault Refusal :=
  .next (s.cmd fun s => s.staggerStep)

/-- The command DOMAIN_USABLE (R109). -/
def execDomainUsable (d : Domain) (s : State) : Host.Outcome State Fault Refusal :=
  .next (s.cmd fun s => s.domUsable d)

/-- The command POWER_DOWN_START (R108): a write of its register. -/
def execPowerDownStart (v : Word) (wr : Writer) (s : State) : Host.Outcome State Fault Refusal :=
  .next (s.cmd fun s => s.regRow Reg.PWR_DOMCTL v wr)

/-- The command POWER_DOWN_DONE (R108). -/
def execPowerDownDone (d : Domain) (s : State) : Host.Outcome State Fault Refusal :=
  .next (s.cmd fun s => s.downDone d)

/-- The command PWR_DOMCTL_SET (R110): a write of its register. -/
def execPwrDomctlSet (v : Word) (wr : Writer) (s : State) : Host.Outcome State Fault Refusal :=
  .next (s.cmd fun s => s.regRow Reg.PWR_DOMCTL v wr)

/-- The command GPIO_WAKE_EDGE (R100). -/
def execGpioWakeEdge (pin : Fin 4) (drive : BoardDrive) (s : State) : Host.Outcome State Fault Refusal :=
  .next (s.cmd fun s => s.gpioWakeEdge pin drive)

/-- The command WAKE_KEY_SCAN (R101). -/
def execWakeKeyScan (count : Nat) (s : State) : Host.Outcome State Fault Refusal :=
  .next (s.cmd fun s => s.wakeKeyScan count)

end Sys2Proof.Machine
end

