-- ==== Sys2Proof/Machine/StitchRows.lean ====
section
/-!
DEFINITION. The Stitch engine (chapter 10).
Each command by its row of the table.
-/
namespace Sys2Proof.Machine

/-- The command STC_RUN (R312): a write of its register. -/
def execStcRun (v : Word) (wr : Writer) (s : State) : Host.Outcome State Fault Refusal :=
  .next (s.cmd fun s => s.regRow Reg.STC_CMD v wr)

/-- The command STC_SWAP (R315): a write of its register. -/
def execStcSwap (v : Word) (wr : Writer) (s : State) : Host.Outcome State Fault Refusal :=
  .next (s.cmd fun s => s.regRow Reg.STC_CMD v wr)

/-- The command STC_RETURN (R320): a write of its register. -/
def execStcReturn (v : Word) (wr : Writer) (s : State) : Host.Outcome State Fault Refusal :=
  .next (s.cmd fun s => s.regRow Reg.STC_CMD v wr)

/-- The command STC_ABORT (R321): a write of its register. -/
def execStcAbort (v : Word) (wr : Writer) (s : State) : Host.Outcome State Fault Refusal :=
  .next (s.cmd fun s => s.regRow Reg.STC_CMD v wr)

/-- The command STC_XCHG (R314): a write of its register. -/
def execStcXchg (v : Word) (wr : Writer) (s : State) : Host.Outcome State Fault Refusal :=
  .next (s.cmd fun s => s.regRow Reg.STC_CMD v wr)

/-- The command STC_RUN_DONE (R311). -/
def execStcRunDone (r : MarchResult) (s : State) : Host.Outcome State Fault Refusal :=
  .next (s.cmd fun s => s.stcRunDone r)

/-- The command STC_REPAIR_DONE (R304). -/
def execStcRepairDone (s : State) : Host.Outcome State Fault Refusal :=
  .next (s.cmd fun s => s.stcRepairDone)

/-- The command SWAP_PRETEST_DONE (R315). -/
def execSwapPretestDone (r : MarchResult) (s : State) : Host.Outcome State Fault Refusal :=
  .next (s.cmd fun s => s.swapPretestDone r)

/-- The command COPY_BEAT (R316). -/
def execCopyBeat (s : State) : Host.Outcome State Fault Refusal :=
  .next (s.cmd fun s => s.copyBeat)

/-- The command SWAP_FLIP (R318). -/
def execSwapFlip (s : State) : Host.Outcome State Fault Refusal :=
  .next (s.cmd fun s => s.swapFlip)

/-- The command SWAP_TEST_DONE (R315). -/
def execSwapTestDone (r : MarchResult) (s : State) : Host.Outcome State Fault Refusal :=
  .next (s.cmd fun s => s.swapTestDone r)

/-- The command SWAP_KEEP_DONE (R315). -/
def execSwapKeepDone (s : State) : Host.Outcome State Fault Refusal :=
  .next (s.cmd fun s => s.swapKeepDone)

/-- The command SCRUB_READ (R323). -/
def execScrubRead (s : State) : Host.Outcome State Fault Refusal :=
  .next (s.cmd fun s => s.scrubRead)

/-- The command STC_ECC_CLR (R299): a write of its register. -/
def execStcEccClr (v : Word) (wr : Writer) (s : State) : Host.Outcome State Fault Refusal :=
  .next (s.cmd fun s => s.regRow Reg.STC_ECCCTL v wr)

end Sys2Proof.Machine
end

