-- ==== Sys2Proof/Machine/TenantRows.lean ====
section
/-!
DEFINITION. Tenants and the virtual interrupt router (chapters 12 and 21).
Each command by its row of the table.
-/
namespace Sys2Proof.Machine

/-- The command TEN_ENABLE (R355): a write of its register. -/
def execTenEnable (v : Word) (wr : Writer) (s : State) : Host.Outcome State Fault Refusal :=
  .next (s.cmd fun s => s.regRow Reg.TEN_CTL v wr)

/-- The command TEN_INIT_DONE (R355). -/
def execTenInitDone (s : State) : Host.Outcome State Fault Refusal :=
  .next (s.cmd fun s => s.tenInitDone)

/-- The command TEN_RECORD_WRITE (R356): a write of its register. -/
def execTenRecordWrite (t : Fin 1024) (k : Fin 8) (v : Word) (wr : Writer) (s : State) : Host.Outcome State Fault Refusal :=
  .next (s.cmd fun s => s.regRow (0x20100000 + 32 * t.val + 4 * k.val) v wr)

/-- The command TEN_CREATE (R359): a write of its register. -/
def execTenCreate (v : Word) (wr : Writer) (s : State) : Host.Outcome State Fault Refusal :=
  .next (s.cmd fun s => s.regRow Reg.TEN_CMD v wr)

/-- The command TEN_SUSPEND (R359): a write of its register. -/
def execTenSuspend (v : Word) (wr : Writer) (s : State) : Host.Outcome State Fault Refusal :=
  .next (s.cmd fun s => s.regRow Reg.TEN_CMD v wr)

/-- The command TEN_RESUME (R359): a write of its register. -/
def execTenResume (v : Word) (wr : Writer) (s : State) : Host.Outcome State Fault Refusal :=
  .next (s.cmd fun s => s.regRow Reg.TEN_CMD v wr)

/-- The command TEN_FAULT (R362): a write of its register. -/
def execTenFault (v : Word) (wr : Writer) (s : State) : Host.Outcome State Fault Refusal :=
  .next (s.cmd fun s => s.regRow Reg.TEN_CMD v wr)

/-- The command TEN_RESET (R370): a write of its register. -/
def execTenReset (v : Word) (wr : Writer) (s : State) : Host.Outcome State Fault Refusal :=
  .next (s.cmd fun s => s.regRow Reg.TEN_CMD v wr)

/-- The command TEN_REMOVE (R370): a write of its register. -/
def execTenRemove (v : Word) (wr : Writer) (s : State) : Host.Outcome State Fault Refusal :=
  .next (s.cmd fun s => s.regRow Reg.TEN_CMD v wr)

/-- The command TENANT_RESET_DRAINED (R370). -/
def execTenantResetDrained (s : State) : Host.Outcome State Fault Refusal :=
  .next (s.cmd fun s => s.tenDrained)

/-- The command TENANT_RESET_STOPPED (R371). -/
def execTenantResetStopped (s : State) : Host.Outcome State Fault Refusal :=
  .next (s.cmd fun s => s.tenStopped)

/-- The command POOL_TENANT_SCAN (R349). -/
def execPoolTenantScan (s : State) : Host.Outcome State Fault Refusal :=
  .next (s.cmd fun s => s.tenScan)

/-- The command ZEROISE_BEAT (R373). -/
def execZeroiseBeat (s : State) : Host.Outcome State Fault Refusal :=
  .next (s.cmd fun s => s.zeroiseBeat)

/-- The command TENANT_RESET_DONE (R370). -/
def execTenantResetDone (s : State) : Host.Outcome State Fault Refusal :=
  .next (s.cmd fun s => s.tenResetDone)

/-- The command VIR_ROUTE_WRITE (R364): a write of its register. -/
def execVirRouteWrite (n : Fin 128) (v : Word) (wr : Writer) (s : State) : Host.Outcome State Fault Refusal :=
  .next (s.cmd fun s => s.regRow (Reg.VIR_ROUTE n.val) v wr)

/-- The command VIR_INJECT (R366): a write of its register. -/
def execVirInject (v : Word) (wr : Writer) (s : State) : Host.Outcome State Fault Refusal :=
  .next (s.cmd fun s => s.regRow Reg.VIR_INJECT v wr)

end Sys2Proof.Machine
end

