-- ==== Sys2Proof/Machine/TimeRows.lean ====
section
/-!
DEFINITION. The timebase, the watchdog, the clocks, the RTC and the system timer (chapters 02 and 06).
Each command by its row of the table.
-/
namespace Sys2Proof.Machine

/-- The command BRT_DONE_WRITE (R38): a write of its register. -/
def execBrtDoneWrite (v : Word) (wr : Writer) (s : State) : Host.Outcome State Fault Refusal :=
  .next (s.cmd fun s => s.regRow Reg.BRT_DONE v wr)

/-- The command MAINS_CROSSING (R30). -/
def execMainsCrossing (ticks : Nat) (s : State) : Host.Outcome State Fault Refusal :=
  .next (s.cmd fun s => (s.advanceTicks ticks).crossing)

/-- The command MAINS_MISS (R33). -/
def execMainsMiss (ticks : Nat) (s : State) : Host.Outcome State Fault Refusal :=
  .next (s.cmd fun s => (s.advanceTicks ticks).missTimer)

/-- The command LXO_STOP (R45). -/
def execLxoStop (ticks : Nat) (s : State) : Host.Outcome State Fault Refusal :=
  .next (s.cmd fun s => (s.advanceTicks ticks).lxoStop)

/-- The command LXO_RESTART (R43). -/
def execLxoRestart (s : State) : Host.Outcome State Fault Refusal :=
  .next (s.cmd fun s => s.lxoRestart)

/-- The command MONITOR_WINDOW_END (R46). -/
def execMonitorWindowEnd (win hfo lrc : Nat) (onLxo : Bool) (s : State) : Host.Outcome State Fault Refusal :=
  .next (s.cmd fun s => s.monitorWindow win hfo lrc onLxo)

/-- The command CLK_OP_WRITE (R47): a write of its register. -/
def execClkOpWrite (v : Word) (wr : Writer) (s : State) : Host.Outcome State Fault Refusal :=
  .next (s.cmd fun s => s.regRow Reg.CLK_OP v wr)

/-- The command OP_CHANGE_DONE (R48). -/
def execOpChangeDone (s : State) : Host.Outcome State Fault Refusal :=
  .next (s.cmd fun s => s.opChangeDone)

/-- The command RTC_SUB_READ (R50): a read of its register. -/
def execRtcSubRead (wr : Writer) (s : State) : Host.Outcome State Fault Refusal :=
  .next (s.cmd fun s => s.readRow Reg.RTC_SUB wr)

/-- The command RTC_SEC_WRITE (R50): a write of its register. -/
def execRtcSecWrite (v : Word) (wr : Writer) (s : State) : Host.Outcome State Fault Refusal :=
  .next (s.cmd fun s => s.regRow Reg.RTC_SEC v wr)

/-- The command RTC_SECOND (R50). -/
def execRtcSecond (s : State) : Host.Outcome State Fault Refusal :=
  .next (s.cmd fun s => s.rtcSecond)

/-- The command RTC_TRIM (R51). -/
def execRtcTrim (s : State) : Host.Outcome State Fault Refusal :=
  .next (s.cmd fun s => s.rtcTrim)

/-- The command STM_MATCH (R190). -/
def execStmMatch (us : Nat) (s : State) : Host.Outcome State Fault Refusal :=
  .next (s.cmd fun s => s.stmAdvance us)

/-- The command STM_CNTLO_READ (R190): a read of its register. -/
def execStmCntloRead (wr : Writer) (s : State) : Host.Outcome State Fault Refusal :=
  .next (s.cmd fun s => s.readRow Reg.STM_CNTLO wr)

/-- The command STM_CMPHI_WRITE (R190): a write of its register. -/
def execStmCmphiWrite (v : Word) (wr : Writer) (s : State) : Host.Outcome State Fault Refusal :=
  .next (s.cmd fun s => s.regRow Reg.STM_CMPHI v wr)

/-- The command EIC_SWSET_WRITE (R182): a write of its register. -/
def execEicSwsetWrite (v : Word) (wr : Writer) (s : State) : Host.Outcome State Fault Refusal :=
  .next (s.cmd fun s => s.regRow Reg.EIC_SWSET v wr)

/-- The command EIC_SWCLR_WRITE (R182): a write of its register. -/
def execEicSwclrWrite (v : Word) (wr : Writer) (s : State) : Host.Outcome State Fault Refusal :=
  .next (s.cmd fun s => s.regRow Reg.EIC_SWCLR v wr)

end Sys2Proof.Machine
end

