-- ==== Sys2Proof/Machine/Dispatch.lean ====
section
/-!
DEFINITION. One arm per command, each a direct call of its meaning.
-/
namespace Sys2Proof.Machine

/-- The effect of a command on everything but the queue. -/
def exec (i : Instr) (s : State) : Host.Outcome State Fault Refusal :=
  match i with
  | .cycleBoundary b => Sys2Proof.Machine.execCycleBoundary b s
  | .breathBoundary ticks sfb => Sys2Proof.Machine.execBreathBoundary ticks sfb s
  | .brtDoneWrite v wr => Sys2Proof.Machine.execBrtDoneWrite v wr s
  | .mainsCrossing ticks => Sys2Proof.Machine.execMainsCrossing ticks s
  | .mainsMiss ticks => Sys2Proof.Machine.execMainsMiss ticks s
  | .lxoStop ticks => Sys2Proof.Machine.execLxoStop ticks s
  | .monitorWindowEnd win hfo lrc onLxo => Sys2Proof.Machine.execMonitorWindowEnd win hfo lrc onLxo s
  | .clkOpWrite v wr => Sys2Proof.Machine.execClkOpWrite v wr s
  | .opChangeDone => Sys2Proof.Machine.execOpChangeDone s
  | .rtcSubRead wr => Sys2Proof.Machine.execRtcSubRead wr s
  | .rtcSecWrite v wr => Sys2Proof.Machine.execRtcSecWrite v wr s
  | .rtcSecond => Sys2Proof.Machine.execRtcSecond s
  | .rtcTrim => Sys2Proof.Machine.execRtcTrim s
  | .sourceInvalid x => Sys2Proof.Machine.execSourceInvalid x s
  | .sourceValid x => Sys2Proof.Machine.execSourceValid x s
  | .overlapEnd => Sys2Proof.Machine.execOverlapEnd s
  | .settleEnd => Sys2Proof.Machine.execSettleEnd s
  | .sourceReturnInShutdown => Sys2Proof.Machine.execSourceReturnInShutdown s
  | .offExit x hcold => Sys2Proof.Machine.execOffExit x hcold s
  | .harvestSample mv vhin => Sys2Proof.Machine.execHarvestSample mv vhin s
  | .bellowsFull => Sys2Proof.Machine.execBellowsFull s
  | .bellowsResume => Sys2Proof.Machine.execBellowsResume s
  | .coldStartHandoff => Sys2Proof.Machine.execColdStartHandoff s
  | .hrvThrWrite v wr => Sys2Proof.Machine.execHrvThrWrite v wr s
  | .hrvCfgWrite v wr => Sys2Proof.Machine.execHrvCfgWrite v wr s
  | .hrvLevelUpdate vhin vmain vbel vbat => Sys2Proof.Machine.execHrvLevelUpdate vhin vmain vbel vbat s
  | .deepEntryCommit => Sys2Proof.Machine.execDeepEntryCommit s
  | .wakeEvent src => Sys2Proof.Machine.execWakeEvent src s
  | .staggerStep => Sys2Proof.Machine.execStaggerStep s
  | .domainUsable d => Sys2Proof.Machine.execDomainUsable d s
  | .powerDownStart v wr => Sys2Proof.Machine.execPowerDownStart v wr s
  | .powerDownDone d => Sys2Proof.Machine.execPowerDownDone d s
  | .gpioWakeEdge pin drive => Sys2Proof.Machine.execGpioWakeEdge pin drive s
  | .wakeKeyScan count => Sys2Proof.Machine.execWakeKeyScan count s
  | .nresetAssert ns => Sys2Proof.Machine.execNresetAssert ns s
  | .nresetRelease => Sys2Proof.Machine.execNresetRelease s
  | .rstSysrst v wr => Sys2Proof.Machine.execRstSysrst v wr s
  | .rstDomrst v wr => Sys2Proof.Machine.execRstDomrst v wr s
  | .systemReset => Sys2Proof.Machine.execSystemReset s
  | .bootColdMats r => Sys2Proof.Machine.execBootColdMats r s
  | .lifecycleRequest v wr => Sys2Proof.Machine.execLifecycleRequest v wr s
  | .challengeReady => Sys2Proof.Machine.execChallengeReady s
  | .lcsResponseWrite v wr => Sys2Proof.Machine.execLcsResponseWrite v wr s
  | .challengeCheckDone => Sys2Proof.Machine.execChallengeCheckDone s
  | .challengeExpiry => Sys2Proof.Machine.execChallengeExpiry s
  | .lockoutEnd => Sys2Proof.Machine.execLockoutEnd s
  | .journalWrite => Sys2Proof.Machine.execJournalWrite s
  | .keyLoad v wr => Sys2Proof.Machine.execKeyLoad v wr s
  | .keyLoadDone => Sys2Proof.Machine.execKeyLoadDone s
  | .lockstepMismatch => Sys2Proof.Machine.execLockstepMismatch s
  | .interruptEntry => Sys2Proof.Machine.execInterruptEntry s
  | .safetyNmi => Sys2Proof.Machine.execSafetyNmi s
  | .tenantExceptionEntry => Sys2Proof.Machine.execTenantExceptionEntry s
  | .tenantNotReadyExit => Sys2Proof.Machine.execTenantNotReadyExit s
  | .stmMatch us => Sys2Proof.Machine.execStmMatch us s
  | .stmCntloRead wr => Sys2Proof.Machine.execStmCntloRead wr s
  | .stmCmphiWrite v wr => Sys2Proof.Machine.execStmCmphiWrite v wr s
  | .eicSwsetWrite v wr => Sys2Proof.Machine.execEicSwsetWrite v wr s
  | .eicSwclrWrite v wr => Sys2Proof.Machine.execEicSwclrWrite v wr s
  | .nop => Sys2Proof.Machine.execNop s
  | .wcall svc => Sys2Proof.Machine.execWcall svc s
  | .wret => Sys2Proof.Machine.execWret s
  | .wfi => Sys2Proof.Machine.execWfi s
  | .brk code => Sys2Proof.Machine.execBrk code s
  | .csrr rd csr => Sys2Proof.Machine.execCsrr rd csr s
  | .csrw csr ra => Sys2Proof.Machine.execCsrw csr ra s
  | .csrs csr ra => Sys2Proof.Machine.execCsrs csr ra s
  | .csrc csr ra => Sys2Proof.Machine.execCsrc csr ra s
  | .add rd ra rb => Sys2Proof.Machine.execAdd rd ra rb s
  | .adc rd ra rb => Sys2Proof.Machine.execAdc rd ra rb s
  | .sub rd ra rb => Sys2Proof.Machine.execSub rd ra rb s
  | .sbc rd ra rb => Sys2Proof.Machine.execSbc rd ra rb s
  | .neg rd ra => Sys2Proof.Machine.execNeg rd ra s
  | .addsat rd ra rb => Sys2Proof.Machine.execAddsat rd ra rb s
  | .subsat rd ra rb => Sys2Proof.Machine.execSubsat rd ra rb s
  | .mul rd ra rb => Sys2Proof.Machine.execMul rd ra rb s
  | .mulhs rd ra rb => Sys2Proof.Machine.execMulhs rd ra rb s
  | .mulhu rd ra rb => Sys2Proof.Machine.execMulhu rd ra rb s
  | .divs rd ra rb rc => Sys2Proof.Machine.execDivs rd ra rb rc s
  | .divu rd ra rb rc => Sys2Proof.Machine.execDivu rd ra rb rc s
  | .clz rd ra => Sys2Proof.Machine.execClz rd ra s
  | .mins rd ra rb => Sys2Proof.Machine.execMins rd ra rb s
  | .maxs rd ra rb => Sys2Proof.Machine.execMaxs rd ra rb s
  | .minu rd ra rb => Sys2Proof.Machine.execMinu rd ra rb s
  | .maxu rd ra rb => Sys2Proof.Machine.execMaxu rd ra rb s
  | .addi rd ra imm => Sys2Proof.Machine.execAddi rd ra imm s
  | .rsbi rd ra imm => Sys2Proof.Machine.execRsbi rd ra imm s
  | .and rd ra rb => Sys2Proof.Machine.execAnd rd ra rb s
  | .or rd ra rb => Sys2Proof.Machine.execOr rd ra rb s
  | .xor rd ra rb => Sys2Proof.Machine.execXor rd ra rb s
  | .andn rd ra rb => Sys2Proof.Machine.execAndn rd ra rb s
  | .not rd ra => Sys2Proof.Machine.execNot rd ra s
  | .andi rd ra imm => Sys2Proof.Machine.execAndi rd ra imm s
  | .ori rd ra imm => Sys2Proof.Machine.execOri rd ra imm s
  | .xori rd ra imm => Sys2Proof.Machine.execXori rd ra imm s
  | .lsl rd ra rb => Sys2Proof.Machine.execLsl rd ra rb s
  | .lsr rd ra rb => Sys2Proof.Machine.execLsr rd ra rb s
  | .asr rd ra rb => Sys2Proof.Machine.execAsr rd ra rb s
  | .ror rd ra rb => Sys2Proof.Machine.execRor rd ra rb s
  | .lsli rd ra n => Sys2Proof.Machine.execLsli rd ra n s
  | .lsri rd ra n => Sys2Proof.Machine.execLsri rd ra n s
  | .asri rd ra n => Sys2Proof.Machine.execAsri rd ra n s
  | .rori rd ra n => Sys2Proof.Machine.execRori rd ra n s
  | .bset rd ra b => Sys2Proof.Machine.execBset rd ra b s
  | .bclr rd ra b => Sys2Proof.Machine.execBclr rd ra b s
  | .btst ra b => Sys2Proof.Machine.execBtst ra b s
  | .bext rd ra pos w sgn => Sys2Proof.Machine.execBext rd ra pos w sgn s
  | .bins rd ra pos w => Sys2Proof.Machine.execBins rd ra pos w s
  | .cmp ra rb => Sys2Proof.Machine.execCmp ra rb s
  | .cmn ra rb => Sys2Proof.Machine.execCmn ra rb s
  | .tst ra rb => Sys2Proof.Machine.execTst ra rb s
  | .mov rd ra => Sys2Proof.Machine.execMov rd ra s
  | .cmpi ra imm => Sys2Proof.Machine.execCmpi ra imm s
  | .movi rd imm => Sys2Proof.Machine.execMovi rd imm s
  | .movhi rd imm => Sys2Proof.Machine.execMovhi rd imm s
  | .adr rd off => Sys2Proof.Machine.execAdr rd off s
  | .ldw rd ra off => Sys2Proof.Machine.execLdw rd ra off s
  | .ldh rd ra off => Sys2Proof.Machine.execLdh rd ra off s
  | .ldhu rd ra off => Sys2Proof.Machine.execLdhu rd ra off s
  | .ldb rd ra off => Sys2Proof.Machine.execLdb rd ra off s
  | .ldbu rd ra off => Sys2Proof.Machine.execLdbu rd ra off s
  | .ldd rd ra off => Sys2Proof.Machine.execLdd rd ra off s
  | .stw rd ra off => Sys2Proof.Machine.execStw rd ra off s
  | .sth rd ra off => Sys2Proof.Machine.execSth rd ra off s
  | .stb rd ra off => Sys2Proof.Machine.execStb rd ra off s
  | .std rd ra off => Sys2Proof.Machine.execStd rd ra off s
  | .pushm mask => Sys2Proof.Machine.execPushm mask s
  | .popm mask => Sys2Proof.Machine.execPopm mask s
  | .lrsv rd ra => Sys2Proof.Machine.execLrsv rd ra s
  | .scnd rd rb ra => Sys2Proof.Machine.execScnd rd rb ra s
  | .amoadd rd rb ra => Sys2Proof.Machine.execAmoadd rd rb ra s
  | .amoswp rd rb ra => Sys2Proof.Machine.execAmoswp rd rb ra s
  | .barW => Sys2Proof.Machine.execBarW s
  | .barRw => Sys2Proof.Machine.execBarRw s
  | .barIo => Sys2Proof.Machine.execBarIo s
  | .barSync => Sys2Proof.Machine.execBarSync s
  | .bcc cond off => Sys2Proof.Machine.execBcc cond off s
  | .cbz rt off => Sys2Proof.Machine.execCbz rt off s
  | .cbnz rt off => Sys2Proof.Machine.execCbnz rt off s
  | .bl off => Sys2Proof.Machine.execBl off s
  | .blr ra => Sys2Proof.Machine.execBlr ra s
  | .jr ra => Sys2Proof.Machine.execJr ra s
  | .registerWrite addr v wr => Sys2Proof.Machine.execRegisterWrite addr v wr s
  | .postedStoreIssue k => Sys2Proof.Machine.execPostedStoreIssue k s
  | .ictErrpop v wr => Sys2Proof.Machine.execIctErrpop v wr s
  | .nvmWordWrite => Sys2Proof.Machine.execNvmWordWrite s
  | .scndGuardExpiry => Sys2Proof.Machine.execScndGuardExpiry s
  | .dmaStart ch v wr => Sys2Proof.Machine.execDmaStart ch v wr s
  | .dmaAbort ch v wr => Sys2Proof.Machine.execDmaAbort ch v wr s
  | .dmaDescFetch ch => Sys2Proof.Machine.execDmaDescFetch ch s
  | .dmaCopy ch => Sys2Proof.Machine.execDmaCopy ch s
  | .dmaFill ch => Sys2Proof.Machine.execDmaFill ch s
  | .dmaAmoadd ch => Sys2Proof.Machine.execDmaAmoadd ch s
  | .dmaAmoswp ch => Sys2Proof.Machine.execDmaAmoswp ch s
  | .dmaAlloc ch => Sys2Proof.Machine.execDmaAlloc ch s
  | .dmaBeat => Sys2Proof.Machine.execDmaBeat s
  | .dmaWaitpoolRetry ch => Sys2Proof.Machine.execDmaWaitpoolRetry ch s
  | .dmaDescComplete ch => Sys2Proof.Machine.execDmaDescComplete ch s
  | .gpioEdge pin x => Sys2Proof.Machine.execGpioEdge pin x s
  | .gateRuleCommit gate entry v wr => Sys2Proof.Machine.execGateRuleCommit gate entry v wr s
  | .gtcLockg3 v wr => Sys2Proof.Machine.execGtcLockg3 v wr s
  | .gateVcntClr gate v wr => Sys2Proof.Machine.execGateVcntClr gate v wr s
  | .gateCrcDone => Sys2Proof.Machine.execGateCrcDone s
  | .stcRun v wr => Sys2Proof.Machine.execStcRun v wr s
  | .stcSwap v wr => Sys2Proof.Machine.execStcSwap v wr s
  | .stcReturn v wr => Sys2Proof.Machine.execStcReturn v wr s
  | .stcAbort v wr => Sys2Proof.Machine.execStcAbort v wr s
  | .stcXchg v wr => Sys2Proof.Machine.execStcXchg v wr s
  | .stcRunDone r => Sys2Proof.Machine.execStcRunDone r s
  | .stcRepairDone => Sys2Proof.Machine.execStcRepairDone s
  | .swapPretestDone r => Sys2Proof.Machine.execSwapPretestDone r s
  | .copyBeat => Sys2Proof.Machine.execCopyBeat s
  | .swapFlip => Sys2Proof.Machine.execSwapFlip s
  | .swapTestDone r => Sys2Proof.Machine.execSwapTestDone r s
  | .swapKeepDone => Sys2Proof.Machine.execSwapKeepDone s
  | .scrubRead => Sys2Proof.Machine.execScrubRead s
  | .stcEccClr v wr => Sys2Proof.Machine.execStcEccClr v wr s
  | .poolEnable v wr => Sys2Proof.Machine.execPoolEnable v wr s
  | .poolInitDone => Sys2Proof.Machine.execPoolInitDone s
  | .poolAlloc cls wr => Sys2Proof.Machine.execPoolAlloc cls wr s
  | .poolFree v wr => Sys2Proof.Machine.execPoolFree v wr s
  | .poolRelease v wr => Sys2Proof.Machine.execPoolRelease v wr s
  | .poolDone v wr => Sys2Proof.Machine.execPoolDone v wr s
  | .poolShareh v wr => Sys2Proof.Machine.execPoolShareh v wr s
  | .poolShare v wr => Sys2Proof.Machine.execPoolShare v wr s
  | .poolThrWrite cls second v wr => Sys2Proof.Machine.execPoolThrWrite cls second v wr s
  | .poolErrClr v wr => Sys2Proof.Machine.execPoolErrClr v wr s
  | .tenEnable v wr => Sys2Proof.Machine.execTenEnable v wr s
  | .tenInitDone => Sys2Proof.Machine.execTenInitDone s
  | .tenRecordWrite t k v wr => Sys2Proof.Machine.execTenRecordWrite t k v wr s
  | .tenCreate v wr => Sys2Proof.Machine.execTenCreate v wr s
  | .tenSuspend v wr => Sys2Proof.Machine.execTenSuspend v wr s
  | .tenResume v wr => Sys2Proof.Machine.execTenResume v wr s
  | .tenFault v wr => Sys2Proof.Machine.execTenFault v wr s
  | .tenReset v wr => Sys2Proof.Machine.execTenReset v wr s
  | .tenRemove v wr => Sys2Proof.Machine.execTenRemove v wr s
  | .tenantResetDrained => Sys2Proof.Machine.execTenantResetDrained s
  | .tenantResetStopped => Sys2Proof.Machine.execTenantResetStopped s
  | .poolTenantScan => Sys2Proof.Machine.execPoolTenantScan s
  | .zeroiseBeat => Sys2Proof.Machine.execZeroiseBeat s
  | .tenantResetDone => Sys2Proof.Machine.execTenantResetDone s
  | .virRouteWrite n v wr => Sys2Proof.Machine.execVirRouteWrite n v wr s
  | .virInject v wr => Sys2Proof.Machine.execVirInject v wr s
  | .framePublish => Sys2Proof.Machine.execFramePublish s
  | .msrRingEnable v wr => Sys2Proof.Machine.execMsrRingEnable v wr s
  | .msrRingrel saddle v wr => Sys2Proof.Machine.execMsrRingrel saddle v wr s
  | .fastTapUpdate ch bits => Sys2Proof.Machine.execFastTapUpdate ch bits s
  | .droneSlot d => Sys2Proof.Machine.execDroneSlot d s
  | .refSample => Sys2Proof.Machine.execRefSample s
  | .sentinelRecord => Sys2Proof.Machine.execSentinelRecord s
  | .msrSentrel v wr => Sys2Proof.Machine.execMsrSentrel v wr s
  | .outputRequest v wr => Sys2Proof.Machine.execOutputRequest v wr s
  | .supplyMonitorFault m => Sys2Proof.Machine.execSupplyMonitorFault m s
  | .safeAck v wr => Sys2Proof.Machine.execSafeAck v wr s
  | .safeClear v wr => Sys2Proof.Machine.execSafeClear v wr s
  | .forcedTrip v wr => Sys2Proof.Machine.execForcedTrip v wr s
  | .safetyEscalation => Sys2Proof.Machine.execSafetyEscalation s
  | .touchBurst tx counts => Sys2Proof.Machine.execTouchBurst tx counts s
  | .touchRawBeat => Sys2Proof.Machine.execTouchRawBeat s
  | .touchEnable v wr => Sys2Proof.Machine.execTouchEnable v wr s
  | .keyConfigWrite key thr v wr => Sys2Proof.Machine.execKeyConfigWrite key thr v wr s
  | .tchBurstWrite v wr => Sys2Proof.Machine.execTchBurstWrite v wr s
  | .tchRawEnable v wr => Sys2Proof.Machine.execTchRawEnable v wr s
  | .rowSlot => Sys2Proof.Machine.execRowSlot s
  | .fbRowRead late => Sys2Proof.Machine.execFbRowRead late s
  | .quietSlot => Sys2Proof.Machine.execQuietSlot s
  | .catchup => Sys2Proof.Machine.execCatchup s
  | .panelEnable v wr => Sys2Proof.Machine.execPanelEnable v wr s
  | .ledgerWindowWrite px v wr => Sys2Proof.Machine.execLedgerWindowWrite px v wr s
  | .ledgerInit v wr => Sys2Proof.Machine.execLedgerInit v wr s
  | .ledgerInitDone => Sys2Proof.Machine.execLedgerInitDone s
  | .ledgerMark v wr => Sys2Proof.Machine.execLedgerMark v wr s
  | .maxbalRead wr => Sys2Proof.Machine.execMaxbalRead wr s
  | .vpanelSoftStart => Sys2Proof.Machine.execVpanelSoftStart s
  | .vpanelReady => Sys2Proof.Machine.execVpanelReady s
  | .vpanelShort cut => Sys2Proof.Machine.execVpanelShort cut s
  | .vpanelRetry => Sys2Proof.Machine.execVpanelRetry s
  | .vpanelRetriesReset => Sys2Proof.Machine.execVpanelRetriesReset s
  | .vpanelLatchClear v wr => Sys2Proof.Machine.execVpanelLatchClear v wr s
  | .dgsClaim v wr => Sys2Proof.Machine.execDgsClaim v wr s
  | .dgsRelease v wr => Sys2Proof.Machine.execDgsRelease v wr s
  | .dgsStart v wr => Sys2Proof.Machine.execDgsStart v wr s
  | .dgsFinish v wr => Sys2Proof.Machine.execDgsFinish v wr s
  | .dgsAbort v wr => Sys2Proof.Machine.execDgsAbort v wr s
  | .dgsCompare v wr => Sys2Proof.Machine.execDgsCompare v wr s
  | .dgsDinWrite ctx v wr => Sys2Proof.Machine.execDgsDinWrite ctx v wr s
  | .dgsLastWrite ctx count v wr => Sys2Proof.Machine.execDgsLastWrite ctx count v wr s
  | .dgsCompression => Sys2Proof.Machine.execDgsCompression s
  | .dgsListStart v wr => Sys2Proof.Machine.execDgsListStart v wr s
  | .dgsListEntry => Sys2Proof.Machine.execDgsListEntry s
  | .canFrameReceived f => Sys2Proof.Machine.execCanFrameReceived f s
  | .ringExamine => Sys2Proof.Machine.execRingExamine s
  | .lkeResponseSend => Sys2Proof.Machine.execLkeResponseSend s
  | .canDmaMove => Sys2Proof.Machine.execCanDmaMove s
  | .lnkRxqRead wr => Sys2Proof.Machine.execLnkRxqRead wr s
  | .lnkTxpost v wr => Sys2Proof.Machine.execLnkTxpost v wr s
  | .frameTransmitted => Sys2Proof.Machine.execFrameTransmitted s
  | .busOff => Sys2Proof.Machine.execBusOff s
  | .lnkRecover v wr => Sys2Proof.Machine.execLnkRecover v wr s
  | .busoffRecovery => Sys2Proof.Machine.execBusoffRecovery s
  | .busOwnershipChange => Sys2Proof.Machine.execBusOwnershipChange s
  | .lkeHeartbeat => Sys2Proof.Machine.execLkeHeartbeat s
  | .hdpLineReset => Sys2Proof.Machine.execHdpLineReset s
  | .hdpRd ap addr q => Sys2Proof.Machine.execHdpRd ap addr q s
  | .hdpWr ap addr v q => Sys2Proof.Machine.execHdpWr ap addr v q s
  | .hdpRdbuf ap q => Sys2Proof.Machine.execHdpRdbuf ap q s
  | .hdpAccessDone ap => Sys2Proof.Machine.execHdpAccessDone ap s
  | .dbgHalt v wr => Sys2Proof.Machine.execDbgHalt v wr s
  | .coreHalt => Sys2Proof.Machine.execCoreHalt s
  | .dbgStep v wr => Sys2Proof.Machine.execDbgStep v wr s
  | .dbgResume v wr => Sys2Proof.Machine.execDbgResume v wr s
  | .dbgRegAccess write addr v wr => Sys2Proof.Machine.execDbgRegAccess write addr v wr s
  | .hdpWake v => Sys2Proof.Machine.execHdpWake v s
  | .hdpUnlockRequest v => Sys2Proof.Machine.execHdpUnlockRequest v s
  | .hdpResponseWrite v => Sys2Proof.Machine.execHdpResponseWrite v s
  | .hdpUnlockCheckDone => Sys2Proof.Machine.execHdpUnlockCheckDone s
  | .hdpRelock v => Sys2Proof.Machine.execHdpRelock v s
  | .hdpCauseClr v => Sys2Proof.Machine.execHdpCauseClr v s
  | .lxoRestart => Sys2Proof.Machine.execLxoRestart s
  | .supplyMonitorClear m => Sys2Proof.Machine.execSupplyMonitorClear m s
  | .vioBankCrossing bank above testen => Sys2Proof.Machine.execVioBankCrossing bank above testen s
  | .pwrDomctlSet v wr => Sys2Proof.Machine.execPwrDomctlSet v wr s
  | .referenceSettled => Sys2Proof.Machine.execReferenceSettled s
  | .canClockReady => Sys2Proof.Machine.execCanClockReady s
  | .canBusError transmitting e => Sys2Proof.Machine.execCanBusError transmitting e s
  | .canProtocolException => Sys2Proof.Machine.execCanProtocolException s
  | .slotFrameSent slot => Sys2Proof.Machine.execSlotFrameSent slot s

end Sys2Proof.Machine
end

