-- ==== Sys2Proof/Safety.lean ====
section
/-!
DEFINITION. What a safe state is, in the terms the statements use.
-/
namespace Sys2Proof.Machine

/-- The form of the stored data: the register file and every memory are canonical. -/
def State.stored (s : State) : Bool :=
  s.regsWf && (s.store.all fun m => m.wf) && decide (s.store.length = 17) && s.saddle.wf && s.nvm.wf

/-- The program counter is a multiple of 4 (Table 06.1). -/
def State.pcAligned (s : State) : Bool := decide (s.core.pc.toNat % 4 = 0)

/-- The outputs that are on were asked for, and no safe state, no tripped group and no shutdown stands against them (R413,
R414). -/
def State.outputsSafe (s : State) : Prop :=
  s.outputsOn ≠ 0 → s.powered = true ∧ s.domOn .meas = true ∧ s.bit Reg.SAF_STAT 0 = false ∧ s.bit Reg.BRT_CFG 0 = true

/-- SAF_OUT.ON shows the outputs that are on (R414). -/
def State.outputsShown (s : State) : Prop := s.f Reg.SAF_OUT 0 16 = s.outputsOn.toNat

/-- While SYS is ON and bank VIO1 is supplied, the event of every level-sensitive pin at its active level is set (R267 to R269). -/
def State.pinsHeld (s : State) : Prop :=
  s.powered = true → s.domOn .sys = true → s.pins.vio.getD 1 true = true →
    ∀ n, n < 16 → s.bit Reg.GPIO_LVL n = true → s.bit Reg.GPIO_IN n = s.bit Reg.GPIO_LVL (16 + n) → s.bit Reg.GPIO_IRQ n = true

/-- The part is powered, and nothing is under way beside the command: the core does not wait and no request waits (R109), no debug
step is in progress (R567), and the boot ROM has handed over to the Warden (R136). -/
abbrev State.calm (s : State) : Prop :=
  s.powered = true ∧ s.core.stalled = none ∧ s.bus.held = [] ∧ s.hdp.stepping = false ∧ s.pwr.boot = false ∧ s.f Reg.LCS_BOOT 24 8 = 0

/-- Registers that follow levels by themselves after any command: SAF_OUT (R414), GPIO_IRQ (R267) and the doorbells (R368). -/
def levelReg (a : Nat) : Bool :=
  decide (a = Reg.SAF_OUT) || decide (a = Reg.GPIO_IRQ) || (decide (Reg.VIR_DB 0 ≤ a) && decide (a < Reg.VIR_DB 32))

/-- What neither a fetch nor `settle` touches: all of the state but its registers, the core, the counter of free values, the lines
last seen deliverable, and what the safety block, the resets, the interconnect, the sequencer and the link hold. -/
structure State.Rest where
  pending : List Instr
  tmb : Tmb
  hrv : Hrv
  dma : Dma
  pins : Pins
  gtc : Gtc
  stc : Stc
  pool : Pool
  ten : Ten
  msr : Msr
  tch : Tch
  pnl : Pnl
  dgs : Dgs
  hdp : Hdp
  store : List Mem
  saddle : Mem
  nvm : Mem

/-- That part of a state. -/
def State.rest (s : State) : State.Rest :=
  { pending := s.pending, tmb := s.tmb, hrv := s.hrv, dma := s.dma, pins := s.pins, gtc := s.gtc, stc := s.stc, pool :=
    s.pool, ten := { s.ten with deliv := [] }, msr := s.msr, tch := s.tch, pnl := s.pnl, dgs := s.dgs, hdp := s.hdp, store
    := s.store, saddle := s.saddle, nvm := s.nvm }

/-! ## What an instruction leaves -/

/-- The core executes the instruction at PC: it runs, nothing comes before the instruction at this boundary (R564, R176,
R363), and the fetch brings its word (R169). -/
abbrev State.executes (s : State) : Prop := s.coreRuns = true ∧ s.boundary = none ∧ ∃ w, s.fetch.res = .word w

/-- Between two instructions nothing has changed but what a fetch changes, and the core, which is `c`: its cache and a raised
NMI are as the fetch left them, and every register that follows no level, every memory and the rest of the state are as after
the fetch, most of it as before. -/
def Executed (s t : State) (c : Core) : Prop :=
  t.core = { c with icache := s.fetch.s.core.icache, nmi := s.fetch.s.core.nmi } ∧ t.rest = s.rest ∧
    (∀ a, levelReg a = false → t.rd a = s.fetch.s.rd a) ∧ t.freeCtr = s.fetch.s.freeCtr ∧ t.lcs = s.fetch.s.lcs ∧
    t.bus = s.fetch.s.bus ∧ t.pwr = s.fetch.s.pwr ∧ t.lnk = s.fetch.s.lnk

/-- The command `i` answers a next state, in which the instruction has left the core as `c` and everything else alone. -/
def Completes (i : Instr) (s : State) (c : Core) : Prop := ∃ t, exec i s = .next t ∧ Executed s t c

/-- The core at the next instruction. -/
def Core.next (c : Core) : Core := { c with pc := (c.pc + 4) &&& 0xFFFFFFFC }

/-- The core once an instruction has written `v` to `rd` and `f` to CC. -/
def Core.result (c : Core) (rd : Fin 16) (v : Word) (f : CC) : Core := { c with g := c.g.set rd v, cc := f }.next

/-- The core once an instruction has written CC alone. -/
def Core.flags (c : Core) (f : CC) : Core := { c with cc := f }.next

/-- A truth value as a number. -/
def bit01 (b : Bool) : Nat := if b then 1 else 0

/-- The flags of x + y + cin in numbers: C is the carry out of bit 31, V tells that the signed sum is not the result's value. -/
def sumCC (x y : Word) (cin : Bool) : CC :=
  let r := x + y + BitVec.ofNat 32 (bit01 cin)
  { n := decide (r.toInt < 0), z := decide (r = 0), c := decide (2 ^ 32 ≤ x.toNat + y.toNat + bit01 cin),
    v := decide (x.toInt + y.toInt + bit01 cin ≠ r.toInt) }

/-- The flags of x − y − bin in numbers: C tells that there is no borrow, V that the signed difference is not the result's
value. -/
def diffCC (x y : Word) (bin : Bool) : CC :=
  let r := x - y - BitVec.ofNat 32 (bit01 bin)
  { n := decide (r.toInt < 0), z := decide (r = 0), c := decide (y.toNat + bit01 bin ≤ x.toNat),
    v := decide (x.toInt - y.toInt - bit01 bin ≠ r.toInt) }

/-- N and Z follow `r`; C and V keep. -/
def signCC (f : CC) (r : Word) : CC := { f with n := decide (r.toInt < 0), z := decide (r = 0) }

/-- The core once an instruction has also set a sticky bit of ASTAT, or not (R198). -/
def Core.sticky (c : Core) (m : Word) (b : Bool) : Core := if b then { c with astat := c.astat ||| m } else c

/-- The command `i` ends in exception `num`, taken where the instruction has left the core as `c`. -/
def Traps (i : Instr) (s : State) (c : Core) (num sub : Nat) (eval : Word) : Prop :=
  exec i s = .next ((({ s.fetch.s with core :=
    { c with icache := s.fetch.s.core.icache, nmi := s.fetch.s.core.nmi } } : State).raise num sub eval).settle)

/-- The stack check passes: the base is not g15, or SPLIM is 0, or no byte lies below SPLIM; an access that wraps touches
address 0 (R170, R195). -/
def State.stackOk (s : State) (ra : Fin 16) (a : Word) (n : Nat) : Prop :=
  ra = 15 → s.core.splim = 0 ∨ s.core.splim.toNat ≤ (if a.toNat + n ≤ 2 ^ 32 then a.toNat else 0)

/-- An address of core space (R166). -/
def coreSpace (a : Word) : Prop := 0xE0000000 ≤ a.toNat ∧ a.toNat < 0xF0000000

/-- Memory whose reads have no side effect at a block. -/
def plainRegion (g : Region) : Prop := g = .nvm ∨ g = .store ∨ g = .window ∨ g = .ram ∨ g = .rom

/-! ## What a command leaves -/

/-- Registers whose access codes say all that a write does, some of every block. -/
def plainRegs : List Nat :=
  [Reg.TMB_TRK, Reg.TMB_IEN, Reg.TMB_IRQ, Reg.RTC_ALARM, Reg.RTC_CAL, Reg.HRV_IEN, Reg.HRV_IRQ, Reg.SDL_CFG, Reg.SDL_WAKEEN,
   Reg.PWR_POL, Reg.PWR_STAGGER, Reg.ICT_QOSCFG, Reg.NVC_STAT, Reg.DMA_IEN, Reg.DMA_IRQ, Reg.GPIO_IMODE, Reg.GPIO_IEN,
   Reg.GPIO_LVL, Reg.GPIO_PULL, Reg.POOL_IEN, Reg.POOL_IRQ, Reg.STC_IEN, Reg.VIR_CTL, Reg.MSR_IEN, Reg.MSR_IRQ, Reg.SAF_IEN,
   Reg.SAF_IRQ, Reg.SAF_CFG, Reg.SAF_FACT, Reg.TCH_IEN, Reg.TCH_IRQ, Reg.PNL_IEN, Reg.PNL_IRQ, Reg.DGS_IEN, Reg.DGS_IRQ,
   Reg.LNK_IEN, Reg.LKE_IEN, Reg.LKE_IRQ, Reg.EIC_EN 0, Reg.EIC_PRIO 0, Reg.STM_CTL, Reg.STM_CMPLO]


/-- What the first `ticks` ticks of a slot of row `r` with the grey levels of `ws` have done to the ledger by `t` (R461, R465,
R468): each lit pixel was driven for its grey level and then dwelled, as far as its ticks came; no other pixel has changed. -/
def State.rowDriven (s t : State) (r ticks : Nat) (ws : List Word) : Prop :=
  (∀ n, n / 64 ≠ r → t.pixel n = s.pixel n) ∧
    ∀ c, c < 64 →
      let n := 64 * r + c
      let p := s.pixel n
      let vp := s.pnl.vp.toNat % 2 ^ 8
      let g := (ws.getD (c / 8) 0).toNat / 2 ^ (4 * (c % 8)) % 2 ^ 4
      let i := min 255 (s.pnl.drv.toNat % 2 ^ 8 * s.f (Reg.PNL_WEAR (p.fwd / 2 ^ 19)) 0 16 / 4096)
      let nominal : Int := ((g * i * (s.pnl.dwk.toNat % 2 ^ 16) + 2 ^ 20 - 1) / 2 ^ 20 : Nat)
      let owed : Int := if p.bal < 0 then (((-p.bal).toNat / vp : Nat) : Int) else 0
      let d := min (max 0 (min 16 (nominal - owed))).toNat (ticks - 15)
      let f := min g ticks
      (g = 0 → t.pixel n = p) ∧
      (g ≠ 0 → p.fwd < 0xFFFF00 → p.res < 2 ^ 20 → -28000 ≤ p.bal → p.bal ≤ 28000 →
        t.pixel n = ⟨p.fwd + (p.res + i * f) / 2 ^ 20, (p.res + i * f) % 2 ^ 20,
          p.bal + (f * (s.pnl.drv.toNat / 2 ^ 8 % 2 ^ 8) : Nat) - (d * vp : Nat)⟩)

/-- A calm state of RUN, with no deep entry and no wake sequence under way. -/
abbrev State.awake (s : State) : Prop :=
  s.calm ∧ s.pwr.level = .run ∧ s.pwr.entry = none ∧ s.pwr.waking = false

/-- The command `c` answers a next state: `u`, once the registers that follow levels have followed. -/
def Leaves (c : Instr) (s u : State) : Prop := exec c s = .next u.settle

end Sys2Proof.Machine
end

