-- ==== Sys2Proof/Certificates/Slice0/Obligations.lean ====
section
/-!
DEFINITION. The statements for the provers, family by family. `Leaves c s u` says that the command `c` answers the state `u`, once
the registers that follow levels have followed; `Completes` and `Traps` say how an instruction that is executed ends.
-/
open Sys2Proof Sys2Proof.Machine

/-! ## The core's arithmetic -/

/-- R195, R196, R197, R200, R206: the additions and subtractions write the sum or difference modulo 2^32 to rd; N, Z, C and V
are those of the exact operation; nothing else of the core changes but PC. The compares and tests write CC alone; CMP, CMN and
CMPI leave the flags of the difference or the sum, TST those of the conjunction, BTST makes Z the complement of the bit. -/
def Obligations.AddSubtractCompare : Prop :=
  (∀ (s : State) (rd ra rb : Fin 16) (imm : BitVec 16), s.executes →
    let a := s.g ra
    let b := s.g rb
    let i := imm.signExtend 32
    let cin := s.core.cc.c
    Completes (.add rd ra rb) s (s.core.result rd (a + b) (sumCC a b false)) ∧
    Completes (.adc rd ra rb) s (s.core.result rd (a + b + BitVec.ofNat 32 (bit01 cin)) (sumCC a b cin)) ∧
    Completes (.addi rd ra imm) s (s.core.result rd (a + i) (sumCC a i false)) ∧
    Completes (.sub rd ra rb) s (s.core.result rd (a - b) (diffCC a b false)) ∧
    Completes (.sbc rd ra rb) s (s.core.result rd (a - b - BitVec.ofNat 32 (bit01 (!cin))) (diffCC a b (!cin))) ∧
    Completes (.rsbi rd ra imm) s (s.core.result rd (i - a) (diffCC i a false))) ∧
  (∀ (s : State) (ra rb : Fin 16) (imm : BitVec 16) (k : BitVec 5), s.executes →
    let a := s.g ra
    let b := s.g rb
    let f := s.core.cc
    Completes (.cmp ra rb) s (s.core.flags (diffCC a b false)) ∧
    Completes (.cmn ra rb) s (s.core.flags (sumCC a b false)) ∧
    Completes (.cmpi ra imm) s (s.core.flags (diffCC a (imm.signExtend 32) false)) ∧
    Completes (.tst ra rb) s (s.core.flags (signCC f (a &&& b))) ∧
    Completes (.btst ra k) s (s.core.flags { f with z := decide (a.toNat / 2 ^ k.toNat % 2 = 0) }))

/-- R196, R200: the products write a word of the exact product to rd, N and Z follow it, C and V keep; CLZ counts the zeros
above the highest 1, and the selections take the lesser or the greater operand, with no flag changed. -/
def Obligations.MultiplyAndSelect : Prop :=
  ∀ (s : State) (rd ra rb : Fin 16), s.executes →
    let a := s.g ra
    let b := s.g rb
    let f := s.core.cc
    (∀ r, r = BitVec.ofNat 32 (a.toNat * b.toNat) → Completes (.mul rd ra rb) s (s.core.result rd r (signCC f r))) ∧
    (∀ r, r = BitVec.ofInt 32 (a.toInt * b.toInt / 2 ^ 32) → Completes (.mulhs rd ra rb) s (s.core.result rd r (signCC f r))) ∧
    (∀ r, r = BitVec.ofNat 32 (a.toNat * b.toNat / 2 ^ 32) → Completes (.mulhu rd ra rb) s (s.core.result rd r (signCC f r))) ∧
    (∃ k, (if a = 0 then k = 32 else k < 32 ∧ 2 ^ (31 - k) ≤ a.toNat ∧ a.toNat < 2 ^ (32 - k)) ∧
      Completes (.clz rd ra) s (s.core.result rd (BitVec.ofNat 32 k) f)) ∧
    Completes (.mins rd ra rb) s (s.core.result rd (if a.toInt ≤ b.toInt then a else b) f) ∧
    Completes (.maxs rd ra rb) s (s.core.result rd (if a.toInt ≤ b.toInt then b else a) f) ∧
    Completes (.minu rd ra rb) s (s.core.result rd (if a.toNat ≤ b.toNat then a else b) f) ∧
    Completes (.maxu rd ra rb) s (s.core.result rd (if a.toNat ≤ b.toNat then b else a) f)

/-- R201, R172, R198: ADDSAT and SUBSAT compute the exact signed sum or difference and hold it between MIN and MAX; a value
out of range sets V and ASTAT.OV, any other clears V and leaves ASTAT. NEG of MIN gives MIN and sets both; NEG of any other
value clears V and leaves ASTAT. With OVT = 1 an overflow then raises exception 10 with EVAL = the result; every other case
goes on to the next instruction. -/
def Obligations.SaturatingArithmetic : Prop :=
  ∀ (s : State) (rd ra rb : Fin 16), s.executes →
    let a := s.g ra
    let b := s.g rb
    let f := s.core.cc
    let ends (i : Instr) (r : Word) (cc : CC) (out : Bool) : Prop :=
      let c := (s.core.result rd r cc).sticky 2 out
      (s.core.astat.getLsbD 9 = false ∨ out = false → Completes i s c) ∧
        (s.core.astat.getLsbD 9 = true → out = true → Traps i s c 10 0 r)
    (∀ (e : Int) (i : Instr), (i = .addsat rd ra rb ∧ e = a.toInt + b.toInt) ∨ (i = .subsat rd ra rb ∧ e = a.toInt - b.toInt) →
      let out := decide (e < -(2 ^ 31)) || decide (2 ^ 31 - 1 < e)
      let r : Word := BitVec.ofInt 32 (max (-(2 ^ 31)) (min (2 ^ 31 - 1) e))
      ends i r { signCC f r with v := out } out) ∧
    (let min := decide (a = 0x80000000)
     let r : Word := if min then 0x80000000 else 0 - a
     ends (.neg rd ra) r { signCC f r with v := min, c := decide (a = 0) } min)

/-- R202, R172, R198: DIVS truncates toward zero and DIVU divides unsigned, with the remainder ra − quotient × rb; a divisor 0
and the division of MIN by −1 give the fixed results and set their sticky bit; N and Z follow the quotient, and with RC = RD
only the quotient is written. With its trap enabled, a divisor 0 then raises exception 9 with EVAL = the dividend, and the
overflow exception 10 with EVAL = the quotient. -/
def Obligations.Division : Prop :=
  ∀ (s : State) (rd ra rb rc : Fin 16), s.executes →
    let a := s.g ra
    let b := s.g rb
    let f := s.core.cc
    let dzt := s.core.astat.getLsbD 8
    let ovt := s.core.astat.getLsbD 9
    let out (q r : Word) (v : Bool) : Core :=
      { s.core with g := (if rc = rd then s.core.g else s.core.g.set rc r).set rd q, cc := { signCC f q with v := v } }.next
    let zero := (out 0xFFFFFFFF a false).sticky 1 true
    let overflow := (out 0x80000000 0 true).sticky 2 true
    (b = 0 → dzt = false → Completes (.divs rd ra rb rc) s zero ∧ Completes (.divu rd ra rb rc) s zero) ∧
    (b = 0 → dzt = true → Traps (.divs rd ra rb rc) s zero 9 0 a ∧ Traps (.divu rd ra rb rc) s zero 9 0 a) ∧
    (a = 0x80000000 → b = 0xFFFFFFFF → ovt = false → Completes (.divs rd ra rb rc) s overflow) ∧
    (a = 0x80000000 → b = 0xFFFFFFFF → ovt = true → Traps (.divs rd ra rb rc) s overflow 10 0 0x80000000) ∧
    (b ≠ 0 → ¬(a = 0x80000000 ∧ b = 0xFFFFFFFF) →
      ∃ q r : Word, a.toInt = q.toInt * b.toInt + r.toInt ∧ r.toInt.natAbs < b.toInt.natAbs ∧
        (r = 0 ∨ (0 < r.toInt ↔ 0 < a.toInt)) ∧ Completes (.divs rd ra rb rc) s (out q r false)) ∧
    (b ≠ 0 →
      ∃ q r : Word, a.toNat = q.toNat * b.toNat + r.toNat ∧ r.toNat < b.toNat ∧
        Completes (.divu rd ra rb rc) s (out q r false))

/-! ## Logic, shifts, bit fields and moves -/

/-- R203, R196, R195, R206: the logic instructions and the bit set and clear write their function of the operands to rd, bit
by bit; N and Z follow it, C and V keep. BEXT takes the field of w + 1 bits at POS, as a number of that width, signed where S
is 1; BINS replaces that field of the old rd and keeps its other bits. N and Z follow the result. The moves write their value
to rd and change no flag; MOVHI keeps the low half of rd, and ADR adds four times its offset to PC. -/
def Obligations.LogicFieldsMoves : Prop :=
  (∀ (s : State) (rd ra rb : Fin 16) (imm : BitVec 16) (k : BitVec 5), s.executes →
    let a := s.g ra
    let b := s.g rb
    let z := imm.setWidth 32
    let nz (i : Instr) (r : Word) : Prop := Completes i s (s.core.result rd r (signCC s.core.cc r))
    nz (.and rd ra rb) (a &&& b) ∧ nz (.or rd ra rb) (a ||| b) ∧ nz (.xor rd ra rb) (a ^^^ b) ∧
    nz (.andn rd ra rb) (a &&& ~~~b) ∧ nz (.not rd ra) (~~~a) ∧
    nz (.andi rd ra imm) (a &&& z) ∧ nz (.ori rd ra imm) (a ||| z) ∧ nz (.xori rd ra imm) (a ^^^ z) ∧
    (∃ r : Word, (∀ j : Fin 32, r[j] = (decide (j.val = k.toNat) || a[j])) ∧ nz (.bset rd ra k) r) ∧
    (∃ r : Word, (∀ j : Fin 32, r[j] = (decide (j.val ≠ k.toNat) && a[j])) ∧ nz (.bclr rd ra k) r)) ∧
  (∀ (s : State) (rd ra : Fin 16) (pos w : BitVec 5), s.executes → pos.toNat + w.toNat + 1 ≤ 32 →
    let a := s.g ra
    let n := w.toNat + 1
    let x := a.toNat / 2 ^ pos.toNat % 2 ^ n
    let nz (i : Instr) (r : Word) : Prop := Completes i s (s.core.result rd r (signCC s.core.cc r))
    nz (.bext rd ra pos w false) (BitVec.ofNat 32 x) ∧
    nz (.bext rd ra pos w true) (BitVec.ofInt 32 (if 2 ^ (n - 1) ≤ x then (x : Int) - 2 ^ n else x)) ∧
    (∃ r : Word, (∀ j : Fin 32, r[j] =
        if pos.toNat ≤ j.val ∧ j.val < pos.toNat + n then a.getLsbD (j.val - pos.toNat) else (s.g rd)[j]) ∧
      nz (.bins rd ra pos w) r)) ∧
  (∀ (s : State) (rd ra : Fin 16) (i16 : BitVec 16) (i20 : BitVec 20), s.executes →
    let f := s.core.cc
    Completes (.mov rd ra) s (s.core.result rd (s.g ra) f) ∧
    Completes (.movi rd i20) s (s.core.result rd (BitVec.ofInt 32 i20.toInt) f) ∧
    Completes (.movhi rd i16) s (s.core.result rd (BitVec.ofNat 32 (i16.toNat * 2 ^ 16 + (s.g rd).toNat % 2 ^ 16)) f) ∧
    Completes (.adr rd i20) s (s.core.result rd (BitVec.ofInt 32 (s.pc.toNat + 4 * i20.toInt)) f))

/-- R204, Table 07.6: LSL, LSR and ASR by 0 to 255 places, or by an immediate of 0 to 31: the result in numbers, C the last
bit shifted out, or kept where nothing is shifted; N and Z follow the result and V keeps. -/
def Obligations.Shifts : Prop :=
  ∀ (s : State) (rd ra rb : Fin 16) (m : BitVec 5), s.executes →
    let a := s.g ra
    let ends (i : Instr) (r : Word) (c : Bool) : Prop := Completes i s (s.core.result rd r { signCC s.core.cc r with c := c })
    let keep (n : Nat) (c : Bool) : Bool := if n = 0 then s.core.cc.c else c
    ∀ n : Nat,
      let left : Word := BitVec.ofNat 32 (a.toNat * 2 ^ n)
      let right : Word := BitVec.ofNat 32 (a.toNat / 2 ^ n)
      let arith : Word := BitVec.ofInt 32 (a.toInt / 2 ^ n)
      (n = (s.g rb).toNat % 256 →
        ends (.lsl rd ra rb) left (keep n ((a.toNat * 2 ^ n).testBit 32)) ∧
        ends (.lsr rd ra rb) right (keep n (a.toNat.testBit (n - 1))) ∧
        ends (.asr rd ra rb) arith (keep n (decide (a.toInt / 2 ^ (n - 1) % 2 = 1)))) ∧
      (n = m.toNat →
        ends (.lsli rd ra m) left (keep n ((a.toNat * 2 ^ n).testBit 32)) ∧
        ends (.lsri rd ra m) right (keep n (a.toNat.testBit (n - 1))) ∧
        ends (.asri rd ra m) arith (keep n (decide (a.toInt / 2 ^ (n - 1) % 2 = 1))))

/-- R205: ROR and RORI rotate right by n mod 32: bit j of the result is bit (j + n) mod 32 of the operand. With n = 0 C is
unchanged; with any other n, multiples of 32 included, C is bit 31 of the result. -/
def Obligations.Rotates : Prop :=
  ∀ (s : State) (rd ra rb : Fin 16) (m : BitVec 5) (r : Word) (n : Nat), s.executes →
    (∀ j : Fin 32, r[j] = (s.g ra).getLsbD ((j.val + n) % 32)) →
    let f : CC := { signCC s.core.cc r with c := if n = 0 then s.core.cc.c else r.msb }
    (n = (s.g rb).toNat % 256 → Completes (.ror rd ra rb) s (s.core.result rd r f)) ∧
    (n = m.toNat → Completes (.rori rd ra m) s (s.core.result rd r f))

/-! ## Branches -/

/-- R199, R216: a branch goes to PC plus four times its offset where its condition of Table 07.3 holds on CC, else to PC + 4;
BL and BLR leave PC + 4 in g14, and BLR and JR go to ra with its low two bits 0, as ra was before the link is written. No flag
changes. -/
def Obligations.Branches : Prop :=
  ∀ (s : State) (rt : Fin 16) (off : BitVec 20), s.executes →
    let f := s.core.cc
    let go (w : Word) : Core := { s.core with pc := w &&& 0xFFFFFFFC }
    let target : Word := BitVec.ofInt 32 (s.pc.toNat + 4 * off.toInt)
    let link : Word := s.pc + 4
    (∀ (cond : Fin 16) (holds : Bool),
      (cond.val, holds) ∈ [(0, f.z), (1, f.c), (2, f.n), (3, f.v), (4, f.c && !f.z), (5, f.n == f.v), (6, !f.z && (f.n == f.v)),
        (7, true), (8, !f.z), (9, !f.c), (10, !f.n), (11, !f.v), (12, !f.c || f.z), (13, f.n != f.v),
        (14, f.z || (f.n != f.v))] →
      Completes (.bcc cond off) s (if holds then go target else s.core.next)) ∧
    Completes (.cbz rt off) s (if (s.g rt).toNat = 0 then go target else s.core.next) ∧
    Completes (.cbnz rt off) s (if (s.g rt).toNat ≠ 0 then go target else s.core.next) ∧
    Completes (.bl off) s { go target with g := s.core.g.set 14 link } ∧
    Completes (.blr rt) s { go (s.g rt) with g := s.core.g.set 14 link } ∧
    Completes (.jr rt) s (go (s.g rt))

/-! ## Loads and stores -/

/-- R207, R208, R209, R166, R167, R169, R170, R223, R227, R253, R299, R619: a load that the interconnect answers with data
writes it to rd once it has returned, sign-extended by LDH and LDB, as a pair by LDD, and continues at PC + 4; no flag
changes, and beyond what the read itself does nothing else does. Watchpoints see the access (R566). A load that fails its
stack check raises exception 8 with EVAL the lowest byte, one from Tenant mode to core space exception 7 with SUB 3, one that
a gate refuses exception 7 with SUB 1, one that meets a bus error exception 7 with SUB 2, each with EVAL the address, and one
that meets an uncorrectable error exception 6; no register is loaded. A read of plain memory (NVM, the Store, a window, Saddle
RAM, the boot ROM), answered or refused, changes no register of the core but a raised NMI, no byte of memory and no block
beside the records of its errors. -/
def Obligations.Loads : Prop :=
  (∀ (s : State) (rd ra : Fin 16) (off : BitVec 16), s.executes →
    let u := s.fetch.s
    let a := s.g ra + off.signExtend 32
    let loads (i : Instr) (n : Nat) (w : Nat → Word) : Prop :=
      s.stackOk ra a n → ¬(s.tenantMode = true ∧ coreSpace a) → ∀ v, (u.coreRead a n).resp = .ok v →
        exec i s = .next (((((u.coreRead a n).s.setG rd (w v)).advance).watch a false).settle)
    loads (.ldw rd ra off) 4 (BitVec.ofNat 32) ∧
    loads (.ldhu rd ra off) 2 (BitVec.ofNat 32) ∧
    loads (.ldbu rd ra off) 1 (BitVec.ofNat 32) ∧
    loads (.ldh rd ra off) 2 (fun v => (BitVec.ofNat 16 v).signExtend 32) ∧
    loads (.ldb rd ra off) 1 (fun v => (BitVec.ofNat 8 v).signExtend 32) ∧
    (rd.val % 2 = 0 → s.stackOk ra a 8 → ¬(s.tenantMode = true ∧ coreSpace a) → ∀ v, (u.coreRead a 8).resp = .ok v →
      exec (.ldd rd ra off) s = .next ((((((u.coreRead a 8).s.setG (rd + 1) (BitVec.ofNat 32 (v / 2 ^ 32))).setG rd
        (BitVec.ofNat 32 v)).advance).watch a false).watch (a + 4) false).settle)) ∧
  (∀ (s : State) (rd ra : Fin 16) (off : BitVec 16), s.executes →
    let u := s.fetch.s
    let a := s.g ra + off.signExtend 32
    let low : Word := if a.toNat + 4 ≤ 2 ^ 32 then a else 0
    let x := u.coreRead a 4
    (¬s.stackOk ra a 4 → exec (.ldw rd ra off) s = .next (u.raise 8 0 low).settle) ∧
    (s.stackOk ra a 4 → s.tenantMode = true → coreSpace a → exec (.ldw rd ra off) s = .next (u.raise 7 3 a).settle) ∧
    (s.stackOk ra a 4 → ¬(s.tenantMode = true ∧ coreSpace a) →
      (x.resp = .denied → exec (.ldw rd ra off) s = .next (x.s.raise 7 1 a).settle) ∧
      (∀ k, x.resp = .abort k → exec (.ldw rd ra off) s = .next (x.s.raise 7 2 a).settle) ∧
      (∀ e syn, x.resp = .ecc e syn → exec (.ldw rd ra off) s = .next (x.s.raise 6 syn (BitVec.ofNat 32 e)).settle))) ∧
  (∀ (s : State) (r : Req) (who : Waiter), r.kind = .read → plainRegion (regionOf r.addr) →
    let t := (s.access r who).s
    t.core = { s.core with nmi := t.core.nmi } ∧ t.rest = s.rest ∧ t.freeCtr = s.freeCtr)

/-- R207, R208, R209, R230: a store whose buffer has room leaves through it: the entry holds the address, the width, the data
and the agent ID, and PC advances; no general register, no flag and no byte of memory changes, and of the core only a
reservation that the store touches is cleared (R212). -/
def Obligations.StoresArePosted : Prop :=
  ∀ (s : State) (rd ra : Fin 16) (off : BitVec 16), s.executes → s.core.buf.length < 4 →
    let a := s.g ra + off.signExtend 32
    let v := (s.g rd).toNat
    let posts (i : Instr) (n data : Nat) : Prop :=
      s.stackOk ra a n → ¬coreSpace a →
        ∃ t r, exec i s = .next t ∧ r.kind = .write ∧ r.addr = a.toNat ∧ r.size = n ∧ r.data = data ∧ r.mid = 0 ∧
          r.aid = (if s.core.status.getLsbD 8 then s.core.tid.toNat % 1024 else 0x400) ∧
          t.core = { s.core.next with
            buf := s.core.buf ++ [{ req := r, epoch := s.core.epoch }], resv := t.core.resv, guard := t.core.guard
            icache := t.core.icache, nmi := t.core.nmi } ∧
          (t.core.resv = s.core.resv ∨ t.core.resv = none) ∧
          t.rest = { s.rest with hdp := { s.hdp with wpHit := t.hdp.wpHit } }
    posts (.stw rd ra off) 4 v ∧
    posts (.sth rd ra off) 2 (v % 2 ^ 16) ∧
    posts (.stb rd ra off) 1 (v % 2 ^ 8) ∧
    (rd.val % 2 = 0 → posts (.std rd ra off) 8 (v + (s.g (rd + 1)).toNat * 2 ^ 32))

/-- R210: PUSHM and POPM with an empty mask go on to the next instruction. PUSHM whose words fit in the empty buffer posts the
masked registers at g15 − 4k upwards, the lowest-numbered at the lowest address, and then sets g15 ← g15 − 4k. POPM whose
words have all returned writes them to the masked registers, the lowest address to the lowest number, and sets g15 ← g15 + 4k.
-/
def Obligations.PushAndPop : Prop :=
  ∀ (s : State) (mask : BitVec 16), s.executes →
    let u := s.fetch.s
    let k := ((List.range 16).filter fun j => mask.getLsbD j).length
    let rank (j : Nat) : Nat := ((List.range j).filter fun j => mask.getLsbD j).length
    let base := s.g 15 - BitVec.ofNat 32 (4 * k)
    (mask = 0 → Completes (.pushm mask) s s.core.next ∧ Completes (.popm mask) s s.core.next) ∧
    (mask ≠ 0 → s.core.buf = [] → k ≤ 4 → s.stackOk 15 base (4 * k) →
      (∀ j, j < k → ¬coreSpace (base + BitVec.ofNat 32 (4 * j))) →
      ∃ t, exec (.pushm mask) s = .next t ∧ t.g 15 = base ∧ (∀ r : Fin 16, r ≠ 15 → t.g r = s.g r) ∧
        t.pc = (s.pc + 4) &&& 0xFFFFFFFC ∧ t.core.cc = s.core.cc ∧ t.core.buf.length = k ∧
        (∀ r : Fin 16, mask.getLsbD r.val = true → ∃ p, t.core.buf[rank r.val]? = some p ∧ p.req.kind = .write ∧
          p.req.addr = (base + BitVec.ofNat 32 (4 * rank r.val)).toNat ∧ p.req.size = 4 ∧ p.req.data = (s.g r).toNat)) ∧
    (mask ≠ 0 → mask.getLsbD 15 = false → s.stackOk 15 (s.g 15) (4 * k) →
      ∀ v, (u.popWords (s.g 15) k).priv = false → (u.popWords (s.g 15) k).resp = .ok v →
      ∃ t, exec (.popm mask) s = .next t ∧ t.g 15 = s.g 15 + BitVec.ofNat 32 (4 * k) ∧
        (∀ r : Fin 16, mask.getLsbD r.val = true → t.g r = BitVec.ofNat 32 (v / 2 ^ (32 * rank r.val))) ∧
        (∀ r : Fin 16, mask.getLsbD r.val = false → r ≠ 15 → t.g r = (u.popWords (s.g 15) k).s.g r) ∧
        t.core.cc = (u.popWords (s.g 15) k).s.core.cc)

/-! ## Atomics and barriers -/

/-- R168, R212, R213: LRSV, SCND, AMOADD and AMOSWP at an aligned address (of the Store for LRSV and SCND) write the bank's
answer to rd: the old word, or 0 or 1 for SCND; LRSV reserves the granule of the word under the agent ID. A refused SCND
writes 1 and clears the reservation. Elsewhere they raise exception 4 with EVAL the address. At its bank an SCND under the
reservation of its granule and agent stores the word and answers 0; any other makes no store and answers 1; either way the
reservation is cleared. -/
def Obligations.Atomics : Prop :=
  (∀ (s : State) (rd rb ra : Fin 16), s.executes →
    let u := s.fetch.s
    let a := s.g ra
    let inStore := regionOf a.toNat = .store ∨ regionOf a.toNat = .window
    let ends (i : Instr) (w : State) (v : Nat) : Prop :=
      exec i s = .next (((w.setG rd (BitVec.ofNat 32 v)).advance).watch a (decide (i ≠ .lrsv rd ra))).settle
    let amo (i : Instr) (k : ReqKind) : Prop := ∀ v, (u.coreAtomic k a (s.g rb)).resp = .ok v →
      exec i s = .next (((((u.coreAtomic k a (s.g rb)).s.setG rd (BitVec.ofNat 32 v)).advance).watch a false).watch a true).settle
    (a.toNat % 4 = 0 → inStore →
      (∀ v e, (u.coreRead a 4).resp = .ok v → (u.coreRead a 4).s.storeEff ((u.coreRead a 4).s.coreReq .read a 4 0) = some e →
        ∃ w, ends (.lrsv rd ra) w v ∧ w.core.resv = some (e - e % 32, (u.coreRead a 4).s.coreAid)) ∧
      (∀ v, (u.coreAtomic .scnd a (s.g rb)).resp = .ok v → ends (.scnd rd rb ra) (u.coreAtomic .scnd a (s.g rb)).s v) ∧
      ((u.coreAtomic .scnd a (s.g rb)).resp = .denied ∨ (∃ k, (u.coreAtomic .scnd a (s.g rb)).resp = .abort k) →
        ∃ w, ends (.scnd rd rb ra) w 1 ∧ w.core.resv = none ∧ w.store = (u.coreAtomic .scnd a (s.g rb)).s.store)) ∧
    (a.toNat % 4 = 0 → ¬(s.tenantMode = true ∧ coreSpace a) → amo (.amoadd rd rb ra) .amoAdd ∧ amo (.amoswp rd rb ra) .amoSwap) ∧
    (a.toNat % 4 ≠ 0 ∨ ¬inStore → Traps (.lrsv rd ra) s s.core 4 0 a ∧ Traps (.scnd rd rb ra) s s.core 4 0 a) ∧
    (a.toNat % 4 ≠ 0 → Traps (.amoadd rd rb ra) s s.core 4 0 a ∧ Traps (.amoswp rd rb ra) s s.core 4 0 a)) ∧
  (∀ (s : State) (a : Nat) (r : Req),
    let x := s.scndAt a r
    x.s.core.resv = none ∧
    (s.core.resv = some (a - a % 32, r.aid) → x.resp = .ok 0 ∧
      x.s.store = (s.storePut (bankOf a) (a % 0x10000) (bytesLE 4 r.data)).store) ∧
    (s.core.resv ≠ some (a - a % 32, r.aid) → x.resp = .ok 1 ∧ x.s.store = s.store))

/-- R211, R214: with every earlier store at its target the barriers retire at once and change nothing but PC: BAR.W also
counts the stores after it as later ones, and BAR.SYNC, once the NVM words are written, empties the instruction cache. NOP has
no effect (Table 07.11). -/
def Obligations.Barriers : Prop :=
  ∀ (s : State), s.executes →
    Completes .nop s s.core.next ∧
    Completes .barW s { s.core with epoch := s.core.epoch + 1 }.next ∧
    (s.core.buf = [] →
      Completes .barRw s s.core.next ∧ Completes .barIo s s.core.next ∧
      ((∀ w ∈ s.fetch.s.bus.nvmQ, w.mid ≠ 0) → ∃ t, exec .barSync s = .next t ∧ t.rest = s.rest ∧
        t.core = { s.core.next with icache := [], nmi := t.core.nmi }))

/-! ## System instructions -/

/-- R160, R217, R218: CSRR reads the CSR, and CSRW, CSRS and CSRC write it whole, or with its bits set or cleared, where the
mode may name it; sticky bits of ASTAT can only be cleared, and reserved and read-only bits keep out of a write. -/
def Obligations.CsrInstructions : Prop :=
  ∀ (s : State) (rd ra : Fin 16) (n : BitVec 12), s.executes →
    let c := s.core
    let f := c.cc
    let warden := [0x000, 0x020, 0x021, 0x022, 0x023, 0x024, 0x028, 0x029, 0x030].contains n.toNat
    (s.tenantMode = true → warden = false) →
    ∀ (old : Word) (put : Word → Core),
      (n.toNat = 0x001 ∧ old = BitVec.ofNat 32 (8 * bit01 f.n + 4 * bit01 f.z + 2 * bit01 f.c + bit01 f.v) ∧
        put = fun v => { c with cc := { n := v.getLsbD 3, z := v.getLsbD 2, c := v.getLsbD 1, v := v.getLsbD 0 } }) ∨
      (n.toNat = 0x002 ∧ old = c.astat ∧ put = fun v => { c with astat := (c.astat &&& v &&& 3) ||| (v &&& 0x300) }) ∨
      (n.toNat = 0x010 ∧ old = c.tid ∧ put = fun v => if s.tenantMode then c else { c with tid := v &&& 0x3FF }) ∨
      (n.toNat = 0x020 ∧ old = c.epc ∧ put = fun v => { c with epc := v }) ∨
      (n.toNat = 0x021 ∧ old = c.ecause ∧ put = fun v => { c with ecause := v &&& 0x80FF00FF }) ∨
      (n.toNat = 0x022 ∧ old = c.eval ∧ put = fun v => { c with eval := v }) ∨
      (n.toNat = 0x023 ∧ old = c.estatus ∧ put = fun v => { c with estatus := v &&& 0xF1FF }) ∨
      (n.toNat = 0x024 ∧ old = c.wscratch ∧ put = fun v => { c with wscratch := v }) ∨
      (n.toNat = 0x028 ∧ old = c.nepc ∧ put = fun v => { c with nepc := v }) ∨
      (n.toNat = 0x029 ∧ old = c.nstatus ∧ put = fun v => { c with nstatus := v &&& 0xF1FF }) ∨
      (n.toNat = 0x030 ∧ old = c.vbase ∧ put = fun v => { c with vbase := v &&& 0xFFFFFC00 }) ∨
      (n.toNat = 0x031 ∧ old = c.splim ∧ put = fun v => if s.tenantMode then c else { c with splim := v }) ∨
      (n.toNat = 0x040 ∧ old = c.tstatus ∧ put = fun v => { c with tstatus := v &&& 0xF003 }) ∨
      (n.toNat = 0x041 ∧ old = c.tepc ∧ put = fun v => { c with tepc := v }) ∨
      (n.toNat = 0x042 ∧ old = c.tcause ∧ put = fun v => { c with tcause := v &&& 0xF }) ∨
      (n.toNat = 0x043 ∧ old = c.tvec ∧ put = fun v => { c with tvec := v &&& 0xFFFFFFFC }) ∨
      (n.toNat = 0x044 ∧ old = c.tscratch ∧ put = fun v => { c with tscratch := v }) ∨
      (n.toNat = 0x000 ∧ old = c.status ∧ put = fun v =>
        let w := (c.status &&& 0x104) ||| (v &&& 0xFB)
        { c with status := if 8 < w.toNat / 16 % 16 then (w &&& 0xFFFFFF0F) ||| 0x80 else w }) →
      Completes (.csrr rd n) s (c.result rd old f) ∧
      Completes (.csrw n ra) s (put (s.g ra)).next ∧
      Completes (.csrs n ra) s (put (old ||| s.g ra)).next ∧
      Completes (.csrc n ra) s (put (old &&& ~~~(s.g ra))).next

/-- R160, R164, R173, R217, R565: WCALL raises exception 11 with EPC the next instruction and EVAL its operand; BRK raises
exception 12 with EVAL its word, or halts the core where the debug port asked for that; a CSR number that does not exist
raises exception 2, and a Warden CSR in Tenant mode exception 3 with SUB 2. -/
def Obligations.Calls : Prop :=
  ∀ (s : State) (rd : Fin 16) (k : BitVec 20) (n : BitVec 12), s.executes →
    let word : Word := BitVec.ofNat 32 (0x08 * 2 ^ 24 + rd.val * 2 ^ 20 + n.toNat)
    Traps (.wcall k) s s.core.next 11 0 (k.setWidth 32) ∧
    (s.fetch.s.bit Reg.DBG_CTL 0 = false → Traps (.brk k) s s.core 12 0 (BitVec.ofNat 32 (0x05 * 2 ^ 24 + k.toNat))) ∧
    (s.fetch.s.bit Reg.DBG_CTL 0 = true → exec (.brk k) s = .next (s.fetch.s.haltCore 5 0).settle) ∧
    ([0x000, 0x001, 0x002, 0x010, 0x020, 0x021, 0x022, 0x023, 0x024, 0x028, 0x029, 0x030, 0x031, 0x040, 0x041, 0x042, 0x043,
      0x044].contains n.toNat = false → Traps (.csrr rd n) s s.core 2 0 word) ∧
    (s.tenantMode = true → [0x000, 0x020, 0x021, 0x022, 0x023, 0x024, 0x028, 0x029, 0x030].contains n.toNat = true →
      Traps (.csrr rd n) s s.core 3 2 word)

/-- R164, R165, R178, R186: WRET in Warden mode restores STATUS, CC and PC from ESTATUS and EPC, or from NSTATUS and NEPC
while NMI is 1, unless it would enter a tenant that is not READY; in Tenant mode with TSTATUS.TEXL = 1 it restores CC and PC
from TSTATUS and TEPC and clears TEXL, and with TEXL = 0 it raises exception 3. A return clears the reservation. -/
def Obligations.Returns : Prop :=
  ∀ (s : State), s.executes →
    let c := s.core
    let cc (w : Word) : CC := { n := w.getLsbD 15, z := w.getLsbD 14, c := w.getLsbD 13, v := w.getLsbD 12 }
    let nmi := c.status.getLsbD 2
    let saved := if nmi then c.nstatus else c.estatus
    let st := saved &&& 0x1FF
    (c.status.getLsbD 8 = false → (saved.getLsbD 8 = true → s.fetch.s.tenState (c.tid.toNat % 1024) = 1) →
      Completes .wret s { c with
        status := if 8 < st.toNat / 16 % 16 then (st &&& 0xFFFFFF0F) ||| 0x80 else st
        cc := cc saved, pc := (if nmi then c.nepc else c.epc) &&& 0xFFFFFFFC, resv := none, guard := [] }) ∧
    (c.status.getLsbD 8 = true → c.tstatus.getLsbD 1 = true →
      Completes .wret s { c with
        tstatus := c.tstatus &&& 0xFFFFFFFD, cc := cc c.tstatus, pc := c.tepc &&& 0xFFFFFFFC, resv := none, guard := [] }) ∧
    (c.status.getLsbD 8 = true → c.tstatus.getLsbD 1 = false → Traps .wret s c 3 0 0x03000000) ∧
    (c.status.getLsbD 8 = false → saved.getLsbD 8 = true → s.fetch.s.tenState (c.tid.toNat % 1024) ≠ 1 →
      exec .wret s = .next s.fetch.s.refuseTenant.settle)

/-- R91, R92, R93, R94, R567: WFI with an eligible interrupt, or as a debug step, goes straight on; else the core sleeps after
it: in DOZE from Tenant mode, while the debug port keeps power, and with LEVEL 0; in NAP with LEVEL 1 and no store left, where
CORE enters RETENTION; with LEVEL 2 or 3 the entry to HIBERNATE or SHELF begins. -/
def Obligations.WaitForInterrupt : Prop :=
  ∀ (s : State), s.executes →
    let u := s.fetch.s
    let quiet := s.hdp.stepping = false ∧ u.eligible = none
    let asleep (w : State) : State := { w with core := { w.core with asleep := true } }
    (s.hdp.stepping = true ∨ u.eligible.isSome = true → Completes .wfi s s.core.next) ∧
    (quiet → (s.tenantMode = true ∨ u.bit Reg.HDP_PWR 1 = true ∨ u.f Reg.SDL_CFG 0 2 = 0) →
      exec .wfi s = .next ((asleep u.advance).setLevel .doze).settle) ∧
    (quiet → s.tenantMode = false → u.bit Reg.HDP_PWR 1 = false → u.f Reg.SDL_CFG 0 2 = 1 → s.core.buf = [] →
      exec .wfi s = .next (asleep ((u.advance.setDom .core .retention).setLevel .nap)).settle) ∧
    (quiet → s.tenantMode = false → u.bit Reg.HDP_PWR 1 = false → 2 ≤ u.f Reg.SDL_CFG 0 2 →
      ∃ t, exec .wfi s = .next t ∧ t.core.asleep = true ∧
        t.pwr.entry = some (if u.f Reg.SDL_CFG 0 2 = 2 then .hibernate else .shelf))

/-- R174, Table 06.3: a synchronous exception, taken with EXL = 0 and DBL = 0, saves PC in EPC and STATUS with CC in ESTATUS,
loads ECAUSE and EVAL, clears MODE and IE, sets EXL, keeps PLVL, clears the reservation, and continues at the word its vector
holds at VBASE + 4 × the number. No general register, no flag and no byte of memory changes. Said for a vector in plain memory
that can be read and with no store waiting. -/
def Obligations.ExceptionEntry : Prop :=
  ∀ (s : State) (num sub : Nat) (eval : Word) (v : Nat),
    s.core.status.getLsbD 1 = false → s.core.status.getLsbD 3 = false → s.core.buf = [] →
    plainRegion (regionOf (s.core.vbase + BitVec.ofNat 32 (4 * num)).toNat) →
    ((s.enterWarden s.pc (BitVec.ofNat 32 (sub * 2 ^ 16 + num)) eval s.core.status).vectorRead num).resp = .ok v →
    let t := s.raise num sub eval
    let f := s.core.cc
    t.core = { s.core with
      epc := s.pc
      estatus := (s.core.status &&& 0x1FF) ||| BitVec.ofNat 32 (2 ^ 15 * bit01 f.n + 2 ^ 14 * bit01 f.z + 2 ^ 13 * bit01 f.c + 2 ^ 12 * bit01 f.v)
      ecause := BitVec.ofNat 32 (sub * 2 ^ 16 + num), eval := eval
      status := (s.core.status &&& 0xFFFFFEFE) ||| 2
      pc := BitVec.ofNat 32 v &&& 0xFFFFFFFC, resv := none, guard := [], stalled := none, nmi := t.core.nmi } ∧
    t.store = s.store ∧ t.saddle = s.saddle ∧ t.nvm = s.nvm

/-! ## Time -/

/-- R38, R50, R51, R52, R182, R189, R190: the clear of the Breath watchdog, the RTC, the system timer and the software
interrupt lines, while the part runs: BRT_DONE with bit 0 set counts for the Breath; a read of RTC_SUB latches RTC_SEC, a
write of RTC_SEC clears RTC_SUB, a second increments RTC_SEC and raises the alarm it reaches, and the trim moves RTC_SUB by
CAL; the timer's match sets MATCH and disarms; a read of STM_CNTLO latches STM_CNTHI, and a write of STM_CMPHI arms the
comparator. -/
def Obligations.RtcAndTimer : Prop :=
  ∀ (s : State) (v : Word) (wr : Writer) (us : Nat), s.awake →
    let cnt := (s.rd Reg.STM_CNTHI).toNat * 2 ^ 32 + (s.rd Reg.STM_CNTLO).toNat
    let cmpLo := (s.rd Reg.STM_CMPLO).toNat
    let cmp := (s.rd Reg.STM_CMPHI).toNat * 2 ^ 32 + cmpLo
    let matched (u : State) : State := (u.setBit Reg.STM_STAT 0).clrBit Reg.STM_STAT 1
    (v.getLsbD 0 = false → Leaves (.brtDoneWrite v wr) s s) ∧
    (v.getLsbD 0 = true → s.tmb.escalated = false →
      Leaves (.brtDoneWrite v wr) s { s with tmb := { s.tmb with brtDone := true } }) ∧
    Leaves (.rtcSubRead wr) s (s.wr Reg.RTC_SNAP (s.rd Reg.RTC_SEC)) ∧
    Leaves (.rtcSecWrite v wr) s ((s.wr Reg.RTC_SEC v).setF Reg.RTC_SUB 0 15 0) ∧
    (let u := (s.wr Reg.RTC_SEC (s.rd Reg.RTC_SEC + 1)).setF Reg.RTC_SUB 0 15 0
     Leaves .rtcSecond s (if s.rd Reg.RTC_ALARM = s.rd Reg.RTC_SEC + 1 then u.setBit Reg.TMB_IRQ 5 else u)) ∧
    (s.tmb.trimTicks < 2 ^ 20 → Leaves .rtcTrim s s) ∧
    (2 ^ 20 ≤ s.tmb.trimTicks → ∀ n : Nat, (n : Int) = s.f Reg.RTC_SUB 0 15 + ((s.rd Reg.RTC_CAL).setWidth 8).toInt → n < s.tickRate →
      Leaves .rtcTrim s ((({ s with tmb := { s.tmb with trimTicks := s.tmb.trimTicks - 2 ^ 20 } } : State).wr Reg.RTC_SEC
        (s.rd Reg.RTC_SEC)).setF Reg.RTC_SUB 0 15 n)) ∧
    (s.bit Reg.STM_CTL 0 = true → s.core.halted = false →
      let n := (cnt + us) % 2 ^ 64
      let u := (s.wr Reg.STM_CNTLO (BitVec.ofNat 32 n)).wr Reg.STM_CNTHI (BitVec.ofNat 32 (n / 2 ^ 32))
      Leaves (.stmMatch us) s (if s.bit Reg.STM_STAT 1 = true ∧ cmp ≤ n then matched u else u)) ∧
    (s.domOn .core = true →
      Leaves (.stmCntloRead wr) s (s.wr Reg.STM_CNTHS (s.rd Reg.STM_CNTHI)) ∧
      Leaves (.stmCmphiWrite v wr) s
        (let u := (s.wr Reg.STM_CMPHI v).setBit Reg.STM_STAT 1
         if v.toNat * 2 ^ 32 + cmpLo ≤ cnt then matched u else u) ∧
      Leaves (.eicSwsetWrite v wr) s { s with core := { s.core with swLines := s.core.swLines ||| v } } ∧
      Leaves (.eicSwclrWrite v wr) s { s with core := { s.core with swLines := s.core.swLines &&& ~~~v } })

/-! ## Supplies -/

/-- R56, R60, R61, R62, R63, R64, R73, R76, R79: while the part runs, VMAIN below its threshold for 2 µs is invalid and VMAIN at
it for 1 ms is valid, not before; another target than the connected source starts a hand-over, which the end of the overlap and
of SETTLE complete and count, and which reverts when the new source fails; no target left enters SHUTDOWN, where a source that is
back for 10 µs is remembered; OFF is left by the target of R61 among what has been there for 1 ms, with its switch closed and a
cold start. -/
def Obligations.PowerPath : Prop :=
  ∀ (s : State) (x : SupplySample) (hcold : Bool),
    let h := s.hrv
    let shows (c : Cmp) (us : Nat) : Bool := c.raw && decide (us ≤ c.held + x.us)
    let fails (c : Cmp) : Prop := c.raw = false ∧ 2 ≤ c.held + x.us
    (s.awake →
      (h.pstate = .on → h.src = .main → h.mainV = true → fails h.cMain → h.batV = true → h.cBat.raw = true →
        ∃ t, exec (.sourceInvalid x) s = .next t ∧ t.hrv.mainV = false ∧ t.hrv.pstate = .handover ∧ t.hrv.src = .main ∧
          t.hrv.newSrc = (if t.hrv.belOk then .bellows else .bat) ∧ t.bit Reg.HRV_IRQ 2 = true ∧ t.hrv.levels = x.now ∧
          t.core.g = s.core.g) ∧
      (h.pstate = .on → h.src = .main → h.mainV = true → h.cMain.raw = false → h.cMain.held + x.us < 2 →
        ∃ t, exec (.sourceInvalid x) s = .next t ∧ t.hrv.mainV = true ∧ t.hrv.pstate = .on ∧ t.hrv.levels = x.now) ∧
      (h.pstate = .on → h.mainV = true → fails h.cMain → h.batV = false → h.cBat.raw = false → h.belCrit = false →
        h.cCrit.raw = false →
        ∃ t, exec (.sourceInvalid x) s = .next t ∧ t.hrv.pstate = .shutdown ∧ t.core.stopped = true ∧
          t.bit Reg.HRV_IRQ 2 = true ∧ t.core.g = s.core.g) ∧
      (h.pstate = .handover → h.newSrc = .bat → h.batV = true → fails h.cBat → h.mainV = true → h.cMain.raw = true →
        ∃ t, exec (.sourceInvalid x) s = .next t ∧ t.hrv.pstate = .settle ∧ t.hrv.src = h.src ∧ t.hrv.completing = false ∧
          t.bit Reg.HRV_IRQ 1 = true ∧ t.bit Reg.HRV_IRQ 6 = true) ∧
      (h.pstate = .on → h.src ≠ .main → h.mainV = false → shows h.cMain 1000 = true →
        ∃ t, exec (.sourceValid x) s = .next t ∧ t.hrv.mainV = true ∧ t.hrv.pstate = .handover ∧ t.hrv.src = h.src ∧
          t.hrv.newSrc = .main ∧ t.bit Reg.HRV_IRQ 2 = true) ∧
      (h.pstate = .on → h.src ≠ .main → h.mainV = false → shows h.cMain 1000 = false →
        ∃ t, exec (.sourceValid x) s = .next t ∧ t.hrv.mainV = false) ∧
      (h.pstate = .handover → h.mainV = true →
        Leaves .overlapEnd s { s with hrv := { h with pstate := .settle, src := h.newSrc, completing := true } }) ∧
      (h.pstate = .settle → h.completing = true → h.src = .main → h.mainV = true →
        Leaves .settleEnd s ((({ s with hrv := { h with pstate := .on, completing := false } } : State).incSat
          Reg.HRV_HOCNT 0 16).setBit Reg.HRV_IRQ 0))) ∧
    (h.pstate = .shutdown →
      (∃ t, exec .sourceReturnInShutdown s = .next t ∧ t.hrv.pstate = .shutdown ∧ t.hrv.levels = h.levels ∧
        t.hrv.resumeDue = (h.resumeDue || h.cMain.raw || h.cBat.raw || h.cOk.raw)) ∧
      ∃ t, exec (.sourceValid x) s = .next t ∧ t.hrv.pstate = .shutdown ∧ t.hrv.levels = x.now ∧
        t.hrv.resumeDue = h.resumeDue ∧ t.hrv.cMain.raw = decide (3000 ≤ x.now.vmain) ∧
        t.hrv.cBat.raw = decide (2000 ≤ x.now.vbat)) ∧
    (h.pstate = .off → s.core.stalled = none → s.hdp.stepping = false →
      let main := shows h.cMain 1000
      let bel := shows h.cOk 1000
      let bat := shows h.cBat 1000
      ((main || bel || bat) = true → ∃ t, exec (.offExit x hcold) s = .next t ∧ t.hrv.pstate = .on ∧
        t.hrv.src = (if main then .main else if bel then .bellows else .bat) ∧ t.hrv.hcold = hcold ∧
        t.hrv.mainV = main ∧ t.hrv.batV = bat ∧ t.pwr.boot = true ∧ t.pwr.cold = true ∧ t.nvm = s.nvm) ∧
      ((main || bel || bat) = false → ∃ t, exec (.offExit x hcold) s = .next t ∧ t.hrv.pstate = .off ∧
        t.hrv.levels = x.now ∧ t.nvm = s.nvm))

/-- R58, R59, R67, R69, R70, R71, R85: a sample moves the regulation point to three times its value, held within 350 and 3600 mV,
and the harvester switches while VHIN is above it; charging, from the harvester and from VMAIN, stops at BEL_MAX and resumes 50 mV
below it; the boost takes over from the cold-start circuit; HRV_THR and HRV_CFG are taken whole where they keep BEL_CRIT <
BEL_LOW < BEL_OK < BEL_MAX, and the comparators use them from then on, else ignored with REJ; HRV_LEVEL takes the four inputs in
steps of 50 mV. -/
def Obligations.Harvester : Prop :=
  ∀ (s : State) (mv vhin : Nat) (x : Levels) (v : Word) (wr : Writer), s.awake →
    let max50 (w : Word) : Nat := [26, 32, 38, 42].getD (w.toNat / 2 ^ 4 % 4) 0
    let ordered (thr cfg : Word) : Prop :=
      thr.toNat % 64 < thr.toNat / 2 ^ 8 % 64 ∧ thr.toNat / 2 ^ 8 % 64 < thr.toNat / 2 ^ 16 % 64 ∧ thr.toNat / 2 ^ 16 % 64 < max50 cfg
    let thr := s.written Reg.HRV_THR v
    let cfg := s.written Reg.HRV_CFG v
    let code (mv : Nat) : Nat := min 255 (mv / 50)
    let point := max 350 (min 3600 (3 * mv))
    let top := 2000 + 50 * max50 (s.rd Reg.HRV_CFG)
    (s.bit Reg.HRV_CFG 0 = true → ∃ t, exec (.harvestSample mv vhin) s = .next t ∧ t.hrv.regPoint = some point ∧
      t.hrv.levels = { s.hrv.levels with vhin := vhin } ∧
      t.hrun = (s.hrv.boostOn && !t.hrv.belFull && decide (point < vhin))) ∧
    (∃ t, exec .bellowsFull s = .next t ∧ t.hrv.belFull = true ∧ t.hrv.levels.vbel = max s.hrv.levels.vbel top ∧
      t.belCharges = false) ∧
    (∃ t, exec .bellowsResume s = .next t ∧ t.hrv.belFull = false ∧ t.hrv.levels.vbel = min s.hrv.levels.vbel (top - 51) ∧
      t.mainCharges = (decide (s.hrv.src = .main) && s.bit Reg.HRV_CFG 3)) ∧
    Leaves .coldStartHandoff s { s with hrv := { s.hrv with boostOn := true } } ∧
    (ordered thr (s.rd Reg.HRV_CFG) → Leaves (.hrvThrWrite v wr) s (s.wr Reg.HRV_THR thr).cmpSee ∧
      ((s.wr Reg.HRV_THR thr).cmpSee.hrv.cOk.raw = true ↔ 2000 + 50 * (thr.toNat / 2 ^ 16 % 64) < s.hrv.levels.vbel)) ∧
    (¬ordered thr (s.rd Reg.HRV_CFG) → Leaves (.hrvThrWrite v wr) s (s.setBit Reg.HRV_IRQ 7)) ∧
    (ordered (s.rd Reg.HRV_THR) cfg → s.hrv.src ≠ .bat → cfg.getLsbD 0 = s.bit Reg.HRV_CFG 0 →
      Leaves (.hrvCfgWrite v wr) s (s.wr Reg.HRV_CFG cfg).belMaxSees) ∧
    (ordered (s.rd Reg.HRV_THR) cfg → s.hrv.src ≠ .bat → cfg.getLsbD 0 ≠ s.bit Reg.HRV_CFG 0 →
      ∃ t, exec (.hrvCfgWrite v wr) s = .next t ∧ t.rd Reg.HRV_CFG = cfg ∧ t.hrv.regPoint = none ∧ t.hrv.src = s.hrv.src) ∧
    (¬ordered (s.rd Reg.HRV_THR) cfg → Leaves (.hrvCfgWrite v wr) s (s.setBit Reg.HRV_IRQ 7)) ∧
    Leaves (.hrvLevelUpdate x.vhin x.vmain x.vbel x.vbat) s ((s.wr Reg.HRV_LEVEL
      (BitVec.ofNat 32 (code x.vhin * 2 ^ 24 + code x.vmain * 2 ^ 16 + code x.vbel * 2 ^ 8 + code x.vbat))).setLevels x)

/-! ## Sleep, domains and resets -/

/-- R97, R99, R100, R101, R103, R108, R109, R110: PWR_DOMCTL takes a domain down or up; a staggered step starts its domain,
which is ON once it is usable, and the safety block is up as step 8 begins (log 47); the end of a power-down leaves it in
RETENTION; a deep entry whose transactions have ended reaches its level; an enabled wake event ends a deep sleep by the
staggered start, and changes nothing in RUN; a wake pin is recorded, and a scan of the wake key, which lies in a quiet slot
while the slot timing runs. -/
def Obligations.SleepAndDomains : Prop :=
  ∀ (s : State) (d : Domain) (v : Word) (wr : Writer) (src : WakeSource) (l : Level) (pin : Fin 4) (high : Bool) (count k : Nat)
    (rest : List Nat),
    (s.awake →
      let new := s.written Reg.PWR_DOMCTL v
      (d ∈ softDomains → s.domOn .sys = true → s.outputsOn = 0 →
        (∀ e ∈ softDomains, e ≠ d → new.getLsbD (domBit e) = s.bit Reg.PWR_DOMCTL (domBit e)) →
        (new.getLsbD (domBit d) = false → s.bit Reg.PWR_DOMCTL (domBit d) = true → s.domOn d = true →
          let u := (s.wr Reg.PWR_DOMCTL new).setDom d .transition
          Leaves (.powerDownStart v wr) s { u with pwr := { s.pwr with pdown := s.pwr.pdown ++ [d] } }) ∧
        (new.getLsbD (domBit d) = true → s.bit Reg.PWR_DOMCTL (domBit d) = false → s.dom d = .retention → d ∉ s.pwr.pdown →
          s.bit Reg.RST_STAT (domBit d) = false → s.stepsLeft d = false →
          Leaves (.pwrDomctlSet v wr) s
            { s.wr Reg.PWR_DOMCTL new with pwr := { s.pwr with stagger := s.pwr.stagger ++ domSteps d } })) ∧
      (d ∈ s.pwr.pdown → d ∈ softDomains →
        ∃ t, exec (.powerDownDone d) s = .next t ∧ t.dom d = .retention ∧ d ∉ t.pwr.pdown ∧
          (s.stcPh ≠ 5 → s.stcPh ≠ 10 → t.core = s.core) ∧ t.store = s.store) ∧
      Leaves (.wakeEvent src) s s ∧
      (∃ t, exec (.gpioWakeEdge pin (if high then .high else .low)) s = .next t ∧
        t.pins = { s.pins with gpioExt := wputBit s.pins.gpioExt pin.val high, gpioOpen := wputBit s.pins.gpioOpen pin.val false } ∧
        t.pwr = s.pwr ∧ t.core = s.core) ∧
      (let timing := s.domOn .hmi = true ∧ (s.bit Reg.PNL_CTL 0 = true ∨ s.bit Reg.PNL_STAT 0 = true)
       let counted := { s with pwr := { s.pwr with wkScans := s.pwr.wkScans ++ [count], wkFalls := 0 } }
       s.bit Reg.SDL_WKEY 7 = true → s.bit Reg.TCH_CTL 0 = false → s.pwr.wkScans.length < 4 →
        (¬timing → Leaves (.wakeKeyScan count) s counted) ∧
        (timing → s.pnl.quiet = none → Leaves (.wakeKeyScan count) s s) ∧
        (timing → s.pnl.quiet ≠ none →
          Leaves (.wakeKeyScan count) s { counted with pnl := { s.pnl with window := 173 } }))) ∧
    (s.calm → s.lcs.nresetLow = false → s.pwr.stagger = k :: rest → s.skips k = false → s.dom (stepDom k) ≠ .transition →
      (stepDom k = .meas → 8 ∈ rest) →
      Leaves .staggerStep s (({ s with pwr := { s.pwr with stagger := rest } } : State).setDom (stepDom k) .transition)) ∧
    (s.calm → s.lcs.nresetLow = false → s.pwr.stagger = 8 :: rest → 7 ∉ rest → 8 ∉ rest → s.dom .meas = .transition →
      s.bit Reg.RST_STAT 1 = false →
      ∃ t, exec .staggerStep s = .next t ∧ t.safReady = true ∧ t.pwr.stagger = rest ∧ t.dom .meas = .transition ∧
        (s.safeConds ≠ [] → t.bit Reg.SAF_STAT 0 = true)) ∧
    (s.calm → s.mayUse d = true → s.bus.held = [] → s.domctl d = true ∨ d = .sys ∨ d = .store ∨ d = .core →
      ∃ t, exec (.domainUsable d) s = .next t ∧ t.dom d = .on) ∧
    (s.calm → s.pwr.entry = some l → s.core.buf = [] → s.bus.nvmQ = [] → s.bus.held = [] → s.lcsBusy = false →
      s.lcs.keyLoad = none → s.stcPh ≠ 5 → s.stcPh ≠ 10 →
      ∃ t, exec .deepEntryCommit s = .next t ∧ t.pwr.level = l ∧ t.pwr.entry = none ∧ t.store = s.store ∧
        t.msr.held = [] ∧ (s.msr.held = [] → t.saddle = s.saddle)) ∧
    (s.calm → s.pwr.level = .hibernate → s.pwr.entry = none → s.pwr.waking = false → s.wakeEnabled src .hibernate = true →
      ∃ t, exec (.wakeEvent src) s = .next t ∧ t.pwr.waking = true ∧ t.pwr.stagger = staggerSteps ∧
        t.bit Reg.SDL_WCAUSE (wakeBit src) = true ∧ t.f Reg.SDL_WCAUSE 16 3 = 3 ∧ t.core = s.core)

/-- R116, R118, R119, R120, R121, R122, R141: nRESET low for 5 µs or more is a SYSTEM trigger, and shorter than 1 µs it is
none; RST_CTL takes its key, triggers a SYSTEM reset or resets a domain; the SYSTEM reset answers the triggers that wait, puts
the core at the boot ROM and keeps its general registers and Saddle RAM; the cold MATS+ leaves the Store zero. -/
def Obligations.Resets : Prop :=
  ∀ (s : State) (ns : Nat) (v : Word) (wr : Writer) (d : Domain) (c : ResetCause) (r : MarchResult),
    (s.calm →
      let waits (c : ResetCause) : List ResetCause :=
        if s.lcs.pendingResets.contains c then s.lcs.pendingResets else s.lcs.pendingResets ++ [c]
      (5000 ≤ ns → Leaves (.nresetAssert ns) s { s with lcs := { s.lcs with pendingResets := waits .nreset, nresetLow := true } }) ∧
      (ns < 1000 → Leaves (.nresetAssert ns) s s) ∧
      Leaves .nresetRelease s { s with lcs := { s.lcs with nresetLow := false } } ∧
      (s.domOn .sys = true →
        (v.toNat / 2 ^ 16 ≠ 0xA5C3 → Leaves (.rstSysrst v wr) s (s.setBit Reg.RST_STAT 8)) ∧
        (v.toNat / 2 ^ 16 = 0xA5C3 → v.getLsbD 8 = true → Leaves (.rstSysrst v wr) s
          { s with lcs := { s.lcs with pendingResets := waits .software, softMid := wr.mid } }) ∧
        (v = 0xA5C30000 ||| BitVec.ofNat 32 (2 ^ domBit d) → d ∈ softDomains → s.bit Reg.RST_STAT (domBit d) = false →
          ∃ t, exec (.rstDomrst v wr) s = .next t ∧ t.dom d = .reset ∧ t.bit Reg.RST_STAT (domBit d) = true ∧
            t.core.g = s.core.g ∧ t.saddle = s.saddle)) ∧
      (s.lcs.pendingResets = [c] → s.resetDeferred = false →
        ∃ t, exec .systemReset s = .next t ∧ t.lcs.pendingResets = [] ∧ t.core.pc = 0xF0000000 ∧ t.core.status = 0x80 ∧
          t.core.g = s.core.g ∧ t.pwr.level = .run ∧ t.pwr.boot = true ∧ t.pwr.stagger = staggerSteps ∧ t.dom .core = .reset ∧
          t.saddle = s.saddle)) ∧
    (s.powered = true → s.core.stalled = none → s.hdp.stepping = false → s.pwr.boot = true → s.domOn .core = true →
      s.core.halted = false → s.core.stopped = false → s.pwr.stage = .mats → s.domOn .sec = true → s.pwr.stagger = [] →
      s.stcPh = 1 → s.store.length = 17 → (∀ a, a < 17 → (s.arrDenied 0x401 a).clean = true) → r.fails = [] →
      ∃ t, exec (.bootColdMats r) s = .next t ∧ t.store = List.replicate 17 (.blank .zeros) ∧ t.bit Reg.STC_STAT 3 = s.bit Reg.STC_STAT 3)

/-! ## The life cycle -/

/-- R143 to R148, R150, R152, R155: a listed transition starts its journal, or the count of its challenge where it needs one,
and any other request is refused; the challenge is the UID and the new count; the last word of a response starts the check,
which starts the journal or counts a failure and locks out; the journal leaves the new state and its reset; a key load fills
its slot and clears the buffer. -/
def Obligations.LifeCycle : Prop :=
  ∀ (s : State) (v : Word) (wr : Writer), s.awake →
    let tgt := v.toNat % 8
    let warden := wr.mid = 0 ∧ wr.aid = 0x400
    let dropped := (s.clrBit Reg.LCS_STAT 3).clrBit Reg.HDP_STAT 3
    let cnt := (s.nvm64 0x3F0120 + 1) % 2 ^ 64
    let code := [0, 1, 3, 7].getD s.lcs.target 31
    let message := s.regBytes Reg.LCS_CHAL 4 ++ [BitVec.ofNat 8 (codeOfState s.lcs.target), BitVec.ofNat 8 (s.f Reg.LCS_STATE 0 5)]
    let passes := ∃ k, s.usableKey 7 = some k ∧ hmacSha256 k message = s.regBytes Reg.LCS_RESP 8
    (warden → v.toNat / 2 ^ 16 = 0x1C5E → s.lcsBusy = false → s.bit Reg.LCS_STAT 7 = false → s.outputsOn = 0 →
      s.transitionReady tgt = true →
      ((s.lcState, tgt) ∈ [(0, 1), (1, 2), (0, 4)] → Leaves (.lifecycleRequest v wr) s
        { dropped with hdp := { s.hdp with unlocking := false }, lcs := { s.lcs with target := tgt, journal := true, journalDone := 0 } }) ∧
      ((s.lcState, tgt) ∈ [(2, 3), (3, 2), (1, 4), (2, 4), (3, 4)] → Leaves (.lifecycleRequest v wr) s
        { dropped with hdp := { s.hdp with unlocking := false }, lcs := { s.lcs with target := tgt, chalWrite := true } })) ∧
    (v.toNat / 2 ^ 16 ≠ 0x1C5E ∨ s.lcsBusy = true ∨ s.bit Reg.LCS_STAT 7 = true →
      Leaves (.lifecycleRequest v wr) s (s.setBit Reg.LCS_STAT 4)) ∧
    (s.lcs.chalWrite = true → s.hdp.unlocking = false →
      ∃ t, exec .challengeReady s = .next t ∧ t.lcs.chalWrite = false ∧ t.bit Reg.LCS_STAT 3 = true ∧
        t.rd (Reg.LCS_CHAL 0) = Config.uid 0 ∧ t.rd (Reg.LCS_CHAL 1) = Config.uid 1 ∧
        t.rd (Reg.LCS_CHAL 2) = BitVec.ofNat 32 cnt ∧ t.rd (Reg.LCS_CHAL 3) = BitVec.ofNat 32 (cnt / 2 ^ 32) ∧
        t.nvm64 0x3F0120 = cnt) ∧
    (warden → s.bit Reg.LCS_STAT 3 = true → Leaves (.lcsResponseWrite v wr) s
      { ((s.wr (Reg.LCS_RESP 7) v).clrBit Reg.LCS_STAT 3).clrBit Reg.HDP_STAT 3 with lcs :=
          { s.lcs with checking := true, checkBlocks := 4 } }) ∧
    (s.bit Reg.LCS_STAT 3 = false → Leaves (.lcsResponseWrite v wr) s (s.setBit Reg.LCS_STAT 4)) ∧
    (s.lcs.checking = true → s.hdp.unlocking = false →
      (passes → ∃ t, exec .challengeCheckDone s = .next t ∧ t.lcs.checking = false ∧ t.lcs.journal = true ∧ t.failCnt = 0) ∧
      (¬passes → ∃ t, exec .challengeCheckDone s = .next t ∧ t.lcs.checking = false ∧ t.lcs.journal = s.lcs.journal ∧
        t.bit Reg.LCS_STAT 7 = true ∧ t.bit Reg.LCS_STAT 5 = true ∧ t.failCnt = min (2 ^ 64 - 1) (s.failCnt + 1))) ∧
    Leaves .challengeExpiry s dropped ∧
    Leaves .lockoutEnd s (s.clrBit Reg.LCS_STAT 7) ∧
    (s.lcs.journal = true → s.lcs.journalDone = 0 → s.lcs.pendingResets = [] →
      ∃ t, exec .journalWrite s = .next t ∧ t.lcsBusy = true ∧ t.nvm64 0x3F0100 = code + (2 ^ 32 - 1 - code) * 2 ^ 32 ∧ t.nvm64 0x3F0108 = 0 ∧
        t.nvm64 0x3F0110 = 0 ∧ t.lcs.pendingResets = [.lifecycle] ∧ t.bit Reg.LCS_STAT 6 = true ∧
        (s.lcs.target = 4 → t.lcs.keys = List.replicate 8 [])) ∧
    (warden → v.toNat / 2 ^ 16 = 0x4B59 → s.lcs.keyLoad = none → s.mayLoad (v.toNat % 8) = true →
      0 < v.toNat / 2 ^ 8 % 128 → v.toNat / 2 ^ 8 % 128 ≤ 64 →
      Leaves (.keyLoad v wr) s { s with lcs := { s.lcs with keyLoad := some (v.toNat % 8, v.toNat / 2 ^ 8 % 128) } }) ∧
    (v.toNat / 2 ^ 16 ≠ 0x4B59 → Leaves (.keyLoad v wr) s (s.setBit Reg.LCS_KEYSTAT 9)) ∧
    (∀ slot len, s.lcs.keyLoad = some (slot, len) →
      ∃ t, exec .keyLoadDone s = .next t ∧ t.lcs.keyLoad = none ∧
        t.lcs.keys = s.lcs.keys.set slot ((s.regBytes Reg.LCS_KEYBUF 16).take len) ∧
        ∀ i, i < 16 → t.rd (Reg.LCS_KEYBUF i) = 0)

/-! ## The tracker, the tick clock and the boundaries -/

/-- R29 to R33, R43, R45 to R49: while the part runs, after the ticks the command brings: a crossing before the half-Cycle
gate is ignored; one that ends a valid interval on LXO sets N_last, the miss timer, PHERR and, out of FREE, the target of R30;
a miss is counted, and MISSLIM misses lead to FREE with MLOST from LOCKED; LXO that stops moves the tick clock to LRC at once,
one that has never started is reported too, and its return starts a new count of edges; a monitor window of the clock that its
Breath ran on reports its counts and the HFO failure, and one of the other clock does not run; CLK_OP starts a change or is
ignored with REJ, and its end gives the new operating point. -/
def Obligations.TrackerAndClocks : Prop :=
  ∀ (s : State) (n w hfo lrc : Nat) (onLxo : Bool) (v : Word) (wr : Writer), s.awake →
    let u := s.advanceTicks n
    let N := u.tmb.sinceCross
    let a : Nat := u.tmb.acc % 2 ^ 24
    let e : Int := if a < 2 ^ 23 then a else (a : Int) - 2 ^ 24
    let ph : Int := Int.tdiv (e * N) (2 ^ 24)
    let missLim := u.f Reg.TMB_CFG 24 3 + 1
    (u.onLrc = false → u.tmb.fromShelf = false →
      (u.tmb.crossSeen = true → N < 2 ^ 23 / u.curInc → Leaves (.mainsCrossing n) s u) ∧
      (u.tmb.crossSeen = true → u.tmb.intervalSwitched = false → 2 ^ 23 / u.curInc ≤ N → 496 ≤ N → N ≤ 729 →
        ∃ t, exec (.mainsCrossing n) s = .next t ∧ t.tmb.nLast = N ∧ t.tmb.missLeft = (3 * N + 1) / 2 ∧ t.tmb.sinceCross = 0 ∧
          t.tmb.missRun = 0 ∧ (BitVec.ofNat 16 (t.f Reg.TMB_LAST 16 16)).toInt = ph ∧
          (u.mstate = 2 → t.tmb.target = some (Int.tdiv 16777216 N - Int.tdiv e (8 * N))) ∧
          (u.mstate = 2 → ph.natAbs ≤ u.f Reg.TMB_TRK 8 8 → t.mstate = 2) ∧
          (u.mstate = 0 → u.tmb.validRun = 3 → u.bit Reg.TMB_CFG 20 = true → t.mstate = 1) ∧ t.core = u.core)) ∧
    (u.tmb.fromShelf = true → Leaves (.mainsMiss n) s u) ∧
    (u.tmb.fromShelf = false → u.tmb.missLeft = 0 → u.mstate = 1 ∨ u.mstate = 2 → u.tmb.missRun + 1 < missLim →
      Leaves (.mainsMiss n) s { u with tmb := { u.tmb with missLeft := u.tmb.nLast, missRun := u.tmb.missRun + 1 } }) ∧
    (u.tmb.fromShelf = false → u.tmb.missLeft = 0 → u.mstate = 2 → missLim ≤ u.tmb.missRun + 1 →
      ∃ t, exec (.mainsMiss n) s = .next t ∧ t.mstate = 0 ∧ t.bit Reg.TMB_IRQ 3 = true ∧ t.tmb.target = none) ∧
    (u.mstate = 0 → Leaves (.mainsMiss n) s u) ∧
    (u.tmb.lxoRuns = true → u.onLrc = false →
      ∃ t, exec (.lxoStop n) s = .next t ∧ t.onLrc = true ∧ t.bit Reg.TMB_STAT 13 = true ∧ t.bit Reg.TMB_IRQ 6 = true ∧
        t.tmb.cycleSwitched = true ∧ t.tmb.lxoRuns = false ∧ t.tmb.nLast = u.tmb.nLast * 125 / 128 ∧ t.mstate = u.mstate) ∧
    (u.tmb.lxoRuns = false → u.bit Reg.TMB_STAT 13 = false → u.onLrc = true →
      ∃ t, exec (.lxoStop n) s = .next t ∧ t.bit Reg.TMB_STAT 13 = true ∧ t.bit Reg.TMB_IRQ 6 = true ∧ t.onLrc = true) ∧
    Leaves .lxoRestart s (({ s with tmb := { s.tmb with lxoRuns := true, lxoGood := 0 } } : State).clrBit Reg.TMB_STAT 13) ∧
    (s.domOn .sys = true →
      (s.tmb.lxoWhole ≠ onLxo → Leaves (.monitorWindowEnd w hfo lrc onLxo) s s) ∧
      (0 < w → s.tmb.lxoWhole = true → s.tmb.busySeen = false → s.bit Reg.CLK_STAT 0 = false →
        let expected : Nat := w * s.f Reg.CLK_STAT 8 7 * 1000000
        ∃ t, exec (.monitorWindowEnd w hfo lrc true) s = .next t ∧ t.f Reg.CLK_MON 16 16 = w % 2 ^ 16 ∧
          t.f Reg.CLK_MON 0 16 = lrc % 2 ^ 16 ∧
          t.bit Reg.CLK_STAT 3 = decide (expected < ((hfo * 32768 : Nat) - (expected : Int)).natAbs * 50) ∧
          t.core.g = s.core.g ∧ t.store = s.store) ∧
      (let mhz := v.toNat % 128
       let new := s.written Reg.CLK_OP v
       let legal := 4 ≤ mhz ∧ mhz ≤ 96 ∧ (v.getLsbD 8 = true ∨ mhz ≤ 32)
       (s.bit Reg.CLK_STAT 0 = false → legal → Leaves (.clkOpWrite v wr) s
         { (s.wr Reg.CLK_OP new).setBit Reg.CLK_STAT 0 with tmb := { s.tmb with opTarget := new, busySeen := true } }) ∧
       (s.bit Reg.CLK_STAT 0 = true ∨ ¬legal → Leaves (.clkOpWrite v wr) s (s.setBit Reg.CLK_STAT 2)))) ∧
    (s.bit Reg.CLK_STAT 0 = true → s.domOn .sys = true → ∃ t, exec .opChangeDone s = .next t ∧ t.bit Reg.CLK_STAT 0 = false ∧
      t.f Reg.CLK_STAT 8 7 = s.tmb.opTarget.toNat % 128 ∧ t.bit Reg.CLK_STAT 16 = s.tmb.opTarget.getLsbD 8 ∧
      t.tmb = { s.tmb with usFrac := 0 })

/-- R25 to R28, R30, R35, R39: while the part runs, after the ticks the command brings: at a Cycle boundary the Cycle count
grows by one, LEN is the Cycle's ticks, the accumulator keeps what passes 2^24, CURINC moves toward its target by at most SLEW
within its limits, Breath 0 begins, and CYCLE and BREATH are set; at a Breath boundary the next Breath begins with BREATH set,
and the watchdog counts an overrun or clears OVRCONS for the Breath that ends; before the boundary is reached only the ticks
pass. -/
def Obligations.Boundaries : Prop :=
  ∀ (s : State) (b : BoundaryInput) (n sfb : Nat), s.awake →
    (let u := s.advanceTicks b.ticks
     let nominal : Int := max 23040 (min 33792 (u.f Reg.TMB_CFG 0 16))
     let goal : Option Int := if u.mstate = 0 then some nominal else u.tmb.target
     let slew : Int := max 1 (u.f Reg.TMB_TRK 0 8)
     (u.tmb.acc < 2 ^ 24 → Leaves (.cycleBoundary b) s u) ∧
     (2 ^ 24 ≤ u.tmb.acc →
       ∃ t, exec (.cycleBoundary b) s = .next t ∧ t.rd Reg.TMB_CYCCNT = u.rd Reg.TMB_CYCCNT + 1 ∧
         t.f Reg.TMB_LAST 0 16 = u.tmb.cycTicks % 2 ^ 16 ∧ t.tmb.acc = u.tmb.acc - 2 ^ 24 ∧ t.tmb.cycTicks = 0 ∧
         t.f Reg.TMB_STAT 0 5 = 0 ∧ t.bit Reg.TMB_IRQ 0 = true ∧ t.bit Reg.TMB_IRQ 1 = true ∧ t.tmb.brtDone = false ∧
         (goal = none → t.curInc = u.curInc) ∧
         (∀ g, goal = some g →
           (t.curInc : Int) = max 23040 (min 33792 (u.curInc + max (-slew) (min slew (g - u.curInc)))))
         ∧ t.core.g = s.core.g ∧ t.store = s.store)) ∧
    (let u := s.advanceTicks n
     let next := u.f Reg.TMB_STAT 0 5 + 1
     let watched := u.bit Reg.BRT_CFG 0 = true ∧ u.core.halted = false ∧ u.tmb.brtWhole = true
     (u.tmb.acc < next * 2 ^ 24 / u.tmb.breathDiv → Leaves (.breathBoundary n sfb) s u) ∧
     (u.tmb.breathDiv ≤ next → Leaves (.breathBoundary n sfb) s u) ∧
     (next < u.tmb.breathDiv → u.tmb.breathDiv ≤ 32 → next * 2 ^ 24 / u.tmb.breathDiv ≤ u.tmb.acc →
       ∃ t, exec (.breathBoundary n sfb) s = .next t ∧ t.f Reg.TMB_STAT 0 5 = next ∧ t.bit Reg.TMB_IRQ 0 = true ∧
         t.tmb.brtDone = false ∧
         (watched → u.tmb.brtDone = true → t.f Reg.BRT_CFG 8 4 = 0) ∧
         (watched → u.tmb.brtDone = false → t.bit Reg.TMB_IRQ 2 = true ∧
           t.f Reg.BRT_CFG 16 16 = min (2 ^ 16 - 1) (u.f Reg.BRT_CFG 16 16 + 1)) ∧
         t.core.g = s.core.g ∧ t.store = s.store))

/-! ## Entries of the core from outside its instructions -/

/-- R158, R174, R176, R180, R181, R185, R363: at an instruction boundary with no halt due, the core takes the eligible
interrupt of highest priority, the safety NMI, a deliverable virtual line of the current tenant, or the exit of a tenant that
is no longer READY, each with its saved registers; a lockstep mismatch stops the cores and leads to the safe state and a
SYSTEM trigger. -/
def Obligations.CoreEntries : Prop :=
  ∀ (s : State) (n v : Nat) (line : Nat), s.awake → s.coreRuns = true →
    let c := s.core
    let f := c.cc
    let saved := (c.status &&& 0x1FF) |||
      BitVec.ofNat 32 (2 ^ 15 * bit01 f.n + 2 ^ 14 * bit01 f.z + 2 ^ 13 * bit01 f.c + 2 ^ 12 * bit01 f.v)
    let quiet := s.hdp.haltReq = false ∧ s.hdp.wpHit = none ∧ s.breakpoint = none
    let asserted (m : Nat) : Prop := m < 128 ∧ s.bit (Reg.EIC_EN (m / 32)) (m % 32) = true ∧ s.eicLine m = true
    let vectorPlain (k : Nat) : Prop := c.buf = [] ∧ plainRegion (regionOf (c.vbase + BitVec.ofNat 32 (4 * k)).toNat)
    (quiet → s.nmiDue = false → s.ten.exitDue = false → c.status.getLsbD 1 = false → c.status.getLsbD 2 = false →
      s.tenantMode = true ∨ c.status.getLsbD 0 = true → asserted n → s.prio n < c.status.toNat / 16 % 16 →
      (∀ m, asserted m → s.prio n < s.prio m ∨ s.prio n = s.prio m ∧ n ≤ m) → vectorPlain (32 + n) →
      let status := (c.status &&& 0xFFFFFE0E) ||| BitVec.ofNat 32 (16 * s.prio n) ||| 2
      ((s.enterWarden s.pc (BitVec.ofNat 32 (2 ^ 31 + n)) 0 (setFld c.status 4 4 (s.prio n))).vectorRead (32 + n)).resp = .ok v →
      ∃ t, exec .interruptEntry s = .next t ∧ t.core = { c with
          epc := c.pc, estatus := saved, ecause := BitVec.ofNat 32 (2 ^ 31 + n), eval := 0, status := status,
          pc := BitVec.ofNat 32 v &&& 0xFFFFFFFC, resv := none, guard := [], nmi := t.core.nmi } ∧ t.store = s.store) ∧
    (quiet → s.nmiDue = false → s.ten.exitDue = false → s.interruptDue = none → Leaves .interruptEntry s s) ∧
    (quiet → c.nmi = true → c.status.getLsbD 2 = false → vectorPlain 1 →
      let entered := { c with
        nepc := c.pc, nstatus := saved, status := (c.status &&& 0xFFFFFEFE) ||| 4, nmi := false, resv := none, guard := [] }
      (({ s with core := entered } : State).vectorRead 1).resp = .ok v → s.bus.held = [] → s.ten.exitDue = false →
      ∃ t, exec .safetyNmi s = .next t ∧ t.core = { c with
        nepc := c.pc, nstatus := saved, status := (c.status &&& 0xFFFFFEFE) ||| 4, pc := BitVec.ofNat 32 v &&& 0xFFFFFFFC,
        resv := none, guard := [], nmi := t.core.nmi } ∧ t.store = s.store) ∧
    (quiet → s.nmiDue = false → s.ten.exitDue = false → s.interruptDue = none → c.tstatus.getLsbD 0 = true →
      c.tstatus.getLsbD 1 = false → s.tenantLine = some line →
      ∃ t, exec .tenantExceptionEntry s = .next t ∧ t.core = { c with
        tepc := c.pc, tcause := BitVec.ofNat 32 line, pc := c.tvec &&& 0xFFFFFFFC, resv := none, guard := [],
        tstatus := (c.tstatus &&& 0xFFFF0FFF) ||| (saved &&& 0xF000) ||| 2 } ∧
        16 * s.tidNum + line ∉ t.ten.latches ∧ t.store = s.store) ∧
    (quiet → s.nmiDue = false → s.ten.exitDue = true → s.tenantMode = true →
      exec .tenantNotReadyExit s = .next (s.raise 3 1 c.tid).finish) ∧
    (quiet → s.nmiDue = false → s.ten.exitDue = false → Leaves .tenantNotReadyExit s s) ∧
    (s.domOn .meas = true →
      ∃ t, exec .lockstepMismatch s = .next t ∧ t.core.stopped = true ∧ t.core.buf = [] ∧ t.saf.coreStop = 1 ∧
        .lockstep ∈ t.lcs.pendingResets ∧ t.bit Reg.SAF_STAT 0 = true ∧ t.rd Reg.SAF_LASTFW = 0x40010000 ∧
        t.core.g = c.g ∧ t.core.pc = c.pc ∧ t.store = s.store)

/-! ## The interconnect, the pins and the gates -/

/-- R6, R7, R9, R11, Table 00.2: a write of a register whose access codes say it all sets its RW bits, its RWL bits while the
lock is clear, and clears its W1C bits by a 1; every other bit keeps its value, every other register that follows no level
keeps its value, and the core and the memories are as before. A write at a block that is not ON changes nothing (log 10). -/
def Obligations.RegisterAccessCodes : Prop :=
  ∀ (s : State) (a : Nat) (v : Word) (wr : Writer), s.awake →
    (s.regUp a = false → Leaves (.registerWrite a v wr) s s) ∧
    (s.regUp a = true → a ∈ plainRegs → ∀ d, regDef? a = some d →
      ∃ t, exec (.registerWrite a v wr) s = .next t ∧
        (∀ i, i < 32 → (t.rd a).getLsbD i =
          if d.rw.testBit i then v.getLsbD i
          else if d.rwl.testBit i then (if s.bit d.lockAddr d.lockBit then (s.rd a).getLsbD i else v.getLsbD i)
          else if d.w1c.testBit i then (s.rd a).getLsbD i && !v.getLsbD i
          else (s.rd a).getLsbD i) ∧
        (∀ b, b ≠ a → levelReg b = false → t.rd b = s.rd b) ∧
        t.core = s.core ∧ t.store = s.store ∧ t.saddle = s.saddle ∧ t.nvm = s.nvm)

/-- R230, R240, R247, R253: a posted store that its gate allows lands in Saddle RAM and leaves the buffer; one to an address
that is not mapped leaves an error record with its fields, or sets OVF when eight stand; ERRPOP drops the oldest record; the
NVM word in progress is written byte by byte; the guard of a bank ends. -/
def Obligations.Interconnect : Prop :=
  ∀ (s : State) (e : Posted) (v : Word) (wr : Writer) (w : NvmWrite) (rest : List NvmWrite), s.awake → s.domOn .sys = true →
    let emptied := { s.core with buf := [] }
    (s.core.buf = [e] → e.req.kind = .write → e.req.size = 4 → e.req.addr % 4 = 0 → 0x30008000 ≤ e.req.addr →
      e.req.addr < 0x3000C000 → (s.gateCheck 2 e.req.addr 0 e.req).ok = true →
      Leaves (.postedStoreIssue 0) s
        ({ s with core := emptied, saddle := s.saddle.putWord (e.req.addr - 0x30008000) (bytesLE 4 e.req.data) }.granted 2
          e.req.cls e.req.mid)) ∧
    (s.core.buf = [e] → e.req.kind = .write → e.req.size = 4 → regionOf e.req.addr = .unmapped →
      (s.bus.errs.length < 8 → Leaves (.postedStoreIssue 0) s
        { s with core := emptied, bus := { s.bus with errs := s.bus.errs ++ [(BitVec.ofNat 32 e.req.addr, BitVec.ofNat 32
          (1 * 2 ^ 28 + e.req.mid % 16 * 2 ^ 24 + e.req.aid % 2048 * 2 ^ 12 + 2 * 2 ^ 10 + 2 ^ 9 + targetOf e.req.addr))] } }) ∧
      (8 ≤ s.bus.errs.length → Leaves (.postedStoreIssue 0) s ({ s with core := emptied }.setBit Reg.ICT_ERRSTAT 8))) ∧
    Leaves (.ictErrpop v wr) s
      (if v.getLsbD 0 then { s with bus := { s.bus with errs := s.bus.errs.drop 1 } } else s) ∧
    (s.bus.nvmQ = w :: rest → w.bytes.length = 8 →
      ∃ t, exec .nvmWordWrite s = .next t ∧ t.bus.nvmQ = rest ∧
        (∀ i, i < 8 → t.nvm.get? (w.addr + i) = ((w.bytes.getD i none).or (s.nvm.get? (w.addr + i)))) ∧
        (∀ a, a < w.addr ∨ w.addr + 8 ≤ a → t.nvm.get? a = s.nvm.get? a) ∧ t.core = s.core ∧ t.store = s.store) ∧
    Leaves .scndGuardExpiry s { s with core := { s.core with guard := s.core.guard.drop 1 } }

/-- R265, R266, R267, R269, R418, R423, R590, R593: a new level at an input pin, driven or pulled, shows in GPIO_IN behind its
filter and sets the event that IMODE names; bank VIO1 below 1.62 V makes GPIO_IN read 0 without an event; a supply monitor's fault reaches the safe state where it
must, and its end clears its condition; VIO0 that rises with TESTEN high enters the factory test mode, to which the manual
gives no behaviour. -/
def Obligations.GpioAndSupplies : Prop :=
  ∀ (s : State) (pin : Fin 16) (drive : BoardDrive) (samples : Nat) (bank : Fin 4) (above testen : Bool), s.awake →
    s.pins.vio.length = 4 →
    (s.domOn .sys = true → s.pins.vio.getD 1 true = true → s.bit Reg.GPIO_DIR pin.val = false →
      s.bit Reg.GPIO_LVL pin.val = false → s.bit Reg.GPIO_FILT pin.val = false ∨ s.f Reg.GPIO_FILT 24 4 + 2 ≤ samples →
      let up := s.bit Reg.GPIO_PULL pin.val
      let down := s.bit Reg.GPIO_PULL (16 + pin.val)
      let level := drive = .high ∨ (drive = .open ∧ (if up ≠ down then up = true else s.freeBool = true))
      ∃ t, exec (.gpioEdge pin ⟨drive, samples⟩) s = .next t ∧ (t.bit Reg.GPIO_IN pin.val = true ↔ level) ∧
        (∀ m : Fin 16, m ≠ pin → t.bit Reg.GPIO_IN m.val = s.bit Reg.GPIO_IN m.val) ∧
        t.bit Reg.GPIO_IRQ pin.val = (s.bit Reg.GPIO_IRQ pin.val ||
          (decide (t.bit Reg.GPIO_IN pin.val ≠ s.bit Reg.GPIO_IN pin.val) &&
            s.bit Reg.GPIO_IMODE (2 * pin.val + bit01 (!(t.bit Reg.GPIO_IN pin.val))))) ∧
        t.core = s.core) ∧
    (s.domOn .sys = true → s.bit Reg.GPIO_FILT pin.val = true → samples < s.f Reg.GPIO_FILT 24 4 + 2 →
      ∃ t, exec (.gpioEdge pin ⟨drive, samples⟩) s = .next t ∧ t.rd Reg.GPIO_IN = s.rd Reg.GPIO_IN ∧ t.core = s.core) ∧
    (s.domOn .sys = true → Leaves (.vioBankCrossing 1 false testen) s
      ({ s with pins := { s.pins with vio := s.pins.vio.set 1 false } }.wr Reg.GPIO_IN 0)) ∧
    (1 < bank.val → Leaves (.vioBankCrossing bank above testen) s
      { s with pins := { s.pins with vio := s.pins.vio.set bank.val above } }) ∧
    (s.pins.vio.getD 0 true = false → exec (.vioBankCrossing 0 true true) s = .fault .factoryTest) ∧
    (s.domOn .meas = true →
      (∃ t, exec (.supplyMonitorFault .vcore) s = .next t ∧ t.pins.vcoreBad = true ∧ t.bit Reg.SAF_STAT 0 = true ∧
        t.rd Reg.SAF_LASTFW = 0x10010000 ∧ t.core.g = s.core.g) ∧
      (∃ t, exec (.supplyMonitorFault (.vio 2)) s = .next t ∧ t.pins.vioBad.getD 2 true = true ∧ t.bit Reg.SAF_STAT 0 = true ∧
        t.rd Reg.SAF_LASTFW = 0x10020002 ∧ t.core.g = s.core.g)) ∧
    Leaves (.supplyMonitorFault (.vio 1)) s { s with pins := { s.pins with vioBad := s.pins.vioBad.set 1 true } } ∧
    Leaves (.supplyMonitorClear .vcore) s ({ s with pins := { s.pins with vcoreBad := false } }.safCond)

/-- R284, R286, R288, R290, R291: a write of CTL of an unlocked entry commits its staged copy and ends the configuration
check; a locked one ignores it; LOCKG3 locks the sixteen entries of G3; CLR sets VCNT to 0; the end of a computation gives the
CRC of the rules in force, which arms the check, or is compared. -/
def Obligations.Gates : Prop :=
  ∀ (s : State) (gate : Fin 8) (entry : Fin 16) (v : Word) (wr : Writer), s.awake → s.domOn .sys = true →
    let e := 16 * gate.val + entry.val
    let vstat := Reg.GATE_VSTAT gate.val
    let disarmed (t : State) : Prop := t.bit Reg.GTC_CRCCTL 0 = false ∧ t.bit Reg.GTC_CRCSTAT 2 = true ∧ t.gtc.crcRuns = false
    let crc := crc32 s.ruleBytes
    let ended := { s with gtc := { s.gtc with crcRuns := false } }.wr Reg.GTC_CRCLAST (BitVec.ofNat 32 crc)
    (s.bit (Reg.GATE_RULE_CTL e) 31 = false →
      ∃ t, exec (.gateRuleCommit gate entry v wr) s = .next t ∧ t.rd (Reg.GATE_RULE_BASE e) = s.stagedRule (Reg.GATE_RULE_BASE e) ∧
        t.rd (Reg.GATE_RULE_LIMIT e) = s.stagedRule (Reg.GATE_RULE_LIMIT e) ∧
        t.rd (Reg.GATE_RULE_CLS e) = s.stagedRule (Reg.GATE_RULE_CLS e) ∧ t.rd (Reg.GATE_RULE_CTL e) = v &&& 0x800FFFFF ∧
        (∀ p ∈ t.gtc.staged, p.1 / 16 ≠ Reg.GATE_RULE_BASE e / 16) ∧ disarmed t ∧ t.core = s.core) ∧
    (s.bit (Reg.GATE_RULE_CTL e) 31 = true → Leaves (.gateRuleCommit gate entry v wr) s s) ∧
    (s.bit Reg.GTC_CTL 0 = false → v.getLsbD 0 = true →
      ∃ t, exec (.gtcLockg3 v wr) s = .next t ∧ t.bit Reg.GTC_CTL 0 = true ∧ disarmed t ∧
        (∀ m : Fin 16, t.bit (Reg.GATE_RULE_CTL (48 + m.val)) 31 = true) ∧
        (∀ p ∈ t.gtc.staged, p.1 < Reg.GATE_RULE_BASE 48 ∨ Reg.GATE_RULE_BASE 64 ≤ p.1) ∧ t.core = s.core) ∧
    (s.bit Reg.GTC_CTL 0 = true ∨ v.getLsbD 0 = false → Leaves (.gtcLockg3 v wr) s s) ∧
    (let u := s.wr vstat (s.written vstat v)
     Leaves (.gateVcntClr gate v wr) s (if v.getLsbD 2 then u.setF vstat 16 16 0 else u)) ∧
    (s.gtc.crcRuns = true →
      (s.bit Reg.GTC_CRCCTL 1 = true →
        Leaves .gateCrcDone s ((ended.wr Reg.GTC_CRCREF (BitVec.ofNat 32 crc)).wr Reg.GTC_CRCCTL 1)) ∧
      (s.bit Reg.GTC_CRCCTL 1 = false → s.bit Reg.GTC_CRCCTL 0 = false ∨ s.rd Reg.GTC_CRCREF = BitVec.ofNat 32 crc →
        Leaves .gateCrcDone s ended) ∧
      (s.bit Reg.GTC_CRCCTL 1 = false → s.bit Reg.GTC_CRCCTL 0 = true → s.rd Reg.GTC_CRCREF ≠ BitVec.ofNat 32 crc →
        s.bit Reg.GTC_CRCSTAT 1 = false → s.domOn .meas = true →
        ∃ t, exec .gateCrcDone s = .next t ∧ t.rd Reg.GTC_CRCLAST = BitVec.ofNat 32 crc ∧ t.bit Reg.GTC_CRCSTAT 1 = true ∧
          t.bit Reg.SAF_STAT 0 = true ∧ t.rd Reg.SAF_LASTFW = BitVec.ofNat 32 (6 * 2 ^ 28 + 2 ^ 16 + crc % 2 ^ 16)))

/-! ## The general DMA -/

/-- R254 to R261: START takes the AID and fetches from CHnDESC, or is refused on a busy channel; ABORT ends an active chain in
ERROR; a descriptor is four 64-bit reads and is checked; COPY reads and writes, FILL writes, AMOADD and AMOSWP act at the bank
and give the old value, ALLOC takes a handle, waits or ends in ERROR, and is tried again once the free count or the usage has
changed; the rotation picks the first ready channel after the last, and no other issues; a completed descriptor gives its
result, its event and the next descriptor or the end. -/
def Obligations.DmaChannels : Prop :=
  ∀ (s : State) (ch : Fin 8) (v : Word) (wr : Writer) (k : Nat) (w : Nat → Nat) (g : Nat → List Arb) (h : Word), s.awake →
    s.domOn .sys = true →
    s.dma.ch.length = 8 →
    let n := ch.val
    let c := s.dmaCh n
    let i := s.dmaIssued n
    let off (a : Nat) : Nat := a - 0x30008000
    let inRam (a size : Nat) : Prop := 0x30008000 ≤ a ∧ a + size ≤ 0x3000C000 ∧ a % size = 0
    let cleared := { c with
      desc := [], copy := none, wb := 0, handle := none, half := false, stopDue := none, pauseDue := false }
    let cls := s.qosClass 2 (s.dmaAid n)
    let turn : Prop := ∀ m, m < 8 → s.dmaReady m = true → (n + 7 - s.dma.last % 8) % 8 ≤ (m + 7 - s.dma.last % 8) % 8
    let busy := 1 ≤ s.dmaState n ∧ s.dmaState n ≤ 4
    (busy → v.getLsbD 0 = true → v.getLsbD 1 = false → Leaves (.dmaStart ch v wr) s (s.setBit Reg.DMA_STAT 0)) ∧
    (¬busy → v.getLsbD 0 = true →
      ∃ t, exec (.dmaStart ch v wr) s = .next t ∧ t.f (Reg.DMA_CHCTL n) 16 11 = wr.aid % 2 ^ 11 ∧
        t.rd (Reg.DMA_CHCUR n) = s.rd (Reg.DMA_CHDESC n) ∧ t.rd (Reg.DMA_CHPOS n) = 0 ∧ t.rd (Reg.DMA_CHSTAT n) = 0x10000000 ∧
        t.dmaCh n = { cleared with tid := if wr.aid = 0x400 then s.tidNum else c.tid } ∧ t.core = s.core) ∧
    (busy → v.getLsbD 0 = false → v.getLsbD 1 = true →
      ∃ t, exec (.dmaAbort ch v wr) s = .next t ∧ t.dmaState n = 6 ∧ t.f (Reg.DMA_CHSTAT n) 24 4 = 5 ∧ t.dmaCh n = cleared ∧
        t.core = s.core) ∧
    (¬busy → v.getLsbD 0 = false → Leaves (.dmaAbort ch v wr) s s) ∧
    (s.dmaState n = 1 → c.desc = [] →
      let a := (s.rd (Reg.DMA_CHCUR n)).toNat
      let words := (List.range 4).flatMap fun j => [BitVec.ofNat 32 (w j), BitVec.ofNat 32 (w j / 2 ^ 32)]
      let i (g : List Arb) : State := { i with bus := { s.bus with arbs := g } }
      let u := (i (g 4)).setDmaCh n { c with desc := words }
      (turn → descriptorAt a = false → Leaves (.dmaDescFetch ch) s ((s.dmaIssued n).dmaError n 1)) ∧
      ((∀ m, m < 8 → m ≠ n → s.dmaReady m = false) → descriptorAt a = true → g 0 = s.bus.arbs →
        (∀ j, j < 4 → let x (g : List Arb) := (i g).setDmaCh n { c with desc := words.take (2 * j) }
          (x (g j)).read ((x (g j)).dmaReq n .read (a + 8 * j) 8 0) (.dma n) = ⟨x (g (j + 1)), .ok (w j)⟩) →
        (u.dmaDescOk n = true → u.dmaOp n ≠ 2 ∨ u.dmaLen n ≠ 0 → Leaves (.dmaDescFetch ch) s (u.dmaTo n 2)) ∧
        (u.dmaDescOk n = false → Leaves (.dmaDescFetch ch) s (u.dmaError n 1)))) ∧
    (s.dmaState n = 2 → c.wb = 0 → turn →
      let src := (s.dmaSrc n + s.dmaPos n) % 2 ^ 32
      let dst := (s.dmaDst n + s.dmaPos n) % 2 ^ 32
      let size := s.copyStep n
      (s.dmaOp n = 1 → c.copy = none → plainRegion (regionOf src) →
        let x := i.read (s.dmaReq n .read src size 0) (.dma n)
        x.resp = .ok k → Leaves (.dmaCopy ch) s (x.s.setDmaCh n { c with copy := some k })) ∧
      (s.dmaOp n = 1 → c.copy = some k → inRam dst size → (s.gateCheck 2 dst 0 (s.dmaReq n .write dst size k)).ok = true →
        s.dmaPos n + size < s.dmaLen n →
        Leaves (.dmaCopy ch) s ((((i.granted 2 cls 2).saddleWrite (off dst) (s.dmaAid n) (bytesLE size k)).setDmaCh n
          { c with copy := none }).wr (Reg.DMA_CHPOS n) (BitVec.ofNat 32 (s.dmaPos n + size)))) ∧
      (let data := (s.dmaWord n 4).toNat + (s.dmaWord n 5).toNat * 2 ^ 32
       s.dmaOp n = 2 → inRam dst 8 → (s.gateCheck 2 dst 0 (s.dmaReq n .write dst 8 data)).ok = true →
        s.dmaPos n + 8 < s.dmaLen n →
        Leaves (.dmaFill ch) s (((i.granted 2 cls 2).saddleWrite (off dst) (s.dmaAid n) (bytesLE 8 data)).wr
          (Reg.DMA_CHPOS n) (BitVec.ofNat 32 (s.dmaPos n + 8)))) ∧
      (let ended := { c with
        copy := none, handle := some (BitVec.ofNat 32 k), wb := if (s.dmaWord n 0).getLsbD 26 then 1 else 3 }
       regionOf (s.dmaDst n) = .store →
        (let x := i.access (s.dmaReq n .amoAdd (s.dmaDst n) 4 (s.dmaSrc n)) (.dma n)
         s.dmaOp n = 3 → x.resp = .ok k → Leaves (.dmaAmoadd ch) s (x.s.setDmaCh n ended)) ∧
        (let x := i.access (s.dmaReq n .amoSwap (s.dmaDst n) 4 (s.dmaSrc n)) (.dma n)
         s.dmaOp n = 4 → x.resp = .ok k → Leaves (.dmaAmoswp ch) s (x.s.setDmaCh n ended)))) ∧
    (let pc := fld (s.dmaWord n 0) 16 2
     let pool := Reg.POOL_ALLOC pc
     let x (u : State) := (u.granted 8 cls 2).poolAlloc pc 2 (s.dmaAid n)
     let waits (u : State) : State := (u.setDmaCh n { c with seen := (u.poolFreeCount pc, u.usage (s.dmaAid n) pc) }).dmaTo n 3
     let ended := { c with copy := none, handle := some h, wb := if (s.dmaWord n 0).getLsbD 26 then 1 else 3 }
     s.domOn .store = true → c.handle = none → (s.gateCheck 4 pool 0 (s.dmaReq n .read pool 4 0)).ok = true →
      (s.dmaState n = 2 → c.wb = 0 → s.dmaOp n = 5 → turn →
        ((x i).code = 0 → (x i).handle = h → s.dmaDst n = 0 → Leaves (.dmaAlloc ch) s (((x i).s.dmaTo n 2).setDmaCh n ended)) ∧
        ((x i).code = 0 → (x i).handle = h → s.dmaDst n ≠ 0 →
          Leaves (.dmaAlloc ch) s (((x i).s.dmaTo n 2).setDmaCh n { c with handle := some h })) ∧
        (3 ≤ (x i).code → (x i).code ≤ 6 → Leaves (.dmaAlloc ch) s (waits (x i).s)) ∧
        ((x i).code ≠ 0 → (x i).code < 3 ∨ 6 < (x i).code →
          Leaves (.dmaAlloc ch) s (((x i).s.dmaError n 4).setF (Reg.DMA_CHSTAT n) 16 8 (x i).code))) ∧
      (s.dmaState n = 3 → c.seen = (s.poolFreeCount pc, s.usage (s.dmaAid n) pc) → Leaves (.dmaWaitpoolRetry ch) s s) ∧
      (s.dmaState n = 3 → c.seen ≠ (s.poolFreeCount pc, s.usage (s.dmaAid n) pc) →
        ((x s).code = 0 → (x s).handle = h → s.dmaDst n = 0 →
          Leaves (.dmaWaitpoolRetry ch) s (((x s).s.dmaTo n 2).setDmaCh n ended)) ∧
        (3 ≤ (x s).code → (x s).code ≤ 6 → Leaves (.dmaWaitpoolRetry ch) s (waits (x s).s)))) ∧
    (let ended (m : Nat) : Prop := s.dmaState m = 2 ∧ (s.dmaCh m).wb = 3
     (∀ m, m < 8 → ¬ended m) →
      ((∀ m, m < 8 → s.dmaReady m = false) → Leaves .dmaBeat s s) ∧
      (s.dmaReady n = true → turn → exec .dmaBeat s = .next (i.dmaAccess n).finish)) ∧
    (s.dmaState n = 2 → c.wb = 3 →
      let d0 := s.dmaWord n 0
      let next := s.dmaWord n 6
      ∃ t, exec (.dmaDescComplete ch) s = .next t ∧ t.dmaCh n = cleared ∧ t.core = s.core ∧ t.store = s.store ∧
        (∀ r, c.handle = some r → t.rd (Reg.DMA_CHRES n) = r) ∧
        (d0.getLsbD 25 = true ∨ next = 0 → t.dmaState n = 5 ∧ t.bit Reg.DMA_IRQ n = true) ∧
        (d0.getLsbD 25 = false → next ≠ 0 → t.dmaState n = 1 ∧ t.rd (Reg.DMA_CHCUR n) = next ∧ t.rd (Reg.DMA_CHPOS n) = 0 ∧
          t.bit Reg.DMA_IRQ n = (s.bit Reg.DMA_IRQ n || d0.getLsbD 27)))

/-! ## The Stitch engine -/

/-- R299, R301, R304, R307 to R310, R312 to R314, R323, R324: RUN starts a legal program on the chosen arrays, or reports
BADPROG; a destructive run without a failing read leaves its last write everywhere and is DONE; a failing row is logged and
its repair planned, and the repair's record is written before its remap is in force, or TFULL ends the repairs; a transparent
run over sound arrays keeps their content, and its two signatures agree; ABORT leaves an idle engine alone; XCHG exchanges a bank with the unmapped array; CLR clears the error counts; a scrub read moves on, and
corrects. -/
def Obligations.StitchRuns : Prop :=
  ∀ (s : State) (v : Word) (wr : Writer) (r : MarchResult) (p : List Word) (a bg row cell : Nat) (cols : List Nat) (inv : Bool),
    s.awake →
    s.domOn .sec = true → s.domOn .store = true → s.store.length = 17 →
    let keyed := v.toNat / 2 ^ 16 = 0x5717
    let op := v.toNat / 2 ^ 4 % 16
    let n := v.toNat % 16
    let prog := s.program (s.f Reg.STC_RUNCFG 0 3) (s.f Reg.STC_RUNCFG 4 3) (s.bit Reg.STC_RUNCFG 8)
    let rej := s.setBit Reg.STC_STAT 8
    let slot := s.f Reg.STC_RTNEXT 0 10
    let recordAt := 0x3F1000 + 8 * slot
    let pos := s.f Reg.STC_SCRPOS 0 18 / 2 * 2
    let bank := pos / 16384
    let off := pos % 16384 * 4
    let arr := s.arrayOf bank
    let ecc (t : State) (o : Nat) : Nat := (t.array arr).eccClass arr (s.cellOf arr o)
    (keyed → op = 1 → s.stcPh = 0 → prog = some p →
      ∃ t, exec (.stcRun v wr) s = .next t ∧ t.stcPh = 2 ∧ t.bit Reg.STC_STAT 0 = true ∧ t.f Reg.STC_STAT 24 4 = 0 ∧
        t.stc.prog = p ∧ t.stc.aid = wr.aid ∧ t.stc.transp = s.bit Reg.STC_RUNCFG 8 ∧ t.stc.repair = s.bit Reg.STC_RUNCFG 9 ∧
        t.rd Reg.STC_FAILCNT = 0 ∧ t.store = s.store ∧ t.core = s.core) ∧
    (keyed → op = 1 → s.stcPh = 0 → prog = none →
      Leaves (.stcRun v wr) s ((s.setF Reg.STC_STAT 24 4 1).setBit Reg.STC_STAT 2)) ∧
    (¬keyed → Leaves (.stcRun v wr) s rej) ∧
    (s.stcPh = 2 → s.stc.todo = [] → s.stc.transp = false → s.stc.arrays = [a] → (s.arrDenied s.stc.aid a).clean = true →
      (∀ x ∈ s.stc.remaps, x.1 / 4 ≠ a) → progClean none s.stc.prog = true →
      (progWrites s.stc.prog).getLast? = some (bg, bit01 inv) →
      let left := s.setArray a (.blank (.march inv bg s.stc.custom))
      (r.fails = [] → s.stc.repair = false →
        Leaves (.stcRunDone r) s (((left.setF Reg.STC_STAT 16 5 a).setF Reg.STC_STAT 28 4 0).putBit Reg.STC_STAT 0 false |>.setBit Reg.STC_STAT 1)) ∧
      (r.fails = [⟨a, row, 1, cols⟩] → row < 512 → 1 < s.stc.prog.length → s.stc.repair = true →
        ∃ t, exec (.stcRunDone r) s = .next t ∧ t.store = left.store ∧ t.stcPh = 2 ∧ t.stc.todo = [(4 * a, row)] ∧
          t.rd (Reg.STC_FAIL 0) = BitVec.ofNat 32 (2 ^ 31 + a * 2 ^ 16 + row) ∧ t.bit Reg.STC_STAT 3 = true)) ∧
    (s.stcPh = 2 → s.stc.todo = [] → s.stc.transp = true → s.stc.repair = false → s.stc.arrays = [a] →
      (s.arrDenied s.stc.aid a).clean = true →
      (∀ i, i < 16384 → (s.array a).eccClass a (s.cellOf a (4 * i)) = 0) → r.fails = [] → r.sigP = 0 → r.sigA = 0 → r.ces = 0 →
      r.ues = [] →
      ∃ t, exec (.stcRunDone r) s = .next t ∧ t.store = s.store ∧ t.stcPh = 0 ∧ t.bit Reg.STC_STAT 1 = true ∧
        t.bit Reg.STC_STAT 3 = s.bit Reg.STC_STAT 3 ∧ t.rd Reg.STC_SIGA = t.rd Reg.STC_SIGP) ∧
    (s.stcPh = 2 → s.stc.todo = [(cell, row)] →
      (slot < 512 → (s.engineGate 0 recordAt 7 s.stc.aid 8 true).ok = true →
        ∃ t, exec .stcRepairDone s = .next t ∧ t.stc.todo = [] ∧ t.stcPh = 0 ∧ t.bit Reg.STC_STAT 1 = true ∧
          t.rowOf (cell / 4) row = 512 + cell % 4 ∧ t.rd Reg.STC_RTNEXT = BitVec.ofNat 32 (slot + 1) ∧
          t.nvm64 recordAt = notWord (0x52000000 + cell / 4 * 0x10000 + cell % 4 * 0x4000 + row) ∧ t.store = s.store) ∧
      (512 ≤ slot →
        ∃ t, exec .stcRepairDone s = .next t ∧ t.stc.todo = [] ∧ t.stcPh = 0 ∧ t.f Reg.STC_STAT 24 4 = 4 ∧
          t.bit Reg.STC_STAT 2 = true ∧ t.stc.remaps = s.stc.remaps ∧ t.nvm = s.nvm)) ∧
    (keyed → op = 4 → s.stcPh < 2 → Leaves (.stcAbort v wr) s rej) ∧
    (keyed → op = 4 → s.stcPh = 4 →
      ∃ t, exec (.stcAbort v wr) s = .next t ∧ t.stcPh = 0 ∧ t.bit Reg.STC_MAPSTAT 30 = false ∧ t.arrayOf 16 = s.arrayOf 16) ∧
    (keyed → op = 5 → s.stcPh = 0 → wr.mid = 0 → wr.aid = 0x400 → s.bit Reg.STC_MAPSTAT 31 = false →
      ∃ t, exec (.stcXchg v wr) s = .next t ∧ t.arrayOf n = s.arrayOf 16 ∧ t.arrayOf 16 = s.arrayOf n ∧
        (∀ m, m < 16 → m ≠ n → t.arrayOf m = s.arrayOf m) ∧ t.bit Reg.STC_STAT 1 = true ∧ t.store = s.store) ∧
    (keyed → op = 5 → s.stcPh = 0 → wr.mid ≠ 0 ∨ wr.aid ≠ 0x400 ∨ s.bit Reg.STC_MAPSTAT 31 = true →
      Leaves (.stcXchg v wr) s rej) ∧
    (v.getLsbD 8 = true →
      Leaves (.stcEccClr v wr) s ((s.wr Reg.STC_ECCCTL (s.written Reg.STC_ECCCTL v)).wr Reg.STC_ECCCNT 0)) ∧
    (s.bit Reg.STC_SCRUB 0 = true → s.stcPh ≠ 1 → s.stcPh ≠ 2 → s.stc.scrubOwed ≠ 0 → bank ∉ s.core.guard →
      (s.engineGate 1 (storeAddr bank off) 7 0x401 8 false).ok = true →
      (ecc s off = 0 → ecc s (off + 4) = 0 → Leaves .scrubRead s
        { s.wr Reg.STC_SCRPOS (BitVec.ofNat 32 ((pos + 2) % 262144)) with
          stc := { s.stc with scrubOwed := s.stc.scrubOwed - 1 } }) ∧
      (ecc s off = 1 → ecc s (off + 4) = 0 → arr < 17 → s.bit Reg.STC_MAPSTAT 30 = false →
        (s.engineGate 1 (storeAddr bank off) 7 0x401 4 true).ok = true →
        ∃ t, exec .scrubRead s = .next t ∧ ecc t off = 0 ∧
          t.f Reg.STC_ECCCNT 0 16 = min (2 ^ 16 - 1) (s.f Reg.STC_ECCCNT 0 16 + 1) ∧
          ∀ i, i < 4 → (t.array arr).byte arr (s.cellOf arr off + i) = (s.array arr).byte arr (s.cellOf arr off + i)))

/-- R315 to R321: the live bank swap: SWAP starts the pretest of the unmapped array; its pass starts mirroring, its failure
ends the swap; each copy beat copies 64 bits; the flip exchanges the bank with the unmapped array and sets PEND, the return
flip exchanges them back and clears it; the tested array is returned, held or kept; KEEP writes its record; RETURN goes on
from HELD. -/
def Obligations.BankSwap : Prop :=
  ∀ (s : State) (v : Word) (wr : Writer) (r : MarchResult) (p : List Word) (row : Nat) (cols : List Nat), s.awake →
    s.domOn .sec = true → s.domOn .store = true → s.store.length = 17 →
    let keyed := v.toNat / 2 ^ 16 = 0x5717
    let op := v.toNat / 2 ^ 4 % 16
    let n := v.toNat % 16
    let prog := s.program (s.f Reg.STC_SWPCFG 0 3) (s.f Reg.STC_SWPCFG 4 3) false
    let bank := s.swapBank
    let src := s.arrayOf bank
    let dst := s.arrayOf 16
    let off := 8 * s.stc.copyPos
    let slot := s.f Reg.STC_RTNEXT 0 10
    let recordAt := 0x3F1000 + 8 * slot
    let keep := s.bit Reg.STC_SWPCFG 9
    let ret := s.bit Reg.STC_SWPCFG 10
    let exchanged (t : State) : Prop := t.arrayOf bank = dst ∧ t.arrayOf 16 = src
    (keyed → op = 2 → s.stcPh = 0 → s.bit Reg.STC_MAPSTAT 31 = false → prog = some p →
      ∃ t, exec (.stcSwap v wr) s = .next t ∧ t.stcPh = 3 ∧ t.bit Reg.STC_STAT 0 = true ∧ t.swapBank = n ∧
        t.stc.u = s.arrayOf 16 ∧ t.stc.f = s.arrayOf n ∧ t.stc.prog = p ∧ t.stc.fGood = false ∧ t.store = s.store) ∧
    (keyed → op = 2 → s.stcPh ≠ 0 ∨ s.bit Reg.STC_MAPSTAT 31 = true → Leaves (.stcSwap v wr) s (s.setBit Reg.STC_STAT 8)) ∧
    (s.stcPh = 3 → (s.arrDenied s.stc.aid s.stc.u).clean = true →
      (r.fails = [] → ∃ t, exec (.swapPretestDone r) s = .next t ∧ t.stcPh = 4 ∧ t.bit Reg.STC_MAPSTAT 30 = true ∧
        t.stc.copyPos = 0 ∧ t.arrayOf bank = src ∧ t.arrayOf 16 = dst) ∧
      (r.fails = [⟨s.stc.u, row, 1, cols⟩] → row < 512 → ∃ t, exec (.swapPretestDone r) s = .next t ∧ t.stcPh = 0 ∧
        t.f Reg.STC_STAT 24 4 = 2 ∧ t.bit Reg.STC_STAT 2 = true ∧ t.arrayOf bank = src ∧ t.arrayOf 16 = dst)) ∧
    (s.stcPh = 4 → src ≠ dst → src < 17 → dst < 17 → s.stc.copyPos < 8192 →
      (s.engineGate 1 (storeAddr bank off) 7 s.stc.aid 8 false).ok = true →
      (s.engineGate 1 (storeAddr 16 off) 7 s.stc.aid 8 true).ok = true →
      (s.array src).eccClass src (s.cellOf src off) = 0 → (s.array src).eccClass src (s.cellOf src (off + 4)) = 0 →
      ∃ t, exec .copyBeat s = .next t ∧ t.stc.copyPos = s.stc.copyPos + 1 ∧
        t.stcPh = (if s.stc.copyPos = 8191 then 5 else 4) ∧
        t.store = s.store.set dst
          (((s.array dst).putWord (s.cellOf dst off) ((s.array src).bytes src (s.cellOf src off) 4)).putWord
            (s.cellOf dst (off + 4)) ((s.array src).bytes src (s.cellOf src (off + 4)) 4))) ∧
    (s.stcPh = 5 → ∃ t, exec .swapFlip s = .next t ∧ t.stcPh = 6 ∧ exchanged t ∧ t.bit Reg.STC_MAPSTAT 31 = true ∧
      t.bit Reg.STC_MAPSTAT 30 = false ∧ t.stc.marker = some bank ∧ t.store = s.store) ∧
    (s.stcPh = 10 → ∃ t, exec .swapFlip s = .next t ∧ t.stcPh = 0 ∧ exchanged t ∧ t.bit Reg.STC_MAPSTAT 31 = false ∧
      t.bit Reg.STC_MAPSTAT 30 = false ∧ t.stc.marker = none ∧ t.store = s.store) ∧
    (s.stcPh = 6 → (s.arrDenied s.stc.aid s.stc.f).clean = true → progClean none s.stc.prog = true → r.fails = [] →
      ∃ t, exec (.swapTestDone r) s = .next t ∧ t.stc.fGood = true ∧
        t.stcPh = (if ret = false then 8 else if keep then 11 else 9) ∧ t.bit Reg.STC_MAPSTAT 31 = s.bit Reg.STC_MAPSTAT 31) ∧
    (s.stcPh = 11 → slot < 512 → (s.engineGate 0 recordAt 7 s.stc.aid 8 true).ok = true →
      ∃ t, exec .swapKeepDone s = .next t ∧ t.stcPh = 0 ∧ t.bit Reg.STC_MAPSTAT 31 = false ∧ t.stc.marker = none ∧
        t.nvm64 recordAt = notWord (0x58000000 + bank) ∧ t.arrayOf bank = src ∧ t.arrayOf 16 = dst) ∧
    (keyed → op = 3 → s.stcPh = 8 →
      (keep = true → ∃ t, exec (.stcReturn v wr) s = .next t ∧ t.stcPh = 11 ∧ t.stc.aid = wr.aid ∧ t.store = s.store) ∧
      (keep = false → s.stc.fGood = true → ∃ t, exec (.stcReturn v wr) s = .next t ∧ t.stcPh = 9 ∧
        t.bit Reg.STC_MAPSTAT 30 = true ∧ t.stc.copyPos = 0 ∧ t.stc.aid = wr.aid ∧ t.store = s.store) ∧
      (keep = false → s.stc.fGood = false → Leaves (.stcReturn v wr) s (s.setBit Reg.STC_STAT 8)))

/-! ## The pool manager -/

/-- R329, R332, R334 to R338, R342, R343, R347: a legal configuration is enabled and initialised with every buffer free; an
allocation takes the lowest free descriptor, charges it and reports its result, or is counted as denied; FREE, and DONE of the
finisher without an entry, return the buffer with its next GEN; RELEASE gives back one share; a staged handle is shared or
passed on; thresholds are taken in rising order only; CLR sets ECNT to 0. -/
def Obligations.PoolManager : Prop :=
  ∀ (s : State) (cls : Fin 4) (second : Bool) (v h : Word) (wr : Writer) (i e : Nat), s.awake → s.domOn .store = true →
    let c := cls.val
    let aid := wr.aid
    let opres := Reg.POOL_OPRES (wr.mid % 16)
    let denied (op code : Nat) (t : State) : Prop :=
      t.rd opres = BitVec.ofNat 32 (op * 2 ^ 28 + hClass v * 2 ^ 24 + code * 2 ^ 16) ∧ (∀ k, t.metaWord k = s.metaWord k) ∧
        t.f Reg.POOL_ERRSTAT 16 16 = min (2 ^ 16 - 1) (s.f Reg.POOL_ERRSTAT 16 16 + 1) ∧ t.bit Reg.POOL_IRQ 16 = true
    let n := hDesc v
    let d := s.metaWord n
    let freed (op : Nat) (t : State) : Prop :=
      t.metaWord n = BitVec.ofNat 32 (if 255 ≤ metaGen d then 1 else metaGen d + 1) ∧
        t.usage aid (hClass v) = s.usage aid (hClass v) - 1 ∧
        t.f (Reg.POOL_STAT (hClass v)) 0 13 = (s.f (Reg.POOL_STAT (hClass v)) 0 13 + 1) % 2 ^ 13 ∧
        t.rd opres = BitVec.ofNat 32 (op * 2 ^ 28 + hClass v * 2 ^ 24)
    let inRange := n < 7360 ∧ poolClass n = hClass v
    let cfg := s.bit Reg.POOL_CTL 0 = false ∧ v.getLsbD 0 = true
    let thrA := if second then s.rd (Reg.POOL_THRA c) else s.written (Reg.POOL_THRA c) v
    let thrB := if second then s.written (Reg.POOL_THRB c) v else s.rd (Reg.POOL_THRB c)
    (cfg → s.poolCfgOk = true → s.bit Reg.POOL_CTL 8 = false →
      let base := 0x10000000 + 4096 * s.f Reg.POOL_BASE 0 8
      let b2 := base + s.poolCount 3 * 4096
      let b1 := b2 + s.poolCount 2 * 1024
      ∃ t, exec (.poolEnable v wr) s = .next t ∧ t.bit Reg.POOL_CTL 0 = true ∧ t.bit Reg.POOL_CTL 1 = true ∧
        t.rd (Reg.POOL_CLSBASE 3) = BitVec.ofNat 32 base ∧ t.rd (Reg.POOL_CLSBASE 2) = BitVec.ofNat 32 b2 ∧
        t.rd (Reg.POOL_CLSBASE 1) = BitVec.ofNat 32 b1 ∧
        t.rd (Reg.POOL_CLSBASE 0) = BitVec.ofNat 32 (b1 + s.poolCount 1 * 256) ∧ t.pool = s.pool) ∧
    (cfg → s.poolCfgOk = false → Leaves (.poolEnable v wr) s (s.setBit Reg.POOL_CTL 2)) ∧
    (s.bit Reg.POOL_CTL 1 = true →
      ∃ t, exec .poolInitDone s = .next t ∧ t.bit Reg.POOL_CTL 1 = false ∧
        (∀ k, k < 4 → t.f (Reg.POOL_STAT k) 0 13 = s.poolCount k) ∧ (∀ k, metaUsed (t.metaWord k) = false) ∧
        (∀ g k, k < 4 → t.usage g k = 0)) ∧
    (s.allocCode c wr.mid aid ≠ 0 → Leaves (.poolAlloc cls wr) s ((s.incSat (Reg.POOL_DENY c) 0 16).wr opres
      (BitVec.ofNat 32 (2 ^ 28 + c * 2 ^ 24 + s.allocCode c wr.mid aid * 2 ^ 16))).poolEvaluate) ∧
    (s.pool.undef = none → s.allocCode c wr.mid aid = 0 → i < s.pool.cnt.getD c 0 →
      metaUsed (s.metaWord (poolBase c + i)) = false → (∀ j, j < i → metaUsed (s.metaWord (poolBase c + j)) = true) →
      ∃ t, exec (.poolAlloc cls wr) s = .next t ∧
        t.metaWord (poolBase c + i) = descWord aid 0 (metaGen (s.metaWord (poolBase c + i))) ∧
        (∀ k, k ≠ poolBase c + i → t.metaWord k = s.metaWord k) ∧
        t.usage aid c = min (if aid < 0x400 then 255 else 8191) (s.usage aid c + 1) ∧
        t.f (Reg.POOL_STAT c) 0 13 = s.f (Reg.POOL_STAT c) 0 13 - 1 ∧
        t.rd opres = BitVec.ofNat 32 (2 ^ 28 + c * 2 ^ 24) ∧ t.core = s.core ∧ t.store = s.store) ∧
    (s.pool.undef = none → s.handleCode 2 v = 0 → s.freeCode n aid = 0 → inRange →
      ∃ t, exec (.poolFree v wr) s = .next t ∧ freed 2 t) ∧
    (s.handleCode 2 v = 0 → s.freeCode n aid ≠ 0 → ∃ t, exec (.poolFree v wr) s = .next t ∧ denied 2 (s.freeCode n aid) t) ∧
    (s.pool.undef = none → s.handleCode 4 v = 0 → s.entryOf n aid = none → s.freeCode n aid = 0 → inRange →
      ∃ t, exec (.poolDone v wr) s = .next t ∧ freed 4 t) ∧
    (s.pool.undef = none → s.handleCode 3 v = 0 → s.entryOf n aid = some e → metaShares d ≠ 0 → n < 7360 →
      let w := s.metaWord e
      ∃ t, exec (.poolRelease v wr) s = .next t ∧ metaShares (t.metaWord n) = metaShares d - 1 ∧
        t.metaWord e = (if metaShares w ≤ 1 then 0 else entryWord (metaAid w) (metaShares w - 1) (fld w 0 13)) ∧
        (∀ k, k ≠ n → k ≠ e → t.metaWord k = s.metaWord k)) ∧
    (s.handleCode 3 v ≠ 0 → ∃ t, exec (.poolRelease v wr) s = .next t ∧ denied 3 (s.handleCode 3 v) t) ∧
    Leaves (.poolShareh v wr) s
      (State.poolEvaluate { s with pool := { s.pool with staged := alInsert (alDel s.pool.staged wr.mid) wr.mid (v, aid) } }) ∧
    (let add := v.toNat / 2 ^ 29
     let fin := v.toNat / 2 ^ 16 % 2 ^ 11
     let holder := v.toNat % 2 ^ 11
     let m := hDesc h
     s.pool.undef = none → alGet s.pool.staged wr.mid = some (h, aid) → s.handleCode 5 h = 0 →
      s.shareCode m aid fin holder add = 0 → m < 7360 →
      (fin = aid → add ≠ 0 → s.entryOf m holder = none → s.freeEntry = some e →
        ∃ t, exec (.poolShare v wr) s = .next t ∧ t.metaWord e = entryWord holder add m ∧
          metaShares (t.metaWord m) = metaShares (s.metaWord m) + add ∧ metaAid (t.metaWord m) = aid ∧
          alGet t.pool.staged wr.mid = none) ∧
      (fin ≠ aid → add = 0 → fin < 0x400 → 0x400 ≤ aid → s.entryOf m fin = none →
        ∃ t, exec (.poolShare v wr) s = .next t ∧ metaAid (t.metaWord m) = fin ∧
          t.usage fin (poolClass m) = s.usage fin (poolClass m) + 1 ∧ t.usage aid (poolClass m) = s.usage aid (poolClass m) - 1 ∧
          alGet t.pool.staged wr.mid = none)) ∧
    (thrOrder thrA thrB = true → Leaves (.poolThrWrite cls second v wr) s
      ((s.wr (Reg.POOL_THRA c) thrA).wr (Reg.POOL_THRB c) thrB).poolEvaluate) ∧
    (thrOrder thrA thrB = false → Leaves (.poolThrWrite cls second v wr) s (s.setBit Reg.POOL_CTL 3)) ∧
    (v.getLsbD 1 = true → Leaves (.poolErrClr v wr) s
      ((s.wr Reg.POOL_ERRSTAT (s.written Reg.POOL_ERRSTAT v)).setF Reg.POOL_ERRSTAT 16 16 0))

/-! ## Tenants -/

/-- R354 to R357, R359 to R362, R364, R366: the table is enabled, initialised and written; each command of the Warden moves
its tenant between the listed states, a current one leaves at the next boundary, FAULT stops the tenant's engines, RESET and
REMOVE begin the tenant reset; any other command is refused; a route is taken for an open tenant, and an injection sets its
latch. -/
def Obligations.Tenants : Prop :=
  ∀ (s : State) (x : Fin 1024) (k : Fin 8) (line : Fin 128) (v : Word) (wr : Writer), s.awake → s.domOn .sys = true →
    let op := v.toNat / 2 ^ 12 % 8
    let t := v.toNat % 2 ^ 10
    let keyed := v.toNat / 2 ^ 16 = 0x7E4A ∧ wr.aid = 0x400 ∧ s.tenEnabled = true
    let rej := s.setBit Reg.TEN_STAT 1
    let moved (y : Nat) : State := s.setRec t 0 (setFld (s.trec t 0) 0 3 y)
    let left (y : Nat) : State := if s.isCurrent t then { moved y with ten := { (moved y).ten with exitDue := true } } else moved y
    let emptied (u : State) : State := { u with ten := { u.ten with table := [], latches := [], deliv := [] } }
    let resetting (remove : Bool) (u : State) : Prop :=
      u.tenState t = 3 ∧ u.bit Reg.TEN_STAT 0 = true ∧ u.f Reg.TEN_STAT 12 10 = t ∧ u.f Reg.TEN_STAT 8 4 = 1 ∧
        u.ten.remove = remove ∧ u.core = s.core
    let live := s.tenState t = 1 ∨ s.tenState t = 2 ∨ s.tenState t = 4
    let old := s.trec x.val k.val
    let routeTo := v.toNat / 2 ^ 16 % 2 ^ 10
    (s.bit Reg.TEN_CTL 0 = false → v.getLsbD 0 = true → Leaves (.tenEnable v wr) s
      (emptied ((s.wr Reg.TEN_CTL (s.written Reg.TEN_CTL v)).setBit Reg.TEN_CTL 1))) ∧
    (s.tenEnabled = true → v.getLsbD 0 = false → s.anyTenant = true → Leaves (.tenEnable v wr) s rej) ∧
    (s.bit Reg.TEN_CTL 1 = true → Leaves .tenInitDone s ((emptied s).clrBit Reg.TEN_CTL 1)) ∧
    (s.tenEnabled = true → s.tenState x.val ≠ 3 → k.val ≠ 1 → k.val ≠ 5 → Leaves (.tenRecordWrite x k v wr) s
      (s.setRec x.val k.val ((old &&& ~~~recordMask k.val) ||| (v &&& recordMask k.val)))) ∧
    (s.tenEnabled = true → s.tenState x.val = 3 → Leaves (.tenRecordWrite x k v wr) s rej) ∧
    (keyed → op = 1 → s.tenState t = 0 → Leaves (.tenCreate v wr) s (moved 1)) ∧
    (keyed → op = 2 → s.tenState t = 1 → Leaves (.tenSuspend v wr) s (left 2)) ∧
    (keyed → op = 3 → s.tenState t = 2 → Leaves (.tenResume v wr) s (moved 1)) ∧
    (keyed → op = 4 → s.tenState t = 1 ∨ s.tenState t = 2 →
      ∃ u, exec (.tenFault v wr) s = .next u ∧ u.tenState t = 4 ∧ u.core.g = s.core.g ∧ u.core.pc = s.core.pc ∧
        (s.tenState t = 1 → s.isCurrent t = true → u.ten.exitDue = true) ∧
        ∀ n, n < 8 → s.f (Reg.DMA_CHCTL n) 16 11 = t → s.dmaBusy n = true →
          u.dmaState n = 6 ∧ u.f (Reg.DMA_CHSTAT n) 24 4 = 6) ∧
    (keyed → op = 5 → s.tenBusy = false → live → ∃ u, exec (.tenReset v wr) s = .next u ∧ resetting false u) ∧
    (keyed → op = 6 → s.tenBusy = false → live → ∃ u, exec (.tenRemove v wr) s = .next u ∧ resetting true u) ∧
    (¬keyed → Leaves (.tenCreate v wr) s rej) ∧
    (keyed → op = 1 → s.tenState t ≠ 0 → Leaves (.tenCreate v wr) s rej) ∧
    (keyed → op = 5 → s.tenBusy = true → Leaves (.tenReset v wr) s rej) ∧
    (v.getLsbD 31 = false ∨ 24 ≤ line.val ∧ line.val ≤ 79 ∧ s.tenOpen routeTo = true →
      Leaves (.virRouteWrite line v wr) s (s.wr (Reg.VIR_ROUTE line.val) (s.written (Reg.VIR_ROUTE line.val) v))) ∧
    (v.getLsbD 31 = true → line.val < 24 ∨ 79 < line.val ∨ s.tenOpen routeTo = false →
      Leaves (.virRouteWrite line v wr) s (s.setBit Reg.VIR_CTL 1)) ∧
    (let c := 16 * routeTo + v.toNat % 16
     (s.tenOpen routeTo = true → Leaves (.virInject v wr) s
       { s with ten := { s.ten with latches := if c ∈ s.ten.latches then s.ten.latches else s.ten.latches ++ [c] } }) ∧
     (s.tenOpen routeTo = false → Leaves (.virInject v wr) s (s.setBit Reg.VIR_CTL 1)))

/-- R349, R363, R370 to R374: the tenant reset goes on once the tenant has left and its stores have issued, and stops its DMA
channels; its routes go to the EIC; the pool scan leaves no buffer that it finishes and no share that it holds; its window is
zeroised 64 bits at a time; it ends READY or ABSENT with EPOCH counted. -/
def Obligations.TenantReset : Prop :=
  ∀ (s : State), s.awake → s.domOn .sys = true → s.tenEnabled = true → s.tenBusy = true →
    let t := s.tenOf
    let w := s.trec t 1
    let addr := 0x10000000 + w.toNat % 2 ^ 12 * 256 + s.ten.zeroPos
    let size := w.toNat / 2 ^ 16 % 2 ^ 9 * 256
    let zeros := List.replicate 8 (0 : BitVec 8)
    let beaten := (s.clearResv (bankOf addr)).storeWrite (bankOf addr) (addr % 0x10000) 7 0x400 zeros
    (s.tenStep = 1 → s.isCurrent t = false → s.bufHolds t = false →
      ∃ u, exec .tenantResetDrained s = .next u ∧ u.tenStep = 2 ∧ u.tenState t = s.tenState t ∧ u.core.g = s.core.g ∧
        ∀ n, n < 8 → s.f (Reg.DMA_CHCTL n) 16 11 = t → s.dmaBusy n = true →
          u.dmaState n = 6 ∧ u.f (Reg.DMA_CHSTAT n) 24 4 = 6) ∧
    (s.tenStep = 1 → s.isCurrent t = true ∨ s.bufHolds t = true → Leaves .tenantResetDrained s s) ∧
    (s.tenStep = 2 →
      ∃ u, exec .tenantResetStopped s = .next u ∧ u.tenStep = 4 ∧ u.trec t 5 = 0 ∧ (∀ c ∈ u.ten.latches, c / 16 ≠ t) ∧
        (∀ n, 24 ≤ n → n < 80 → s.route n = none ∨ (∃ l, s.route n = some (t, l)) → u.route n = none) ∧
        (∀ n y l, y ≠ t → s.route n = some (y, l) → u.route n = some (y, l))) ∧
    (s.tenStep = 4 → s.poolReady = true → s.pool.undef = none →
      ∃ u, exec .poolTenantScan s = .next u ∧ u.trec t 4 = 0 ∧ (∀ n, metaUsed (u.metaWord n) = true → metaAid (u.metaWord n) ≠ t) ∧
        (s.domOn .sec = true → u.tenStep = (if (s.trec t 0).getLsbD 3 = true ∧ size ≠ 0 then 7 else 8))) ∧
    (s.tenStep = 7 → s.domOn .sec = true → s.inDomReset .sec = false → s.bankWaits addr 7 0x400 true = false →
      ((s.engineGate 1 addr 7 0x400 8 true).ok = true →
        (s.ten.zeroPos + 8 < size → Leaves .zeroiseBeat s
          { beaten with ten := { s.ten with zeroPos := s.ten.zeroPos + 8 } }) ∧
        (size ≤ s.ten.zeroPos + 8 → Leaves .zeroiseBeat s
          ({ beaten with ten := { s.ten with zeroPos := s.ten.zeroPos + 8 } }.setF Reg.TEN_STAT 8 4 8))) ∧
      ((s.engineGate 1 addr 7 0x400 8 true).ok = false →
        ∃ u, exec .zeroiseBeat s = .next u ∧ u.bit Reg.TEN_STAT 3 = true ∧ u.store = s.store)) ∧
    (s.tenStep = 8 →
      ∃ u, exec .tenantResetDone s = .next u ∧ u.tenState t = (if s.ten.remove then 0 else 1) ∧ u.tenBusy = false ∧
        u.tenStep = 0 ∧ u.bit Reg.TEN_STAT 2 = true ∧
        u.trec t 0 >>> 16 = BitVec.ofNat 32 (min (2 ^ 16 - 1) ((s.trec t 0).toNat / 2 ^ 16 + 1)) ∧ u.core = s.core)

/-! ## Measurement and safety -/

/-- R386, R391 to R394, R396, R401, R403 to R405, R407, R420: a held frame is written to the Store ring and published, or is
lost when a ring that stops is full; a ring that lies in the Store is enabled empty with its AID; a release advances RD; the
fast tap counts its window and trips its group; a Drone slot judges its check, the die temperature or the reference, and moves
on; the reference is ready; the sentinel record is written to its ring. -/
def Obligations.Measurement : Prop :=
  ∀ (s : State) (ch : Fin 48) (bits : BitVec 8) (d : DroneInput) (f : List Word) (rest : List (List Word)) (v sec w : Word)
    (wr : Writer) (saddle : Bool),
    (s.awake → s.domOn .meas = true → s.msr.chs.length = 48 →
      let len := s.f Reg.MSR_RINGLEN 0 11
      let count := s.f Reg.MSR_RINGCNT 0 11
      let wIdx := s.f Reg.MSR_RINGIDX 0 11
      let rej := s.setBit Reg.MSR_STAT 1
      let dropped := { s with msr := { s.msr with held := rest } }
      let r := dropped.frameBeats (s.f Reg.MSR_RINGCTL 16 11) ((s.rd Reg.MSR_RINGBASE).toNat + 200 * wIdx)
        (frameBytes (frameWith f (if s.msr.ovr then 0x8000 else 0)))
      let writing := s.msr.held = f :: rest ∧ s.domOn .store = true ∧ s.bit Reg.MSR_RINGCTL 0 = true ∧ s.ringWaits = false
      (s.msr.held = [] → Leaves .framePublish s s) ∧
      (writing → count < len → r.ok = true →
        ∃ t, exec .framePublish s = .next t ∧ t.msr.held = rest ∧ t.store = r.s.store ∧ t.f Reg.MSR_RINGIDX 0 11 = (wIdx + 1) % len ∧
          t.f Reg.MSR_RINGCNT 0 11 = count + 1 ∧ t.bit Reg.MSR_IRQ 0 = true ∧ t.msr.ovr = false) ∧
      (writing → len ≤ count → s.bit Reg.MSR_RINGCTL 1 = true →
        ∃ t, exec .framePublish s = .next t ∧ t.msr.held = rest ∧ t.store = s.store ∧ t.bit Reg.MSR_IRQ 2 = true ∧
          t.f Reg.MSR_RINGSTAT 16 16 = min (2 ^ 16 - 1) (s.f Reg.MSR_RINGSTAT 16 16 + 1) ∧ t.msr.ovr = true ∧
          t.f Reg.MSR_RINGCNT 0 11 = count) ∧
      (let base := (s.rd Reg.MSR_RINGBASE).toNat
       let legal := 2 ≤ len ∧ len ≤ 1024 ∧ 0x10000000 ≤ base ∧ base + 200 * len ≤ 0x10100000
       v.getLsbD 0 = true → v.getLsbD 8 = false → s.bit Reg.MSR_RINGCTL 0 = false →
        (legal → ∃ t, exec (.msrRingEnable v wr) s = .next t ∧ t.bit Reg.MSR_RINGCTL 0 = true ∧
          t.f Reg.MSR_RINGCTL 16 11 = wr.aid % 2 ^ 11 ∧ t.rd Reg.MSR_RINGIDX = 0 ∧ t.f Reg.MSR_RINGCNT 0 11 = 0) ∧
        (¬legal → Leaves (.msrRingEnable v wr) s rej)) ∧
      (let ring := if saddle then s.saddleRing else s.storeRing
       let n := v.toNat % 2 ^ (if saddle then 7 else 11)
       (1 ≤ n → n ≤ s.f ring.cnt 0 ring.wCnt →
         ∃ t, exec (.msrRingrel saddle v wr) s = .next t ∧ t.f ring.cnt 0 ring.wCnt = s.f ring.cnt 0 ring.wCnt - n ∧
           t.f ring.idx 16 ring.wIdx = (s.f ring.idx 16 ring.wIdx + n) % ring.len % 2 ^ ring.wIdx ∧
           t.f ring.idx 0 ring.wIdx = s.f ring.idx 0 ring.wIdx) ∧
       (n = 0 ∨ s.f ring.cnt 0 ring.wCnt < n → Leaves (.msrRingrel saddle v wr) s rej)) ∧
      (let n := v.toNat % 2 ^ 12
       let ring := s.sentRing
       1 ≤ n → n ≤ s.f ring.cnt 0 12 →
         ∃ t, exec (.msrSentrel v wr) s = .next t ∧ t.f ring.cnt 0 12 = s.f ring.cnt 0 12 - n ∧
           t.f ring.idx 16 11 = (s.f ring.idx 16 11 + n) % ring.len % 2 ^ 11) ∧
      (let n := ch.val
       let c := s.ch n
       let window := min 1024 (s.msr.nLast / 64)
       let filled := min 1024 (c.filled + 8)
       let hist := (c.hist * 2 ^ 8 + bits.toNat) % 2 ^ 1024
       let seen := min window filled
       let value : Int := Int.tdiv ((2 * (onesOf hist seen : Int) - seen) * 2047) window
       let limits := s.rd (Reg.MSR_CHFAST n)
       let beyond := (BitVec.ofNat 12 (limits.toNat / 2 ^ 16)).toInt < value ∨ value < (BitVec.ofNat 12 limits.toNat).toInt
       let g := c.cfg.toNat / 2 ^ 8 % 16
       s.bit Reg.MSR_CFG 0 = true → c.cfg.getLsbD 0 = true → c.cfg.getLsbD 5 = true → c.cfg.getLsbD 1 = false → window ≠ 0 →
        (¬beyond → Leaves (.fastTapUpdate ch bits) s (s.setCh n { c with hist := hist, filled := filled, trip := false })) ∧
        (beyond → ∃ t, exec (.fastTapUpdate ch bits) s = .next t ∧ (t.ch n).trip = true ∧ t.bit Reg.MSR_IRQ 7 = true ∧
          t.bit (Reg.MSR_FTRIP (n / 32)) (n % 32) = true ∧
          (c.cfg.getLsbD 6 = true → c.trip = false → t.bit Reg.SAF_TRIP g = true ∧ t.outputsOn.getLsbD g = false))) ∧
      (let u := s.advanceTicks d.ticks
       let k := s.msr.slot
       let p := s.f Reg.MSR_DRSTAT 0 5
       let c := s.ch p
       let scaled (x : Nat) : Int := Int.tdiv ((2 * (x : Int) - d.n) * 2 ^ 15) d.n
       let passes := (scaled d.c0 - scaled d.d0).natAbs ≤ s.f Reg.MSR_DRCTL 16 16
       let checked := s.msr.slotDrone = true ∧ k < 14 ∧ s.bit Reg.MSR_CFG 0 = true ∧ c.cfg.getLsbD 0 = true ∧
         c.cfg.getLsbD 1 = false ∧ c.fresh = false ∧ d.void0 = false ∧ d.void1 = true ∧ d.n ≠ 0
       (u.tmb.acc < (k + 1) * 2 ^ 24 / 16 → Leaves (.droneSlot d) s u) ∧
       ((k + 1) * 2 ^ 24 / 16 ≤ u.tmb.acc → k ≠ 0 ∨ u.tmb.acc < 2 ^ 24 →
         ∃ t, exec (.droneSlot d) s = .next t ∧ t.msr.slot = (k + 1) % 16 ∧
         t.f Reg.MSR_DRSTAT 0 5 = (if s.bit Reg.MSR_DRCTL 0 then (p + 1) % 24 else p) ∧
         (checked → passes → t.ch p = { c with checked := true }) ∧
         (checked → ¬passes → t.bit (Reg.MSR_DRMIS (p / 32)) (p % 32) = true ∧ t.bit Reg.MSR_IRQ 8 = true ∧
           t.f Reg.MSR_DRSTAT 16 16 = min (2 ^ 16 - 1) (s.f Reg.MSR_DRSTAT 16 16 + 1) ∧ t.msr.droneBad = true) ∧
         (k = 14 → -32768 ≤ d.temp → d.temp ≤ 32767 → (BitVec.ofNat 16 (t.f Reg.SAF_TEMP 0 16)).toInt = d.temp) ∧
         (k = 15 → s.msr.slotRef = true → t.f Reg.MSR_REFSTAT 0 16 = d.ref.toNat ∧
           (s.f Reg.MSR_CFG 8 8 < ((d.ref.toNat : Int) - 2 ^ 15).natAbs → t.bit Reg.MSR_IRQ 9 = true ∧ t.msr.refBad = true)))) ∧
      Leaves .refSample s s ∧
      (s.refPowered = true → Leaves .referenceSettled s (s.setBit Reg.MSR_STAT 0))) ∧
    (s.calm → s.pwr.level = .shelf → s.bit Reg.SDL_CFG 6 = true → s.msr.sentRec = some (sec, w) →
      let slot := s.f Reg.MSR_SENTIDX 0 11
      let count := s.f Reg.MSR_SENTCNT 0 12
      let len := s.f Reg.MSR_SENTLEN 0 11 + 1
      let taken := { s with msr := { s.msr with sentRec := none } }
      (count < len → s.sentBeyond 12 (Reg.MSR_SENTLIM 0) (w.toNat % 2 ^ 16) = false →
        s.sentBeyond 13 (Reg.MSR_SENTLIM 1) (w.toNat / 2 ^ 16) = false →
        Leaves .sentinelRecord s (((taken.saddleWrite (s.f Reg.MSR_SENTBASE 0 14 + 8 * slot) 0x401
          (bytesLE 4 sec.toNat ++ bytesLE 4 w.toNat)).setF Reg.MSR_SENTIDX 0 11 ((slot + 1) % len)).setF
            Reg.MSR_SENTCNT 0 12 (count + 1))) ∧
      (len ≤ count → s.bit Reg.MSR_SENTCFG 8 = true →
        Leaves .sentinelRecord s ((taken.incSat Reg.MSR_SENTCNT 16 16).msrIrq 4)))

/-- R414, R415, R418, R419, R423, R424, SAF_TEST: while the safety block is ON, a request that nothing stands against switches
its outputs on, and a refused one sets REJ; ACK stops the escalation timer; CLR ends the safe state once no condition holds; a
forced trip trips its group and switches its output off; the timer that has run out raises its SYSTEM trigger. -/
def Obligations.SafetyFunction : Prop :=
  ∀ (s : State) (v : Word) (wr : Writer), s.awake → s.domOn .meas = true →
    let old := s.rd Reg.SAF_OUTREQ
    let trips := s.rd Reg.SAF_TRIP
    let rising := v &&& ~~~old &&& 0xFFFF
    let barred := s.bit Reg.SAF_STAT 0 = true ∨ s.bit Reg.BRT_CFG 0 = false ∨ s.bit Reg.GTC_CRCCTL 0 = false ∨
      s.bit Reg.MSR_STAT 0 = false
    let keyed := v.toNat / 2 ^ 16 = 0x3C96
    let rej := s.setBit Reg.SAF_STAT 5
    let g := v.toNat % 16
    (¬barred → rising &&& trips = 0 →
      ∃ t, exec (.outputRequest v wr) s = .next t ∧ t.rd Reg.SAF_OUTREQ = v &&& 0xFFFF ∧ t.rd Reg.SAF_STAT = s.rd Reg.SAF_STAT ∧
        t.outputsOn = v &&& ~~~trips &&& 0xFFFF ∧ t.f Reg.SAF_OUT 0 16 = t.outputsOn.toNat ∧ t.core = s.core) ∧
    (barred → rising ≠ 0 →
      ∃ t, exec (.outputRequest v wr) s = .next t ∧ t.rd Reg.SAF_OUTREQ = v &&& old &&& 0xFFFF ∧ t.bit Reg.SAF_STAT 5 = true ∧
        t.f Reg.SAF_OUT 0 16 = t.outputsOn.toNat ∧ t.core = s.core) ∧
    (keyed → v.getLsbD 0 = true → v.getLsbD 1 = false →
      Leaves (.safeAck v wr) s ((s.setBit Reg.SAF_STAT 2).clrBit Reg.SAF_STAT 8)) ∧
    (¬keyed → Leaves (.safeAck v wr) s rej ∧ Leaves (.safeClear v wr) s rej) ∧
    (keyed → v.getLsbD 0 = false → v.getLsbD 1 = true →
      (s.safeConds = [] → ∃ t, exec (.safeClear v wr) s = .next t ∧ t.bit Reg.SAF_STAT 0 = false ∧ t.bit Reg.SAF_STAT 8 = false ∧
        t.bit Reg.SAF_IRQ 3 = (s.bit Reg.SAF_IRQ 3 || s.bit Reg.SAF_STAT 0) ∧ t.rd Reg.SAF_OUTREQ = old ∧ t.core = s.core) ∧
      (s.safeConds ≠ [] → Leaves (.safeClear v wr) s rej)) ∧
    (v.toNat / 2 ^ 16 = 0x7E57 →
      ∃ t, exec (.forcedTrip v wr) s = .next t ∧ t.bit Reg.SAF_TRIP g = true ∧ t.bit Reg.SAF_IRQ 0 = true ∧
        t.bit Reg.SAF_OUTREQ g = false ∧ t.outputsOn.getLsbD g = false ∧ t.bit Reg.SAF_STAT 0 = s.bit Reg.SAF_STAT 0 ∧
        (∀ m, m < 16 → m ≠ g → t.bit Reg.SAF_OUTREQ m = s.bit Reg.SAF_OUTREQ m) ∧
        (s.bit Reg.SAF_TRIP g = false → t.rd (Reg.SAF_GFW g) = BitVec.ofNat 32 (11 * 2 ^ 28 + 4 * 2 ^ 16 + g)) ∧
        t.core = s.core) ∧
    (v.toNat / 2 ^ 16 ≠ 0x7E57 → Leaves (.forcedTrip v wr) s rej) ∧
    (s.bit Reg.SAF_STAT 8 = true → s.bit Reg.SAF_CFG 16 = true → s.f Reg.SAF_CFG 8 4 + 1 ≤ s.saf.esc →
      ∃ t, exec .safetyEscalation s = .next t ∧ .safetyEsc ∈ t.lcs.pendingResets ∧ t.lcs.escDomain = s.f Reg.SAF_FW 28 4 ∧
        t.bit Reg.SAF_STAT 8 = false ∧ t.core = s.core) ∧
    (s.bit Reg.SAF_STAT 8 = false ∨ s.bit Reg.SAF_CFG 16 = false ∨ s.saf.esc ≤ s.f Reg.SAF_CFG 8 4 →
      Leaves .safetyEscalation s s)

/-! ## Touch keys and the panel -/

/-- R436, R437, R445, R447, R449, R452, R453: a burst of a scanned Cycle is held, and queued for the raw copy outside a
reference Cycle; a beat of the raw copy goes to its place in the Store, and a publish behind it advances WR with its CYC; an
enable starts the engine with a reference Cycle and a seed due; a legal burst setting, key or raw copy is taken and an illegal
one sets REJ; a written key is OFF with its counts at 0. -/
def Obligations.Touch : Prop :=
  ∀ (s : State) (tx : Fin 8) (counts : List Nat) (key : Fin 32) (thr : Bool) (v : Word) (wr : Writer), s.awake → s.domOn .hmi = true →
    let rej := s.setBit Reg.TCH_STAT 0
    let took (a : Nat) : State := s.wr a (s.written a v)
    let copies := s.bit Reg.TCH_RAWCTL 0 = true ∧ s.tch.inRef = false
    let raw (i : Nat) : Nat := min 0xFFFF (counts.getD i 0)
    let half (h : Nat) : Nat := raw (4 * h) + raw (4 * h + 1) * 2 ^ 16 + raw (4 * h + 2) * 2 ^ 32 + raw (4 * h + 3) * 2 ^ 48
    (s.bit Reg.TCH_CTL 0 = true → s.tch.whole = true → s.pnl.quiet = some tx.val → (∀ p ∈ s.tch.bursts, p.1 ≠ tx.val) →
      ∃ t, exec (.touchBurst tx counts) s = .next t ∧ t.tch.bursts = s.tch.bursts ++ [(tx.val, counts.map (min 0xFFFF))] ∧
        (copies → t.tch.raw = s.tch.raw ++ [.beat tx.val 0 (half 0), .beat tx.val 1 (half 1)]) ∧
        (¬copies → t.tch.raw = s.tch.raw) ∧ t.tch.base = s.tch.base ∧ t.store = s.store ∧ t.core = s.core) ∧
    (∀ line part data rest, s.bit Reg.TCH_CTL 0 = true → s.tch.raw = .beat line part data :: rest → s.domOn .store = true →
      let aid := s.f Reg.TCH_RAWCTL 16 11
      let len := s.f Reg.TCH_RAWCTL 8 7
      let addr := (s.rd Reg.TCH_RAWBASE).toNat + 128 * (s.f Reg.TCH_RAWSTAT 0 6 % max 1 len) + 16 * line + 8 * part
      s.storeWaits 4 aid addr 4 = false →
        let r := s.storeBeat 4 aid addr (bytesLE 4 data)
        let q := r.s.storeBeat 4 aid (addr + 4) (bytesLE 4 (data / 2 ^ 32))
        let u := if r.ok ∧ q.ok then q.s else (q.s.setBit Reg.TCH_STAT 4).orReg Reg.TCH_IRQ 0x40
        ((∀ c more, rest ≠ .publish c :: more) → Leaves .touchRawBeat s { u with tch := { u.tch with raw := rest } }) ∧
        (∀ c more, rest = .publish c :: more → 1 ≤ u.f Reg.TCH_RAWCTL 8 7 →
          Leaves .touchRawBeat s
            (({ u with tch := { u.tch with raw := more } }.setF Reg.TCH_RAWSTAT 0 6 ((u.f Reg.TCH_RAWSTAT 0 6 + 1) %
              u.f Reg.TCH_RAWCTL 8 7)).setF Reg.TCH_RAWSTAT 16 16 c))) ∧
    (let maxk := v.toNat / 2 ^ 16 % 2 ^ 6
     (maxk = 0 ∨ 32 < maxk → Leaves (.touchEnable v wr) s rej) ∧
     (1 ≤ maxk → maxk ≤ 32 → v.getLsbD 0 = true → s.bit Reg.TCH_CTL 0 = false →
       Leaves (.touchEnable v wr) s
         { (took Reg.TCH_CTL).setBit Reg.TCH_STAT 2 with pwr := { s.pwr with wkScans := [], wkFalls := 0 }, tch :=
           { s.tch with refDue := true, seedDue := true, checkDue := false, whole := false, bursts := [] } }) ∧
     (1 ≤ maxk → maxk ≤ 32 → v.getLsbD 0 = false → s.bit Reg.TCH_CTL 0 = true →
       Leaves (.touchEnable v wr) s
         { took Reg.TCH_CTL with tch :=
           { s.tch with bursts := [], whole := false, inRef := false, raw := [], refDue := false } })) ∧
    (let j := key.val
     let a := if thr then Reg.TCH_KTHR j else Reg.TCH_KCFG j
     let on := (BitVec.ofNat 16 (v.toNat / 2 ^ 16)).toInt
     let off := (BitVec.ofNat 16 v.toNat).toInt
     (thr = true → on < off → Leaves (.keyConfigWrite key thr v wr) s rej) ∧
     (thr = false ∨ off ≤ on →
       ∃ t, exec (.keyConfigWrite key thr v wr) s = .next t ∧ t.rd a = s.written a v ∧ t.bit Reg.TCH_KSTATE j = false ∧
         t.bit Reg.TCH_KCHG j = (s.bit Reg.TCH_KCHG j || s.bit Reg.TCH_KSTATE j) ∧ t.tch.onCnt.getD j 0 = 0 ∧
         t.tch.offCnt.getD j 0 = 0 ∧ t.tch.base = s.tch.base ∧ t.core = s.core ∧
         (∀ m, m < 32 → m ≠ j → t.bit Reg.TCH_KSTATE m = s.bit Reg.TCH_KSTATE m ∧ t.bit Reg.TCH_KCHG m = s.bit Reg.TCH_KCHG m))) ∧
    (let div := v.toNat / 2 ^ 8 % 2 ^ 6
     let legal := 8 ≤ div ∧ div ≤ 32 ∧ 16 * (v.toNat % 2 ^ 3 + 1) * div ≤ 1520
     (legal → Leaves (.tchBurstWrite v wr) s (took Reg.TCH_BURST)) ∧ (¬legal → Leaves (.tchBurstWrite v wr) s rej)) ∧
    (let len := v.toNat / 2 ^ 8 % 2 ^ 7
     let base := (s.rd Reg.TCH_RAWBASE).toNat
     let legal := 1 ≤ len ∧ len ≤ 64 ∧ 0x10000000 ≤ base ∧ base + 128 * len ≤ 0x10100000
     v.getLsbD 0 = true → s.bit Reg.TCH_RAWCTL 0 = false →
       (legal → Leaves (.tchRawEnable v wr) s ((took Reg.TCH_RAWCTL).setF Reg.TCH_RAWCTL 16 11 wr.aid)) ∧
       (¬legal → Leaves (.tchRawEnable v wr) s rej))

/-- R458 to R462, R464 to R466: a row slot that ends drives each lit pixel of its row for its grey level and balances it, and
adds its charge; a row that was not fetched is dark, and counted late as its slot begins; a dark frame leaves the ledger alone; a
quiet slot starts with its touch window, and its catch-up takes the balances of row CUROW toward 0 and advances CUROW; a row's
words are fetched from the frame buffer in the slot before. -/
def Obligations.PanelSlots : Prop :=
  ∀ (s : State), s.awake → s.domOn .hmi = true → s.bit Reg.TCH_CTL 0 = true ∨ s.bit Reg.PNL_CTL 0 = true →
    let k := s.pnl.slot
    let r := k - k / 9
    let run := s.bit Reg.PNL_STAT 0
    let next : State := { s with pnl := { s.pnl with
      slot := min 36 (k + 1), rowBuf := if k < 35 then s.pnl.nextBuf else none, nextBuf := if k < 35 then none else s.pnl.nextBuf,
      quiet := none } }
    let late := run = true ∧ k < 35 ∧ (k + 1) % 9 ≠ 8 ∧ s.pnl.nextBuf = none
    let marked (t : State) : Prop :=
      t.pnl = { next.pnl with ledger := t.pnl.ledger } ∧
        t.f Reg.PNL_STAT 16 16 = (if late then min (2 ^ 16 - 1) (s.f Reg.PNL_STAT 16 16 + 1) else s.f Reg.PNL_STAT 16 16) ∧
        (late → t.bit Reg.PNL_IRQ 1 = true) ∧ t.core = s.core ∧ t.store = s.store
    let vp := s.pnl.vp.toNat % 2 ^ 8
    (k < 36 → k % 9 ≠ 8 → s.pnl.quiet = none →
      (run = false → Leaves .rowSlot s next) ∧
      (run = true → s.pnl.rowBuf = none →
        Leaves .rowSlot s (if late then (next.incSat Reg.PNL_STAT 16 16).orReg Reg.PNL_IRQ 2 else next)) ∧
      (∀ ws, run = true → s.pnl.rowBuf = some ws →
        ∃ t, exec .rowSlot s = .next t ∧ marked t ∧ s.rowDriven t r 32 ws)) ∧
    (k < 36 → k % 9 = 8 → s.pnl.quiet = none →
      ∃ t, exec .quietSlot s = .next t ∧ t.pnl = { s.pnl with quiet := some (4 * s.pnl.frame + k / 9), window := t.pnl.window } ∧
        (s.bit Reg.TCH_CTL 0 = true → s.tch.whole = true →
          t.pnl.window = ((160 + 16 * (s.tch.burst.toNat % 2 ^ 3 + 1) * (s.tch.burst.toNat / 2 ^ 8 % 2 ^ 6)) * 256 + 999) / 1000) ∧
        (s.bit Reg.TCH_CTL 0 = false → t.pnl.window = 41) ∧ t.core = s.core) ∧
    (∀ q, s.pnl.quiet = some q →
      let cur := s.f Reg.PNL_STAT 8 5
      let cu := min 16 ((s.pnl.s - s.pnl.window) / max 1 s.pnl.k)
      (run = false → Leaves .catchup s next) ∧
      (run = true →
        ∃ t, exec .catchup s = .next t ∧ marked t ∧ t.f Reg.PNL_STAT 8 5 = (cur + 1) % 32 ∧
          t.bit Reg.PNL_IRQ 0 = (s.bit Reg.PNL_IRQ 0 || decide (k = 35)) ∧ (∀ n, n / 64 ≠ cur → t.pixel n = s.pixel n) ∧
          ∀ c, c < 64 →
            let p := s.pixel (64 * cur + c)
            (p.bal ≤ 0 → t.pixel (64 * cur + c) = p) ∧
            (0 < p.bal → p.bal ≤ 32767 → 0 < vp →
              t.pixel (64 * cur + c) = { p with bal := p.bal - (min cu ((p.bal.toNat + vp - 1) / vp) * vp : Nat) }))) ∧
    (∀ row late, s.fetchRow = some row → run = true → s.pnl.halted = false → s.domOn .store = true →
      let t := s.rowReads row
      let held (b : Option (List Word)) : Option (List Word) := if late = true ∨ t.waits = true then none else b
      (t.ok = true → Leaves (.fbRowRead late) s { t.s with pnl := { t.s.pnl with nextBuf := held (some t.ws) } }) ∧
      (t.ok = false → Leaves (.fbRowRead late) s
        { (t.s.setBit Reg.PNL_STAT 4).orReg Reg.PNL_IRQ 4 with
          pnl := { t.s.pnl with nextBuf := held (some (List.replicate 8 0)) } }))

/-- R463, R464, R467, R469, R470: the panel is enabled with the writer's AID only over a valid ledger and frame buffer; the
window writes one entry while no frame drives; INIT zeroes the ledger and makes it valid, MARK makes it valid as it stands; a
read of PNL_LSTAT clears MAXBAL. -/
def Obligations.PanelLedger : Prop :=
  ∀ (s : State) (px : Fin 2048) (v : Word) (wr : Writer), s.awake → s.domOn .hmi = true →
    let rej := s.setBit Reg.PNL_STAT 3
    let took (a : Nat) : State := s.wr a (s.written a v)
    let base := (s.rd Reg.PNL_FBBASE).toNat
    let legal := s.bit Reg.PNL_LSTAT 31 = true ∧ base % 32 = 0 ∧ 0x10000000 ≤ base ∧ base + 1024 ≤ 0x10100000
    let run := s.bit Reg.PNL_STAT 0
    let p := s.pixel px.val
    (v.getLsbD 0 = true → s.bit Reg.PNL_CTL 0 = false →
      (¬legal → Leaves (.panelEnable v wr) s rej) ∧
      (legal → v.getLsbD 8 = true →
        Leaves (.panelEnable v wr) s ((took Reg.PNL_CTL).setF Reg.PNL_CTL 16 11 wr.aid))) ∧
    (v.getLsbD 0 = false → v.getLsbD 8 = true → Leaves (.panelEnable v wr) s (took Reg.PNL_CTL)) ∧
    (run = true → Leaves (.ledgerWindowWrite px v wr) s rej) ∧
    (run = false →
      ∃ t, exec (.ledgerWindowWrite px v wr) s = .next t ∧
        t.pixel px.val = (if s.bit Reg.PNL_LCTL 8 then { p with bal := (BitVec.ofNat 16 v.toNat).toInt }
          else { p with fwd := v.toNat % 2 ^ 24, res := 0 }) ∧
        (∀ n, n ≠ px.val → t.pixel n = s.pixel n) ∧ t.core = s.core ∧ t.store = s.store) ∧
    (v.getLsbD 0 = true → v.getLsbD 1 = false →
      Leaves (.ledgerInit v wr) s
        (if run then (took Reg.PNL_LCTL).setBit Reg.PNL_STAT 3 else (took Reg.PNL_LCTL).setBit Reg.PNL_LSTAT 30)) ∧
    (v.getLsbD 0 = false → v.getLsbD 1 = true →
      Leaves (.ledgerMark v wr) s ((took Reg.PNL_LCTL).setBit Reg.PNL_LSTAT 31)) ∧
    (s.bit Reg.PNL_LSTAT 30 = true →
      ∃ t, exec .ledgerInitDone s = .next t ∧ (∀ n, t.pixel n = ⟨0, 0, 0⟩) ∧ t.bit Reg.PNL_LSTAT 30 = false ∧
        t.bit Reg.PNL_LSTAT 31 = true ∧ t.core = s.core) ∧
    Leaves (.maxbalRead wr) s (s.setF Reg.PNL_LSTAT 0 16 0)

/-- R80, R472 to R476: a permitted boost ramps up and becomes ready; a short stops it, cuts the row slot in
progress, and waits for a retry, or latches after the third; a retry counts and ramps again; RETRIES ends at 0 after a second of READY, and clearing the latch starts the boost
again. -/
def Obligations.Vpanel : Prop :=
  ∀ (s : State) (v : Word) (wr : Writer) (cut : Option (Fin 32)), s.awake → s.domOn .hmi = true →
    let may := 14 ∉ s.pwr.stagger ∧ s.bit Reg.PNL_CTL 8 = true ∧ (s.hrv.src ≠ .bat ∨ s.bit Reg.HRV_CFG 1 = true)
    let latch := s.bit Reg.PNL_FAULT 1
    let retries := s.f Reg.PNL_FAULT 2 2
    let boost (u : State) (b : Boost) : State := { u with pnl := { u.pnl with boost := b } }
    let stopped :=
      (({ s with pnl := { s.pnl with boost := .off, rowBuf := none, nextBuf := none } }.clrBit Reg.PNL_STAT 2).clrBit Reg.PNL_STAT 0)
    let driving := s.bit Reg.PNL_STAT 0
    let slot := s.pnl.slot
    (s.pnl.boost = .off → may → latch = false → Leaves .vpanelSoftStart s (boost s .ramp)) ∧
    (s.pnl.boost = .off → ¬may ∨ latch = true → Leaves .vpanelSoftStart s s) ∧
    (s.pnl.boost = .ramp → Leaves .vpanelReady s (((boost s .running).setBit Reg.PNL_STAT 2).orReg Reg.PNL_IRQ 0x80)) ∧
    (s.pnl.boost = .ramp ∨ s.pnl.boost = .running →
      let faulty := ((stopped.setBit Reg.PNL_FAULT 0).putBit Reg.PNL_FAULT 4 (decide (s.pnl.boost = .running))).orReg Reg.PNL_IRQ 0x20
      (driving = false ∨ cut = some 0 →
        (retries = 3 → Leaves (.vpanelShort cut) s ((faulty.setBit Reg.PNL_FAULT 1).orReg Reg.PNL_IRQ 0x40)) ∧
        (retries ≠ 3 → Leaves (.vpanelShort cut) s (boost faulty .waiting))) ∧
      ∃ t, exec (.vpanelShort cut) s = .next t ∧ t.bit Reg.PNL_STAT 2 = false ∧ t.bit Reg.PNL_STAT 0 = false ∧
        t.bit Reg.PNL_FAULT 0 = true ∧ t.bit Reg.PNL_FAULT 4 = decide (s.pnl.boost = .running) ∧ t.bit Reg.PNL_IRQ 5 = true ∧
        t.bit Reg.PNL_FAULT 1 = (latch || decide (retries = 3)) ∧ t.pnl.boost = (if retries = 3 then .off else .waiting) ∧
        t.core = s.core ∧
        (driving = true → s.pnl.quiet = none → slot < 36 → slot % 9 ≠ 8 → ∀ ws, s.pnl.rowBuf = some ws →
          s.rowDriven t (slot - slot / 9) (match cut with | some c => c.val | none => 32) ws)) ∧
    (s.pnl.boost = .waiting → may → latch = false → retries < 3 →
      Leaves .vpanelRetry s (boost (s.setF Reg.PNL_FAULT 2 2 (retries + 1)) .ramp)) ∧
    (s.bit Reg.PNL_STAT 2 = true → Leaves .vpanelRetriesReset s (s.setF Reg.PNL_FAULT 2 2 0)) ∧
    (s.bit Reg.PNL_STAT 2 = false → Leaves .vpanelRetriesReset s s) ∧
    (latch = true → v.getLsbD 1 = true → s.pnl.boost = .off →
      let cleared := (s.wr Reg.PNL_FAULT (s.written Reg.PNL_FAULT v)).setF Reg.PNL_FAULT 2 2 0
      cleared.bit Reg.PNL_FAULT 1 = false ∧
      (may → Leaves (.vpanelLatchClear v wr) s (boost cleared .ramp)) ∧
      (¬may → Leaves (.vpanelLatchClear v wr) s cleared))

/-! ## The digest engine -/

/-- R482, R483, R486, R487, R490, R493, R494: CLAIM binds a free context and RELEASE frees it; START begins an operation of
the owner and clears what the last one left, or sets its error; FINISH ends the message; ABORT returns a context to IDLE;
COMPARE judges the result; a command of another agent counts as foreign. -/
def Obligations.DigestCommands : Prop :=
  ∀ (s : State) (v : Word) (wr : Writer), s.awake → s.domOn .sec = true →
    let op := v.toNat % 2 ^ 4
    let n := v.toNat / 2 ^ 8 % 2 ^ 4
    let c := s.ctx n
    let own := c.state ≠ 0 ∧ c.owner = wr.aid
    let rej := s.setBit Reg.DGS_STAT 13
    let foreign := ((s.incSat Reg.DGS_STAT 16 16).setBit Reg.DGS_STAT 12).setF Reg.DGS_STAT 0 11 wr.aid
    let unfed := s.bit Reg.DGS_DMACTL 1 = false ∨ s.dgs.feed ≠ n
    let sequence := s.setCtx n { c with err := 3 }
    let cfg := c.cfg.toNat
    let wide := cfg % 2 = 1
    let slot := cfg / 2 ^ 4 % 2 ^ 3
    let cmpw := cfg / 2 ^ 8 % 2 ^ 5
    let unknown := c.len = 2 ^ 64 - 1
    let began : DgsCtx := { DgsCtx.reset with state := 2, owner := c.owner, cfg := c.cfg, len := c.len, expect := c.expect }
    let legal := cmpw ≤ (if wide then 16 else 8) ∧ (unknown ∨ c.len ≤ (if wide then 2 ^ 64 - 2 else 2 ^ 61 - 1))
    let named := c.owner = 0x400 ∨ c.owner < 0x400 ∧ s.bit Reg.DGS_KPOL slot = true
    (op = 1 → n ≠ 15 → c.state = 0 → Leaves (.dgsClaim v wr) s (s.setCtx n { DgsCtx.reset with state := 1, owner := wr.aid })) ∧
    (op = 1 → n = 15 ∨ c.state ≠ 0 → Leaves (.dgsClaim v wr) s rej) ∧
    (op = 2 → n ≠ 15 → own ∨ wr.aid = 0x400 → unfed → Leaves (.dgsRelease v wr) s (s.setCtx n DgsCtx.reset)) ∧
    (op = 2 → n = 15 → own ∨ wr.aid = 0x400 → Leaves (.dgsRelease v wr) s rej) ∧
    (op = 2 → ¬own → wr.aid ≠ 0x400 →
      Leaves (.dgsRelease v wr) s (((rej.incSat Reg.DGS_STAT 16 16).setBit Reg.DGS_STAT 12).setF Reg.DGS_STAT 0 11 wr.aid)) ∧
    (op = 3 → own →
      (c.state = 2 ∨ c.state = 3 → Leaves (.dgsStart v wr) s sequence) ∧
      (c.state ≠ 2 → c.state ≠ 3 →
        (¬legal → Leaves (.dgsStart v wr) s (s.setCtx n { c with err := 1 })) ∧
        (legal → c.cfg.getLsbD 1 = false →
          Leaves (.dgsStart v wr) s (s.setCtx n { began with hash := if wide then sha512H else sha256H })) ∧
        (legal → c.cfg.getLsbD 1 = true → ∀ key, s.usableKey slot = some key → named →
          Leaves (.dgsStart v wr) s (s.setCtx n { began with
            hash := if wide then sha512H else sha256H, key := key, keyBlock := true, isSealed := decide (6 ≤ slot) })) ∧
        (legal → c.cfg.getLsbD 1 = true → s.usableKey slot = none ∨ ¬named →
          Leaves (.dgsStart v wr) s (s.setCtx n { c with err := 2 })))) ∧
    (op = 4 → own → c.state = 2 → c.blocks.length < 2 →
      (unknown ∨ c.count = c.len →
        Leaves (.dgsFinish v wr) s (s.setCtx n { c with
          state := 3, part := [],
          blocks := c.blocks ++ shaPad c.form (c.count + (if c.cfg.getLsbD 1 then c.form.block else 0)) c.part })) ∧
      (¬unknown → c.count ≠ c.len →
        ∃ t, exec (.dgsFinish v wr) s = .next t ∧ t.bit Reg.DGS_IRQ 17 = true ∧ t.core = s.core ∧
          (n < s.dgs.ctxs.length → (t.ctx n).state = 1 ∧ (t.ctx n).underlen = true ∧ (t.ctx n).err = 4 ∧ (t.ctx n).count = 0))) ∧
    (op = 5 → own ∨ wr.aid = 0x400 → 2 ≤ c.state → unfed →
      Leaves (.dgsAbort v wr) s (s.setCtx n { began with state := 1 })) ∧
    (op = 6 → own → c.state = 4 →
      let same := decide (c.out.take cmpw = c.expect.take cmpw)
      Leaves (.dgsCompare v wr) s ((s.setCtx n { c with isMatch := same, mismatch := !same }).setBit Reg.DGS_IRQ 16)) ∧
    (op = 6 → own → c.state ≠ 4 → Leaves (.dgsCompare v wr) s sequence) ∧
    (¬own → (op = 3 → Leaves (.dgsStart v wr) s foreign) ∧ (op = 4 → Leaves (.dgsFinish v wr) s foreign) ∧
      (op = 5 → wr.aid ≠ 0x400 → Leaves (.dgsAbort v wr) s foreign) ∧ (op = 6 → Leaves (.dgsCompare v wr) s foreign))

/-- R480, R483, R489, R490, R492: the owner's data extend the message and fill its blocks; a byte beyond the declared length
is dropped with OVERLEN; the last bytes end it with the padding; the core serves a check of the life-cycle block first,
then the contexts in turn, one block at a time, and the last compression gives the digest, byte i in OUT word i / 4. -/
def Obligations.DigestData : Prop :=
  ∀ (s : State) (n : Fin 16) (k : Fin 4) (v : Word) (wr : Writer), s.awake → s.domOn .sec = true →
    let c := s.ctx n.val
    let own := c.state ≠ 0 ∧ c.owner = wr.aid
    let foreign := ((s.incSat Reg.DGS_STAT 16 16).setBit Reg.DGS_STAT 12).setF Reg.DGS_STAT 0 11 wr.aid
    let unknown := c.len = 2 ^ 64 - 1
    let block := if c.cfg.getLsbD 0 then 128 else 64
    let form := if c.cfg.getLsbD 0 then sha512Form else sha256Form
    let fits (m : Nat) : Prop := if unknown then c.count + m ≤ (if c.cfg.getLsbD 0 then 2 ^ 64 - 2 else 2 ^ 61 - 1) else c.count + m ≤ c.len
    (¬own → Leaves (.dgsDinWrite n v wr) s foreign ∧ Leaves (.dgsLastWrite n k v wr) s foreign) ∧
    (n.val < s.dgs.ctxs.length → own → c.state = 2 → c.blocks.length < 2 →
      (fits 4 → c.part.length + 4 < block →
        Leaves (.dgsDinWrite n v wr) s (s.setCtx n.val { c with count := c.count + 4, part := c.part ++ bytesLE 4 v.toNat })) ∧
      (fits 4 → c.part.length + 4 = block →
        Leaves (.dgsDinWrite n v wr) s (s.setCtx n.val { c with
          count := c.count + 4, part := [], blocks := c.blocks ++ [c.part ++ bytesLE 4 v.toNat] })) ∧
      (¬unknown → c.count = c.len → c.overlen = false →
        Leaves (.dgsDinWrite n v wr) s ((s.setBit Reg.DGS_IRQ 17).setCtx n.val { c with overlen := true })) ∧
      (let m := k.val + 1
       fits m → c.part.length + m < block → unknown ∨ c.count + m = c.len →
        Leaves (.dgsLastWrite n k v wr) s (s.setCtx n.val { c with
          state := 3, count := c.count + m, part := [],
          blocks := c.blocks ++
            shaPad form (c.count + m + (if c.cfg.getLsbD 1 then block else 0)) (c.part ++ bytesLE m v.toNat) }))) ∧
    (own → c.state ≠ 2 → Leaves (.dgsDinWrite n v wr) s (s.setCtx n.val { c with err := 3 })) ∧
    (let ready (m : Nat) : Prop :=
       ((s.ctx m).state = 2 ∨ (s.ctx m).state = 3) ∧ ((s.ctx m).keyBlock = true ∨ (s.ctx m).blocks ≠ [])
     let served := ready n.val ∧ ∃ i, i < 16 ∧ n.val = (s.dgs.last + 1 + i) % 16 ∧ ∀ j, j < i → ¬ready ((s.dgs.last + 1 + j) % 16)
     let turned := { s with dgs := { s.dgs with last := n.val } }
     (∀ m, s.lcs.checking = true → s.lcs.checkBlocks = m + 1 →
       Leaves .dgsCompression s { s with lcs := { s.lcs with checkBlocks := m } }) ∧
     (s.lcs.checking = false ∨ s.lcs.checkBlocks = 0 →
     ((∀ m, m < 16 → ¬ready m) → Leaves .dgsCompression s s) ∧
     (served → c.keyBlock = true →
       Leaves .dgsCompression s (turned.setCtx n.val { c with
         keyBlock := false, hash := shaCompress form form.init (hmacKeyBlock form c.key 0x36) })) ∧
     (∀ b rest, served → c.keyBlock = false → c.blocks = b :: rest →
       let h := shaCompress form c.hash b
       let out := shaBytes form h
       (c.state = 2 ∨ rest ≠ [] → Leaves .dgsCompression s (turned.setCtx n.val { c with hash := h, blocks := rest })) ∧
       (c.state = 3 → rest = [] → c.cfg.getLsbD 1 = false ∨ c.outer = true → n.val < s.dgs.ctxs.length →
         ∃ t, exec .dgsCompression s = .next t ∧ (t.ctx n.val).state = 4 ∧ t.bit Reg.DGS_IRQ n.val = true ∧
           (∀ i, i < 64 → byteOf ((t.ctx n.val).out.getD (i / 4) 0) (i % 4) = out.getD i 0) ∧ t.core = s.core ∧
           (let cmpw := c.cfg.toNat / 2 ^ 8 % 2 ^ 5
            cmpw ≠ 0 → t.bit Reg.DGS_IRQ 16 = true ∧
              (t.ctx n.val).isMatch = decide ((t.ctx n.val).out.take cmpw = c.expect.take cmpw) ∧
              (t.ctx n.val).mismatch = !(t.ctx n.val).isMatch)))))

/-- R495 to R497: a list starts for the owner of an absorbing context with the AID of its writer, or is refused; an entry
whose handle names no buffer ends the list with the context in ERROR, and one that keeps its handle is fed and passed. -/
def Obligations.DigestList : Prop :=
  ∀ (s : State) (v : Word) (wr : Writer), s.awake → s.domOn .sec = true →
    (let n := v.toNat / 2 ^ 8 % 2 ^ 4
     let c := s.ctx n
     let base := (s.rd Reg.DGS_DMALIST).toNat
     let cnt := s.f Reg.DGS_DMACNT 0 11
     let legal := s.bit Reg.DGS_DMACTL 1 = false ∧ c.state = 2 ∧ c.owner = wr.aid ∧ 1 ≤ cnt ∧ cnt ≤ 1024 ∧
       0x10000000 ≤ base ∧ base < 0x10100000
     v.getLsbD 0 = true →
      (¬legal → Leaves (.dgsListStart v wr) s (s.setBit Reg.DGS_STAT 13)) ∧
      (legal → ∃ t, exec (.dgsListStart v wr) s = .next t ∧ t.bit Reg.DGS_DMACTL 1 = true ∧ t.dgs.feed = n ∧
        t.f Reg.DGS_DMACTL 16 11 = wr.aid % 2 ^ 11 ∧ t.dgs.listBase = base ∧ t.dgs.listLen = cnt ∧
        t.rd Reg.DGS_DMASTAT = s.rd Reg.DGS_DMASTAT &&& 0x000FF800 ∧ t.dgs.ctxs = s.dgs.ctxs ∧ t.core = s.core)) ∧
    (s.domOn .sys = true → s.domOn .store = true → s.bit Reg.DGS_DMACTL 1 = true →
      let pos := s.f Reg.DGS_DMASTAT 0 11
      let a := s.dgs.listBase + 8 * pos
      let x := s.dgsRead a
      let y := x.s.dgsRead (a + 4)
      ∀ h w : Nat, x.val = some h → y.val = some w → h < 2 ^ 32 → w < 2 ^ 32 →
        let cls := h / 2 ^ 14 % 4
        let idx := h % 2 ^ 14
        let cnt := w % 2 ^ 16
        let good := idx < y.s.pool.cnt.getD cls 0 ∧ 1 ≤ cnt ∧ cnt ≤ poolSize cls
        let buf := y.s.hAddr (BitVec.ofNat 32 h)
        (¬good → ∃ t, exec .dgsListEntry s = .next t ∧ t.bit Reg.DGS_DMACTL 1 = false ∧ t.f Reg.DGS_DMASTAT 20 4 = 7 ∧
          t.bit Reg.DGS_IRQ 18 = true ∧
          (s.dgs.feed < s.dgs.ctxs.length → (s.ctx s.dgs.feed).state ≠ 0 →
            (t.ctx s.dgs.feed).state = 5 ∧ (t.ctx s.dgs.feed).err = 7)) ∧
        (good → w / 2 ^ 30 % 2 = 1 → w / 2 ^ 31 = 0 →
          let r := y.s.feedBuffer s.dgs.feed buf cnt
          r.ok = true → pos + 1 < s.dgs.listLen → Leaves .dgsListEntry s (r.s.setF Reg.DGS_DMASTAT 0 11 (pos + 1))))

/-! ## The field link -/

/-- R503 to R505: the bus goes to the engine that is to own it; a bus error adds to the counters of the owner, whose error
state follows; bus-off is entered, and left with the counters at 0 once it was asked for; a frame that an engine cannot take
is a protocol exception. -/
def Obligations.LinkBus : Prop :=
  ∀ (s : State) (tx : Bool) (e : CanError) (v : Word) (wr : Writer), s.awake →
    let due : Owner :=
      if s.lcs.nresetLow = true then .nobody
      else if s.domOn .link = true ∧ s.bit Reg.LNK_STAT 0 = true ∧ s.bit Reg.LNK_CTL 0 = true then .controller
      else if s.bit Reg.LKE_CFG 0 = true then .lke else .nobody
    let taken : State := { s.putBit Reg.LNK_STAT 3 (decide (due = .controller)) with
      lnk := { s.lnk with owner := due, hb := none, lkeTec := 0, lkeRec := 0, lkeOff := false, hbCycles := 0 } }
    let ctl := s.lnk.owner = .controller ∧ s.domOn .link = true
    let lke := s.lnk.owner = .lke
    let estate := s.f Reg.LNK_STAT 8 2
    let tec := s.f Reg.LNK_STAT 24 8
    let rec' := s.f Reg.LNK_STAT 16 8
    let l := s.lnk
    let spared := e = .stuffArb ∨ (e = .ack ∧ estate = 1)
    let lkeSpared := e = .stuffArb ∨ (e = .ack ∧ (127 < l.lkeTec ∨ 127 < l.lkeRec))
    let rxAdds := if e = .flag ∨ e = .dominant then 8 else 1
    (due = s.lnk.owner → Leaves .busOwnershipChange s s) ∧
    (due ≠ s.lnk.owner → Leaves .busOwnershipChange s taken) ∧
    (s.domOn .link = true → Leaves .canClockReady s (s.setBit Reg.LNK_STAT 0)) ∧
    (ctl → estate ≠ 2 →
      let tec' := if tx = true ∧ ¬spared then tec + 8 else tec
      let rx' := if tx then rec' else rec' + rxAdds
      ∃ t, exec (.canBusError tx e) s = .next t ∧ t.f Reg.LNK_STAT 24 8 = min 255 tec' ∧ t.f Reg.LNK_STAT 16 8 = min 255 rx' ∧
        t.f Reg.LNK_STAT 8 2 = (if 255 < tec' then 2 else if 127 < tec' ∨ 127 < rx' then 1 else 0) ∧
        t.bit Reg.LNK_IRQ 5 = (s.bit Reg.LNK_IRQ 5 || decide (t.f Reg.LNK_STAT 8 2 ≠ estate)) ∧
        (255 < tec' → t.bit Reg.LNK_IRQ 4 = true) ∧ t.core = s.core ∧ t.saddle = s.saddle) ∧
    (lke → l.lkeOff = false →
      let tec' := if tx = true ∧ ¬lkeSpared then l.lkeTec + 8 else l.lkeTec
      let rx' := if tx then l.lkeRec else l.lkeRec + rxAdds
      Leaves (.canBusError tx e) s
        { s with lnk := { l with lkeTec := min 255 tec', lkeRec := min 255 rx', lkeOff := decide (255 < tec') } }) ∧
    (ctl → estate ≠ 2 →
      Leaves .busOff s
        { ((s.setF Reg.LNK_STAT 8 2 2).orReg Reg.LNK_IRQ 0x20).orReg Reg.LNK_IRQ 0x10 with lnk := { l with recover := false } }) ∧
    (lke → Leaves .busOff s { s with lnk := { l with lkeOff := true } }) ∧
    (s.domOn .link = true →
      let u := s.wr Reg.LNK_CTL (s.written Reg.LNK_CTL v)
      Leaves (.lnkRecover v wr) s
        (if v.getLsbD 8 = true ∧ estate = 2 then { u with lnk := { l with recover := true } } else u)) ∧
    (ctl → estate = 2 → s.bit Reg.LNK_CTL 1 = true ∨ l.recover = true →
      ∃ t, exec .busoffRecovery s = .next t ∧ t.f Reg.LNK_STAT 24 8 = 0 ∧ t.f Reg.LNK_STAT 16 8 = 0 ∧ t.f Reg.LNK_STAT 8 2 = 0 ∧
        t.bit Reg.LNK_IRQ 5 = true ∧ t.lnk = { l with recover := false } ∧ t.core = s.core) ∧
    (ctl → estate = 2 → s.bit Reg.LNK_CTL 1 = false → l.recover = false → Leaves .busoffRecovery s s) ∧
    (lke → l.lkeOff = false → Leaves .canProtocolException s (s.incSat Reg.LKE_STAT 0 8)) ∧
    (ctl → estate ≠ 2 →
      Leaves .canProtocolException s (if s.bit Reg.LNK_CFG 0 then s else s.orReg Reg.LNK_IRQ 0x80))

/-- R504, R506 to R509, R511, R514, R526, R529: a frame that a filter accepts is written to the ring at WR, or counted as
dropped when the ring has no entry for it; the LKE decides the entry at RD: it answers a READ of a Saddle-served object with
its value, and stores the value of a WRITE, passes an entry to the CAN DMA or lets it go, and while the LKE engine owns the bus it answers
SLEEPING, or holds the entry and asks for a wake; the CAN DMA claims a transaction for a request, moves an entry into a buffer
and queues its handle; a read of LNK_RXQ takes the oldest handle. -/
def Obligations.LinkReceive : Prop :=
  ∀ (s : State) (f : CanFrame) (e : Entry) (wr : Writer), s.awake →
    let ctl := s.lnk.owner = .controller ∧ s.domOn .link = true ∧ s.f Reg.LNK_STAT 8 2 ≠ 2
    let lke := s.lnk.owner = .lke ∧ s.lnk.lkeOff = false
    let ignored := f.fd = true ∧ (s.lnk.owner = .lke ∨ s.bit Reg.LNK_CFG 0 = false)
    let count := s.f Reg.LKE_RIDX 16 6
    let w := s.f Reg.LKE_RIDX 8 5
    let base := s.f Reg.LKE_RING 3 11 * 8
    let kind := f.id / 2 ^ 26 % 2 ^ 3
    let reserved := if kind = 1 ∨ kind = 3 ∨ kind = 4 then s.f Reg.LKE_RING 16 4 else 0
    let filtered := ∃ k, k < 32 ∧ s.bit (Reg.LKE_FLT_ID k) 31 = true ∧
      BitVec.ofNat 32 f.id &&& (s.rd (Reg.LKE_FLT_MASK k) &&& 0x1FFFFFFF) =
        s.rd (Reg.LKE_FLT_ID k) &&& (s.rd (Reg.LKE_FLT_MASK k) &&& 0x1FFFFFFF)
    let taken := (ctl ∨ lke) ∧ ¬ignored ∧ f.ext = true ∧ f.remote = false ∧ filtered
    (lke → ignored → Leaves (.canFrameReceived f) s (s.incSat Reg.LKE_STAT 0 8)) ∧
    (taken → reserved < 32 - count → base + 32 * 72 ≤ 0x4000 → f.data.length ≤ 64 →
      ∃ t, exec (.canFrameReceived f) s = .next t ∧ t.f Reg.LKE_RIDX 16 6 = count + 1 ∧ t.f Reg.LKE_RIDX 8 5 = (w + 1) % 32 ∧
        (∀ i, i < 4 → t.saddle.get? (base + 72 * w + i) = some (byteOf (BitVec.ofNat 32
          (bit01 f.esi * 2 ^ 31 + bit01 f.brs * 2 ^ 30 + bit01 f.fd * 2 ^ 29 + f.id % 2 ^ 29)) i)) ∧
        t.saddle.get? (base + 72 * w + 4) = some (BitVec.ofNat 8 (f.dlc % 16)) ∧
        t.saddle.get? (base + 72 * w + 5) = some (BitVec.ofNat 8 f.data.length) ∧
        (∀ i, i < 2 → t.saddle.get? (base + 72 * w + 6 + i) = some (BitVec.ofNat 8 (s.tmb.ticks / 2 ^ (8 * i)))) ∧
        (∀ i, i < f.data.length → t.saddle.get? (base + 72 * w + 8 + i) = some (f.data.getD i 0)) ∧
        (∀ a, a < base + 72 * w ∨ base + 72 * w + 72 ≤ a → t.saddle.get? a = s.saddle.get? a) ∧ t.core = s.core) ∧
    (taken → ¬reserved < 32 - count →
      ∃ t, exec (.canFrameReceived f) s = .next t ∧ t.f Reg.LKE_RIDX 16 6 = count ∧ t.f Reg.LKE_RIDX 8 5 = w ∧
        t.f Reg.LKE_STAT 16 16 = min (2 ^ 16 - 1) (s.f Reg.LKE_STAT 16 16 + 1) ∧ t.bit Reg.LKE_IRQ 1 = true ∧
        t.core.g = s.core.g ∧ t.core.pc = s.core.pc) ∧
    (count = 0 → Leaves .ringExamine s s) ∧
    (let x := s.entry
     let k := e.id / 2 ^ 26 % 2 ^ 3
     let past := (x.s.setF Reg.LKE_RIDX 0 5 (x.s.f Reg.LKE_RIDX 0 5 + 1)).setF Reg.LKE_RIDX 16 6 (x.s.f Reg.LKE_RIDX 16 6 - 1)
     let answered (d : List Byte) : CanFrame :=
       ⟨2 * 2 ^ 26 + e.id / 2 ^ 16 % 2 ^ 10 * 2 ^ 16 + s.f Reg.LKE_CFG 25 7 * 2 ^ 9 + e.id % 2 ^ 9, true, false, e.fd, e.brs, false, dlcOf d.length, d⟩
     let gone := { past with lnk := { past.lnk with rd := .unseen } }
     count ≠ 0 → s.lnk.rd = .unseen → x.e = some e →
      (ctl → k ≠ 1 → Leaves .ringExamine s { x.s with lnk := { x.s.lnk with rd := .pass } }) ∧
      (lke → k ≠ 1 → k ≠ 5 → Leaves .ringExamine s gone) ∧
      (k = 1 → e.id / 2 ^ 9 % 2 ^ 7 = 0 → Leaves .ringExamine s gone) ∧
      (∀ (y : State) (o : Object), k = 1 → e.id / 2 ^ 9 % 2 ^ 7 = s.f Reg.LKE_CFG 25 7 → e.id / 2 ^ 9 % 2 ^ 7 ≠ 0 →
        s.lnk.resp = none → ¬(0x8000 ≤ e.index ∧ e.index < 0x9000) → x.s.object e = ⟨y, some o⟩ → e.opcode = 1 → 4 ≤ e.len →
        o.served = true → o.allows e = true → o.isReg = false → o.type ≠ 10 → e.fd = true ∨ o.size ≤ 4 →
        (lke ∧ o.size ≤ 4 ∧ s.lnk.rate = 0) ∨ (ctl ∧ s.bit Reg.LKE_CFG 1 = true) →
        let r := y.lkeRead o.vloc o.size y.lnk.objAid
        r.ok = true →
          ∃ t, exec .ringExamine s = .next t ∧ t.core.g = s.core.g ∧ t.core.pc = s.core.pc ∧ t.lnk.rd = .unseen ∧
            t.f Reg.LKE_RIDX 16 6 = count - 1 ∧
            t.lnk.resp = some (answered (bytesLE 1 0 ++ bytesLE 2 e.index ++ bytesLE 1 e.sub ++ bytesLE o.size r.val))) ∧
      (∀ (y : State) (o : Object), k = 1 → e.id / 2 ^ 9 % 2 ^ 7 = s.f Reg.LKE_CFG 25 7 → e.id / 2 ^ 9 % 2 ^ 7 ≠ 0 →
        s.lnk.resp = none → ¬(0x8000 ≤ e.index ∧ e.index < 0x9000) → x.s.object e = ⟨y, some o⟩ → e.opcode = 2 → 4 ≤ e.len →
        o.served = true → o.allows e = true → e.fd = true ∨ o.size ≤ 4 →
        (lke ∧ o.size ≤ 4 ∧ s.lnk.rate = 0) ∨ (ctl ∧ s.bit Reg.LKE_CFG 1 = true) →
        let d := y.saddleRead (y.rdAddr + 12) o.size 0x7FF
        d.ue = none → ¬(o.type = 0 ∧ 1 < d.val) →
          ∃ t, exec .ringExamine s = .next t ∧ t.core.g = s.core.g ∧ t.core.pc = s.core.pc ∧ t.lnk.rd = .unseen ∧
            t.f Reg.LKE_RIDX 16 6 = count - 1 ∧ t.bit Reg.LKE_IRQ 4 = true ∧
            t.rd Reg.LKE_LASTW = BitVec.ofNat 32 (e.index * 2 ^ 8 + e.sub) ∧
            t.saddle = (d.s.lkeWrite o.vloc d.s.lnk.objAid (bytesLE o.size d.val)).saddle ∧
            t.lnk.resp = some (answered (bytesLE 1 0 ++ bytesLE 2 e.index ++ bytesLE 1 e.sub))) ∧
      (∀ (y : State), k = 1 → e.id / 2 ^ 9 % 2 ^ 7 = s.f Reg.LKE_CFG 25 7 → e.id / 2 ^ 9 % 2 ^ 7 ≠ 0 → s.lnk.resp = none →
        ¬(0x8000 ≤ e.index ∧ e.index < 0x9000) → 4 ≤ e.len → e.opcode ≠ 5 → e.opcode ≠ 6 → x.s.object e = ⟨y, none⟩ →
        (ctl → Leaves .ringExamine s { y with lnk := { y.lnk with rd := .pass } }) ∧
        (lke → y.bit Reg.LKE_CFG 2 = true → y.bit Reg.SDL_WAKEEN 3 = true →
          Leaves .ringExamine s (State.wakeEvent { y with lnk := { y.lnk with rd := .wake } } .lke)) ∧
        (lke → y.bit Reg.LKE_CFG 2 = false → s.lnk.rate = 0 →
          ∃ t, exec .ringExamine s = .next t ∧ t.core.g = s.core.g ∧ t.core.pc = s.core.pc ∧
            t.f Reg.LKE_RIDX 16 6 = count - 1 ∧
            t.lnk.resp = some (answered (bytesLE 1 2 ++ bytesLE 2 e.index ++ bytesLE 1 e.sub ++
              bytesLE 2 (s.f Reg.LKE_RETRY 0 16))))) ∧
      (ctl → s.lnk.rd = .unseen → Leaves .canDmaMove s s)) ∧
    (let x := s.entry
     let c := if e.len ≤ 56 then 0 else 1
     let request := e.id / 2 ^ 26 % 2 ^ 3 = 1
     let known := ∃ t ∈ s.lnk.txns, t.tenant = e.id / 2 ^ 16 % 2 ^ 10 ∧ t.tag = e.id % 2 ^ 9 ∧ t.marked = false
     let claim : Txn := ⟨e.id / 2 ^ 16 % 2 ^ 10, e.id % 2 ^ 9, e.index, e.sub, false, e.fd, e.brs⟩
     let u : State := if request ∧ ¬known then { x.s with lnk := { x.s.lnk with txns := x.s.lnk.txns ++ [claim] } } else x.s
     let y := u.canAlloc c
     s.lnk.rd = .pass → count ≠ 0 → s.domOn .link = true → s.bit Reg.LNK_RXCFG 0 = true → s.domOn .sys = true →
      s.domOn .store = true → s.lnk.rxq.length < 32 → x.e = some e →
      (request → ¬known → 64 ≤ s.lnk.txns.length →
        ∃ t, exec .canDmaMove s = .next t ∧ t.lnk.txns = s.lnk.txns ∧ t.lnk.rxq = s.lnk.rxq ∧ t.bit Reg.LNK_IRQ 6 = true ∧
          t.f Reg.LNK_TXN 0 16 = min (2 ^ 16 - 1) (s.f Reg.LNK_TXN 0 16 + 1) ∧ t.f Reg.LKE_RIDX 16 6 = count - 1 ∧
          t.core.pc = s.core.pc) ∧
      ((request → known ∨ s.lnk.txns.length < 64) →
        (∀ h b, y.ans = some (0, h) → y.s.canBeats ((15 + e.len) / 8) x.s.rdAddr (y.s.hAddr h) = some b →
          b.ok = true → ¬(request ∧ e.opcode = 6) →
            ∃ t, exec .canDmaMove s = .next t ∧ t.lnk.rxq = s.lnk.rxq ++ [h] ∧ t.store = b.s.store ∧
              t.lnk.txns = u.lnk.txns ∧ t.f Reg.LKE_RIDX 16 6 = count - 1 ∧ t.lnk.rd = .unseen) ∧
        (∀ code h, y.ans = some (code, h) → code ≠ 0 →
          ∃ t, exec .canDmaMove s = .next t ∧ t.lnk.rxq = s.lnk.rxq ∧ t.store = y.s.store ∧ t.bit Reg.LNK_IRQ 6 = true ∧
            t.lnk.txns = s.lnk.txns ∧
            t.f Reg.LKE_RIDX 16 6 = count - 1 ∧ t.lnk.rd = .unseen))) ∧
    (s.domOn .link = true →
      Leaves (.lnkRxqRead wr) s { s with lnk := { s.lnk with rxq := s.lnk.rxq.drop 1 } })

/-- R501, R512 to R515, R522, R529: a posted image is queued with its AID and identifier, or refused; the frame with the lowest
identifier is sent from the queue, whose handle is finished, or from a slot, as the format has it on the bus, with an abort
response for a marked transaction; the LKE sends the heartbeat that is due, then its response, and its rate limit starts. -/
def Obligations.LinkSend : Prop :=
  ∀ (s : State) (h : Word) (wr : Writer), s.awake →
    let live := s.lnk.owner = .controller ∧ s.domOn .link = true ∧ s.f Reg.LNK_STAT 8 2 ≠ 2
    let tec := s.f Reg.LNK_STAT 24 8
    let lke := s.lnk.owner = .lke ∧ s.lnk.lkeOff = false
    let limit := (s.f Reg.LKE_CFG 4 8 * s.tickRate + 999) / 1000
    let a := s.hAddr h
    (s.domOn .link = true → 16 ≤ s.lnk.txq.length → Leaves (.lnkTxpost h wr) s (s.setBit Reg.LNK_TXSTAT 0)) ∧
    (∀ w w2 : Nat, s.domOn .link = true → s.lnk.txq.length < 16 →
      let x := s.imagePair a wr.aid
      let y := x.s.imagePair (a + 8) wr.aid
      x.data = .ok w →
      let id := w % 2 ^ 29
      let kind := id / 2 ^ 26
      let fd := w / 2 ^ 29 % 2 = 1
      let len := w / 2 ^ 40 % 2 ^ 7
      let refused := (¬fd ∧ 8 < len) ∨ (fd ∧ s.bit Reg.LNK_CFG 0 = false) ∨ kind = 0
      let queued (u : State) : State := { u with lnk := { u.lnk with txq := u.lnk.txq ++ [⟨h, wr.aid, id⟩] } }
      (refused → Leaves (.lnkTxpost h wr) s (x.s.setBit Reg.LNK_TXSTAT 0)) ∧
      (¬refused → kind ≠ 2 ∨ len = 0 → Leaves (.lnkTxpost h wr) s (queued x.s)) ∧
      (¬refused → kind = 2 → len ≠ 0 → y.data = .ok w2 → 3 ≤ w2 % 2 ^ 8 → Leaves (.lnkTxpost h wr) s (queued y.s)) ∧
      (¬refused → kind = 2 → len ≠ 0 → y.data = .ok w2 → w2 % 2 ^ 8 < 3 →
        (∀ t ∈ s.lnk.txns, t.tenant = id / 2 ^ 16 % 2 ^ 10 → t.tag = id % 2 ^ 9 → t.marked = true) →
        ∃ t, exec (.lnkTxpost h wr) s = .next t ∧ t.bit Reg.LNK_TXSTAT 1 = true ∧ t.lnk.txq = s.lnk.txq)) ∧
    (∀ p before after, live → s.bit Reg.LNK_CTL 4 = false → s.domOn .sys = true → s.domOn .store = true →
      s.lnk.txq = before ++ p :: after → (∀ q ∈ before, p.id < q.id) → (∀ q ∈ after, p.id ≤ q.id) → (∀ i ∈ s.slotIds, p.id ≤ i) →
      ∀ x, s.imageRead (s.hAddr p.handle) p.aid = some x → x.ok = true →
        ∃ t, exec .frameTransmitted s = .next t ∧ t.lnk.txq = before ++ after ∧ t.bit Reg.LNK_IRQ 2 = true ∧
          t.f Reg.LNK_STAT 24 8 = tec - 1 ∧
          (let w := numLE (x.data.take 8)
           let d := (x.data.drop 8).take (w / 2 ^ 40 % 2 ^ 7)
           w / 2 ^ 29 % 2 = 0 → w / 2 ^ 40 % 2 ^ 7 ≤ 8 →
             t.lnk.sent = some ⟨w % 2 ^ 29, true, false, false, false, false, d.length, d⟩)) ∧
    (∀ f, live → s.lnk.hb = some f → f.fd = false → (∀ i ∈ s.txIds, f.id ≤ i) →
      ∃ t, exec (.slotFrameSent .heartbeat) s = .next t ∧
        t.lnk = { s.lnk with hb := none, sent := some { f with brs := false, esi := false, dlc := f.data.length } } ∧
        t.f Reg.LNK_STAT 24 8 = tec - 1 ∧ t.core = s.core) ∧
    (∀ f, live → s.lnk.resp = some f → s.lnk.rd ≠ .respond → (∀ i ∈ s.txIds, f.id ≤ i) →
      ∃ t, exec (.slotFrameSent .response) s = .next t ∧ t.lnk = { s.lnk with resp := none, sent := some (s.onBus f) } ∧
        t.f Reg.LNK_STAT 24 8 = tec - 1 ∧ t.core = s.core) ∧
    (∀ m before after, live → s.lnk.txns = before ++ m :: after → (∀ q ∈ before, q.marked = false) → m.marked = true → m.fd = false →
      let id := 2 * 2 ^ 26 + m.tenant * 2 ^ 16 + s.f Reg.LKE_CFG 25 7 * 2 ^ 9 + m.tag % 2 ^ 9
      (∀ i ∈ s.txIds, id ≤ i) → m ∉ before →
        ∃ t, exec (.slotFrameSent .abort) s = .next t ∧ t.f Reg.LNK_STAT 24 8 = tec - 1 ∧ t.core = s.core ∧
          t.lnk = { s.lnk with txns := before ++ after, sent := some ⟨id, true, false, false, false, false, 8,
            bytesLE 1 1 ++ bytesLE 2 m.index ++ bytesLE 1 m.sub ++ bytesLE 4 0x06000001⟩ }) ∧
    (live → s.lnk.hb = none → Leaves (.slotFrameSent .heartbeat) s s) ∧
    (∀ f, s.lnk.resp = some f → s.lnk.rate ≠ 0 → Leaves .lkeResponseSend s s) ∧
    (∀ f, s.lnk.resp = some f → s.lnk.hb ≠ none → Leaves .lkeResponseSend s s) ∧
    (∀ f, lke → s.lnk.resp = some f → s.lnk.rate = 0 → s.lnk.hb = none → f.fd = false →
      ∃ t, exec .lkeResponseSend s = .next t ∧ t.lnk.resp = none ∧ t.lnk.sent = some f ∧ t.lnk.rate = limit ∧ t.lnk.lkeTec = min 255 (s.lnk.lkeTec - 1) ∧
        (f.data.headD 0 = 2 → t.bit Reg.LKE_IRQ 5 = true) ∧
        t.f Reg.LKE_RIDX 16 6 =
          (if s.lnk.rd = .respond then s.f Reg.LKE_RIDX 16 6 - 1 else s.f Reg.LKE_RIDX 16 6) ∧ t.core = s.core) ∧
    (∀ f, lke → s.lnk.lkeTec ≤ 255 → s.lnk.hb = some f →
      Leaves .lkeHeartbeat s { s with lnk := { s.lnk with
        hb := none, sent := some f, rate := limit, lkeTec := min 255 (s.lnk.lkeTec - 1), lkeRec := min 255 s.lnk.lkeRec } })

/-! ## The debug port -/

/-- R555 to R561, Tables 20.3 and 20.4: a packet is answered by the first row of Table 20.3 that applies: nothing on a lost
wire, FAULT for a protocol error, a pending error or a failed check, WAIT for an access outstanding, else OK with one access
started; a line reset ends a lost wire; an access of AP0, AP1 or AP3 fills the buffer of its port or records its error. -/
def Obligations.DebugPackets : Prop :=
  ∀ (s : State) (ap : Fin 4) (addr v : Word) (q : PacketCheck), s.hrv.pstate ≠ .off →
    let acked (u : State) (k : Nat) : State := { u with hdp := { u.hdp with ack := k } }
    let caused (u : State) (p c : Nat) : State :=
      if u.f Reg.HDP_STAT (16 + 4 * p) 4 = 0 then u.setF Reg.HDP_STAT (16 + 4 * p) 4 c else u
    let a := s.ap ap
    let lost : State := { s with hdp := { s.hdp with ack := 7, lost := true } }
    let answers (i : Instr) (u : State) : Prop := exec i s = .next u
    let all (q : PacketCheck) (u : State) : Prop :=
      answers (.hdpRd ap addr q) u ∧ answers (.hdpWr ap addr v q) u ∧ answers (.hdpRdbuf ap q) u
    (s.hdp.lost = true → all q (acked s 7)) ∧
    (s.hdp.lost = false →
      all .header lost ∧
      all .bad (acked (caused s ap.val 1) 4) ∧
      (a.pending = true → all .good (acked (s.setAp ap { a with pending := false }) 4)) ∧
      (a.pending = false → a.busy ≠ none → all .good (acked s 2)) ∧
      (a.pending = false → a.busy = none →
        answers (.hdpRdbuf ap .good) { s with hdp := { s.hdp with data := a.buf, ack := 1 } } ∧
        (∀ c, s.apCheck ap addr none = some c → answers (.hdpRd ap addr .good) (acked (caused s ap.val c) 4)) ∧
        (∀ c, s.apCheck ap addr (some v) = some c → answers (.hdpWr ap addr v .good) (acked (caused s ap.val c) 4)) ∧
        (s.apCheck ap addr none = none →
          answers (.hdpRd ap addr .good)
            (({ s with hdp := { s.hdp with data := a.buf, ack := 1 } } : State).setAp ap { a with busy := some (false, addr, 0) })) ∧
        (s.apCheck ap addr (some v) = none →
          answers (.hdpWr ap addr v .good) ((acked s 1).setAp ap { a with busy := some (true, addr, v) })))) ∧
    (s.awake →
      Leaves .hdpLineReset s { s with hdp := { s.hdp with lost := false } } ∧
      (s.debugOpen = true → s.core.halted = true → (s.ap 0).busy = some (false, BitVec.ofNat 32 Reg.DBG_PC, v) →
        Leaves (.hdpAccessDone 0) s (s.setAp 0 { s.ap 0 with busy := none, buf := s.core.pc })) ∧
      (s.core.halted = false → (s.ap 0).busy = some (false, BitVec.ofNat 32 Reg.DBG_PC, v) →
        Leaves (.hdpAccessDone 0) s (caused (s.setAp 0 { s.ap 0 with busy := none, pending := true }) 0 8)) ∧
      (∀ write, (s.ap 1).busy = some (write, addr, v) →
        let x := s.access (s.ap1Req write addr v) .ap1
        (∀ n, x.resp = .ok n → Leaves (.hdpAccessDone 1) s
          (x.s.setAp 1 { x.s.ap 1 with busy := none, buf := if write then (x.s.ap 1).buf else BitVec.ofNat 32 n })) ∧
        (x.resp = .denied → Leaves (.hdpAccessDone 1) s
          (caused (x.s.setAp 1 { x.s.ap 1 with busy := none, pending := true }) 1 6))) ∧
      ((s.ap 3).busy = some (false, 4, v) → s.rd Reg.HDP_IDR = 0x4C534810 →
        Leaves (.hdpAccessDone 3) s (s.setAp 3 { s.ap 3 with busy := none, buf := 0x4C534810 })))

/-- R563, R564, R567 to R570: a halt is asked for through AP0 alone, and the core halts for the first reason of R564; a step
runs one instruction and halts again; RESUME restarts the core and ends its halt condition; DBG_REGDATA and DBG_PC are written
while the core is halted, and a read of a DBG register changes nothing. -/
def Obligations.CoreControl : Prop :=
  ∀ (s : State) (v : Word) (wr : Writer) (write : Bool) (addr : Nat), s.awake →
    let c := s.core
    let through := wr.mid = 10 ∧ s.debugOpen = true
    let took := s.wr Reg.DBG_CTL (s.written Reg.DBG_CTL v)
    let boundary := s.domOn .core = true ∧ c.asleep = false ∧ c.halted = false ∧ c.stopped = false
    let haltsFor (code : Nat) : Prop := ∃ t, exec .coreHalt s = .next t ∧ t.core = { c with halted := true } ∧
      t.rd Reg.DBG_STAT = BitVec.ofNat 32 (0x100 + code) ∧ t.hdp.haltReq = false ∧ t.hdp.wpHit = none ∧ t.store = s.store
    (through → c.halted = false → v.getLsbD 16 = true →
      Leaves (.dbgHalt v wr) s { took with hdp := { s.hdp with haltReq := true } }) ∧
    (¬through → Leaves (.dbgHalt v wr) s s ∧ Leaves (.dbgStep v wr) s s ∧ Leaves (.dbgResume v wr) s s) ∧
    (boundary → s.hdp.haltReq = true → haltsFor (1 * 16)) ∧
    (∀ k, boundary → s.hdp.haltReq = false → s.hdp.wpHit = some k → haltsFor (4 * 16 + k)) ∧
    (∀ n, boundary → s.hdp.haltReq = false → s.hdp.wpHit = none → s.breakpoint = some n → haltsFor (3 * 16 + n)) ∧
    (s.hdp.haltReq = false → s.hdp.wpHit = none → s.breakpoint = none → Leaves .coreHalt s s) ∧
    (c.halted = true → Leaves .coreHalt s s) ∧
    (let u : State := { took with core := { c with halted := false }, hdp := { s.hdp with stepping := true } }
     through → c.halted = true → v.getLsbD 18 = true → u.coreRuns = true →
      u.interruptDue = none → u.tenantDue = none → u.boundary = none →
      ∀ w i, u.fetch.res = .word w → decodeWord w = some i →
        let x := coreBody i u.fetch.s
        x.core.halted = false → x.core.stalled = none → x.hdp.stepping = true → x.hdp.wpHit = none → x.pwr.boot = false →
          x.f Reg.LCS_BOOT 24 8 = 0 →
          ∃ t, exec (.dbgStep v wr) s = .next t ∧ t.core = { x.core with halted := true } ∧ t.rd Reg.DBG_STAT = 0x120 ∧
            t.hdp.stepping = false ∧ t.store = x.store) ∧
    (through → c.halted = true → v.getLsbD 17 = true → v.getLsbD 18 = false →
      ∃ t, exec (.dbgResume v wr) s = .next t ∧ t.core.halted = false ∧ t.core.pc = c.pc ∧ t.core.g = c.g ∧
        t.core.icache = (if v.getLsbD 1 then [] else c.icache) ∧ t.bit Reg.DBG_STAT 8 = false ∧ t.bit Reg.SAF_STAT 4 = false ∧
        t.bit Reg.SAF_STAT 0 = s.bit Reg.SAF_STAT 0 ∧ t.store = s.store) ∧
    Leaves (.dbgRegAccess false addr v wr) s s ∧
    (through → c.halted = true →
      Leaves (.dbgRegAccess true Reg.DBG_PC v wr) s { s with core := { c with pc := v &&& 0xFFFFFFFC } } ∧
      (∀ r : Fin 16, s.bit Reg.DBG_REGSEL 12 = false → s.f Reg.DBG_REGSEL 0 12 = r.val →
        Leaves (.dbgRegAccess true Reg.DBG_REGDATA v wr) s { s with core := { c with g := c.g.set r v } })) ∧
    (¬(through ∧ c.halted = true) →
      Leaves (.dbgRegAccess true Reg.DBG_PC v wr) s s ∧ Leaves (.dbgRegAccess true Reg.DBG_REGDATA v wr) s s)

/-- R559, R571 to R574: HDP_PWR is written where LOCK allows it; an unlock is asked for while LOCK reads LOCKED, and turned
away with cause BUSY otherwise; the write of HDP_RESP7 starts the check; a response that fits unlocks, any other counts as a
failure; RELOCK ends UNLOCKED, and CLR clears every cause. -/
def Obligations.DebugUnlock : Prop :=
  ∀ (s : State) (v : Word), s.awake →
    let keyed := v.toNat / 2 ^ 16 = 0xD6B6
    let took (a : Nat) : State := s.wr a (s.written a v)
    let busyCause : State := if s.f Reg.HDP_STAT 28 4 = 0 then s.setF Reg.HDP_STAT 28 4 9 else s
    let dropped := (s.clrBit Reg.LCS_STAT 3).clrBit Reg.HDP_STAT 3
    let idle := s.bit Reg.LCS_STAT 7 = false ∧ s.lcs.chalWrite = false ∧ s.lcs.checking = false ∧ s.lcs.journal = false
    let message := s.regBytes Reg.HDP_CHAL 4 ++ [0xD6, BitVec.ofNat 8 (s.f Reg.LCS_STATE 0 5)]
    let fits := ∃ k, s.usableKey 6 = some k ∧ hmacSha256 k message = s.regBytes Reg.HDP_RESP 8
    (s.lock = 0 ∨ s.lock = 2 ∨ s.lock = 1 ∧ v &&& 0xFFFFFFFE = 0 → Leaves (.hdpWake v) s (took Reg.HDP_PWR)) ∧
    (s.lock = 3 ∨ s.lock = 1 ∧ v &&& 0xFFFFFFFE ≠ 0 → Leaves (.hdpWake v) s s) ∧
    (keyed → v.getLsbD 0 = true → v.getLsbD 1 = false →
      (s.lock = 1 → idle → Leaves (.hdpUnlockRequest v) s
        { dropped with lcs := { s.lcs with chalWrite := true }, hdp := { s.hdp with unlocking := true } }) ∧
      (s.lock = 0 ∨ s.lock = 2 ∨ s.lock = 1 ∧ ¬idle → Leaves (.hdpUnlockRequest v) s busyCause)) ∧
    (s.lock ≠ 3 → s.bit Reg.HDP_STAT 3 = true →
      Leaves (.hdpResponseWrite v) s
        { ((s.wr (Reg.HDP_RESP 7) v).clrBit Reg.LCS_STAT 3).clrBit Reg.HDP_STAT 3 with lcs :=
          { s.lcs with checking := true, checkBlocks := 4 } }) ∧
    (s.lock ≠ 3 → s.bit Reg.HDP_STAT 3 = false → Leaves (.hdpResponseWrite v) s busyCause) ∧
    (s.lcs.checking = true → s.hdp.unlocking = true →
      ∃ t, exec .hdpUnlockCheckDone s = .next t ∧ t.lcs = { s.lcs with checking := false } ∧ t.core = s.core ∧ t.store = s.store ∧
        (fits → t.hdp = { s.hdp with unlocking := false, unlocked := true } ∧ t.bit Reg.HDP_STAT 1 = s.bit Reg.HDP_STAT 1) ∧
        (¬fits → t.hdp = { s.hdp with unlocking := false } ∧ t.bit Reg.HDP_STAT 1 = true ∧ t.bit Reg.LCS_STAT 7 = true)) ∧
    (s.lock ≠ 3 → keyed → v.getLsbD 1 = true → v.getLsbD 0 = false →
      Leaves (.hdpRelock v) s { s with hdp := { s.hdp with unlocked := false } }) ∧
    (s.lock ≠ 3 → ¬keyed → Leaves (.hdpRelock v) s s) ∧
    (v.getLsbD 8 = true → Leaves (.hdpCauseClr v) s ((took Reg.HDP_STAT).setF Reg.HDP_STAT 16 16 0))

/-! ## Settings that are refused -/

/-- R47, R112: a write to CLK_OP that asks for HFOMHZ above 32 with OPSEL = OP-L, or for HFOMHZ outside 4 to 96, is ignored
and sets CLK_STAT.REJ; a write that clears PWR_DOMCTL.MEAS while any SOUT output is on is ignored and sets PWR_EVT.REJ. -/
def Obligations.RefusedSettings : Prop :=
  ∀ (s : State) (v : Word) (wr : Writer), s.awake → s.domOn .sys = true →
    let mhz := v.toNat % 2 ^ 7
    ((v.getLsbD 8 = false ∧ 32 < mhz) ∨ mhz < 4 ∨ 96 < mhz →
      Leaves (.clkOpWrite v wr) s (s.setBit Reg.CLK_STAT 2) ∧
      Leaves (.registerWrite Reg.CLK_OP v wr) s (s.setBit Reg.CLK_STAT 2)) ∧
    (s.bit Reg.PWR_DOMCTL 1 = true → v.getLsbD 1 = false → s.outputsOn ≠ 0 →
      Leaves (.powerDownStart v wr) s (s.setBit Reg.PWR_EVT 0) ∧
      Leaves (.registerWrite Reg.PWR_DOMCTL v wr) s (s.setBit Reg.PWR_EVT 0))

/-! ## The block -/

/-- A step takes the command at the front of the queue and runs it with the queue's rest. -/
def Obligations.StepRunsTheFront : Prop :=
  ∀ (c : Instr) (rest : List Instr) (s : State), step { s with pending := c :: rest } = exec c { s with pending := rest }

/-- On an empty queue the block idles: nothing in OFF, the end of the sequence of Table 03.4 in SHUTDOWN, else one tick of the
tick clock, with which the boot ROM goes on and after which the levels are followed. The model's choice (log 8). -/
def Obligations.StepIdles : Prop :=
  ∀ (s : State), s.pending = [] →
    (s.hrv.pstate = .off → step s = .next s) ∧
    (s.hrv.pstate = .shutdown → ∃ t, step s = .next t ∧ t.hrv.pstate = .off ∧ t.pending = [] ∧ t.regs = [] ∧ t.pins = s.pins) ∧
    (s.powered = true → step s = .next s.tick.bootStep.settle) ∧
    (s.calm → step s = .next s.tick.settle)

/-- What the manual gives the machine at reset: PC at the boot ROM and STATUS (Tables 06.1 and 06.2), every register of the
map at the value of its entry (R10), the digest contexts (R482), the ports of the debug port (R555, R558), the Store and
Saddle RAM undefined (R300, R618), every tenant absent (R355), no output on. -/
def Obligations.ResetValues : Prop :=
  let s := State.reset
  s.core.pc = 0xF0000000 ∧ s.core.status = 0x80 ∧ s.core.astat = 0 ∧ s.core.tid = 0 ∧ s.core.vbase = 0 ∧ s.core.splim = 0 ∧
    s.core.tstatus = 0 ∧ s.core.resv = none ∧ s.core.buf = [] ∧
    s.rd Reg.CLK_OP = 0x10 ∧ s.rd Reg.CLK_STAT = 0x1002 ∧ s.rd Reg.SAF_FACT = 0xA9 ∧ s.rd Reg.TCH_BURST = 0x41001 ∧
    s.rd Reg.PNL_DRV = 0x3C00 ∧ (∀ k : Fin 32, s.rd (Reg.PNL_WEAR k.val) = 0x1000) ∧ s.rd Reg.HDP_IDR = 0x4C534810 ∧
    (∀ n : Fin 15, (s.ctx n.val).state = 0) ∧ (s.ctx 15).state = 1 ∧ (s.ctx 15).owner = 0x400 ∧
    (∀ p : Fin 4, (s.ap p).buf = 0 ∧ (s.ap p).pending = false ∧ (s.ap p).busy = none) ∧ s.hdp.lost = true ∧
    (∀ m ∈ s.store, ∀ a, m.get? a = none) ∧ (∀ a, s.saddle.get? a = none) ∧ (∀ t, s.tenState t = 0) ∧ s.outputsOn = 0 ∧
    s.pending = []

/-- SAF_OUT.ON shows the outputs that are on (R414) and level-sensitive pins hold their events (R267), at reset. -/
def Obligations.InvariantsAtReset : Prop :=
  State.reset.outputsShown ∧ State.reset.pinsHeld

/-- R414, R416, R419: from every state in which SAF_OUT.ON shows the outputs that are on, every step that answers a next state
leads to one. -/
def Obligations.OutputsAreShown : Prop :=
  ∀ (s t : State), s.outputsShown → step s = .next t → t.outputsShown

/-- R267 to R269: from every state in which the event of each level-sensitive pin at its active level is set, every step that
answers a next state leads to one. -/
def Obligations.PinLevelsHold : Prop :=
  ∀ (s t : State), s.pinsHeld → step s = .next t → t.pinsHeld

/-- R191, R193, R194: a word decodes to an instruction exactly where the instruction is well formed and the word is the one
its encoding gives; every other word is illegal. -/
def Obligations.DecodeInvertsEncode : Prop :=
  ∀ (w : Word) (i : Instr), decodeWord w = some i ↔ i.wf = true ∧ encode i = some w
end

