-- ==== Sys2Proof/Laws/Assoc.lean ====
section
/-!
SUPPORT. Laws of the association lists that hold registers, memory cells and sparse tables: what is read after an update, and
that the canonical form is kept.
-/
namespace Sys2Proof.Machine

/-! ## Reading after an update -/

@[simp] theorem alGet_nil {α : Type} (k : Nat) : alGet ([] : List (Nat × α)) k = none := rfl

theorem alGet_alDel_self {α : Type} (l : List (Nat × α)) (k : Nat) : alGet (alDel l k) k = none := by
  induction l with
  | nil => rfl
  | cons p t ih =>
    by_cases h : p.1 = k
    · simp [alDel, h] at ih ⊢; exact ih
    · simp [alDel, h, alGet] at ih ⊢; exact ih

theorem alGet_alDel_ne {α : Type} (l : List (Nat × α)) {k j : Nat} (hj : j ≠ k) : alGet (alDel l k) j = alGet l j := by
  induction l with
  | nil => rfl
  | cons p t ih =>
    by_cases h : p.1 = k
    · have : p.1 ≠ j := fun e => hj (e.symm.trans h)
      simp [alDel, h, alGet] at ih ⊢
      rw [ih]; simp [show k ≠ j from fun e => hj e.symm]
    · simp only [alDel, ne_eq, h, not_false_eq_true, decide_true, List.filter_cons_of_pos, alGet] at ih ⊢
      rw [ih]

theorem alGet_alInsert_self {α : Type} (l : List (Nat × α)) (k : Nat) (v : α) (h : alGet l k = none) :
    alGet (alInsert l k v) k = some v := by
  induction l with
  | nil => simp [alInsert, alGet]
  | cons p t ih =>
    obtain ⟨k', v'⟩ := p
    simp only [alGet] at h
    split at h
    · cases h
    · rename_i hne
      simp only [alInsert]
      split
      · simp [alGet]
      · simp [alGet, hne, ih h]

theorem alGet_alInsert_ne {α : Type} (l : List (Nat × α)) {k j : Nat} (v : α) (hj : j ≠ k) :
    alGet (alInsert l k v) j = alGet l j := by
  induction l with
  | nil => simp [alInsert, alGet, hj.symm]
  | cons p t ih =>
    obtain ⟨k', v'⟩ := p
    simp only [alInsert]
    split
    · simp [alGet, hj.symm]
    · simp [alGet, ih]

/-- The key that was set holds the value; a value equal to the default is not listed. -/
theorem alGet_alSet_self {α : Type} [DecidableEq α] (d : α) (l : List (Nat × α)) (k : Nat) (v : α) :
    (alGet (alSet d l k v) k).getD d = v := by
  unfold alSet
  split
  · rename_i h; simp [alGet_alDel_self, h]
  · simp [alGet_alInsert_self _ _ _ (alGet_alDel_self l k)]

/-- Every other key keeps its value. -/
theorem alGet_alSet_ne {α : Type} [DecidableEq α] (d : α) (l : List (Nat × α)) {k j : Nat} (v : α) (hj : j ≠ k) :
    alGet (alSet d l k v) j = alGet l j := by
  unfold alSet
  split
  · exact alGet_alDel_ne l hj
  · rw [alGet_alInsert_ne _ _ hj, alGet_alDel_ne l hj]

/-! ## The canonical form -/

/-- Keys strictly rise. -/
abbrev alSorted {α : Type} (l : List (Nat × α)) : Prop := l.Pairwise fun p q => p.1 < q.1

theorem mem_alInsert {α : Type} {l : List (Nat × α)} {k : Nat} {v : α} {p : Nat × α} (h : p ∈ alInsert l k v) :
    p = (k, v) ∨ p ∈ l := by
  induction l with
  | nil => simpa [alInsert] using h
  | cons q t ih =>
    obtain ⟨k', v'⟩ := q
    simp only [alInsert] at h
    split at h
    · simpa using h
    · simp only [List.mem_cons] at h ⊢
      rcases h with h | h
      · exact .inr (.inl h)
      · rcases ih h with h | h
        · exact .inl h
        · exact .inr (.inr h)

theorem mem_alDel {α : Type} {l : List (Nat × α)} {k : Nat} {p : Nat × α} (h : p ∈ alDel l k) : p ∈ l ∧ p.1 ≠ k := by
  simpa [alDel] using h

theorem alSorted_alDel {α : Type} {l : List (Nat × α)} (k : Nat) (h : alSorted l) : alSorted (alDel l k) := h.filter _

theorem alSorted_alInsert {α : Type} {l : List (Nat × α)} {k : Nat} (v : α) (h : alSorted l) (hk : ∀ p ∈ l, p.1 ≠ k) :
    alSorted (alInsert l k v) := by
  induction l with
  | nil => simp [alInsert, alSorted]
  | cons q t ih =>
    obtain ⟨k', v'⟩ := q
    have ht : alSorted t := (List.pairwise_cons.1 h).2
    have hlt : ∀ p ∈ t, k' < p.1 := (List.pairwise_cons.1 h).1
    have hne : k' ≠ k := hk (k', v') (by simp)
    simp only [alInsert]
    split
    · rename_i hlt'
      refine List.pairwise_cons.2 ⟨?_, h⟩
      intro p hp
      rcases List.mem_cons.1 hp with rfl | hp
      · exact hlt'
      · exact Nat.lt_trans hlt' (hlt p hp)
    · rename_i hge
      refine List.pairwise_cons.2 ⟨?_, ih ht fun p hp => hk p (by simp [hp])⟩
      intro p hp
      rcases mem_alInsert hp with rfl | hp
      · simp only; omega
      · exact hlt p hp

theorem alSorted_alSet {α : Type} [DecidableEq α] {l : List (Nat × α)} (d : α) (k : Nat) (v : α) (h : alSorted l) :
    alSorted (alSet d l k v) := by
  unfold alSet
  split
  · exact alSorted_alDel k h
  · exact alSorted_alInsert v (alSorted_alDel k h) fun p hp => (mem_alDel hp).2

theorem mem_alSet {α : Type} [DecidableEq α] {l : List (Nat × α)} {d : α} {k : Nat} {v : α} {p : Nat × α}
    (h : p ∈ alSet d l k v) : (p = (k, v) ∧ v ≠ d) ∨ p ∈ l := by
  unfold alSet at h
  split at h
  · exact .inr (mem_alDel h).1
  · rename_i hv
    rcases mem_alInsert h with h | h
    · exact .inl ⟨h, hv⟩
    · exact .inr (mem_alDel h).1

end Sys2Proof.Machine
end

