-- ==== Sys2Proof/Laws/Bits.lean ====
section
/-!
SUPPORT. Laws of the bit fields: what a field or a bit reads as after a field or a bit is set.
-/
namespace Sys2Proof.Machine

theorem fld_lt (w : Word) (lo n : Nat) : fld w lo n < 2 ^ n := Nat.mod_lt _ (Nat.two_pow_pos n)

/-- Bit `i` of a field. -/
theorem testBit_fld (w : Word) (lo n i : Nat) : (fld w lo n).testBit i = (decide (i < n) && wbit w (lo + i)) := by
  simp [fld, wbit, Nat.testBit_mod_two_pow, Nat.testBit_shiftRight, BitVec.getLsbD]

/-- A bit of a word after a field was set. -/
theorem wbit_setFld (w : Word) (lo n v i : Nat) (hi : i < 32) :
    wbit (setFld w lo n v) i = if lo ≤ i ∧ i < lo + n then v.testBit (i - lo) else wbit w i := by
  simp only [wbit, setFld, fmask, BitVec.getLsbD_or, BitVec.getLsbD_and, BitVec.getLsbD_not, BitVec.getLsbD_ofNat, hi,
    decide_true, Bool.true_and, Nat.testBit_shiftLeft, Nat.testBit_two_pow_sub_one, Nat.testBit_mod_two_pow]
  by_cases h1 : lo ≤ i
  · by_cases h2 : i < lo + n
    · have : i - lo < n := by omega
      simp [h1, h2, this]
    · have : ¬ i - lo < n := by omega
      simp [h1, h2, this]
  · simp [h1]

/-- The bit that was set. -/
theorem wbit_wputBit_self (w : Word) (i : Nat) (b : Bool) (hi : i < 32) : wbit (wputBit w i b) i = b := by
  rw [wputBit, wbit_setFld _ _ _ _ _ hi]
  cases b <;> simp

/-- Another bit. -/
theorem wbit_wputBit_ne (w : Word) (i j : Nat) (b : Bool) (h : j ≠ i) : wbit (wputBit w i b) j = wbit w j := by
  by_cases hj : j < 32
  · rw [wputBit, wbit_setFld _ _ _ _ _ hj, if_neg (by omega)]
  · have h1 : ∀ x : Word, wbit x j = false := fun x => by simp [wbit, BitVec.getLsbD_of_ge _ _ (by omega : 32 ≤ j)]
    rw [h1, h1]

/-- Setting a bit to what it is changes nothing. -/
theorem wputBit_wbit (w : Word) (i : Nat) : wputBit w i (wbit w i) = w := by
  apply BitVec.eq_of_getLsbD_eq
  intro j hj
  have := wbit_setFld w i 1 (wbit w i).toNat j hj
  rw [show (wputBit w i (wbit w i)).getLsbD j = wbit (setFld w i 1 (wbit w i).toNat) j from rfl, this]
  split
  · have : j = i := by omega
    subst this
    cases hb : wbit w j <;> simp [wbit] at hb ⊢ <;> simp [hb]
  · rfl

/-- The field that was set. -/
theorem fld_setFld_self (w : Word) (lo n v : Nat) (h : lo + n ≤ 32) : fld (setFld w lo n v) lo n = v % 2 ^ n := by
  apply Nat.eq_of_testBit_eq
  intro i
  rw [testBit_fld, Nat.testBit_mod_two_pow]
  by_cases hi : i < n
  · rw [wbit_setFld _ _ _ _ _ (by omega), if_pos (by omega)]
    simp [hi]
  · simp [hi]

/-- A field beside the one that was set. -/
theorem fld_setFld_ne (w : Word) (lo n v lo' n' : Nat) (h : lo' + n' ≤ lo ∨ lo + n ≤ lo') :
    fld (setFld w lo n v) lo' n' = fld w lo' n' := by
  apply Nat.eq_of_testBit_eq
  intro i
  rw [testBit_fld, testBit_fld]
  by_cases hi : i < n'
  · by_cases h32 : lo' + i < 32
    · rw [wbit_setFld _ _ _ _ _ h32, if_neg (by omega)]
    · have h1 : ∀ x : Word, wbit x (lo' + i) = false := fun x => by
        simp [wbit, BitVec.getLsbD_of_ge _ _ (by omega : 32 ≤ lo' + i)]
      rw [h1, h1]
  · simp [hi]

/-- A bit beside the field that was set. -/
theorem wbit_setFld_ne (w : Word) (lo n v i : Nat) (h : i < lo ∨ lo + n ≤ i) : wbit (setFld w lo n v) i = wbit w i := by
  by_cases hi : i < 32
  · rw [wbit_setFld _ _ _ _ _ hi, if_neg (by omega)]
  · have h1 : ∀ x : Word, wbit x i = false := fun x => by simp [wbit, BitVec.getLsbD_of_ge _ _ (by omega : 32 ≤ i)]
    rw [h1, h1]

/-- A field beside the bit that was set. -/
theorem fld_wputBit_ne (w : Word) (i lo n : Nat) (b : Bool) (h : lo + n ≤ i ∨ i + 1 ≤ lo) :
    fld (wputBit w i b) lo n = fld w lo n := fld_setFld_ne w i 1 b.toNat lo n h

/-- A bit of an or. -/
@[simp] theorem wbit_or (x y : Word) (i : Nat) : wbit (x ||| y) i = (wbit x i || wbit y i) := by simp [wbit]

/-- A bit of an and. -/
@[simp] theorem wbit_and (x y : Word) (i : Nat) : wbit (x &&& y) i = (wbit x i && wbit y i) := by simp [wbit]

end Sys2Proof.Machine
end

