-- ==== Sys2Proof/Laws/State.lean ====
section
/-!
SUPPORT. One lemma per field of the state and per update of it: what an update leaves alone. Then the register file: what is read
after a write, and its canonical form.
-/
namespace Sys2Proof.Machine

/-! ## Register updates leave every other field -/

@[simp] theorem State.wr_pending (s : State) (a : Nat) (v : Word) : (s.wr a v).pending = s.pending := rfl
@[simp] theorem State.wr_freeCtr (s : State) (a : Nat) (v : Word) : (s.wr a v).freeCtr = s.freeCtr := rfl
@[simp] theorem State.wr_core (s : State) (a : Nat) (v : Word) : (s.wr a v).core = s.core := rfl
@[simp] theorem State.wr_tmb (s : State) (a : Nat) (v : Word) : (s.wr a v).tmb = s.tmb := rfl
@[simp] theorem State.wr_hrv (s : State) (a : Nat) (v : Word) : (s.wr a v).hrv = s.hrv := rfl
@[simp] theorem State.wr_pwr (s : State) (a : Nat) (v : Word) : (s.wr a v).pwr = s.pwr := rfl
@[simp] theorem State.wr_lcs (s : State) (a : Nat) (v : Word) : (s.wr a v).lcs = s.lcs := rfl
@[simp] theorem State.wr_bus (s : State) (a : Nat) (v : Word) : (s.wr a v).bus = s.bus := rfl
@[simp] theorem State.wr_dma (s : State) (a : Nat) (v : Word) : (s.wr a v).dma = s.dma := rfl
@[simp] theorem State.wr_pins (s : State) (a : Nat) (v : Word) : (s.wr a v).pins = s.pins := rfl
@[simp] theorem State.wr_gtc (s : State) (a : Nat) (v : Word) : (s.wr a v).gtc = s.gtc := rfl
@[simp] theorem State.wr_stc (s : State) (a : Nat) (v : Word) : (s.wr a v).stc = s.stc := rfl
@[simp] theorem State.wr_pool (s : State) (a : Nat) (v : Word) : (s.wr a v).pool = s.pool := rfl
@[simp] theorem State.wr_ten (s : State) (a : Nat) (v : Word) : (s.wr a v).ten = s.ten := rfl
@[simp] theorem State.wr_msr (s : State) (a : Nat) (v : Word) : (s.wr a v).msr = s.msr := rfl
@[simp] theorem State.wr_saf (s : State) (a : Nat) (v : Word) : (s.wr a v).saf = s.saf := rfl
@[simp] theorem State.wr_tch (s : State) (a : Nat) (v : Word) : (s.wr a v).tch = s.tch := rfl
@[simp] theorem State.wr_pnl (s : State) (a : Nat) (v : Word) : (s.wr a v).pnl = s.pnl := rfl
@[simp] theorem State.wr_dgs (s : State) (a : Nat) (v : Word) : (s.wr a v).dgs = s.dgs := rfl
@[simp] theorem State.wr_lnk (s : State) (a : Nat) (v : Word) : (s.wr a v).lnk = s.lnk := rfl
@[simp] theorem State.wr_hdp (s : State) (a : Nat) (v : Word) : (s.wr a v).hdp = s.hdp := rfl
@[simp] theorem State.wr_store (s : State) (a : Nat) (v : Word) : (s.wr a v).store = s.store := rfl
@[simp] theorem State.wr_saddle (s : State) (a : Nat) (v : Word) : (s.wr a v).saddle = s.saddle := rfl
@[simp] theorem State.wr_nvm (s : State) (a : Nat) (v : Word) : (s.wr a v).nvm = s.nvm := rfl

@[simp] theorem State.setF_pending (s : State) (a lo n v : Nat) : (s.setF a lo n v).pending = s.pending := rfl
@[simp] theorem State.setF_freeCtr (s : State) (a lo n v : Nat) : (s.setF a lo n v).freeCtr = s.freeCtr := rfl
@[simp] theorem State.setF_core (s : State) (a lo n v : Nat) : (s.setF a lo n v).core = s.core := rfl
@[simp] theorem State.setF_tmb (s : State) (a lo n v : Nat) : (s.setF a lo n v).tmb = s.tmb := rfl
@[simp] theorem State.setF_hrv (s : State) (a lo n v : Nat) : (s.setF a lo n v).hrv = s.hrv := rfl
@[simp] theorem State.setF_pwr (s : State) (a lo n v : Nat) : (s.setF a lo n v).pwr = s.pwr := rfl
@[simp] theorem State.setF_lcs (s : State) (a lo n v : Nat) : (s.setF a lo n v).lcs = s.lcs := rfl
@[simp] theorem State.setF_bus (s : State) (a lo n v : Nat) : (s.setF a lo n v).bus = s.bus := rfl
@[simp] theorem State.setF_dma (s : State) (a lo n v : Nat) : (s.setF a lo n v).dma = s.dma := rfl
@[simp] theorem State.setF_pins (s : State) (a lo n v : Nat) : (s.setF a lo n v).pins = s.pins := rfl
@[simp] theorem State.setF_gtc (s : State) (a lo n v : Nat) : (s.setF a lo n v).gtc = s.gtc := rfl
@[simp] theorem State.setF_stc (s : State) (a lo n v : Nat) : (s.setF a lo n v).stc = s.stc := rfl
@[simp] theorem State.setF_pool (s : State) (a lo n v : Nat) : (s.setF a lo n v).pool = s.pool := rfl
@[simp] theorem State.setF_ten (s : State) (a lo n v : Nat) : (s.setF a lo n v).ten = s.ten := rfl
@[simp] theorem State.setF_msr (s : State) (a lo n v : Nat) : (s.setF a lo n v).msr = s.msr := rfl
@[simp] theorem State.setF_saf (s : State) (a lo n v : Nat) : (s.setF a lo n v).saf = s.saf := rfl
@[simp] theorem State.setF_tch (s : State) (a lo n v : Nat) : (s.setF a lo n v).tch = s.tch := rfl
@[simp] theorem State.setF_pnl (s : State) (a lo n v : Nat) : (s.setF a lo n v).pnl = s.pnl := rfl
@[simp] theorem State.setF_dgs (s : State) (a lo n v : Nat) : (s.setF a lo n v).dgs = s.dgs := rfl
@[simp] theorem State.setF_lnk (s : State) (a lo n v : Nat) : (s.setF a lo n v).lnk = s.lnk := rfl
@[simp] theorem State.setF_hdp (s : State) (a lo n v : Nat) : (s.setF a lo n v).hdp = s.hdp := rfl
@[simp] theorem State.setF_store (s : State) (a lo n v : Nat) : (s.setF a lo n v).store = s.store := rfl
@[simp] theorem State.setF_saddle (s : State) (a lo n v : Nat) : (s.setF a lo n v).saddle = s.saddle := rfl
@[simp] theorem State.setF_nvm (s : State) (a lo n v : Nat) : (s.setF a lo n v).nvm = s.nvm := rfl

@[simp] theorem State.putBit_pending (s : State) (a i : Nat) (b : Bool) : (s.putBit a i b).pending = s.pending := rfl
@[simp] theorem State.putBit_freeCtr (s : State) (a i : Nat) (b : Bool) : (s.putBit a i b).freeCtr = s.freeCtr := rfl
@[simp] theorem State.putBit_core (s : State) (a i : Nat) (b : Bool) : (s.putBit a i b).core = s.core := rfl
@[simp] theorem State.putBit_tmb (s : State) (a i : Nat) (b : Bool) : (s.putBit a i b).tmb = s.tmb := rfl
@[simp] theorem State.putBit_hrv (s : State) (a i : Nat) (b : Bool) : (s.putBit a i b).hrv = s.hrv := rfl
@[simp] theorem State.putBit_pwr (s : State) (a i : Nat) (b : Bool) : (s.putBit a i b).pwr = s.pwr := rfl
@[simp] theorem State.putBit_lcs (s : State) (a i : Nat) (b : Bool) : (s.putBit a i b).lcs = s.lcs := rfl
@[simp] theorem State.putBit_bus (s : State) (a i : Nat) (b : Bool) : (s.putBit a i b).bus = s.bus := rfl
@[simp] theorem State.putBit_dma (s : State) (a i : Nat) (b : Bool) : (s.putBit a i b).dma = s.dma := rfl
@[simp] theorem State.putBit_pins (s : State) (a i : Nat) (b : Bool) : (s.putBit a i b).pins = s.pins := rfl
@[simp] theorem State.putBit_gtc (s : State) (a i : Nat) (b : Bool) : (s.putBit a i b).gtc = s.gtc := rfl
@[simp] theorem State.putBit_stc (s : State) (a i : Nat) (b : Bool) : (s.putBit a i b).stc = s.stc := rfl
@[simp] theorem State.putBit_pool (s : State) (a i : Nat) (b : Bool) : (s.putBit a i b).pool = s.pool := rfl
@[simp] theorem State.putBit_ten (s : State) (a i : Nat) (b : Bool) : (s.putBit a i b).ten = s.ten := rfl
@[simp] theorem State.putBit_msr (s : State) (a i : Nat) (b : Bool) : (s.putBit a i b).msr = s.msr := rfl
@[simp] theorem State.putBit_saf (s : State) (a i : Nat) (b : Bool) : (s.putBit a i b).saf = s.saf := rfl
@[simp] theorem State.putBit_tch (s : State) (a i : Nat) (b : Bool) : (s.putBit a i b).tch = s.tch := rfl
@[simp] theorem State.putBit_pnl (s : State) (a i : Nat) (b : Bool) : (s.putBit a i b).pnl = s.pnl := rfl
@[simp] theorem State.putBit_dgs (s : State) (a i : Nat) (b : Bool) : (s.putBit a i b).dgs = s.dgs := rfl
@[simp] theorem State.putBit_lnk (s : State) (a i : Nat) (b : Bool) : (s.putBit a i b).lnk = s.lnk := rfl
@[simp] theorem State.putBit_hdp (s : State) (a i : Nat) (b : Bool) : (s.putBit a i b).hdp = s.hdp := rfl
@[simp] theorem State.putBit_store (s : State) (a i : Nat) (b : Bool) : (s.putBit a i b).store = s.store := rfl
@[simp] theorem State.putBit_saddle (s : State) (a i : Nat) (b : Bool) : (s.putBit a i b).saddle = s.saddle := rfl
@[simp] theorem State.putBit_nvm (s : State) (a i : Nat) (b : Bool) : (s.putBit a i b).nvm = s.nvm := rfl

@[simp] theorem State.setBit_pending (s : State) (a i : Nat) : (s.setBit a i).pending = s.pending := rfl
@[simp] theorem State.setBit_freeCtr (s : State) (a i : Nat) : (s.setBit a i).freeCtr = s.freeCtr := rfl
@[simp] theorem State.setBit_core (s : State) (a i : Nat) : (s.setBit a i).core = s.core := rfl
@[simp] theorem State.setBit_tmb (s : State) (a i : Nat) : (s.setBit a i).tmb = s.tmb := rfl
@[simp] theorem State.setBit_hrv (s : State) (a i : Nat) : (s.setBit a i).hrv = s.hrv := rfl
@[simp] theorem State.setBit_pwr (s : State) (a i : Nat) : (s.setBit a i).pwr = s.pwr := rfl
@[simp] theorem State.setBit_lcs (s : State) (a i : Nat) : (s.setBit a i).lcs = s.lcs := rfl
@[simp] theorem State.setBit_bus (s : State) (a i : Nat) : (s.setBit a i).bus = s.bus := rfl
@[simp] theorem State.setBit_dma (s : State) (a i : Nat) : (s.setBit a i).dma = s.dma := rfl
@[simp] theorem State.setBit_pins (s : State) (a i : Nat) : (s.setBit a i).pins = s.pins := rfl
@[simp] theorem State.setBit_gtc (s : State) (a i : Nat) : (s.setBit a i).gtc = s.gtc := rfl
@[simp] theorem State.setBit_stc (s : State) (a i : Nat) : (s.setBit a i).stc = s.stc := rfl
@[simp] theorem State.setBit_pool (s : State) (a i : Nat) : (s.setBit a i).pool = s.pool := rfl
@[simp] theorem State.setBit_ten (s : State) (a i : Nat) : (s.setBit a i).ten = s.ten := rfl
@[simp] theorem State.setBit_msr (s : State) (a i : Nat) : (s.setBit a i).msr = s.msr := rfl
@[simp] theorem State.setBit_saf (s : State) (a i : Nat) : (s.setBit a i).saf = s.saf := rfl
@[simp] theorem State.setBit_tch (s : State) (a i : Nat) : (s.setBit a i).tch = s.tch := rfl
@[simp] theorem State.setBit_pnl (s : State) (a i : Nat) : (s.setBit a i).pnl = s.pnl := rfl
@[simp] theorem State.setBit_dgs (s : State) (a i : Nat) : (s.setBit a i).dgs = s.dgs := rfl
@[simp] theorem State.setBit_lnk (s : State) (a i : Nat) : (s.setBit a i).lnk = s.lnk := rfl
@[simp] theorem State.setBit_hdp (s : State) (a i : Nat) : (s.setBit a i).hdp = s.hdp := rfl
@[simp] theorem State.setBit_store (s : State) (a i : Nat) : (s.setBit a i).store = s.store := rfl
@[simp] theorem State.setBit_saddle (s : State) (a i : Nat) : (s.setBit a i).saddle = s.saddle := rfl
@[simp] theorem State.setBit_nvm (s : State) (a i : Nat) : (s.setBit a i).nvm = s.nvm := rfl

@[simp] theorem State.clrBit_pending (s : State) (a i : Nat) : (s.clrBit a i).pending = s.pending := rfl
@[simp] theorem State.clrBit_freeCtr (s : State) (a i : Nat) : (s.clrBit a i).freeCtr = s.freeCtr := rfl
@[simp] theorem State.clrBit_core (s : State) (a i : Nat) : (s.clrBit a i).core = s.core := rfl
@[simp] theorem State.clrBit_tmb (s : State) (a i : Nat) : (s.clrBit a i).tmb = s.tmb := rfl
@[simp] theorem State.clrBit_hrv (s : State) (a i : Nat) : (s.clrBit a i).hrv = s.hrv := rfl
@[simp] theorem State.clrBit_pwr (s : State) (a i : Nat) : (s.clrBit a i).pwr = s.pwr := rfl
@[simp] theorem State.clrBit_lcs (s : State) (a i : Nat) : (s.clrBit a i).lcs = s.lcs := rfl
@[simp] theorem State.clrBit_bus (s : State) (a i : Nat) : (s.clrBit a i).bus = s.bus := rfl
@[simp] theorem State.clrBit_dma (s : State) (a i : Nat) : (s.clrBit a i).dma = s.dma := rfl
@[simp] theorem State.clrBit_pins (s : State) (a i : Nat) : (s.clrBit a i).pins = s.pins := rfl
@[simp] theorem State.clrBit_gtc (s : State) (a i : Nat) : (s.clrBit a i).gtc = s.gtc := rfl
@[simp] theorem State.clrBit_stc (s : State) (a i : Nat) : (s.clrBit a i).stc = s.stc := rfl
@[simp] theorem State.clrBit_pool (s : State) (a i : Nat) : (s.clrBit a i).pool = s.pool := rfl
@[simp] theorem State.clrBit_ten (s : State) (a i : Nat) : (s.clrBit a i).ten = s.ten := rfl
@[simp] theorem State.clrBit_msr (s : State) (a i : Nat) : (s.clrBit a i).msr = s.msr := rfl
@[simp] theorem State.clrBit_saf (s : State) (a i : Nat) : (s.clrBit a i).saf = s.saf := rfl
@[simp] theorem State.clrBit_tch (s : State) (a i : Nat) : (s.clrBit a i).tch = s.tch := rfl
@[simp] theorem State.clrBit_pnl (s : State) (a i : Nat) : (s.clrBit a i).pnl = s.pnl := rfl
@[simp] theorem State.clrBit_dgs (s : State) (a i : Nat) : (s.clrBit a i).dgs = s.dgs := rfl
@[simp] theorem State.clrBit_lnk (s : State) (a i : Nat) : (s.clrBit a i).lnk = s.lnk := rfl
@[simp] theorem State.clrBit_hdp (s : State) (a i : Nat) : (s.clrBit a i).hdp = s.hdp := rfl
@[simp] theorem State.clrBit_store (s : State) (a i : Nat) : (s.clrBit a i).store = s.store := rfl
@[simp] theorem State.clrBit_saddle (s : State) (a i : Nat) : (s.clrBit a i).saddle = s.saddle := rfl
@[simp] theorem State.clrBit_nvm (s : State) (a i : Nat) : (s.clrBit a i).nvm = s.nvm := rfl

@[simp] theorem State.orReg_pending (s : State) (a : Nat) (m : Word) : (s.orReg a m).pending = s.pending := rfl
@[simp] theorem State.orReg_freeCtr (s : State) (a : Nat) (m : Word) : (s.orReg a m).freeCtr = s.freeCtr := rfl
@[simp] theorem State.orReg_core (s : State) (a : Nat) (m : Word) : (s.orReg a m).core = s.core := rfl
@[simp] theorem State.orReg_tmb (s : State) (a : Nat) (m : Word) : (s.orReg a m).tmb = s.tmb := rfl
@[simp] theorem State.orReg_hrv (s : State) (a : Nat) (m : Word) : (s.orReg a m).hrv = s.hrv := rfl
@[simp] theorem State.orReg_pwr (s : State) (a : Nat) (m : Word) : (s.orReg a m).pwr = s.pwr := rfl
@[simp] theorem State.orReg_lcs (s : State) (a : Nat) (m : Word) : (s.orReg a m).lcs = s.lcs := rfl
@[simp] theorem State.orReg_bus (s : State) (a : Nat) (m : Word) : (s.orReg a m).bus = s.bus := rfl
@[simp] theorem State.orReg_dma (s : State) (a : Nat) (m : Word) : (s.orReg a m).dma = s.dma := rfl
@[simp] theorem State.orReg_pins (s : State) (a : Nat) (m : Word) : (s.orReg a m).pins = s.pins := rfl
@[simp] theorem State.orReg_gtc (s : State) (a : Nat) (m : Word) : (s.orReg a m).gtc = s.gtc := rfl
@[simp] theorem State.orReg_stc (s : State) (a : Nat) (m : Word) : (s.orReg a m).stc = s.stc := rfl
@[simp] theorem State.orReg_pool (s : State) (a : Nat) (m : Word) : (s.orReg a m).pool = s.pool := rfl
@[simp] theorem State.orReg_ten (s : State) (a : Nat) (m : Word) : (s.orReg a m).ten = s.ten := rfl
@[simp] theorem State.orReg_msr (s : State) (a : Nat) (m : Word) : (s.orReg a m).msr = s.msr := rfl
@[simp] theorem State.orReg_saf (s : State) (a : Nat) (m : Word) : (s.orReg a m).saf = s.saf := rfl
@[simp] theorem State.orReg_tch (s : State) (a : Nat) (m : Word) : (s.orReg a m).tch = s.tch := rfl
@[simp] theorem State.orReg_pnl (s : State) (a : Nat) (m : Word) : (s.orReg a m).pnl = s.pnl := rfl
@[simp] theorem State.orReg_dgs (s : State) (a : Nat) (m : Word) : (s.orReg a m).dgs = s.dgs := rfl
@[simp] theorem State.orReg_lnk (s : State) (a : Nat) (m : Word) : (s.orReg a m).lnk = s.lnk := rfl
@[simp] theorem State.orReg_hdp (s : State) (a : Nat) (m : Word) : (s.orReg a m).hdp = s.hdp := rfl
@[simp] theorem State.orReg_store (s : State) (a : Nat) (m : Word) : (s.orReg a m).store = s.store := rfl
@[simp] theorem State.orReg_saddle (s : State) (a : Nat) (m : Word) : (s.orReg a m).saddle = s.saddle := rfl
@[simp] theorem State.orReg_nvm (s : State) (a : Nat) (m : Word) : (s.orReg a m).nvm = s.nvm := rfl

@[simp] theorem State.incSat_pending (s : State) (a lo n : Nat) : (s.incSat a lo n).pending = s.pending := rfl
@[simp] theorem State.incSat_freeCtr (s : State) (a lo n : Nat) : (s.incSat a lo n).freeCtr = s.freeCtr := rfl
@[simp] theorem State.incSat_core (s : State) (a lo n : Nat) : (s.incSat a lo n).core = s.core := rfl
@[simp] theorem State.incSat_tmb (s : State) (a lo n : Nat) : (s.incSat a lo n).tmb = s.tmb := rfl
@[simp] theorem State.incSat_hrv (s : State) (a lo n : Nat) : (s.incSat a lo n).hrv = s.hrv := rfl
@[simp] theorem State.incSat_pwr (s : State) (a lo n : Nat) : (s.incSat a lo n).pwr = s.pwr := rfl
@[simp] theorem State.incSat_lcs (s : State) (a lo n : Nat) : (s.incSat a lo n).lcs = s.lcs := rfl
@[simp] theorem State.incSat_bus (s : State) (a lo n : Nat) : (s.incSat a lo n).bus = s.bus := rfl
@[simp] theorem State.incSat_dma (s : State) (a lo n : Nat) : (s.incSat a lo n).dma = s.dma := rfl
@[simp] theorem State.incSat_pins (s : State) (a lo n : Nat) : (s.incSat a lo n).pins = s.pins := rfl
@[simp] theorem State.incSat_gtc (s : State) (a lo n : Nat) : (s.incSat a lo n).gtc = s.gtc := rfl
@[simp] theorem State.incSat_stc (s : State) (a lo n : Nat) : (s.incSat a lo n).stc = s.stc := rfl
@[simp] theorem State.incSat_pool (s : State) (a lo n : Nat) : (s.incSat a lo n).pool = s.pool := rfl
@[simp] theorem State.incSat_ten (s : State) (a lo n : Nat) : (s.incSat a lo n).ten = s.ten := rfl
@[simp] theorem State.incSat_msr (s : State) (a lo n : Nat) : (s.incSat a lo n).msr = s.msr := rfl
@[simp] theorem State.incSat_saf (s : State) (a lo n : Nat) : (s.incSat a lo n).saf = s.saf := rfl
@[simp] theorem State.incSat_tch (s : State) (a lo n : Nat) : (s.incSat a lo n).tch = s.tch := rfl
@[simp] theorem State.incSat_pnl (s : State) (a lo n : Nat) : (s.incSat a lo n).pnl = s.pnl := rfl
@[simp] theorem State.incSat_dgs (s : State) (a lo n : Nat) : (s.incSat a lo n).dgs = s.dgs := rfl
@[simp] theorem State.incSat_lnk (s : State) (a lo n : Nat) : (s.incSat a lo n).lnk = s.lnk := rfl
@[simp] theorem State.incSat_hdp (s : State) (a lo n : Nat) : (s.incSat a lo n).hdp = s.hdp := rfl
@[simp] theorem State.incSat_store (s : State) (a lo n : Nat) : (s.incSat a lo n).store = s.store := rfl
@[simp] theorem State.incSat_saddle (s : State) (a lo n : Nat) : (s.incSat a lo n).saddle = s.saddle := rfl
@[simp] theorem State.incSat_nvm (s : State) (a lo n : Nat) : (s.incSat a lo n).nvm = s.nvm := rfl

@[simp] theorem State.stdWrite_pending (s : State) (a : Nat) (v : Word) : (s.stdWrite a v).pending = s.pending := rfl
@[simp] theorem State.stdWrite_freeCtr (s : State) (a : Nat) (v : Word) : (s.stdWrite a v).freeCtr = s.freeCtr := rfl
@[simp] theorem State.stdWrite_core (s : State) (a : Nat) (v : Word) : (s.stdWrite a v).core = s.core := rfl
@[simp] theorem State.stdWrite_tmb (s : State) (a : Nat) (v : Word) : (s.stdWrite a v).tmb = s.tmb := rfl
@[simp] theorem State.stdWrite_hrv (s : State) (a : Nat) (v : Word) : (s.stdWrite a v).hrv = s.hrv := rfl
@[simp] theorem State.stdWrite_pwr (s : State) (a : Nat) (v : Word) : (s.stdWrite a v).pwr = s.pwr := rfl
@[simp] theorem State.stdWrite_lcs (s : State) (a : Nat) (v : Word) : (s.stdWrite a v).lcs = s.lcs := rfl
@[simp] theorem State.stdWrite_bus (s : State) (a : Nat) (v : Word) : (s.stdWrite a v).bus = s.bus := rfl
@[simp] theorem State.stdWrite_dma (s : State) (a : Nat) (v : Word) : (s.stdWrite a v).dma = s.dma := rfl
@[simp] theorem State.stdWrite_pins (s : State) (a : Nat) (v : Word) : (s.stdWrite a v).pins = s.pins := rfl
@[simp] theorem State.stdWrite_gtc (s : State) (a : Nat) (v : Word) : (s.stdWrite a v).gtc = s.gtc := rfl
@[simp] theorem State.stdWrite_stc (s : State) (a : Nat) (v : Word) : (s.stdWrite a v).stc = s.stc := rfl
@[simp] theorem State.stdWrite_pool (s : State) (a : Nat) (v : Word) : (s.stdWrite a v).pool = s.pool := rfl
@[simp] theorem State.stdWrite_ten (s : State) (a : Nat) (v : Word) : (s.stdWrite a v).ten = s.ten := rfl
@[simp] theorem State.stdWrite_msr (s : State) (a : Nat) (v : Word) : (s.stdWrite a v).msr = s.msr := rfl
@[simp] theorem State.stdWrite_saf (s : State) (a : Nat) (v : Word) : (s.stdWrite a v).saf = s.saf := rfl
@[simp] theorem State.stdWrite_tch (s : State) (a : Nat) (v : Word) : (s.stdWrite a v).tch = s.tch := rfl
@[simp] theorem State.stdWrite_pnl (s : State) (a : Nat) (v : Word) : (s.stdWrite a v).pnl = s.pnl := rfl
@[simp] theorem State.stdWrite_dgs (s : State) (a : Nat) (v : Word) : (s.stdWrite a v).dgs = s.dgs := rfl
@[simp] theorem State.stdWrite_lnk (s : State) (a : Nat) (v : Word) : (s.stdWrite a v).lnk = s.lnk := rfl
@[simp] theorem State.stdWrite_hdp (s : State) (a : Nat) (v : Word) : (s.stdWrite a v).hdp = s.hdp := rfl
@[simp] theorem State.stdWrite_store (s : State) (a : Nat) (v : Word) : (s.stdWrite a v).store = s.store := rfl
@[simp] theorem State.stdWrite_saddle (s : State) (a : Nat) (v : Word) : (s.stdWrite a v).saddle = s.saddle := rfl
@[simp] theorem State.stdWrite_nvm (s : State) (a : Nat) (v : Word) : (s.stdWrite a v).nvm = s.nvm := rfl

@[simp] theorem State.resetRegs_pending (s : State) (d : Domain) : (s.resetRegs d).pending = s.pending := rfl
@[simp] theorem State.resetRegs_freeCtr (s : State) (d : Domain) : (s.resetRegs d).freeCtr = s.freeCtr := rfl
@[simp] theorem State.resetRegs_core (s : State) (d : Domain) : (s.resetRegs d).core = s.core := rfl
@[simp] theorem State.resetRegs_tmb (s : State) (d : Domain) : (s.resetRegs d).tmb = s.tmb := rfl
@[simp] theorem State.resetRegs_hrv (s : State) (d : Domain) : (s.resetRegs d).hrv = s.hrv := rfl
@[simp] theorem State.resetRegs_pwr (s : State) (d : Domain) : (s.resetRegs d).pwr = s.pwr := rfl
@[simp] theorem State.resetRegs_lcs (s : State) (d : Domain) : (s.resetRegs d).lcs = s.lcs := rfl
@[simp] theorem State.resetRegs_bus (s : State) (d : Domain) : (s.resetRegs d).bus = s.bus := rfl
@[simp] theorem State.resetRegs_dma (s : State) (d : Domain) : (s.resetRegs d).dma = s.dma := rfl
@[simp] theorem State.resetRegs_pins (s : State) (d : Domain) : (s.resetRegs d).pins = s.pins := rfl
@[simp] theorem State.resetRegs_gtc (s : State) (d : Domain) : (s.resetRegs d).gtc = s.gtc := rfl
@[simp] theorem State.resetRegs_stc (s : State) (d : Domain) : (s.resetRegs d).stc = s.stc := rfl
@[simp] theorem State.resetRegs_pool (s : State) (d : Domain) : (s.resetRegs d).pool = s.pool := rfl
@[simp] theorem State.resetRegs_ten (s : State) (d : Domain) : (s.resetRegs d).ten = s.ten := rfl
@[simp] theorem State.resetRegs_msr (s : State) (d : Domain) : (s.resetRegs d).msr = s.msr := rfl
@[simp] theorem State.resetRegs_saf (s : State) (d : Domain) : (s.resetRegs d).saf = s.saf := rfl
@[simp] theorem State.resetRegs_tch (s : State) (d : Domain) : (s.resetRegs d).tch = s.tch := rfl
@[simp] theorem State.resetRegs_pnl (s : State) (d : Domain) : (s.resetRegs d).pnl = s.pnl := rfl
@[simp] theorem State.resetRegs_dgs (s : State) (d : Domain) : (s.resetRegs d).dgs = s.dgs := rfl
@[simp] theorem State.resetRegs_lnk (s : State) (d : Domain) : (s.resetRegs d).lnk = s.lnk := rfl
@[simp] theorem State.resetRegs_hdp (s : State) (d : Domain) : (s.resetRegs d).hdp = s.hdp := rfl
@[simp] theorem State.resetRegs_store (s : State) (d : Domain) : (s.resetRegs d).store = s.store := rfl
@[simp] theorem State.resetRegs_saddle (s : State) (d : Domain) : (s.resetRegs d).saddle = s.saddle := rfl
@[simp] theorem State.resetRegs_nvm (s : State) (d : Domain) : (s.resetRegs d).nvm = s.nvm := rfl

/-! ## Updates of the core leave every other field -/

@[simp] theorem State.setG_regs (s : State) (r : Fin 16) (v : Word) : (s.setG r v).regs = s.regs := rfl
@[simp] theorem State.setG_pending (s : State) (r : Fin 16) (v : Word) : (s.setG r v).pending = s.pending := rfl
@[simp] theorem State.setG_freeCtr (s : State) (r : Fin 16) (v : Word) : (s.setG r v).freeCtr = s.freeCtr := rfl
@[simp] theorem State.setG_tmb (s : State) (r : Fin 16) (v : Word) : (s.setG r v).tmb = s.tmb := rfl
@[simp] theorem State.setG_hrv (s : State) (r : Fin 16) (v : Word) : (s.setG r v).hrv = s.hrv := rfl
@[simp] theorem State.setG_pwr (s : State) (r : Fin 16) (v : Word) : (s.setG r v).pwr = s.pwr := rfl
@[simp] theorem State.setG_lcs (s : State) (r : Fin 16) (v : Word) : (s.setG r v).lcs = s.lcs := rfl
@[simp] theorem State.setG_bus (s : State) (r : Fin 16) (v : Word) : (s.setG r v).bus = s.bus := rfl
@[simp] theorem State.setG_dma (s : State) (r : Fin 16) (v : Word) : (s.setG r v).dma = s.dma := rfl
@[simp] theorem State.setG_pins (s : State) (r : Fin 16) (v : Word) : (s.setG r v).pins = s.pins := rfl
@[simp] theorem State.setG_gtc (s : State) (r : Fin 16) (v : Word) : (s.setG r v).gtc = s.gtc := rfl
@[simp] theorem State.setG_stc (s : State) (r : Fin 16) (v : Word) : (s.setG r v).stc = s.stc := rfl
@[simp] theorem State.setG_pool (s : State) (r : Fin 16) (v : Word) : (s.setG r v).pool = s.pool := rfl
@[simp] theorem State.setG_ten (s : State) (r : Fin 16) (v : Word) : (s.setG r v).ten = s.ten := rfl
@[simp] theorem State.setG_msr (s : State) (r : Fin 16) (v : Word) : (s.setG r v).msr = s.msr := rfl
@[simp] theorem State.setG_saf (s : State) (r : Fin 16) (v : Word) : (s.setG r v).saf = s.saf := rfl
@[simp] theorem State.setG_tch (s : State) (r : Fin 16) (v : Word) : (s.setG r v).tch = s.tch := rfl
@[simp] theorem State.setG_pnl (s : State) (r : Fin 16) (v : Word) : (s.setG r v).pnl = s.pnl := rfl
@[simp] theorem State.setG_dgs (s : State) (r : Fin 16) (v : Word) : (s.setG r v).dgs = s.dgs := rfl
@[simp] theorem State.setG_lnk (s : State) (r : Fin 16) (v : Word) : (s.setG r v).lnk = s.lnk := rfl
@[simp] theorem State.setG_hdp (s : State) (r : Fin 16) (v : Word) : (s.setG r v).hdp = s.hdp := rfl
@[simp] theorem State.setG_store (s : State) (r : Fin 16) (v : Word) : (s.setG r v).store = s.store := rfl
@[simp] theorem State.setG_saddle (s : State) (r : Fin 16) (v : Word) : (s.setG r v).saddle = s.saddle := rfl
@[simp] theorem State.setG_nvm (s : State) (r : Fin 16) (v : Word) : (s.setG r v).nvm = s.nvm := rfl

@[simp] theorem State.setPc_regs (s : State) (v : Word) : (s.setPc v).regs = s.regs := rfl
@[simp] theorem State.setPc_pending (s : State) (v : Word) : (s.setPc v).pending = s.pending := rfl
@[simp] theorem State.setPc_freeCtr (s : State) (v : Word) : (s.setPc v).freeCtr = s.freeCtr := rfl
@[simp] theorem State.setPc_tmb (s : State) (v : Word) : (s.setPc v).tmb = s.tmb := rfl
@[simp] theorem State.setPc_hrv (s : State) (v : Word) : (s.setPc v).hrv = s.hrv := rfl
@[simp] theorem State.setPc_pwr (s : State) (v : Word) : (s.setPc v).pwr = s.pwr := rfl
@[simp] theorem State.setPc_lcs (s : State) (v : Word) : (s.setPc v).lcs = s.lcs := rfl
@[simp] theorem State.setPc_bus (s : State) (v : Word) : (s.setPc v).bus = s.bus := rfl
@[simp] theorem State.setPc_dma (s : State) (v : Word) : (s.setPc v).dma = s.dma := rfl
@[simp] theorem State.setPc_pins (s : State) (v : Word) : (s.setPc v).pins = s.pins := rfl
@[simp] theorem State.setPc_gtc (s : State) (v : Word) : (s.setPc v).gtc = s.gtc := rfl
@[simp] theorem State.setPc_stc (s : State) (v : Word) : (s.setPc v).stc = s.stc := rfl
@[simp] theorem State.setPc_pool (s : State) (v : Word) : (s.setPc v).pool = s.pool := rfl
@[simp] theorem State.setPc_ten (s : State) (v : Word) : (s.setPc v).ten = s.ten := rfl
@[simp] theorem State.setPc_msr (s : State) (v : Word) : (s.setPc v).msr = s.msr := rfl
@[simp] theorem State.setPc_saf (s : State) (v : Word) : (s.setPc v).saf = s.saf := rfl
@[simp] theorem State.setPc_tch (s : State) (v : Word) : (s.setPc v).tch = s.tch := rfl
@[simp] theorem State.setPc_pnl (s : State) (v : Word) : (s.setPc v).pnl = s.pnl := rfl
@[simp] theorem State.setPc_dgs (s : State) (v : Word) : (s.setPc v).dgs = s.dgs := rfl
@[simp] theorem State.setPc_lnk (s : State) (v : Word) : (s.setPc v).lnk = s.lnk := rfl
@[simp] theorem State.setPc_hdp (s : State) (v : Word) : (s.setPc v).hdp = s.hdp := rfl
@[simp] theorem State.setPc_store (s : State) (v : Word) : (s.setPc v).store = s.store := rfl
@[simp] theorem State.setPc_saddle (s : State) (v : Word) : (s.setPc v).saddle = s.saddle := rfl
@[simp] theorem State.setPc_nvm (s : State) (v : Word) : (s.setPc v).nvm = s.nvm := rfl

@[simp] theorem State.setCC_regs (s : State) (c : CC) : (s.setCC c).regs = s.regs := rfl
@[simp] theorem State.setCC_pending (s : State) (c : CC) : (s.setCC c).pending = s.pending := rfl
@[simp] theorem State.setCC_freeCtr (s : State) (c : CC) : (s.setCC c).freeCtr = s.freeCtr := rfl
@[simp] theorem State.setCC_tmb (s : State) (c : CC) : (s.setCC c).tmb = s.tmb := rfl
@[simp] theorem State.setCC_hrv (s : State) (c : CC) : (s.setCC c).hrv = s.hrv := rfl
@[simp] theorem State.setCC_pwr (s : State) (c : CC) : (s.setCC c).pwr = s.pwr := rfl
@[simp] theorem State.setCC_lcs (s : State) (c : CC) : (s.setCC c).lcs = s.lcs := rfl
@[simp] theorem State.setCC_bus (s : State) (c : CC) : (s.setCC c).bus = s.bus := rfl
@[simp] theorem State.setCC_dma (s : State) (c : CC) : (s.setCC c).dma = s.dma := rfl
@[simp] theorem State.setCC_pins (s : State) (c : CC) : (s.setCC c).pins = s.pins := rfl
@[simp] theorem State.setCC_gtc (s : State) (c : CC) : (s.setCC c).gtc = s.gtc := rfl
@[simp] theorem State.setCC_stc (s : State) (c : CC) : (s.setCC c).stc = s.stc := rfl
@[simp] theorem State.setCC_pool (s : State) (c : CC) : (s.setCC c).pool = s.pool := rfl
@[simp] theorem State.setCC_ten (s : State) (c : CC) : (s.setCC c).ten = s.ten := rfl
@[simp] theorem State.setCC_msr (s : State) (c : CC) : (s.setCC c).msr = s.msr := rfl
@[simp] theorem State.setCC_saf (s : State) (c : CC) : (s.setCC c).saf = s.saf := rfl
@[simp] theorem State.setCC_tch (s : State) (c : CC) : (s.setCC c).tch = s.tch := rfl
@[simp] theorem State.setCC_pnl (s : State) (c : CC) : (s.setCC c).pnl = s.pnl := rfl
@[simp] theorem State.setCC_dgs (s : State) (c : CC) : (s.setCC c).dgs = s.dgs := rfl
@[simp] theorem State.setCC_lnk (s : State) (c : CC) : (s.setCC c).lnk = s.lnk := rfl
@[simp] theorem State.setCC_hdp (s : State) (c : CC) : (s.setCC c).hdp = s.hdp := rfl
@[simp] theorem State.setCC_store (s : State) (c : CC) : (s.setCC c).store = s.store := rfl
@[simp] theorem State.setCC_saddle (s : State) (c : CC) : (s.setCC c).saddle = s.saddle := rfl
@[simp] theorem State.setCC_nvm (s : State) (c : CC) : (s.setCC c).nvm = s.nvm := rfl

@[simp] theorem State.advance_regs (s : State) : (s.advance).regs = s.regs := rfl
@[simp] theorem State.advance_pending (s : State) : (s.advance).pending = s.pending := rfl
@[simp] theorem State.advance_freeCtr (s : State) : (s.advance).freeCtr = s.freeCtr := rfl
@[simp] theorem State.advance_tmb (s : State) : (s.advance).tmb = s.tmb := rfl
@[simp] theorem State.advance_hrv (s : State) : (s.advance).hrv = s.hrv := rfl
@[simp] theorem State.advance_pwr (s : State) : (s.advance).pwr = s.pwr := rfl
@[simp] theorem State.advance_lcs (s : State) : (s.advance).lcs = s.lcs := rfl
@[simp] theorem State.advance_bus (s : State) : (s.advance).bus = s.bus := rfl
@[simp] theorem State.advance_dma (s : State) : (s.advance).dma = s.dma := rfl
@[simp] theorem State.advance_pins (s : State) : (s.advance).pins = s.pins := rfl
@[simp] theorem State.advance_gtc (s : State) : (s.advance).gtc = s.gtc := rfl
@[simp] theorem State.advance_stc (s : State) : (s.advance).stc = s.stc := rfl
@[simp] theorem State.advance_pool (s : State) : (s.advance).pool = s.pool := rfl
@[simp] theorem State.advance_ten (s : State) : (s.advance).ten = s.ten := rfl
@[simp] theorem State.advance_msr (s : State) : (s.advance).msr = s.msr := rfl
@[simp] theorem State.advance_saf (s : State) : (s.advance).saf = s.saf := rfl
@[simp] theorem State.advance_tch (s : State) : (s.advance).tch = s.tch := rfl
@[simp] theorem State.advance_pnl (s : State) : (s.advance).pnl = s.pnl := rfl
@[simp] theorem State.advance_dgs (s : State) : (s.advance).dgs = s.dgs := rfl
@[simp] theorem State.advance_lnk (s : State) : (s.advance).lnk = s.lnk := rfl
@[simp] theorem State.advance_hdp (s : State) : (s.advance).hdp = s.hdp := rfl
@[simp] theorem State.advance_store (s : State) : (s.advance).store = s.store := rfl
@[simp] theorem State.advance_saddle (s : State) : (s.advance).saddle = s.saddle := rfl
@[simp] theorem State.advance_nvm (s : State) : (s.advance).nvm = s.nvm := rfl

/-! ## The counter of free values -/

@[simp] theorem State.tickFree_regs (s : State) : s.tickFree.regs = s.regs := rfl
@[simp] theorem State.tickFree_pending (s : State) : s.tickFree.pending = s.pending := rfl
@[simp] theorem State.tickFree_core (s : State) : s.tickFree.core = s.core := rfl
@[simp] theorem State.tickFree_tmb (s : State) : s.tickFree.tmb = s.tmb := rfl
@[simp] theorem State.tickFree_hrv (s : State) : s.tickFree.hrv = s.hrv := rfl
@[simp] theorem State.tickFree_pwr (s : State) : s.tickFree.pwr = s.pwr := rfl
@[simp] theorem State.tickFree_lcs (s : State) : s.tickFree.lcs = s.lcs := rfl
@[simp] theorem State.tickFree_bus (s : State) : s.tickFree.bus = s.bus := rfl
@[simp] theorem State.tickFree_dma (s : State) : s.tickFree.dma = s.dma := rfl
@[simp] theorem State.tickFree_pins (s : State) : s.tickFree.pins = s.pins := rfl
@[simp] theorem State.tickFree_gtc (s : State) : s.tickFree.gtc = s.gtc := rfl
@[simp] theorem State.tickFree_stc (s : State) : s.tickFree.stc = s.stc := rfl
@[simp] theorem State.tickFree_pool (s : State) : s.tickFree.pool = s.pool := rfl
@[simp] theorem State.tickFree_ten (s : State) : s.tickFree.ten = s.ten := rfl
@[simp] theorem State.tickFree_msr (s : State) : s.tickFree.msr = s.msr := rfl
@[simp] theorem State.tickFree_saf (s : State) : s.tickFree.saf = s.saf := rfl
@[simp] theorem State.tickFree_tch (s : State) : s.tickFree.tch = s.tch := rfl
@[simp] theorem State.tickFree_pnl (s : State) : s.tickFree.pnl = s.pnl := rfl
@[simp] theorem State.tickFree_dgs (s : State) : s.tickFree.dgs = s.dgs := rfl
@[simp] theorem State.tickFree_lnk (s : State) : s.tickFree.lnk = s.lnk := rfl
@[simp] theorem State.tickFree_hdp (s : State) : s.tickFree.hdp = s.hdp := rfl
@[simp] theorem State.tickFree_store (s : State) : s.tickFree.store = s.store := rfl
@[simp] theorem State.tickFree_saddle (s : State) : s.tickFree.saddle = s.saddle := rfl
@[simp] theorem State.tickFree_nvm (s : State) : s.tickFree.nvm = s.nvm := rfl
@[simp] theorem State.tickFree_freeCtr (s : State) : s.tickFree.freeCtr = s.freeCtr + 1 := rfl

/-! ## The core's registers -/

@[simp] theorem State.setG_g_self (s : State) (r : Fin 16) (v : Word) : (s.setG r v).g r = v := by
  simp [State.setG, State.g]
theorem State.setG_g_ne (s : State) {r q : Fin 16} (v : Word) (h : q ≠ r) : (s.setG r v).g q = s.g q := by
  have : r.val ≠ q.val := fun e => h (Fin.ext e.symm)
  simp [State.setG, State.g, this]
@[simp] theorem State.setG_pc (s : State) (r : Fin 16) (v : Word) : (s.setG r v).pc = s.pc := rfl
@[simp] theorem State.setG_cc (s : State) (r : Fin 16) (v : Word) : (s.setG r v).core.cc = s.core.cc := rfl
@[simp] theorem State.setG_astat (s : State) (r : Fin 16) (v : Word) : (s.setG r v).core.astat = s.core.astat := rfl
@[simp] theorem State.setG_status (s : State) (r : Fin 16) (v : Word) : (s.setG r v).core.status = s.core.status := rfl
@[simp] theorem State.setPc_g (s : State) (v : Word) (r : Fin 16) : (s.setPc v).g r = s.g r := rfl
@[simp] theorem State.setPc_pc (s : State) (v : Word) : (s.setPc v).pc = v &&& 0xFFFFFFFC := rfl
@[simp] theorem State.setPc_cc (s : State) (v : Word) : (s.setPc v).core.cc = s.core.cc := rfl
@[simp] theorem State.setPc_astat (s : State) (v : Word) : (s.setPc v).core.astat = s.core.astat := rfl
@[simp] theorem State.setPc_status (s : State) (v : Word) : (s.setPc v).core.status = s.core.status := rfl
@[simp] theorem State.setCC_g (s : State) (c : CC) (r : Fin 16) : (s.setCC c).g r = s.g r := rfl
@[simp] theorem State.setCC_pc (s : State) (c : CC) : (s.setCC c).pc = s.pc := rfl
@[simp] theorem State.setCC_cc (s : State) (c : CC) : (s.setCC c).core.cc = c := rfl
@[simp] theorem State.setCC_astat (s : State) (c : CC) : (s.setCC c).core.astat = s.core.astat := rfl
@[simp] theorem State.setCC_status (s : State) (c : CC) : (s.setCC c).core.status = s.core.status := rfl
@[simp] theorem State.advance_g (s : State) (r : Fin 16) : s.advance.g r = s.g r := rfl
@[simp] theorem State.advance_pc (s : State) : s.advance.pc = (s.pc + 4) &&& 0xFFFFFFFC := rfl
@[simp] theorem State.advance_cc (s : State) : s.advance.core.cc = s.core.cc := rfl
@[simp] theorem State.advance_astat (s : State) : s.advance.core.astat = s.core.astat := rfl
@[simp] theorem State.advance_status (s : State) : s.advance.core.status = s.core.status := rfl

/-! ## The register file -/

@[simp] theorem State.rd_wr_self (s : State) (a : Nat) (v : Word) : (s.wr a v).rd a = v :=
  alGet_alSet_self (regReset a) s.regs a v

theorem State.rd_wr_ne (s : State) {a b : Nat} (v : Word) (h : b ≠ a) : (s.wr a v).rd b = s.rd b := by
  unfold State.rd State.wr
  exact congrArg (fun o => o.getD (regReset b)) (alGet_alSet_ne (regReset a) s.regs v h)

/-- Whatever is read after a write, in one form. -/
theorem State.rd_wr (s : State) (a b : Nat) (v : Word) : (s.wr a v).rd b = if b = a then v else s.rd b := by
  by_cases h : b = a
  · simp [h]
  · simp [h, State.rd_wr_ne s v h]

/-- The registers are those of the list: two states with one list read alike. -/
theorem State.rd_congr {s t : State} (h : t.regs = s.regs) (a : Nat) : t.rd a = s.rd a := by
  unfold State.rd; rw [h]

@[simp] theorem State.rd_setG (s : State) (r : Fin 16) (v : Word) (a : Nat) : (s.setG r v).rd a = s.rd a := rfl
@[simp] theorem State.rd_setPc (s : State) (v : Word) (a : Nat) : (s.setPc v).rd a = s.rd a := rfl
@[simp] theorem State.rd_setCC (s : State) (c : CC) (a : Nat) : (s.setCC c).rd a = s.rd a := rfl
@[simp] theorem State.rd_advance (s : State) (a : Nat) : s.advance.rd a = s.rd a := rfl
@[simp] theorem State.rd_tickFree (s : State) (a : Nat) : s.tickFree.rd a = s.rd a := rfl

theorem State.rd_setF (s : State) (a b lo n v : Nat) :
    (s.setF a lo n v).rd b = if b = a then setFld (s.rd a) lo n v else s.rd b := State.rd_wr s a b _

theorem State.rd_putBit (s : State) (a b i : Nat) (x : Bool) :
    (s.putBit a i x).rd b = if b = a then wputBit (s.rd a) i x else s.rd b := State.rd_wr s a b _

theorem State.rd_setBit (s : State) (a b i : Nat) :
    (s.setBit a i).rd b = if b = a then wputBit (s.rd a) i true else s.rd b := State.rd_wr s a b _

theorem State.rd_clrBit (s : State) (a b i : Nat) :
    (s.clrBit a i).rd b = if b = a then wputBit (s.rd a) i false else s.rd b := State.rd_wr s a b _

theorem State.rd_orReg (s : State) (a b : Nat) (m : Word) :
    (s.orReg a m).rd b = if b = a then s.rd a ||| m else s.rd b := State.rd_wr s a b _

theorem State.rd_stdWrite (s : State) (a b : Nat) (v : Word) :
    (s.stdWrite a v).rd b = if b = a then s.written a v else s.rd b := State.rd_wr s a b _

/-- The form of the register file as a proposition. -/
theorem State.regsWf_iff (s : State) :
    s.regsWf = true ↔ alSorted s.regs ∧ ∀ p ∈ s.regs, p.2 ≠ regReset p.1 := by
  simp [State.regsWf]

/-- A register write keeps the canonical form. -/
theorem State.regsWf_wr (s : State) (a : Nat) (v : Word) (h : s.regsWf = true) : (s.wr a v).regsWf = true := by
  rw [State.regsWf_iff] at h ⊢
  refine ⟨alSorted_alSet _ _ _ h.1, ?_⟩
  intro p hp
  rcases mem_alSet hp with ⟨rfl, hv⟩ | hp
  · exact hv
  · exact h.2 p hp

/-- So does the reset of a domain's registers. -/
theorem State.regsWf_resetRegs (s : State) (d : Domain) (h : s.regsWf = true) : (s.resetRegs d).regsWf = true := by
  rw [State.regsWf_iff] at h ⊢
  exact ⟨h.1.filter _, fun p hp => h.2 p (List.mem_filter.1 hp).1⟩

/-- After the reset of its domain a register holds its reset value (R10). -/
theorem State.rd_resetRegs (s : State) (d : Domain) (a : Nat) :
    (s.resetRegs d).rd a = if regDomain a = d then regReset a else s.rd a := by
  unfold State.rd State.resetRegs
  simp only
  have key : ∀ l : List (Nat × Word), alGet (l.filter fun p => decide (regDomain p.1 ≠ d)) a =
      if regDomain a = d then none else alGet l a := by
    intro l
    induction l with
    | nil => simp
    | cons p t ih =>
      by_cases hp : regDomain p.1 = d
      · simp only [ne_eq, hp, not_true_eq_false, decide_false, Bool.false_eq_true, not_false_eq_true, List.filter_cons_of_neg,
          alGet]
        simp only [ne_eq] at ih
        rw [ih]
        by_cases ha : regDomain a = d
        · simp [ha]
        · have : p.1 ≠ a := fun e => ha (e ▸ hp)
          simp [ha, this]
      · simp only [ne_eq, hp, not_false_eq_true, decide_true, List.filter_cons_of_pos, alGet]
        simp only [ne_eq] at ih
        rw [ih]
        by_cases hpa : p.1 = a
        · subst hpa; simp [hp]
        · simp [hpa]
  rw [key]
  split <;> rfl

end Sys2Proof.Machine
end

