-- ==== Sys2Proof/Laws/Settle.lean ====
section
/-!
SUPPORT. What follows every command by itself: `settle` touches the level registers, `ten` and `saf` alone, and on a calm state
`finish` is `settle`.
-/
namespace Sys2Proof.Machine

/-! ## One fold of doorbells -/

/-- Setting doorbells one by one changes registers alone. -/
theorem doorbell_fold (l : List Nat) (s : State) :
    l.foldl (fun s c => s.setBit (Reg.VIR_DB (c / 512)) (c / 16 % 32)) s =
      { s with regs := (l.foldl (fun s c => s.setBit (Reg.VIR_DB (c / 512)) (c / 16 % 32)) s).regs } := by
  induction l generalizing s with
  | nil => rfl
  | cons c t ih => simp only [List.foldl_cons]; rw [ih]; rfl

/-- A register that is no doorbell keeps its word. -/
theorem doorbell_fold_rd (l : List Nat) (s : State) (a : Nat) (h : ∀ c ∈ l, a ≠ Reg.VIR_DB (c / 512)) :
    (l.foldl (fun s c => s.setBit (Reg.VIR_DB (c / 512)) (c / 16 % 32)) s).rd a = s.rd a := by
  induction l generalizing s with
  | nil => rfl
  | cons c t ih =>
    simp only [List.foldl_cons]
    rw [ih _ fun c hc => h c (by simp [hc]), State.rd_setBit, if_neg (h c (by simp))]

/-! ## The parts of `settle` -/

/-- The end of the clock changes `saf` alone. -/
@[simp] theorem clockEnds_rd (s : State) (a : Nat) : s.clockEnds.rd a = s.rd a := rfl


/-- The outputs are looked at: SAF_OUT and `saf` alone. -/
theorem outputsSettle_eq (s : State) :
    s.outputsSettle = { s with regs := s.outputsSettle.regs, saf := s.outputsSettle.saf } := by
  unfold State.outputsSettle
  split <;> rfl

theorem outputsSettle_rd (s : State) (a : Nat) (h : a ≠ Reg.SAF_OUT) : s.outputsSettle.rd a = s.rd a := by
  unfold State.outputsSettle
  split
  · rfl
  · exact (State.rd_setF s Reg.SAF_OUT a 0 16 s.outputsOn.toNat).trans (if_neg h)

/-- Pin levels: GPIO_IRQ alone. -/
theorem gpioLevels_eq (s : State) : s.gpioLevels = { s with regs := s.gpioLevels.regs } := by
  unfold State.gpioLevels
  simp only
  split <;> rfl

theorem gpioLevels_rd (s : State) (a : Nat) (h : a ≠ Reg.GPIO_IRQ) : s.gpioLevels.rd a = s.rd a := by
  unfold State.gpioLevels
  simp only
  split
  · rw [State.rd_orReg, if_neg h]
  · rfl

/-- Doorbells: registers and `ten`. -/
theorem doorbells_eq (s : State) : s.doorbells = { s with regs := s.doorbells.regs, ten := s.doorbells.ten } := by
  unfold State.doorbells
  split
  · rfl
  · simp only
    rw [doorbell_fold]

/-- The lines that ring a doorbell belong to tenants 0 to 1023. -/
theorem deliverable_lt (s : State) {c : Nat} (h : c ∈ s.deliverable) : c / 16 < 1024 := by
  simp only [State.deliverable, List.mem_filter, Bool.and_eq_true, decide_eq_true_eq] at h
  exact h.2.1.1

theorem doorbells_rd (s : State) (a : Nat) (h : a < Reg.VIR_DB 0 ∨ Reg.VIR_DB 32 ≤ a) : s.doorbells.rd a = s.rd a := by
  unfold State.doorbells
  split
  · rfl
  · simp only
    rw [doorbell_fold_rd]
    · rfl
    · intro c hc
      have hc' := deliverable_lt s (List.mem_filter.1 hc).1
      simp only [Reg.VIR_DB] at h ⊢
      omega

/-! ## `settle` -/

/-- `settle` changes registers, `ten` and `saf` alone. -/
theorem settle_eq (s : State) :
    s.settle = { s with regs := s.settle.regs, ten := s.settle.ten, saf := s.settle.saf } := by
  have h : s.settle = s.clockEnds.outputsSettle.gpioLevels.doorbells := rfl
  rw [h, doorbells_eq, gpioLevels_eq, outputsSettle_eq]
  rfl

/-- A register that follows no level keeps its word. -/
theorem settle_rd (s : State) (a : Nat) (h : levelReg a = false) : s.settle.rd a = s.rd a := by
  simp only [levelReg, Bool.or_eq_false_iff, decide_eq_false_iff_not, Bool.and_eq_false_iff, not_le, not_lt] at h
  have e : s.settle = s.clockEnds.outputsSettle.gpioLevels.doorbells := rfl
  rw [e, doorbells_rd _ _ h.2, gpioLevels_rd _ _ h.1.2, outputsSettle_rd _ _ h.1.1]
  rfl

@[simp] theorem settle_pending (s : State) : s.settle.pending = s.pending := by rw [settle_eq]
@[simp] theorem settle_freeCtr (s : State) : s.settle.freeCtr = s.freeCtr := by rw [settle_eq]
@[simp] theorem settle_core (s : State) : s.settle.core = s.core := by rw [settle_eq]
@[simp] theorem settle_tmb (s : State) : s.settle.tmb = s.tmb := by rw [settle_eq]
@[simp] theorem settle_hrv (s : State) : s.settle.hrv = s.hrv := by rw [settle_eq]
@[simp] theorem settle_pwr (s : State) : s.settle.pwr = s.pwr := by rw [settle_eq]
@[simp] theorem settle_lcs (s : State) : s.settle.lcs = s.lcs := by rw [settle_eq]
@[simp] theorem settle_bus (s : State) : s.settle.bus = s.bus := by rw [settle_eq]
@[simp] theorem settle_dma (s : State) : s.settle.dma = s.dma := by rw [settle_eq]
@[simp] theorem settle_pins (s : State) : s.settle.pins = s.pins := by rw [settle_eq]
@[simp] theorem settle_gtc (s : State) : s.settle.gtc = s.gtc := by rw [settle_eq]
@[simp] theorem settle_stc (s : State) : s.settle.stc = s.stc := by rw [settle_eq]
@[simp] theorem settle_pool (s : State) : s.settle.pool = s.pool := by rw [settle_eq]
@[simp] theorem settle_msr (s : State) : s.settle.msr = s.msr := by rw [settle_eq]
@[simp] theorem settle_tch (s : State) : s.settle.tch = s.tch := by rw [settle_eq]
@[simp] theorem settle_pnl (s : State) : s.settle.pnl = s.pnl := by rw [settle_eq]
@[simp] theorem settle_dgs (s : State) : s.settle.dgs = s.dgs := by rw [settle_eq]
@[simp] theorem settle_lnk (s : State) : s.settle.lnk = s.lnk := by rw [settle_eq]
@[simp] theorem settle_hdp (s : State) : s.settle.hdp = s.hdp := by rw [settle_eq]
@[simp] theorem settle_store (s : State) : s.settle.store = s.store := by rw [settle_eq]
@[simp] theorem settle_saddle (s : State) : s.settle.saddle = s.saddle := by rw [settle_eq]
@[simp] theorem settle_nvm (s : State) : s.settle.nvm = s.nvm := by rw [settle_eq]

/-- Of `ten`, `settle` moves the deliverable lines it has looked at alone. -/
theorem settle_ten (s : State) : s.settle.ten = { s.ten with deliv := s.settle.ten.deliv } := by
  have e : s.settle = s.clockEnds.outputsSettle.gpioLevels.doorbells := rfl
  have hg : s.clockEnds.outputsSettle.gpioLevels.ten = s.ten := by rw [gpioLevels_eq, outputsSettle_eq]; rfl
  rw [e, ← hg]
  unfold State.doorbells
  split
  · rfl
  · simp only
    rw [doorbell_fold]

@[simp] theorem settle_table (s : State) : s.settle.ten.table = s.ten.table := by rw [settle_ten]
@[simp] theorem settle_latches (s : State) : s.settle.ten.latches = s.ten.latches := by rw [settle_ten]

/-- A field of a register that follows no level. -/
theorem settle_f (s : State) (a lo n : Nat) (h : levelReg a = false) : s.settle.f a lo n = s.f a lo n := by
  simp [State.f, settle_rd s a h]

theorem settle_bit (s : State) (a i : Nat) (h : levelReg a = false) : s.settle.bit a i = s.bit a i := by
  simp [State.bit, settle_rd s a h]

@[simp] theorem settle_g (s : State) (r : Fin 16) : s.settle.g r = s.g r := by simp [State.g]
@[simp] theorem settle_pc (s : State) : s.settle.pc = s.pc := by simp [State.pc]
@[simp] theorem settle_powered (s : State) : s.settle.powered = s.powered := by simp [State.powered]
@[simp] theorem settle_deep (s : State) : s.settle.deep = s.deep := by simp [State.deep]

/-! ## `finish` -/

/-- Where nothing is under way beside the command, `finish` is `settle`. -/
theorem finish_calm {s : State} (h : s.calm) : s.finish = s.settle := by
  obtain ⟨_, h1, h0, h2, h3, h4⟩ := h
  have e0 : s.serveHeld = s := by simp [State.serveHeld, h0, State.serveWaits]
  have e1 : s.retryStalled = s := by simp [State.retryStalled, h1]
  have e2 : s.stepEnd = s := by simp [State.stepEnd, h2]
  have e3 : s.stepBegin = s := by simp [State.stepBegin, h2]
  have e4 : s.bootStep = s := by simp [State.bootStep, State.bootLoop, h3, h4]
  rw [State.finish, e0, e1, e2, e3, e4]

/-- A command from outside the core on a calm state whose effect leaves it calm. -/
theorem cmd_calm {s : State} {f : State → State} (h : s.calm) (hf : (f s).calm) : s.cmd f = (f s).settle := by
  rw [State.cmd, if_pos h.1, finish_calm hf]

/-- In a part without power a command does nothing. -/
theorem cmd_off {s : State} {f : State → State} (h : s.powered = false) : s.cmd f = s := by simp [State.cmd, h]

/-- Being calm asks for six fields alone. -/
theorem calm_of {s t : State} (h : s.calm) (hh : t.hrv = s.hrv) (hc : t.core.stalled = s.core.stalled)
    (hb : t.bus.held = s.bus.held) (hd : t.hdp.stepping = s.hdp.stepping) (hp : t.pwr.boot = s.pwr.boot)
    (hr : t.rd Reg.LCS_BOOT = s.rd Reg.LCS_BOOT) : t.calm := by
  obtain ⟨h0, h1, h5, h2, h3, h4⟩ := h
  refine ⟨?_, hc.trans h1, hb.trans h5, hd.trans h2, hp.trans h3, ?_⟩
  · simpa [State.powered, hh] using h0
  · simpa [State.f, hr] using h4

/-- A register write other than to LCS_BOOT leaves a calm state calm. -/
theorem calm_wr {s : State} (h : s.calm) (a : Nat) (v : Word) (ha : Reg.LCS_BOOT ≠ a) : (s.wr a v).calm :=
  calm_of h rfl rfl rfl rfl rfl (State.rd_wr_ne s v ha)

end Sys2Proof.Machine
end

