-- ==== Sys2Proof/Laws/Fetch.lean ====
section
/-!
SUPPORT. What a fetch does to the core: it may fill the instruction cache, and an error it reports may raise the NMI; every
other register of the core keeps.
-/
namespace Sys2Proof.Machine

/-- What no fetch touches: the core but for its cache and a raised NMI, and `State.rest`. -/
def SameCore (s t : State) : Prop :=
  t.core = { s.core with icache := t.core.icache, nmi := t.core.nmi } ∧ t.rest = s.rest

/-- The core and the rest as one value, which each step below keeps. -/
def State.corest (s : State) : Core × State.Rest := (s.core, s.rest)

theorem SameCore.of_eq {s t : State} (h : t.corest = s.corest) : SameCore s t := by
  have h1 : t.core = s.core := congrArg Prod.fst h
  exact ⟨by rw [h1], congrArg Prod.snd h⟩

theorem SameCore.trans {s t u : State} (h : SameCore s t) (k : SameCore t u) : SameCore s u := by
  obtain ⟨h1, h2⟩ := h
  obtain ⟨k1, k2⟩ := k
  rw [h1] at k1
  exact ⟨k1, k2.trans h2⟩

theorem SameCore.rfl (s : State) : SameCore s s := SameCore.of_eq (Eq.refl _)

@[simp] theorem wr_corest (s : State) (a : Nat) (v : Word) : (s.wr a v).corest = s.corest := Eq.refl _
@[simp] theorem setF_corest (s : State) (a lo n v : Nat) : (s.setF a lo n v).corest = s.corest := Eq.refl _
@[simp] theorem putBit_corest (s : State) (a i : Nat) (b : Bool) : (s.putBit a i b).corest = s.corest := Eq.refl _
@[simp] theorem setBit_corest (s : State) (a i : Nat) : (s.setBit a i).corest = s.corest := Eq.refl _
@[simp] theorem clrBit_corest (s : State) (a i : Nat) : (s.clrBit a i).corest = s.corest := Eq.refl _
@[simp] theorem incSat_corest (s : State) (a lo n : Nat) : (s.incSat a lo n).corest = s.corest := Eq.refl _

/-! ## The safety function -/

@[simp] theorem safOut_corest (s : State) : s.safOut.corest = s.corest := Eq.refl _
@[simp] theorem clearReq_corest (s : State) (m : Word) : (s.clearReq m).corest = s.corest := Eq.refl _
@[simp] theorem safCond_corest (s : State) : s.safCond.corest = s.corest := Eq.refl _
@[simp] theorem safNote_corest (s : State) (w : Word) : (s.safNote w).corest = s.corest := Eq.refl _

@[simp] theorem safGroup_corest (s : State) (g : Nat) (w : Word) : (s.safGroup g w).corest = s.corest := by
  unfold State.safGroup
  simp only [clearReq_corest, setBit_corest]
  split <;> simp

@[simp] theorem queueHeartbeat_corest (s : State) (b : Bool) : (s.queueHeartbeat b).corest = s.corest := by
  unfold State.queueHeartbeat; split <;> rfl

@[simp] theorem trigger_corest (s : State) (c : ResetCause) : (s.trigger c).corest = s.corest := by
  unfold State.trigger; split <;> rfl

/-- A choice of two states that both keep the core. -/
theorem SameCore.ite {s a b : State} {p : Prop} [Decidable p] (ha : SameCore s a) (hb : SameCore s b) :
    SameCore s (if p then a else b) := by
  split
  · exact ha
  · exact hb

theorem nmi_same (u : State) : SameCore u { u with core := { u.core with nmi := true } } := ⟨Eq.refl _, Eq.refl _⟩

theorem esc_same (u : State) : SameCore u { (u.setBit Reg.SAF_STAT 8) with saf := { u.saf with esc := 0 } } :=
  ⟨Eq.refl _, Eq.refl _⟩

theorem capture_same (u : State) (a b c d : Word) :
    SameCore u ((((u.wr Reg.SAF_FW a).wr Reg.SAF_FCYC b).wr Reg.SAF_FRTC c).wr Reg.SAF_FINFO d) := .of_eq (by simp)

theorem safStart_same (s : State) : SameCore s ((s.setBit Reg.SAF_STAT 0).incSat Reg.SAF_STAT 16 16) := .of_eq (by simp)

theorem captured_same (u : State) : SameCore u { u with saf := { u.saf with nowCaptured := true } } := ⟨Eq.refl _, Eq.refl _⟩

theorem last_same (u v : State) (w : Word) :
    SameCore v { (v.wr Reg.SAF_LASTFW w) with saf := { u.saf with now := some w } } := ⟨Eq.refl _, Eq.refl _⟩

/-- The captures of a SAFE fault leave the core. -/
theorem safCapture_same (s : State) (w : Word) (aid : Nat) : SameCore s (s.safCapture w aid) := by
  unfold State.safCapture
  have h : SameCore s (if s.bit Reg.SAF_FINFO 31 && !(s.saf.nowCaptured && s.safBefore w) then s
      else { (((s.wr Reg.SAF_FW w).wr Reg.SAF_FCYC (s.rd Reg.TMB_CYCCNT)).wr Reg.SAF_FRTC (s.rd Reg.RTC_SEC)).wr
        Reg.SAF_FINFO (word (0x80000000 + aid % 2048)) with saf := { s.saf with nowCaptured := true } }) :=
    .ite (.rfl _) ((capture_same _ _ _ _ _).trans (captured_same _))
  exact .ite (h.trans (last_same _ _ _)) h

theorem safLatch_same (u : State) : SameCore u ((u.setBit Reg.SAF_IRQ 1).clearReq 0xFFFF) := .of_eq (by simp)

/-- The safe state leaves the core but for the NMI it raises (R419). -/
theorem safSafe_same (s : State) (w : Word) (aid : Nat) (nmi : Bool) : SameCore s (s.safSafe w aid nmi) := by
  unfold State.safSafe
  exact .ite ((((((safStart_same s).trans (.ite (.of_eq (clrBit_corest _ _ _)) (.rfl _))).trans
    (safCapture_same _ w aid)).trans (safLatch_same _)).trans (.ite (nmi_same _) (.rfl _))).trans
      (.ite (.rfl _) (esc_same _)) |>.trans (.of_eq (safCond_corest _)) |>.trans (.of_eq (queueHeartbeat_corest _ _)))
    ((((((safStart_same s).trans (.ite (.of_eq (clrBit_corest _ _ _)) (.rfl _))).trans
    (safCapture_same _ w aid)).trans (safLatch_same _)).trans (.ite (nmi_same _) (.rfl _))).trans
      (.ite (.rfl _) (esc_same _)) |>.trans (.of_eq (safCond_corest _)))

theorem escDomain_same (u : State) (c : ResetCause) (n : Nat) :
    SameCore u { (u.trigger c) with lcs := { (u.trigger c).lcs with escDomain := n } } :=
  (SameCore.of_eq (trigger_corest u c)).trans ⟨Eq.refl _, Eq.refl _⟩

/-- A report leaves the core but for the NMI it may raise (R418). -/
theorem safReport_same (s : State) (w : Word) (aid : Nat) : SameCore s (s.safReport w aid) := by
  unfold State.safReport State.safReportIn
  split
  · exact SameCore.rfl s
  · split
    · simp only
      split
      · exact (safSafe_same s w aid false).trans (SameCore.of_eq (trigger_corest _ _))
      · exact (safSafe_same s w aid false).trans (escDomain_same _ _ _)
    · split
      · exact safSafe_same s w aid true
      · split
        · exact SameCore.of_eq (safGroup_corest _ _ _)
        · exact SameCore.of_eq (safNote_corest _ _)
      · exact SameCore.of_eq (safNote_corest _ _)

/-! ## Reads at the Store and in Saddle RAM -/

/-- What a first capture of an error leaves. -/
theorem capture_corest (u : State) (a b : Word) :
    (if u.bit Reg.STC_ECCINFO 31 then u else (u.wr Reg.STC_ECCADDR a).wr Reg.STC_ECCINFO b).corest = u.corest := by
  split
  · exact Eq.refl _
  · rw [wr_corest, wr_corest]

theorem eccCount_corest (s : State) : ((s.incSat Reg.STC_ECCCNT 16 16).setBit Reg.STC_ECCCTL 17).corest = s.corest := by
  rw [setBit_corest, incSat_corest]

theorem storeUE_same (s : State) (src code mid aid slot off syn : Nat) :
    SameCore s (s.storeUE src code mid aid slot off syn) := by
  rw [State.storeUE]
  exact SameCore.trans (SameCore.of_eq ((capture_corest _ _ _).trans (eccCount_corest s))) (safReport_same _ _ _)

theorem storeWord_same (s : State) (slot off src code mid aid : Nat) :
    SameCore s (s.storeWord slot off src code mid aid).s := by
  unfold State.storeWord
  simp only
  split
  · exact SameCore.rfl s
  · exact SameCore.of_eq (by simp [State.storeCE])
  · exact storeUE_same _ _ _ _ _ _ _ _

/-- A fold of reads keeps what each read keeps. -/
theorem foldl_same {β γ : Type} (l : List β) (st : γ → State) (f : γ → β → γ) (x : γ) (h : ∀ x b, SameCore (st x) (st (f x b))) :
    SameCore (st x) (st (l.foldl f x)) := by
  induction l generalizing x with
  | nil => exact SameCore.rfl _
  | cons b t ih => exact (h x b).trans (ih _)

theorem storeRead_same (s : State) (slot off n mid aid : Nat) : SameCore s (s.storeRead slot off n mid aid).s := by
  unfold State.storeRead
  exact foldl_same (wordsOf off n) (fun r : BytesRead × Nat => r.1.s) _ (⟨s, 0, none⟩, 0)
    fun x w => storeWord_same x.1.s slot w 0 1 mid aid

theorem saddleWord_same (s : State) (a aid : Nat) : SameCore s (s.saddleWord a aid).s := by
  unfold State.saddleWord
  simp only
  split
  · exact SameCore.rfl s
  · exact SameCore.rfl s
  · exact safReport_same _ _ _

theorem saddleRead_same (s : State) (a n aid : Nat) : SameCore s (s.saddleRead a n aid).s := by
  unfold State.saddleRead
  exact foldl_same (wordsOf a n) (fun r : BytesRead × Nat => r.1.s) _ (⟨s, 0, none⟩, 0)
    fun x w => saddleWord_same x.1.s w aid

/-! ## The interconnect -/

theorem errRecord_corest (s : State) (k : Nat) (r : Req) : (s.errRecord k r).corest = s.corest := by
  unfold State.errRecord; split <;> rfl

theorem abortAns_same (s : State) (k : Nat) (r : Req) : SameCore s (s.abortAns k r).s :=
  SameCore.of_eq (errRecord_corest s k r)

theorem gateCapture_corest (u : State) (n : Nat) (a b : Word) :
    (if u.bit (Reg.GATE_VSTAT n) 0 then u
      else ((u.wr (Reg.GATE_VADDR n) a).wr (Reg.GATE_VINFO n) b).setBit (Reg.GATE_VSTAT n) 0).corest = u.corest := by
  split
  · exact Eq.refl _
  · rw [setBit_corest, wr_corest, wr_corest]

theorem gateWrite_corest (u : State) (n : Nat) (p : Prop) [Decidable p] :
    (if p then u.setBit (Reg.GATE_VSTAT n) 1 else u).corest = u.corest := by
  split
  · rw [setBit_corest]
  · exact Eq.refl _

theorem gateDeny_corest (s : State) (n m a path : Nat) (r : Req) : (s.gateDeny n m a path r).corest = s.corest := by
  rw [State.gateDeny]
  exact (gateWrite_corest _ n _).trans ((gateCapture_corest _ n _ _).trans (incSat_corest _ _ _ _))

theorem gateCheck_same (s : State) (n a path : Nat) (r : Req) : SameCore s (s.gateCheck n a path r).s := by
  unfold State.gateCheck
  split
  · exact SameCore.rfl s
  · exact SameCore.of_eq (gateDeny_corest _ _ _ _ _ _)

theorem hold_corest (s : State) (d : Domain) (w : Waiter) (a : Nat) (r : Req) : (s.hold d w a r).corest = s.corest := rfl

theorem granted_corest (s : State) (p c m : Nat) : (s.granted p c m).corest = s.corest := rfl

theorem unhold_corest (s : State) (h : Held) : (s.unhold h).corest = s.corest := rfl

theorem bounce_same (s : State) (k : Nat) (r : Req) : SameCore s (s.bounce k r).s := by
  unfold State.bounce
  refine SameCore.trans (SameCore.of_eq ?_) (abortAns_same _ _ _)
  split <;> simp

theorem powerUp_corest (s : State) (d : Domain) : (s.powerUp d).corest = s.corest := by
  unfold State.powerUp; split <;> rfl

theorem wakeDomain_corest (s : State) (d : Domain) : (s.wakeDomain d).corest = s.corest := by
  unfold State.wakeDomain
  simp only
  split
  · rfl
  · rw [powerUp_corest]; rfl

theorem policyAns_same (s : State) (d : Domain) (w : Waiter) (a : Nat) (r : Req) {x : Ans} (h : s.policyAns d w a r = some x) :
    SameCore s x.s := by
  unfold State.policyAns at h
  split at h
  · cases h; exact SameCore.of_eq (hold_corest _ _ _ _ _)
  split at h
  · cases h; exact bounce_same _ _ _
  split at h
  · cases h
  split at h
  · cases h
  split at h
  · cases h; exact SameCore.of_eq (hold_corest _ _ _ _ _)
  split at h
  · cases h; exact bounce_same _ _ _
  · cases h
    exact SameCore.of_eq ((hold_corest _ _ _ _ _).trans (wakeDomain_corest _ _))

theorem readAns_s (x : BytesRead) (f : Nat → Nat) : (readAns x f).s = x.s := by
  unfold readAns; split <;> exact Eq.refl _

theorem storeAt_fetch_same (s : State) (a n data at_ : Nat) (r : Req) (hr : r.kind = .fetch) :
    SameCore s (s.storeAt a n data at_ r).s := by
  unfold State.storeAt
  simp only [hr, readAns_s]
  exact storeRead_same _ _ _ _ _ _

/-- One beat of a fetch. -/
theorem beatAt_fetch_same (s : State) (g : Region) (a n data at_ : Nat) (r : Req) (hr : r.kind = .fetch) :
    SameCore s (s.beatAt g a n data at_ r).s := by
  have hw : ¬(r.kind.writes = true) := by simp [hr, ReqKind.writes]
  unfold State.beatAt
  extract_lets rb
  split
  · rw [if_neg hw]; exact SameCore.rfl s
  · rw [if_neg hw, readAns_s]; exact saddleRead_same _ _ _ _
  · exact SameCore.rfl s
  · split
    · exact abortAns_same _ _ _
    · exact storeAt_fetch_same _ _ _ _ _ _ hr
  · split
    · exact abortAns_same _ _ _
    · exact storeAt_fetch_same _ _ _ _ _ _ hr
  · exact abortAns_same _ _ _

theorem beats_fetch_same (s : State) (g : Region) (a : Nat) (r : Req) (hr : r.kind = .fetch) : SameCore s (s.beats g a r).s := by
  unfold State.beats
  split
  · exact beatAt_fetch_same _ _ _ _ _ _ _ hr
  · exact (beatAt_fetch_same _ _ _ _ _ _ _ hr).trans (beatAt_fetch_same _ _ _ _ _ _ _ hr)
  · exact SameCore.rfl s

/-- The effect of a fetch that its region does not refuse: the register blocks, their mirrors, the Store's aliases and core space
refuse it before it has an effect; a fetch from core space is not issued at all (R166), and is left out here. -/
theorem perform_fetch_same (s : State) (g : Region) (a : Nat) (r : Req) (hr : r.kind = .fetch) (hm : r.mid ≠ 0)
    (hk : refusalKind g r = none) : SameCore s (s.perform g a r).s := by
  unfold State.perform
  simp only
  split
  · simp [refusalKind, hr, ReqKind.atomic, ReqKind.isWrite] at hk
  · simp [refusalKind, hr, ReqKind.atomic, ReqKind.isWrite] at hk
  · simp [refusalKind, hr, ReqKind.isFetch] at hk
  · simp [refusalKind, hr, hm, ReqKind.atomic] at hk
  · exact beats_fetch_same _ _ _ _ hr

/-- A fetch at its target. -/
theorem atTarget_fetch_same (s : State) (g : Region) (a : Nat) (r : Req) (who : Waiter) (hr : r.kind = .fetch) (hm : r.mid ≠ 0) :
    SameCore s (s.atTarget g a r who).s := by
  unfold State.atTarget
  split
  · exact abortAns_same _ _ _
  · rename_i hk
    split
    · exact abortAns_same _ _ _
    · split
      · rename_i x hx; exact policyAns_same _ _ _ _ _ hx
      · split
        · exact SameCore.of_eq (hold_corest _ _ _ _ _)
        · have hk' : refusalKind g r = none := by
            split at hk
            · cases hk
            · exact hk
          exact (SameCore.of_eq (granted_corest _ _ _ _)).trans (perform_fetch_same _ _ _ _ hr hm hk')

theorem issue_fetch_same (s : State) (r : Req) (who : Waiter) (hr : r.kind = .fetch) (hm : r.mid ≠ 0) :
    SameCore s (s.issue r who).s := by
  unfold State.issue
  split
  · exact abortAns_same _ _ _
  · split
    · split
      · simp only
        split
        · exact (gateCheck_same _ _ _ _ _).trans (atTarget_fetch_same _ _ _ _ _ hr hm)
        · exact gateCheck_same _ _ _ _ _
      · exact atTarget_fetch_same _ _ _ _ _ hr hm
    · exact atTarget_fetch_same _ _ _ _ _ hr hm

/-- A fetch that waits goes on, or waits on. -/
theorem goesOn_fetch_same (s : State) (h : Held) (hr : h.req.kind = .fetch) (hm : h.req.mid ≠ 0) : SameCore s (s.goesOn h).s := by
  have hu : SameCore s (s.unhold h) := SameCore.of_eq (unhold_corest s h)
  unfold State.goesOn
  split
  · exact hu.trans (abortAns_same _ _ _)
  · split
    · simp only
      split
      · exact hu.trans (abortAns_same _ _ _)
      · rename_i hk; exact hu.trans (perform_fetch_same _ _ _ _ hr hm hk)
    · exact SameCore.rfl s

theorem access_fetch_same (s : State) (r : Req) (who : Waiter) (hr : r.kind = .fetch) (hm : r.mid ≠ 0) :
    SameCore s (s.access r who).s := by
  unfold State.access
  split
  · rename_i h hf
    have hp := List.find?_some hf
    simp only [Held.isFor, Bool.and_eq_true, decide_eq_true_eq] at hp
    exact goesOn_fetch_same s h (hp.1.1.1.2.trans hr) (by rw [hp.2]; exact hm)
  · exact issue_fetch_same _ _ _ hr hm

/-! ## The fetch -/

theorem cacheFill_same (s : State) (w : Word) : SameCore s (s.cacheFill w) := ⟨Eq.refl _, Eq.refl _⟩

theorem fetchBus_same (s : State) : SameCore s s.fetchBus.s := by
  have h := access_fetch_same s s.fetchReq .coreFetch rfl (by simp [State.fetchReq])
  unfold State.fetchBus
  simp only
  split <;> first | exact h | exact h.trans (cacheFill_same _ _)

/-- The core after a fetch, but for its cache and a raised NMI, is the core before it. -/
theorem fetch_same (s : State) : SameCore s s.fetch.s := by
  unfold State.fetch
  split
  · exact SameCore.rfl s
  · split
    · split
      · exact SameCore.of_eq (Eq.refl _)
      · exact (SameCore.of_eq (t := s.tickFree) (Eq.refl _)).trans (fetchBus_same _)
    · exact fetchBus_same s

/-- The registers of the core after a fetch. -/
theorem fetch_core (s : State) :
    s.fetch.s.core = { s.core with icache := s.fetch.s.core.icache, nmi := s.fetch.s.core.nmi } := (fetch_same s).1

/-- What else a fetch cannot touch. -/
theorem fetch_rest (s : State) : s.fetch.s.rest = s.rest := (fetch_same s).2

theorem fetch_g (s : State) (r : Fin 16) : s.fetch.s.g r = s.g r := by unfold State.g; rw [fetch_core]
theorem fetch_pc (s : State) : s.fetch.s.pc = s.pc := by unfold State.pc; rw [fetch_core]
theorem fetch_cc (s : State) : s.fetch.s.core.cc = s.core.cc := by rw [fetch_core]
theorem fetch_status (s : State) : s.fetch.s.core.status = s.core.status := by rw [fetch_core]
theorem fetch_astat (s : State) : s.fetch.s.core.astat = s.core.astat := by rw [fetch_core]
theorem fetch_tid (s : State) : s.fetch.s.core.tid = s.core.tid := by rw [fetch_core]
theorem fetch_buf (s : State) : s.fetch.s.core.buf = s.core.buf := by rw [fetch_core]
theorem fetch_tenantMode (s : State) : s.fetch.s.tenantMode = s.tenantMode := by unfold State.tenantMode; rw [fetch_core]
theorem fetch_store (s : State) : s.fetch.s.store = s.store := congrArg State.Rest.store (fetch_rest s)
theorem fetch_saddle (s : State) : s.fetch.s.saddle = s.saddle := congrArg State.Rest.saddle (fetch_rest s)
theorem fetch_nvm (s : State) : s.fetch.s.nvm = s.nvm := congrArg State.Rest.nvm (fetch_rest s)
theorem fetch_hdp (s : State) : s.fetch.s.hdp = s.hdp := congrArg State.Rest.hdp (fetch_rest s)
theorem fetch_pending (s : State) : s.fetch.s.pending = s.pending := congrArg State.Rest.pending (fetch_rest s)

end Sys2Proof.Machine
end

