-- ==== Sys2Proof/Laws/Execute.lean ====
section
/-!
SUPPORT. How an instruction that is executed ends: its effect on the state after the fetch, then `settle`.
-/
namespace Sys2Proof.Machine

/-- An instruction that is executed has its effect on the state after its fetch. -/
theorem runInstr_executes {s : State} {i : Instr} {body : State → State} (h : s.executes) (hi : i.wf = true) :
    s.runInstr i body = (body s.fetch.s).settle := by
  obtain ⟨h1, h2, w, h3⟩ := h
  simp [State.runInstr, State.coreInstr, FetchAns.instr, h1, h2, h3, hi]

/-- `settle` leaves `State.rest`. -/
theorem settle_rest (s : State) : s.settle.rest = s.rest := by
  unfold State.rest
  rw [settle_ten]
  simp

/-- A change of the core alone ends in what `Executed` says. -/
theorem executed_core (s : State) (f : Core → Core) (c : Core)
    (h : f s.fetch.s.core = { c with icache := s.fetch.s.core.icache, nmi := s.fetch.s.core.nmi }) :
    Executed s ({ s.fetch.s with core := f s.fetch.s.core } : State).settle c := by
  refine ⟨?_, ?_, fun a ha => settle_rd _ a ha, ?_, ?_, ?_, ?_, ?_⟩
  · rw [settle_core]; exact h
  · rw [settle_rest]; exact fetch_rest s
  all_goals simp

/-- An instruction that is executed, and whose effect is on the core alone, completes. -/
theorem completes_of {s : State} {i : Instr} {body : State → State} {c : Core} (f : Core → Core) (h : s.executes)
    (hi : i.wf = true) (he : exec i s = .next (s.runInstr i body))
    (hb : ∀ u : State, u.core = s.fetch.s.core → body u = { u with core := f u.core })
    (hc : f s.fetch.s.core = { c with icache := s.fetch.s.core.icache, nmi := s.fetch.s.core.nmi }) : Completes i s c := by
  refine ⟨_, he, ?_⟩
  rw [runInstr_executes h hi, hb _ rfl]
  exact executed_core s f c hc

/-- A register of the state after the fetch is that of the state before. -/
theorem g_of {s u : State} (hu : u.core = s.fetch.s.core) (r : Fin 16) : u.g r = s.g r := by
  rw [← fetch_g s r]; unfold State.g; rw [hu]

theorem cc_of {s u : State} (hu : u.core = s.fetch.s.core) : u.core.cc = s.core.cc := by rw [← fetch_cc s, hu]

theorem pc_of {s u : State} (hu : u.core = s.fetch.s.core) : u.pc = s.pc := by
  rw [← fetch_pc s]; unfold State.pc; rw [hu]

theorem astat_of {s u : State} (hu : u.core = s.fetch.s.core) : u.core.astat = s.core.astat := by rw [← fetch_astat s, hu]

/-- An instruction that retires with a result and flags. -/
theorem completes_result {s : State} {i : Instr} {body : State → State} {rd : Fin 16} {v : Word} {f : CC} (h : s.executes)
    (hi : i.wf = true) (he : exec i s = .next (s.runInstr i body))
    (hb : ∀ u : State, u.core = s.fetch.s.core → body u = u.retire rd v f) : Completes i s (s.core.result rd v f) := by
  refine completes_of (fun c => c.result rd v f) h hi he (fun u hu => hb u hu) ?_
  simp only [Core.result, Core.next]
  rw [fetch_core]

/-- An instruction that retires with flags alone. -/
theorem completes_flags {s : State} {i : Instr} {body : State → State} {f : CC} (h : s.executes) (hi : i.wf = true)
    (he : exec i s = .next (s.runInstr i body))
    (hb : ∀ u : State, u.core = s.fetch.s.core → body u = (u.setCC f).advance) : Completes i s (s.core.flags f) := by
  refine completes_of (fun c => c.flags f) h hi he (fun u hu => hb u hu) ?_
  simp only [Core.flags, Core.next]
  rw [fetch_core]

/-- An instruction that changes PC alone. -/
theorem completes_pc {s : State} {i : Instr} {body : State → State} {w : Word} (h : s.executes) (hi : i.wf = true)
    (he : exec i s = .next (s.runInstr i body)) (hb : ∀ u : State, u.core = s.fetch.s.core → body u = u.setPc w) :
    Completes i s { s.core with pc := w &&& 0xFFFFFFFC } := by
  refine completes_of (fun c => { c with pc := w &&& 0xFFFFFFFC }) h hi he (fun u hu => hb u hu) ?_
  rw [fetch_core]

/-- An instruction that has written its results and signals to ASTAT without a trap. -/
theorem completes_sticky {s : State} {i : Instr} {body : State → State} {c : Core} {m : Word} {b : Bool} (f : Core → Core)
    (h : s.executes) (hi : i.wf = true) (he : exec i s = .next (s.runInstr i body))
    (hb : ∀ u : State, u.core = s.fetch.s.core → body u = { u with core := (f u.core).sticky m b })
    (hc : f s.fetch.s.core = { c with icache := s.fetch.s.core.icache, nmi := s.fetch.s.core.nmi }) :
    Completes i s (c.sticky m b) := by
  refine completes_of (fun c => (f c).sticky m b) h hi he hb ?_
  simp only [hc, Core.sticky]
  cases b <;> rfl

/-- Overflow with its trap disabled sets the sticky bit alone. -/
theorem signalOv_quiet (u : State) (ov : Bool) (v : Word) (h : wbit u.core.astat 9 = false) :
    u.signalOv ov v = { u with core := u.core.sticky 2 ov } := by
  have h2 : wbit (u.core.astat ||| 2) 9 = false := by
    rw [wbit_or, h]; rfl
  unfold State.signalOv Core.sticky
  cases ov
  · rfl
  · simp only [h2]; rfl

/-- Division by zero with its trap disabled sets the sticky bit alone. -/
theorem signalDz_quiet (u : State) (dz : Bool) (v : Word) (h : wbit u.core.astat 8 = false) :
    u.signalDz dz v = { u with core := u.core.sticky 1 dz } := by
  have h2 : wbit (u.core.astat ||| 1) 8 = false := by
    rw [wbit_or, h]; rfl
  unfold State.signalDz Core.sticky
  cases dz
  · rfl
  · simp only [h2]; rfl

end Sys2Proof.Machine
end

