-- ==== Sys2Proof/Laws/Flags.lean ====
section
/-!
SUPPORT. The flag computations in numbers.
-/
namespace Sys2Proof.Machine

theorem msb_eq_neg (r : Word) : r.msb = decide (r.toInt < 0) := by
  rw [BitVec.msb_eq_toInt]

/-- N and Z of a result. -/
theorem ccNZ_eq (f : CC) (r : Word) : ccNZ f r = signCC f r := by simp [ccNZ, signCC, msb_eq_neg]

theorem word_b2n (b : Bool) : word (b2n b) = BitVec.ofNat 32 (bit01 b) := by cases b <;> rfl

theorem b2n_eq (b : Bool) : b2n b = bit01 b := by cases b <;> rfl

/-- The sum of R197. -/
theorem addcResult_eq (x y : Word) (c : Bool) : addcResult x y c = x + y + BitVec.ofNat 32 (bit01 c) := by
  rw [addcResult, word_b2n]

/-- The difference of R197. -/
theorem subbResult_eq (x y : Word) (b : Bool) : subbResult x y b = x - y - BitVec.ofNat 32 (bit01 b) := by
  rw [subbResult, addcResult_eq]
  cases b <;> simp [bit01, BitVec.not_eq_neg_add] <;> bv_omega

/-- The flags of an addition. -/
theorem ccAdd_eq (x y : Word) (c : Bool) : ccAdd x y c = sumCC x y c := by
  simp only [ccAdd, sumCC, addcResult_eq, addcCarry, addcOverflow, b2n_eq, msb_eq_neg, CC.mk.injEq, true_and]
  have hx := BitVec.toInt_eq_toNat_cond x
  have hy := BitVec.toInt_eq_toNat_cond y
  have hr := BitVec.toInt_eq_toNat_cond (x + y + BitVec.ofNat 32 (bit01 c))
  have h := BitVec.toNat_add (x + y) (BitVec.ofNat 32 (bit01 c))
  rw [BitVec.toNat_add] at h
  have hx' := x.isLt
  have hy' := y.isLt
  cases c <;> simp [bit01] at * <;> (rw [Bool.eq_iff_iff]; simp; split_ifs at * <;> omega)

/-- The flags of a subtraction. -/
theorem ccSub_eq (x y : Word) (b : Bool) : ccSub x y b = diffCC x y b := by
  simp only [ccSub, diffCC, subbResult_eq, addcCarry, b2n_eq, msb_eq_neg, CC.mk.injEq, true_and]
  have hx := BitVec.toInt_eq_toNat_cond x
  have hy := BitVec.toInt_eq_toNat_cond y
  have hr := BitVec.toInt_eq_toNat_cond (x - y - BitVec.ofNat 32 (bit01 b))
  have h := BitVec.toNat_sub (x - y) (BitVec.ofNat 32 (bit01 b))
  rw [BitVec.toNat_sub] at h
  have hx' := x.isLt
  have hy' := y.isLt
  refine ⟨?_, ?_⟩
  · cases b <;> simp [bit01] <;> omega
  · cases b <;> simp [bit01] at * <;> (rw [Bool.eq_iff_iff]; simp; split_ifs at * <;> omega)

end Sys2Proof.Machine
end

