-- ==== Sys2Proof/Laws/Memory.lean ====
section
/-!
SUPPORT. Laws of memories: a byte that was written is read back, every other byte keeps, and every operation keeps the canonical
form.
-/
namespace Sys2Proof.Machine

/-! ## One byte -/

@[simp] theorem Mem.set_base (m : Mem) (a : Nat) (b : Byte) : (m.set a b).base = m.base := by
  unfold Mem.set; split <;> rfl

@[simp] theorem Mem.set_ecc (m : Mem) (a : Nat) (b : Byte) : (m.set a b).ecc = m.ecc := by
  unfold Mem.set; split <;> rfl

/-- The cells after a write: the byte's entry where it differs from what an unlisted address reads as, else none. -/
theorem Mem.set_cells (m : Mem) (a : Nat) (b : Byte) :
    (m.set a b).cells = if baseByte m.base a = some b then alDel m.cells a else alInsert (alDel m.cells a) a b := by
  unfold Mem.set; split <;> rfl

/-- A byte that was written is read back. -/
@[simp] theorem Mem.get?_set_self (m : Mem) (a : Nat) (b : Byte) : (m.set a b).get? a = some b := by
  rw [Mem.get?, Mem.set_cells, Mem.set_base]
  by_cases h : baseByte m.base a = some b
  · rw [if_pos h, alGet_alDel_self]; exact h
  · rw [if_neg h, alGet_alInsert_self _ _ _ (alGet_alDel_self m.cells a)]

/-- Every other byte keeps. -/
theorem Mem.get?_set_ne (m : Mem) {a c : Nat} (b : Byte) (h : c ≠ a) : (m.set a b).get? c = m.get? c := by
  rw [Mem.get?, Mem.set_cells, Mem.set_base, Mem.get?]
  split_ifs
  · rw [alGet_alDel_ne _ h]
  · rw [alGet_alInsert_ne _ _ h, alGet_alDel_ne _ h]

/-! ## Bytes at rising addresses -/

@[simp] theorem Mem.setBytes_base (m : Mem) (a : Nat) (bs : List Byte) : (m.setBytes a bs).base = m.base := by
  induction bs generalizing m a with
  | nil => rfl
  | cons b t ih => simp [Mem.setBytes, ih]

/-- Bytes outside the written range keep. -/
theorem Mem.get?_setBytes_out (m : Mem) (a : Nat) (bs : List Byte) {c : Nat} (h : c < a ∨ a + bs.length ≤ c) :
    (m.setBytes a bs).get? c = m.get? c := by
  induction bs generalizing m a with
  | nil => rfl
  | cons b t ih =>
    simp only [List.length_cons] at h
    rw [Mem.setBytes, ih _ _ (by omega), Mem.get?_set_ne _ _ (by omega)]

/-- Byte `i` of what was written is read back. -/
theorem Mem.get?_setBytes_in (m : Mem) (a : Nat) (bs : List Byte) {i : Nat} (h : i < bs.length) :
    (m.setBytes a bs).get? (a + i) = some (bs.getD i 0) := by
  induction bs generalizing m a i with
  | nil => exact absurd h (by simp)
  | cons b t ih =>
    rw [Mem.setBytes]
    cases i with
    | zero =>
      rw [Mem.get?_setBytes_out _ _ _ (.inl (by omega))]
      exact Mem.get?_set_self m a b
    | succ i =>
      have e : a + (i + 1) = a + 1 + i := by omega
      rw [e, ih _ _ (by simpa using h)]; rfl

@[simp] theorem Mem.setBytes_ecc (m : Mem) (a : Nat) (bs : List Byte) : (m.setBytes a bs).ecc = m.ecc := by
  induction bs generalizing m a with
  | nil => rfl
  | cons b t ih => simp [Mem.setBytes, ih]

/-! ## A word with its check bits -/

@[simp] theorem Mem.putWord_get? (m : Mem) (a c : Nat) (bs : List Byte) : (m.putWord a bs).get? c = (m.setBytes a bs).get? c := rfl

/-- A written word has valid check bits. -/
theorem Mem.putWord_ecc (m : Mem) (a : Nat) (bs : List Byte) : alGet (m.putWord a bs).ecc a = none := alGet_alDel_self _ _

/-! ## The canonical form -/

/-- The canonical form in three parts. -/
theorem Mem.wf_iff (m : Mem) :
    m.wf = true ↔ alSorted m.cells ∧ (∀ p ∈ m.cells, baseByte m.base p.1 ≠ some p.2) ∧ alSorted m.ecc := by
  simp [Mem.wf, alSorted, and_assoc]

/-- Writing a byte keeps the canonical form. -/
theorem Mem.wf_set {m : Mem} (h : m.wf = true) (a : Nat) (b : Byte) : (m.set a b).wf = true := by
  obtain ⟨h1, h2, h3⟩ := (Mem.wf_iff m).1 h
  rw [Mem.wf_iff]
  unfold Mem.set
  split
  · exact ⟨alSorted_alDel a h1, fun p hp => h2 p (mem_alDel hp).1, h3⟩
  · rename_i hb
    refine ⟨alSorted_alInsert b (alSorted_alDel a h1) fun p hp => (mem_alDel hp).2, fun p hp => ?_, h3⟩
    rcases mem_alInsert hp with rfl | hp
    · exact hb
    · exact h2 p (mem_alDel hp).1

/-- So does writing bytes. -/
theorem Mem.wf_setBytes {m : Mem} (h : m.wf = true) (a : Nat) (bs : List Byte) : (m.setBytes a bs).wf = true := by
  induction bs generalizing m a with
  | nil => exact h
  | cons b t ih => exact ih (Mem.wf_set h a b) _

/-- So does writing a word. -/
theorem Mem.wf_putWord {m : Mem} (h : m.wf = true) (a : Nat) (bs : List Byte) : (m.putWord a bs).wf = true := by
  obtain ⟨h1, h2, h3⟩ := (Mem.wf_iff _).1 (Mem.wf_setBytes h a bs)
  exact (Mem.wf_iff _).2 ⟨h1, h2, by simpa [Mem.putWord] using alSorted_alDel a h3⟩

/-- So does marking a word that was just written. -/
theorem Mem.wf_mark {m : Mem} (h : m.wf = true) (a syn : Nat) (bs : List Byte) :
    ({ m.putWord a bs with ecc := alInsert (m.putWord a bs).ecc a syn } : Mem).wf = true := by
  obtain ⟨h1, h2, h3⟩ := (Mem.wf_iff _).1 (Mem.wf_putWord h a bs)
  exact (Mem.wf_iff _).2 ⟨h1, h2, alSorted_alInsert syn h3 fun p hp => (mem_alDel hp).2⟩

/-- A memory that lists nothing has it, whatever it reads as. -/
theorem Mem.wf_blank (b : MemBase) : (Mem.blank b).wf = true := rfl

/-- So does erasing cells. -/
theorem Mem.wf_filter {m : Mem} (h : m.wf = true) (f : Host.Cell → Bool) :
    ({ m with cells := m.cells.filter f } : Mem).wf = true := by
  obtain ⟨h1, h2, h3⟩ := (Mem.wf_iff m).1 h
  exact (Mem.wf_iff _).2 ⟨h1.filter _, fun p hp => h2 p (List.mem_filter.1 hp).1, h3⟩

/-! ## The state after reset -/

/-- Every memory of the state after reset is canonical. -/
theorem reset_memories_wf :
    (State.reset.store.all fun m => m.wf) = true ∧ State.reset.saddle.wf = true ∧ State.reset.nvm.wf = true := by
  exact ⟨by decide, rfl, rfl⟩

end Sys2Proof.Machine
end

