-- ==== Sys2Proof/Laws/PerInstr.lean ====
section
/-!
SUPPORT. Statements made of every command, one lemma per constructor. Family `Opcode`: the word of a core instruction has an
opcode of Tables 07.4 to 07.11, so it is never the word of zeros and never one whose opcode lies above 0x85 (R193, R194).
-/
namespace Sys2Proof.Laws.Opcode
open Sys2Proof.Machine

/-- The word of the instruction, where it has one, has an opcode between 0x01 and 0x85. -/
def Statement (i : Instr) : Prop := ∀ w, encode i = some w → 0 < fld w 24 8 ∧ fld w 24 8 ≤ 0x85

theorem of_word (op r : Nat) (ho : 0 < op ∧ op ≤ 0x85) (hr : r < 0x1000000) :
    0 < fld (word (op * 0x1000000 + r)) 24 8 ∧ fld (word (op * 0x1000000 + r)) 24 8 ≤ 0x85 := by
  have h : fld (word (op * 0x1000000 + r)) 24 8 = op := by
    simp only [fld, word, BitVec.toNat_ofNat, Nat.shiftRight_eq_div_pow]
    omega
  rw [h]
  exact ho

theorem rrr_word (op d a b c : Nat) (ho : 0 < op ∧ op ≤ 0x85) (hd : d < 16) (ha : a < 16) (hb : b < 16) (hc : c < 16)
    {w : Word} (h : some (rrr op d a b c) = some w) : 0 < fld w 24 8 ∧ fld w 24 8 ≤ 0x85 := by
  cases h
  rw [rrr, show op * 0x1000000 + d * 0x100000 + a * 0x10000 + b * 0x1000 + c * 0x100
    = op * 0x1000000 + (d * 0x100000 + a * 0x10000 + b * 0x1000 + c * 0x100) by omega]
  exact of_word _ _ ho (by omega)

theorem rri_word (op d a n : Nat) (ho : 0 < op ∧ op ≤ 0x85) (hd : d < 16) (ha : a < 16) (hn : n < 0x10000)
    {w : Word} (h : some (rri op d a n) = some w) : 0 < fld w 24 8 ∧ fld w 24 8 ≤ 0x85 := by
  cases h
  rw [rri, show op * 0x1000000 + d * 0x100000 + a * 0x10000 + n = op * 0x1000000 + (d * 0x100000 + a * 0x10000 + n) by omega]
  exact of_word _ _ ho (by omega)

theorem ri20_word (op d n : Nat) (ho : 0 < op ∧ op ≤ 0x85) (hd : d < 16) (hn : n < 0x100000)
    {w : Word} (h : some (ri20 op d n) = some w) : 0 < fld w 24 8 ∧ fld w 24 8 ≤ 0x85 := by
  cases h
  rw [ri20, show op * 0x1000000 + d * 0x100000 + n = op * 0x1000000 + (d * 0x100000 + n) by omega]
  exact of_word _ _ ho (by omega)

theorem cycleBoundary (b : BoundaryInput) : Statement (.cycleBoundary b) := by intro w h; cases h
theorem breathBoundary (ticks sfb : Nat) : Statement (.breathBoundary ticks sfb) := by intro w h; cases h
theorem brtDoneWrite (v : Word) (wr : Writer) : Statement (.brtDoneWrite v wr) := by intro w h; cases h
theorem mainsCrossing (ticks : Nat) : Statement (.mainsCrossing ticks) := by intro w h; cases h
theorem mainsMiss (ticks : Nat) : Statement (.mainsMiss ticks) := by intro w h; cases h
theorem lxoStop (ticks : Nat) : Statement (.lxoStop ticks) := by intro w h; cases h
theorem monitorWindowEnd (win hfo lrc : Nat) (onLxo : Bool) : Statement (.monitorWindowEnd win hfo lrc onLxo) := by intro w h; cases h
theorem clkOpWrite (v : Word) (wr : Writer) : Statement (.clkOpWrite v wr) := by intro w h; cases h
theorem rtcSubRead (wr : Writer) : Statement (.rtcSubRead wr) := by intro w h; cases h
theorem rtcSecWrite (v : Word) (wr : Writer) : Statement (.rtcSecWrite v wr) := by intro w h; cases h
theorem sourceInvalid (x : SupplySample) : Statement (.sourceInvalid x) := by intro w h; cases h
theorem sourceValid (x : SupplySample) : Statement (.sourceValid x) := by intro w h; cases h
theorem offExit (x : SupplySample) (hcold : Bool) : Statement (.offExit x hcold) := by intro w h; cases h
theorem harvestSample (mv vhin : Nat) : Statement (.harvestSample mv vhin) := by intro w h; cases h
theorem hrvThrWrite (v : Word) (wr : Writer) : Statement (.hrvThrWrite v wr) := by intro w h; cases h
theorem hrvCfgWrite (v : Word) (wr : Writer) : Statement (.hrvCfgWrite v wr) := by intro w h; cases h
theorem hrvLevelUpdate (vhin vmain vbel vbat : Nat) : Statement (.hrvLevelUpdate vhin vmain vbel vbat) := by intro w h; cases h
theorem wakeEvent (src : WakeSource) : Statement (.wakeEvent src) := by intro w h; cases h
theorem domainUsable (d : Domain) : Statement (.domainUsable d) := by intro w h; cases h
theorem powerDownStart (v : Word) (wr : Writer) : Statement (.powerDownStart v wr) := by intro w h; cases h
theorem powerDownDone (d : Domain) : Statement (.powerDownDone d) := by intro w h; cases h
theorem gpioWakeEdge (pin : Fin 4) (drive : BoardDrive) : Statement (.gpioWakeEdge pin drive) := by intro w h; cases h
theorem wakeKeyScan (count : Nat) : Statement (.wakeKeyScan count) := by intro w h; cases h
theorem nresetAssert (ns : Nat) : Statement (.nresetAssert ns) := by intro w h; cases h
theorem rstSysrst (v : Word) (wr : Writer) : Statement (.rstSysrst v wr) := by intro w h; cases h
theorem rstDomrst (v : Word) (wr : Writer) : Statement (.rstDomrst v wr) := by intro w h; cases h
theorem bootColdMats (r : MarchResult) : Statement (.bootColdMats r) := by intro w h; cases h
theorem lifecycleRequest (v : Word) (wr : Writer) : Statement (.lifecycleRequest v wr) := by intro w h; cases h
theorem lcsResponseWrite (v : Word) (wr : Writer) : Statement (.lcsResponseWrite v wr) := by intro w h; cases h
theorem keyLoad (v : Word) (wr : Writer) : Statement (.keyLoad v wr) := by intro w h; cases h
theorem stmMatch (us : Nat) : Statement (.stmMatch us) := by intro w h; cases h
theorem stmCntloRead (wr : Writer) : Statement (.stmCntloRead wr) := by intro w h; cases h
theorem stmCmphiWrite (v : Word) (wr : Writer) : Statement (.stmCmphiWrite v wr) := by intro w h; cases h
theorem eicSwsetWrite (v : Word) (wr : Writer) : Statement (.eicSwsetWrite v wr) := by intro w h; cases h
theorem eicSwclrWrite (v : Word) (wr : Writer) : Statement (.eicSwclrWrite v wr) := by intro w h; cases h
theorem wcall (svc : BitVec 20) : Statement (.wcall svc) := fun _ h =>
  ri20_word 0x02 0 svc.toNat (by decide) (by decide) (by have := svc.isLt; omega) h
theorem brk (code : BitVec 20) : Statement (.brk code) := fun _ h =>
  ri20_word 0x05 0 code.toNat (by decide) (by decide) (by have := code.isLt; omega) h
theorem csrr (rd : Fin 16) (csr : BitVec 12) : Statement (.csrr rd csr) := fun _ h =>
  rri_word 0x08 rd 0 csr.toNat (by decide) rd.isLt (by decide) (by have := csr.isLt; omega) h
theorem csrw (csr : BitVec 12) (ra : Fin 16) : Statement (.csrw csr ra) := fun _ h =>
  rri_word 0x09 0 ra csr.toNat (by decide) (by decide) ra.isLt (by have := csr.isLt; omega) h
theorem csrs (csr : BitVec 12) (ra : Fin 16) : Statement (.csrs csr ra) := fun _ h =>
  rri_word 0x0A 0 ra csr.toNat (by decide) (by decide) ra.isLt (by have := csr.isLt; omega) h
theorem csrc (csr : BitVec 12) (ra : Fin 16) : Statement (.csrc csr ra) := fun _ h =>
  rri_word 0x0B 0 ra csr.toNat (by decide) (by decide) ra.isLt (by have := csr.isLt; omega) h
theorem add (rd ra rb : Fin 16) : Statement (.add rd ra rb) := fun _ h =>
  rrr_word 0x10 rd ra rb 0 (by decide) rd.isLt ra.isLt rb.isLt (by decide) h
theorem adc (rd ra rb : Fin 16) : Statement (.adc rd ra rb) := fun _ h =>
  rrr_word 0x11 rd ra rb 0 (by decide) rd.isLt ra.isLt rb.isLt (by decide) h
theorem sub (rd ra rb : Fin 16) : Statement (.sub rd ra rb) := fun _ h =>
  rrr_word 0x12 rd ra rb 0 (by decide) rd.isLt ra.isLt rb.isLt (by decide) h
theorem sbc (rd ra rb : Fin 16) : Statement (.sbc rd ra rb) := fun _ h =>
  rrr_word 0x13 rd ra rb 0 (by decide) rd.isLt ra.isLt rb.isLt (by decide) h
theorem neg (rd ra : Fin 16) : Statement (.neg rd ra) := fun _ h =>
  rrr_word 0x14 rd ra 0 0 (by decide) rd.isLt ra.isLt (by decide) (by decide) h
theorem addsat (rd ra rb : Fin 16) : Statement (.addsat rd ra rb) := fun _ h =>
  rrr_word 0x15 rd ra rb 0 (by decide) rd.isLt ra.isLt rb.isLt (by decide) h
theorem subsat (rd ra rb : Fin 16) : Statement (.subsat rd ra rb) := fun _ h =>
  rrr_word 0x16 rd ra rb 0 (by decide) rd.isLt ra.isLt rb.isLt (by decide) h
theorem mul (rd ra rb : Fin 16) : Statement (.mul rd ra rb) := fun _ h =>
  rrr_word 0x18 rd ra rb 0 (by decide) rd.isLt ra.isLt rb.isLt (by decide) h
theorem mulhs (rd ra rb : Fin 16) : Statement (.mulhs rd ra rb) := fun _ h =>
  rrr_word 0x19 rd ra rb 0 (by decide) rd.isLt ra.isLt rb.isLt (by decide) h
theorem mulhu (rd ra rb : Fin 16) : Statement (.mulhu rd ra rb) := fun _ h =>
  rrr_word 0x1A rd ra rb 0 (by decide) rd.isLt ra.isLt rb.isLt (by decide) h
theorem divs (rd ra rb rc : Fin 16) : Statement (.divs rd ra rb rc) := fun _ h =>
  rrr_word 0x1C rd ra rb rc (by decide) rd.isLt ra.isLt rb.isLt rc.isLt h
theorem divu (rd ra rb rc : Fin 16) : Statement (.divu rd ra rb rc) := fun _ h =>
  rrr_word 0x1D rd ra rb rc (by decide) rd.isLt ra.isLt rb.isLt rc.isLt h
theorem clz (rd ra : Fin 16) : Statement (.clz rd ra) := fun _ h =>
  rrr_word 0x20 rd ra 0 0 (by decide) rd.isLt ra.isLt (by decide) (by decide) h
theorem mins (rd ra rb : Fin 16) : Statement (.mins rd ra rb) := fun _ h =>
  rrr_word 0x21 rd ra rb 0 (by decide) rd.isLt ra.isLt rb.isLt (by decide) h
theorem maxs (rd ra rb : Fin 16) : Statement (.maxs rd ra rb) := fun _ h =>
  rrr_word 0x22 rd ra rb 0 (by decide) rd.isLt ra.isLt rb.isLt (by decide) h
theorem minu (rd ra rb : Fin 16) : Statement (.minu rd ra rb) := fun _ h =>
  rrr_word 0x23 rd ra rb 0 (by decide) rd.isLt ra.isLt rb.isLt (by decide) h
theorem maxu (rd ra rb : Fin 16) : Statement (.maxu rd ra rb) := fun _ h =>
  rrr_word 0x24 rd ra rb 0 (by decide) rd.isLt ra.isLt rb.isLt (by decide) h
theorem addi (rd ra : Fin 16) (imm : BitVec 16) : Statement (.addi rd ra imm) := fun _ h =>
  rri_word 0x28 rd ra imm.toNat (by decide) rd.isLt ra.isLt (by have := imm.isLt; omega) h
theorem rsbi (rd ra : Fin 16) (imm : BitVec 16) : Statement (.rsbi rd ra imm) := fun _ h =>
  rri_word 0x29 rd ra imm.toNat (by decide) rd.isLt ra.isLt (by have := imm.isLt; omega) h
theorem and (rd ra rb : Fin 16) : Statement (.and rd ra rb) := fun _ h =>
  rrr_word 0x30 rd ra rb 0 (by decide) rd.isLt ra.isLt rb.isLt (by decide) h
theorem or (rd ra rb : Fin 16) : Statement (.or rd ra rb) := fun _ h =>
  rrr_word 0x31 rd ra rb 0 (by decide) rd.isLt ra.isLt rb.isLt (by decide) h
theorem xor (rd ra rb : Fin 16) : Statement (.xor rd ra rb) := fun _ h =>
  rrr_word 0x32 rd ra rb 0 (by decide) rd.isLt ra.isLt rb.isLt (by decide) h
theorem andn (rd ra rb : Fin 16) : Statement (.andn rd ra rb) := fun _ h =>
  rrr_word 0x33 rd ra rb 0 (by decide) rd.isLt ra.isLt rb.isLt (by decide) h
theorem not (rd ra : Fin 16) : Statement (.not rd ra) := fun _ h =>
  rrr_word 0x34 rd ra 0 0 (by decide) rd.isLt ra.isLt (by decide) (by decide) h
theorem andi (rd ra : Fin 16) (imm : BitVec 16) : Statement (.andi rd ra imm) := fun _ h =>
  rri_word 0x38 rd ra imm.toNat (by decide) rd.isLt ra.isLt (by have := imm.isLt; omega) h
theorem ori (rd ra : Fin 16) (imm : BitVec 16) : Statement (.ori rd ra imm) := fun _ h =>
  rri_word 0x39 rd ra imm.toNat (by decide) rd.isLt ra.isLt (by have := imm.isLt; omega) h
theorem xori (rd ra : Fin 16) (imm : BitVec 16) : Statement (.xori rd ra imm) := fun _ h =>
  rri_word 0x3A rd ra imm.toNat (by decide) rd.isLt ra.isLt (by have := imm.isLt; omega) h
theorem lsl (rd ra rb : Fin 16) : Statement (.lsl rd ra rb) := fun _ h =>
  rrr_word 0x40 rd ra rb 0 (by decide) rd.isLt ra.isLt rb.isLt (by decide) h
theorem lsr (rd ra rb : Fin 16) : Statement (.lsr rd ra rb) := fun _ h =>
  rrr_word 0x41 rd ra rb 0 (by decide) rd.isLt ra.isLt rb.isLt (by decide) h
theorem asr (rd ra rb : Fin 16) : Statement (.asr rd ra rb) := fun _ h =>
  rrr_word 0x42 rd ra rb 0 (by decide) rd.isLt ra.isLt rb.isLt (by decide) h
theorem ror (rd ra rb : Fin 16) : Statement (.ror rd ra rb) := fun _ h =>
  rrr_word 0x43 rd ra rb 0 (by decide) rd.isLt ra.isLt rb.isLt (by decide) h
theorem lsli (rd ra : Fin 16) (n : BitVec 5) : Statement (.lsli rd ra n) := fun _ h =>
  rri_word 0x44 rd ra n.toNat (by decide) rd.isLt ra.isLt (by have := n.isLt; omega) h
theorem lsri (rd ra : Fin 16) (n : BitVec 5) : Statement (.lsri rd ra n) := fun _ h =>
  rri_word 0x45 rd ra n.toNat (by decide) rd.isLt ra.isLt (by have := n.isLt; omega) h
theorem asri (rd ra : Fin 16) (n : BitVec 5) : Statement (.asri rd ra n) := fun _ h =>
  rri_word 0x46 rd ra n.toNat (by decide) rd.isLt ra.isLt (by have := n.isLt; omega) h
theorem rori (rd ra : Fin 16) (n : BitVec 5) : Statement (.rori rd ra n) := fun _ h =>
  rri_word 0x47 rd ra n.toNat (by decide) rd.isLt ra.isLt (by have := n.isLt; omega) h
theorem bset (rd ra : Fin 16) (b : BitVec 5) : Statement (.bset rd ra b) := fun _ h =>
  rri_word 0x48 rd ra b.toNat (by decide) rd.isLt ra.isLt (by have := b.isLt; omega) h
theorem bclr (rd ra : Fin 16) (b : BitVec 5) : Statement (.bclr rd ra b) := fun _ h =>
  rri_word 0x49 rd ra b.toNat (by decide) rd.isLt ra.isLt (by have := b.isLt; omega) h
theorem btst (ra : Fin 16) (b : BitVec 5) : Statement (.btst ra b) := fun _ h =>
  rri_word 0x4A 0 ra b.toNat (by decide) (by decide) ra.isLt (by have := b.isLt; omega) h
theorem bext (rd ra : Fin 16) (pos w : BitVec 5) (sgn : Bool) : Statement (.bext rd ra pos w sgn) := fun _ h =>
  rri_word 0x4B rd ra (b2n sgn * 0x400 + w.toNat * 0x20 + pos.toNat) (by decide) rd.isLt ra.isLt (by have := pos.isLt; have := w.isLt; cases sgn <;> simp [b2n] <;> omega) h
theorem bins (rd ra : Fin 16) (pos w : BitVec 5) : Statement (.bins rd ra pos w) := fun _ h =>
  rri_word 0x4C rd ra (w.toNat * 0x20 + pos.toNat) (by decide) rd.isLt ra.isLt (by have := pos.isLt; have := w.isLt; omega) h
theorem cmp (ra rb : Fin 16) : Statement (.cmp ra rb) := fun _ h =>
  rrr_word 0x50 0 ra rb 0 (by decide) (by decide) ra.isLt rb.isLt (by decide) h
theorem cmn (ra rb : Fin 16) : Statement (.cmn ra rb) := fun _ h =>
  rrr_word 0x51 0 ra rb 0 (by decide) (by decide) ra.isLt rb.isLt (by decide) h
theorem tst (ra rb : Fin 16) : Statement (.tst ra rb) := fun _ h =>
  rrr_word 0x52 0 ra rb 0 (by decide) (by decide) ra.isLt rb.isLt (by decide) h
theorem mov (rd ra : Fin 16) : Statement (.mov rd ra) := fun _ h =>
  rrr_word 0x54 rd ra 0 0 (by decide) rd.isLt ra.isLt (by decide) (by decide) h
theorem cmpi (ra : Fin 16) (imm : BitVec 16) : Statement (.cmpi ra imm) := fun _ h =>
  rri_word 0x58 0 ra imm.toNat (by decide) (by decide) ra.isLt (by have := imm.isLt; omega) h
theorem movi (rd : Fin 16) (imm : BitVec 20) : Statement (.movi rd imm) := fun _ h =>
  ri20_word 0x5C rd imm.toNat (by decide) rd.isLt (by have := imm.isLt; omega) h
theorem movhi (rd : Fin 16) (imm : BitVec 16) : Statement (.movhi rd imm) := fun _ h =>
  ri20_word 0x5D rd imm.toNat (by decide) rd.isLt (by have := imm.isLt; omega) h
theorem adr (rd : Fin 16) (off : BitVec 20) : Statement (.adr rd off) := fun _ h =>
  ri20_word 0x5E rd off.toNat (by decide) rd.isLt (by have := off.isLt; omega) h
theorem ldw (rd ra : Fin 16) (off : BitVec 16) : Statement (.ldw rd ra off) := fun _ h =>
  rri_word 0x60 rd ra off.toNat (by decide) rd.isLt ra.isLt (by have := off.isLt; omega) h
theorem ldh (rd ra : Fin 16) (off : BitVec 16) : Statement (.ldh rd ra off) := fun _ h =>
  rri_word 0x61 rd ra off.toNat (by decide) rd.isLt ra.isLt (by have := off.isLt; omega) h
theorem ldhu (rd ra : Fin 16) (off : BitVec 16) : Statement (.ldhu rd ra off) := fun _ h =>
  rri_word 0x62 rd ra off.toNat (by decide) rd.isLt ra.isLt (by have := off.isLt; omega) h
theorem ldb (rd ra : Fin 16) (off : BitVec 16) : Statement (.ldb rd ra off) := fun _ h =>
  rri_word 0x63 rd ra off.toNat (by decide) rd.isLt ra.isLt (by have := off.isLt; omega) h
theorem ldbu (rd ra : Fin 16) (off : BitVec 16) : Statement (.ldbu rd ra off) := fun _ h =>
  rri_word 0x64 rd ra off.toNat (by decide) rd.isLt ra.isLt (by have := off.isLt; omega) h
theorem ldd (rd ra : Fin 16) (off : BitVec 16) : Statement (.ldd rd ra off) := fun _ h =>
  rri_word 0x65 rd ra off.toNat (by decide) rd.isLt ra.isLt (by have := off.isLt; omega) h
theorem stw (rd ra : Fin 16) (off : BitVec 16) : Statement (.stw rd ra off) := fun _ h =>
  rri_word 0x68 rd ra off.toNat (by decide) rd.isLt ra.isLt (by have := off.isLt; omega) h
theorem sth (rd ra : Fin 16) (off : BitVec 16) : Statement (.sth rd ra off) := fun _ h =>
  rri_word 0x69 rd ra off.toNat (by decide) rd.isLt ra.isLt (by have := off.isLt; omega) h
theorem stb (rd ra : Fin 16) (off : BitVec 16) : Statement (.stb rd ra off) := fun _ h =>
  rri_word 0x6A rd ra off.toNat (by decide) rd.isLt ra.isLt (by have := off.isLt; omega) h
theorem std (rd ra : Fin 16) (off : BitVec 16) : Statement (.std rd ra off) := fun _ h =>
  rri_word 0x6B rd ra off.toNat (by decide) rd.isLt ra.isLt (by have := off.isLt; omega) h
theorem pushm (mask : BitVec 16) : Statement (.pushm mask) := fun _ h =>
  ri20_word 0x6C 0 mask.toNat (by decide) (by decide) (by have := mask.isLt; omega) h
theorem popm (mask : BitVec 16) : Statement (.popm mask) := fun _ h =>
  ri20_word 0x6D 0 mask.toNat (by decide) (by decide) (by have := mask.isLt; omega) h
theorem lrsv (rd ra : Fin 16) : Statement (.lrsv rd ra) := fun _ h =>
  rrr_word 0x70 rd ra 0 0 (by decide) rd.isLt ra.isLt (by decide) (by decide) h
theorem scnd (rd rb ra : Fin 16) : Statement (.scnd rd rb ra) := fun _ h =>
  rrr_word 0x71 rd ra rb 0 (by decide) rd.isLt ra.isLt rb.isLt (by decide) h
theorem amoadd (rd rb ra : Fin 16) : Statement (.amoadd rd rb ra) := fun _ h =>
  rrr_word 0x72 rd ra rb 0 (by decide) rd.isLt ra.isLt rb.isLt (by decide) h
theorem amoswp (rd rb ra : Fin 16) : Statement (.amoswp rd rb ra) := fun _ h =>
  rrr_word 0x73 rd ra rb 0 (by decide) rd.isLt ra.isLt rb.isLt (by decide) h
theorem bcc (cond : Fin 16) (off : BitVec 20) : Statement (.bcc cond off) := fun _ h =>
  ri20_word 0x80 cond off.toNat (by decide) cond.isLt (by have := off.isLt; omega) h
theorem cbz (rt : Fin 16) (off : BitVec 20) : Statement (.cbz rt off) := fun _ h =>
  ri20_word 0x81 rt off.toNat (by decide) rt.isLt (by have := off.isLt; omega) h
theorem cbnz (rt : Fin 16) (off : BitVec 20) : Statement (.cbnz rt off) := fun _ h =>
  ri20_word 0x82 rt off.toNat (by decide) rt.isLt (by have := off.isLt; omega) h
theorem bl (off : BitVec 20) : Statement (.bl off) := fun _ h =>
  ri20_word 0x83 0 off.toNat (by decide) (by decide) (by have := off.isLt; omega) h
theorem blr (ra : Fin 16) : Statement (.blr ra) := fun _ h =>
  rrr_word 0x84 0 ra 0 0 (by decide) (by decide) ra.isLt (by decide) (by decide) h
theorem jr (ra : Fin 16) : Statement (.jr ra) := fun _ h =>
  rrr_word 0x85 0 ra 0 0 (by decide) (by decide) ra.isLt (by decide) (by decide) h
theorem registerWrite (addr : Nat) (v : Word) (wr : Writer) : Statement (.registerWrite addr v wr) := by intro w h; cases h
theorem postedStoreIssue (k : Nat) : Statement (.postedStoreIssue k) := by intro w h; cases h
theorem ictErrpop (v : Word) (wr : Writer) : Statement (.ictErrpop v wr) := by intro w h; cases h
theorem dmaStart (ch : Fin 8) (v : Word) (wr : Writer) : Statement (.dmaStart ch v wr) := by intro w h; cases h
theorem dmaAbort (ch : Fin 8) (v : Word) (wr : Writer) : Statement (.dmaAbort ch v wr) := by intro w h; cases h
theorem dmaDescFetch (ch : Fin 8) : Statement (.dmaDescFetch ch) := by intro w h; cases h
theorem dmaCopy (ch : Fin 8) : Statement (.dmaCopy ch) := by intro w h; cases h
theorem dmaFill (ch : Fin 8) : Statement (.dmaFill ch) := by intro w h; cases h
theorem dmaAmoadd (ch : Fin 8) : Statement (.dmaAmoadd ch) := by intro w h; cases h
theorem dmaAmoswp (ch : Fin 8) : Statement (.dmaAmoswp ch) := by intro w h; cases h
theorem dmaAlloc (ch : Fin 8) : Statement (.dmaAlloc ch) := by intro w h; cases h
theorem dmaWaitpoolRetry (ch : Fin 8) : Statement (.dmaWaitpoolRetry ch) := by intro w h; cases h
theorem dmaDescComplete (ch : Fin 8) : Statement (.dmaDescComplete ch) := by intro w h; cases h
theorem gpioEdge (pin : Fin 16) (x : PinSample) : Statement (.gpioEdge pin x) := by intro w h; cases h
theorem gateRuleCommit (gate : Fin 8) (entry : Fin 16) (v : Word) (wr : Writer) : Statement (.gateRuleCommit gate entry v wr) := by intro w h; cases h
theorem gtcLockg3 (v : Word) (wr : Writer) : Statement (.gtcLockg3 v wr) := by intro w h; cases h
theorem gateVcntClr (gate : Fin 8) (v : Word) (wr : Writer) : Statement (.gateVcntClr gate v wr) := by intro w h; cases h
theorem stcRun (v : Word) (wr : Writer) : Statement (.stcRun v wr) := by intro w h; cases h
theorem stcSwap (v : Word) (wr : Writer) : Statement (.stcSwap v wr) := by intro w h; cases h
theorem stcReturn (v : Word) (wr : Writer) : Statement (.stcReturn v wr) := by intro w h; cases h
theorem stcAbort (v : Word) (wr : Writer) : Statement (.stcAbort v wr) := by intro w h; cases h
theorem stcXchg (v : Word) (wr : Writer) : Statement (.stcXchg v wr) := by intro w h; cases h
theorem stcRunDone (r : MarchResult) : Statement (.stcRunDone r) := by intro w h; cases h
theorem swapPretestDone (r : MarchResult) : Statement (.swapPretestDone r) := by intro w h; cases h
theorem swapTestDone (r : MarchResult) : Statement (.swapTestDone r) := by intro w h; cases h
theorem stcEccClr (v : Word) (wr : Writer) : Statement (.stcEccClr v wr) := by intro w h; cases h
theorem poolEnable (v : Word) (wr : Writer) : Statement (.poolEnable v wr) := by intro w h; cases h
theorem poolAlloc (cls : Fin 4) (wr : Writer) : Statement (.poolAlloc cls wr) := by intro w h; cases h
theorem poolFree (v : Word) (wr : Writer) : Statement (.poolFree v wr) := by intro w h; cases h
theorem poolRelease (v : Word) (wr : Writer) : Statement (.poolRelease v wr) := by intro w h; cases h
theorem poolDone (v : Word) (wr : Writer) : Statement (.poolDone v wr) := by intro w h; cases h
theorem poolShareh (v : Word) (wr : Writer) : Statement (.poolShareh v wr) := by intro w h; cases h
theorem poolShare (v : Word) (wr : Writer) : Statement (.poolShare v wr) := by intro w h; cases h
theorem poolThrWrite (cls : Fin 4) (second : Bool) (v : Word) (wr : Writer) : Statement (.poolThrWrite cls second v wr) := by intro w h; cases h
theorem poolErrClr (v : Word) (wr : Writer) : Statement (.poolErrClr v wr) := by intro w h; cases h
theorem tenEnable (v : Word) (wr : Writer) : Statement (.tenEnable v wr) := by intro w h; cases h
theorem tenRecordWrite (t : Fin 1024) (k : Fin 8) (v : Word) (wr : Writer) : Statement (.tenRecordWrite t k v wr) := by intro w h; cases h
theorem tenCreate (v : Word) (wr : Writer) : Statement (.tenCreate v wr) := by intro w h; cases h
theorem tenSuspend (v : Word) (wr : Writer) : Statement (.tenSuspend v wr) := by intro w h; cases h
theorem tenResume (v : Word) (wr : Writer) : Statement (.tenResume v wr) := by intro w h; cases h
theorem tenFault (v : Word) (wr : Writer) : Statement (.tenFault v wr) := by intro w h; cases h
theorem tenReset (v : Word) (wr : Writer) : Statement (.tenReset v wr) := by intro w h; cases h
theorem tenRemove (v : Word) (wr : Writer) : Statement (.tenRemove v wr) := by intro w h; cases h
theorem virRouteWrite (n : Fin 128) (v : Word) (wr : Writer) : Statement (.virRouteWrite n v wr) := by intro w h; cases h
theorem virInject (v : Word) (wr : Writer) : Statement (.virInject v wr) := by intro w h; cases h
theorem msrRingEnable (v : Word) (wr : Writer) : Statement (.msrRingEnable v wr) := by intro w h; cases h
theorem msrRingrel (saddle : Bool) (v : Word) (wr : Writer) : Statement (.msrRingrel saddle v wr) := by intro w h; cases h
theorem fastTapUpdate (ch : Fin 48) (bits : BitVec 8) : Statement (.fastTapUpdate ch bits) := by intro w h; cases h
theorem droneSlot (d : DroneInput) : Statement (.droneSlot d) := by intro w h; cases h
theorem msrSentrel (v : Word) (wr : Writer) : Statement (.msrSentrel v wr) := by intro w h; cases h
theorem outputRequest (v : Word) (wr : Writer) : Statement (.outputRequest v wr) := by intro w h; cases h
theorem supplyMonitorFault (m : SupplyMonitor) : Statement (.supplyMonitorFault m) := by intro w h; cases h
theorem safeAck (v : Word) (wr : Writer) : Statement (.safeAck v wr) := by intro w h; cases h
theorem safeClear (v : Word) (wr : Writer) : Statement (.safeClear v wr) := by intro w h; cases h
theorem forcedTrip (v : Word) (wr : Writer) : Statement (.forcedTrip v wr) := by intro w h; cases h
theorem touchBurst (tx : Fin 8) (counts : List Nat) : Statement (.touchBurst tx counts) := by intro w h; cases h
theorem touchEnable (v : Word) (wr : Writer) : Statement (.touchEnable v wr) := by intro w h; cases h
theorem keyConfigWrite (key : Fin 32) (thr : Bool) (v : Word) (wr : Writer) : Statement (.keyConfigWrite key thr v wr) := by intro w h; cases h
theorem tchBurstWrite (v : Word) (wr : Writer) : Statement (.tchBurstWrite v wr) := by intro w h; cases h
theorem tchRawEnable (v : Word) (wr : Writer) : Statement (.tchRawEnable v wr) := by intro w h; cases h
theorem fbRowRead (late : Bool) : Statement (.fbRowRead late) := by intro w h; cases h
theorem panelEnable (v : Word) (wr : Writer) : Statement (.panelEnable v wr) := by intro w h; cases h
theorem ledgerWindowWrite (px : Fin 2048) (v : Word) (wr : Writer) : Statement (.ledgerWindowWrite px v wr) := by intro w h; cases h
theorem ledgerInit (v : Word) (wr : Writer) : Statement (.ledgerInit v wr) := by intro w h; cases h
theorem ledgerMark (v : Word) (wr : Writer) : Statement (.ledgerMark v wr) := by intro w h; cases h
theorem maxbalRead (wr : Writer) : Statement (.maxbalRead wr) := by intro w h; cases h
theorem vpanelShort (cut : Option (Fin 32)) : Statement (.vpanelShort cut) := by intro w h; cases h
theorem vpanelLatchClear (v : Word) (wr : Writer) : Statement (.vpanelLatchClear v wr) := by intro w h; cases h
theorem dgsClaim (v : Word) (wr : Writer) : Statement (.dgsClaim v wr) := by intro w h; cases h
theorem dgsRelease (v : Word) (wr : Writer) : Statement (.dgsRelease v wr) := by intro w h; cases h
theorem dgsStart (v : Word) (wr : Writer) : Statement (.dgsStart v wr) := by intro w h; cases h
theorem dgsFinish (v : Word) (wr : Writer) : Statement (.dgsFinish v wr) := by intro w h; cases h
theorem dgsAbort (v : Word) (wr : Writer) : Statement (.dgsAbort v wr) := by intro w h; cases h
theorem dgsCompare (v : Word) (wr : Writer) : Statement (.dgsCompare v wr) := by intro w h; cases h
theorem dgsDinWrite (ctx : Fin 16) (v : Word) (wr : Writer) : Statement (.dgsDinWrite ctx v wr) := by intro w h; cases h
theorem dgsLastWrite (ctx : Fin 16) (count : Fin 4) (v : Word) (wr : Writer) : Statement (.dgsLastWrite ctx count v wr) := by intro w h; cases h
theorem dgsListStart (v : Word) (wr : Writer) : Statement (.dgsListStart v wr) := by intro w h; cases h
theorem canFrameReceived (f : CanFrame) : Statement (.canFrameReceived f) := by intro w h; cases h
theorem lnkRxqRead (wr : Writer) : Statement (.lnkRxqRead wr) := by intro w h; cases h
theorem lnkTxpost (v : Word) (wr : Writer) : Statement (.lnkTxpost v wr) := by intro w h; cases h
theorem lnkRecover (v : Word) (wr : Writer) : Statement (.lnkRecover v wr) := by intro w h; cases h
theorem hdpRd (ap : Fin 4) (addr : Word) (q : PacketCheck) : Statement (.hdpRd ap addr q) := by intro w h; cases h
theorem hdpWr (ap : Fin 4) (addr v : Word) (q : PacketCheck) : Statement (.hdpWr ap addr v q) := by intro w h; cases h
theorem hdpRdbuf (ap : Fin 4) (q : PacketCheck) : Statement (.hdpRdbuf ap q) := by intro w h; cases h
theorem hdpAccessDone (ap : Fin 4) : Statement (.hdpAccessDone ap) := by intro w h; cases h
theorem dbgHalt (v : Word) (wr : Writer) : Statement (.dbgHalt v wr) := by intro w h; cases h
theorem dbgStep (v : Word) (wr : Writer) : Statement (.dbgStep v wr) := by intro w h; cases h
theorem dbgResume (v : Word) (wr : Writer) : Statement (.dbgResume v wr) := by intro w h; cases h
theorem dbgRegAccess (write : Bool) (addr : Nat) (v : Word) (wr : Writer) : Statement (.dbgRegAccess write addr v wr) := by intro w h; cases h
theorem hdpWake (v : Word) : Statement (.hdpWake v) := by intro w h; cases h
theorem hdpUnlockRequest (v : Word) : Statement (.hdpUnlockRequest v) := by intro w h; cases h
theorem hdpResponseWrite (v : Word) : Statement (.hdpResponseWrite v) := by intro w h; cases h
theorem hdpRelock (v : Word) : Statement (.hdpRelock v) := by intro w h; cases h
theorem hdpCauseClr (v : Word) : Statement (.hdpCauseClr v) := by intro w h; cases h
theorem supplyMonitorClear (m : SupplyMonitor) : Statement (.supplyMonitorClear m) := by intro w h; cases h
theorem vioBankCrossing (bank : Fin 4) (above testen : Bool) : Statement (.vioBankCrossing bank above testen) := by intro w h; cases h
theorem pwrDomctlSet (v : Word) (wr : Writer) : Statement (.pwrDomctlSet v wr) := by intro w h; cases h
theorem canBusError (transmitting : Bool) (e : CanError) : Statement (.canBusError transmitting e) := by intro w h; cases h
theorem slotFrameSent (slot : SlotKind) : Statement (.slotFrameSent slot) := by intro w h; cases h
theorem opChangeDone : Statement .opChangeDone := by intro w h; cases h
theorem rtcSecond : Statement .rtcSecond := by intro w h; cases h
theorem rtcTrim : Statement .rtcTrim := by intro w h; cases h
theorem overlapEnd : Statement .overlapEnd := by intro w h; cases h
theorem settleEnd : Statement .settleEnd := by intro w h; cases h
theorem sourceReturnInShutdown : Statement .sourceReturnInShutdown := by intro w h; cases h
theorem bellowsFull : Statement .bellowsFull := by intro w h; cases h
theorem bellowsResume : Statement .bellowsResume := by intro w h; cases h
theorem coldStartHandoff : Statement .coldStartHandoff := by intro w h; cases h
theorem deepEntryCommit : Statement .deepEntryCommit := by intro w h; cases h
theorem staggerStep : Statement .staggerStep := by intro w h; cases h
theorem nresetRelease : Statement .nresetRelease := by intro w h; cases h
theorem systemReset : Statement .systemReset := by intro w h; cases h
theorem challengeReady : Statement .challengeReady := by intro w h; cases h
theorem challengeCheckDone : Statement .challengeCheckDone := by intro w h; cases h
theorem challengeExpiry : Statement .challengeExpiry := by intro w h; cases h
theorem lockoutEnd : Statement .lockoutEnd := by intro w h; cases h
theorem journalWrite : Statement .journalWrite := by intro w h; cases h
theorem keyLoadDone : Statement .keyLoadDone := by intro w h; cases h
theorem lockstepMismatch : Statement .lockstepMismatch := by intro w h; cases h
theorem interruptEntry : Statement .interruptEntry := by intro w h; cases h
theorem safetyNmi : Statement .safetyNmi := by intro w h; cases h
theorem tenantExceptionEntry : Statement .tenantExceptionEntry := by intro w h; cases h
theorem tenantNotReadyExit : Statement .tenantNotReadyExit := by intro w h; cases h
theorem nop : Statement .nop := fun _ h =>
  rrr_word 0x01 0 0 0 0 (by decide) (by decide) (by decide) (by decide) (by decide) h
theorem wret : Statement .wret := fun _ h =>
  rrr_word 0x03 0 0 0 0 (by decide) (by decide) (by decide) (by decide) (by decide) h
theorem wfi : Statement .wfi := fun _ h =>
  rrr_word 0x04 0 0 0 0 (by decide) (by decide) (by decide) (by decide) (by decide) h
theorem barW : Statement .barW := fun _ h =>
  rrr_word 0x78 0 0 0 0 (by decide) (by decide) (by decide) (by decide) (by decide) h
theorem barRw : Statement .barRw := fun _ h =>
  rrr_word 0x79 0 0 0 0 (by decide) (by decide) (by decide) (by decide) (by decide) h
theorem barIo : Statement .barIo := fun _ h =>
  rrr_word 0x7A 0 0 0 0 (by decide) (by decide) (by decide) (by decide) (by decide) h
theorem barSync : Statement .barSync := fun _ h =>
  rrr_word 0x7B 0 0 0 0 (by decide) (by decide) (by decide) (by decide) (by decide) h
theorem nvmWordWrite : Statement .nvmWordWrite := by intro w h; cases h
theorem scndGuardExpiry : Statement .scndGuardExpiry := by intro w h; cases h
theorem dmaBeat : Statement .dmaBeat := by intro w h; cases h
theorem gateCrcDone : Statement .gateCrcDone := by intro w h; cases h
theorem stcRepairDone : Statement .stcRepairDone := by intro w h; cases h
theorem copyBeat : Statement .copyBeat := by intro w h; cases h
theorem swapFlip : Statement .swapFlip := by intro w h; cases h
theorem swapKeepDone : Statement .swapKeepDone := by intro w h; cases h
theorem scrubRead : Statement .scrubRead := by intro w h; cases h
theorem poolInitDone : Statement .poolInitDone := by intro w h; cases h
theorem tenInitDone : Statement .tenInitDone := by intro w h; cases h
theorem tenantResetDrained : Statement .tenantResetDrained := by intro w h; cases h
theorem tenantResetStopped : Statement .tenantResetStopped := by intro w h; cases h
theorem poolTenantScan : Statement .poolTenantScan := by intro w h; cases h
theorem zeroiseBeat : Statement .zeroiseBeat := by intro w h; cases h
theorem tenantResetDone : Statement .tenantResetDone := by intro w h; cases h
theorem framePublish : Statement .framePublish := by intro w h; cases h
theorem refSample : Statement .refSample := by intro w h; cases h
theorem sentinelRecord : Statement .sentinelRecord := by intro w h; cases h
theorem safetyEscalation : Statement .safetyEscalation := by intro w h; cases h
theorem touchRawBeat : Statement .touchRawBeat := by intro w h; cases h
theorem rowSlot : Statement .rowSlot := by intro w h; cases h
theorem quietSlot : Statement .quietSlot := by intro w h; cases h
theorem catchup : Statement .catchup := by intro w h; cases h
theorem ledgerInitDone : Statement .ledgerInitDone := by intro w h; cases h
theorem vpanelSoftStart : Statement .vpanelSoftStart := by intro w h; cases h
theorem vpanelReady : Statement .vpanelReady := by intro w h; cases h
theorem vpanelRetry : Statement .vpanelRetry := by intro w h; cases h
theorem vpanelRetriesReset : Statement .vpanelRetriesReset := by intro w h; cases h
theorem dgsCompression : Statement .dgsCompression := by intro w h; cases h
theorem dgsListEntry : Statement .dgsListEntry := by intro w h; cases h
theorem ringExamine : Statement .ringExamine := by intro w h; cases h
theorem lkeResponseSend : Statement .lkeResponseSend := by intro w h; cases h
theorem canDmaMove : Statement .canDmaMove := by intro w h; cases h
theorem frameTransmitted : Statement .frameTransmitted := by intro w h; cases h
theorem busOff : Statement .busOff := by intro w h; cases h
theorem busoffRecovery : Statement .busoffRecovery := by intro w h; cases h
theorem busOwnershipChange : Statement .busOwnershipChange := by intro w h; cases h
theorem lkeHeartbeat : Statement .lkeHeartbeat := by intro w h; cases h
theorem hdpLineReset : Statement .hdpLineReset := by intro w h; cases h
theorem coreHalt : Statement .coreHalt := by intro w h; cases h
theorem hdpUnlockCheckDone : Statement .hdpUnlockCheckDone := by intro w h; cases h
theorem lxoRestart : Statement .lxoRestart := by intro w h; cases h
theorem referenceSettled : Statement .referenceSettled := by intro w h; cases h
theorem canClockReady : Statement .canClockReady := by intro w h; cases h
theorem canProtocolException : Statement .canProtocolException := by intro w h; cases h

end Sys2Proof.Laws.Opcode
end

