-- ==== Sys2Proof/Laws/Waits.lean ====
section
/-!
SUPPORT. What the operations on waiting requests and on the supply comparators can change: each is one field of the state.
-/
namespace Sys2Proof.Machine

/-! ## Requests that wait -/

theorem State.granted_changes_arbs (s : State) (port cls mid : Nat) :
    s.granted port cls mid = { s with bus := { s.bus with arbs := (s.granted port cls mid).bus.arbs } } := rfl

theorem State.unhold_changes_held (s : State) (h : Held) :
    s.unhold h = { s with bus := { s.bus with held := s.bus.held.erase h } } := rfl

theorem State.waitAt_changes_stalled (s : State) (w : Stall) :
    s.waitAt w = { s with core := { s.core with stalled := some w } } := rfl

theorem State.abandon_changes (s : State) :
    s.abandon = { s with core := { s.core with stalled := none }, bus := { s.bus with held := s.abandon.bus.held } } := rfl

/-- Beyond the arbiters a grant leaves what the interconnect holds. -/
@[simp] theorem State.granted_held (s : State) (port cls mid : Nat) : (s.granted port cls mid).bus.held = s.bus.held := rfl
@[simp] theorem State.granted_errs (s : State) (port cls mid : Nat) : (s.granted port cls mid).bus.errs = s.bus.errs := rfl
@[simp] theorem State.granted_nvmQ (s : State) (port cls mid : Nat) : (s.granted port cls mid).bus.nvmQ = s.bus.nvmQ := rfl
@[simp] theorem State.granted_regs (s : State) (port cls mid : Nat) : (s.granted port cls mid).regs = s.regs := rfl
@[simp] theorem State.granted_core (s : State) (port cls mid : Nat) : (s.granted port cls mid).core = s.core := rfl
@[simp] theorem State.granted_store (s : State) (port cls mid : Nat) : (s.granted port cls mid).store = s.store := rfl
@[simp] theorem State.granted_saddle (s : State) (port cls mid : Nat) : (s.granted port cls mid).saddle = s.saddle := rfl
@[simp] theorem State.granted_nvm (s : State) (port cls mid : Nat) : (s.granted port cls mid).nvm = s.nvm := rfl

/-- No request that waits is lost by letting another go on, and none is added. -/
theorem State.mem_of_mem_unhold {s : State} {h x : Held} (hx : x ∈ (s.unhold h).bus.held) : x ∈ s.bus.held :=
  List.mem_of_mem_erase hx

/-! ## The supply comparators -/

theorem State.cmpSee_changes_hrv (s : State) : s.cmpSee = { s with hrv := s.cmpSee.hrv } := by
  unfold State.cmpSee; split <;> rfl

theorem State.cmpPass_changes_hrv (s : State) (us : Nat) : s.cmpPass us = { s with hrv := (s.cmpPass us).hrv } := by
  unfold State.cmpPass; split <;> rfl

/-- An outcome that is in force ends when its samples have shown the other for `down` microseconds, and one that is not begins
when they have shown it for `up`. -/
theorem Cmp.outcome_iff (c : Cmp) (was : Bool) (up down : Nat) :
    c.outcome was up down = true ↔
      (c.raw = true ∧ (was = true ∨ up ≤ c.held)) ∨ (c.raw = false ∧ was = true ∧ c.held < down) := by
  unfold Cmp.outcome; cases c.raw <;> simp

/-- A sample that shows the same keeps the time, and one that shows the other begins it anew (R57). -/
theorem Cmp.see_held (c : Cmp) (raw : Bool) : (c.see raw).raw = raw ∧ (c.see raw).held = if c.raw = raw then c.held else 0 := by
  unfold Cmp.see; split <;> simp_all

end Sys2Proof.Machine
end

