-- ==== Sys2Proof/Machine/Balls.lean ====
section
/-!
DEFINITION. The balls: which signal each carries (R586), its type, domain and supply bank (R587), and the level at each ball
that the part drives, as the state gives it (R19, R264, R413, R435, R503, R587, R588, R590).
-/
namespace Sys2Proof.Machine

/-- The signals of Table 22.1, numbered as the table numbers them. -/
inductive Signal where
  | mch (n : Nat) | ags (n : Nat) | vrefo | vrefc | msense | col (n : Nat) | row (n : Nat) | vpanel | pbsw | pbfb
  | tx (n : Nat) | rx (n : Nat) | gpio (n : Nat) | soutA (n : Nat) | soutB (n : Nat) | sfb (n : Nat) | ltxd | lrxd | lstb
  | dpck | dpio | nreset | testen | xin | xout | vmain | vbat | vhin | hsw | vbel | mppset | vmref | vsys | vcorec
  | vio (n : Nat) | vss | avss | pgnd
  deriving DecidableEq, Repr

/-- Rows A to D and their ends: the columns of the panel. -/
def ballCol (r c : Nat) : Signal :=
  if 2 ≤ c ∧ c ≤ 17 then .col (16 * r + (c - 2))
  else if r = 1 then .vpanel
  else if r = 3 then (if c = 1 then .pbsw else .pbfb)
  else .pgnd

/-- Rows E and F: the rows of the panel. -/
def ballRow (r c : Nat) : Signal := if 2 ≤ c ∧ c ≤ 17 then .row (16 * (r - 4) + (c - 2)) else .pgnd

/-- Row G: touch. -/
def ballTouch (c : Nat) : Signal :=
  if c ≤ 8 then .tx (c - 1) else if c = 9 then .vio 3 else if c = 10 then .vss else .rx (c - 11)

/-- Rows J to L: output `n` takes three balls; the end of row L carries VIO2 and VSS. -/
def ballSout (r c : Nat) : Signal :=
  let n := 6 * (r - 8) + (c - 1) / 3
  if 16 ≤ n then (if c % 2 = 1 then .vio 2 else .vss)
  else if (c - 1) % 3 = 0 then .soutA n
  else if (c - 1) % 3 = 1 then .soutB n
  else .sfb n

/-- Row M: the power path. -/
def ballPower (c : Nat) : Signal :=
  [Signal.vss, .vmain, .vss, .vbat, .vss, .vbel, .vss, .vhin, .hsw, .vss, .mppset, .vmref, .vss, .vsys, .vsys, .vsys, .vcorec,
    .vcorec].getD (c - 1) .vss

/-- Row N: the link and the debug port. -/
def ballLink (c : Nat) : Signal :=
  [Signal.vio 0, .ltxd, .lrxd, .lstb, .vss, .dpck, .dpio, .nreset, .vio 0, .vss, .vio 1, .vio 3, .vio 0, .vss, .vio 3, .vss,
    .vss, .vss].getD (c - 1) .vss

/-- Row T: reference, mains sense, crystal. -/
def ballRef (c : Nat) : Signal :=
  if c = 2 then .vrefo else if c = 4 then .vrefc else if c = 6 then .msense else if c ≤ 13 then .avss
  else if c = 15 then .xin else if c = 16 then .xout else if c = 18 then .testen else .vss

/-- Rows U to W: the measurement channels and their sense grounds; `b` is the first channel of the row. -/
def ballMch (b c : Nat) : Signal :=
  if c ≤ 8 then .mch (b + (c - 1)) else if c ≤ 10 then .ags (b / 8 + (c - 9)) else .mch (b + (c - 3))

/-- The ball map (R586): rows A to H, J to N, P and T to W as 0 to 17, columns 1 to 18. -/
def ballMap (r c : Nat) : Signal :=
  if r ≤ 3 then ballCol r c
  else if r ≤ 5 then ballRow r c
  else if r = 6 then ballTouch c
  else if r = 7 then (if 2 ≤ c ∧ c ≤ 17 then .gpio (c - 2) else .vio 1)
  else if r ≤ 10 then ballSout r c
  else if r = 11 then ballPower c
  else if r = 12 then ballLink c
  else if r = 13 then .vss
  else if r = 14 then ballRef c
  else ballMch (16 * (17 - r)) c

/-- The types of Table 22.3: analogue and digital input, output and both, supply and ground. -/
inductive BallType where
  | ai | ao | aio | di | dout | dio | supply | ground
  deriving DecidableEq, Repr

/-- The type of a ball (R587). -/
def ballType (b : Signal) : BallType :=
  match b with
  | .mch _ | .ags _ | .msense | .pbfb | .rx _ | .mppset => .ai
  | .vrefo | .vrefc | .col _ | .row _ | .vmref => .ao
  | .xin | .xout => .aio
  | .sfb _ | .lrxd | .dpck | .nreset | .testen => .di
  | .tx _ | .soutA _ | .soutB _ | .ltxd | .lstb => .dout
  | .gpio _ | .dpio => .dio
  | .vpanel | .pbsw | .vmain | .vbat | .vhin | .hsw | .vbel | .vsys | .vcorec | .vio _ => .supply
  | .vss | .avss | .pgnd => .ground

/-- The domain of a ball (R587); none for the supplies and grounds that have none. -/
def ballDomain (b : Signal) : Option Domain :=
  match b with
  | .mch _ | .ags _ | .vrefo | .vrefc | .soutA _ | .soutB _ | .sfb _ => some .meas
  | .col _ | .row _ | .vpanel | .pbsw | .pbfb => some .hmi
  | .gpio _ => some .sys
  | .msense | .tx _ | .rx _ | .ltxd | .lrxd | .lstb | .dpck | .dpio | .nreset | .testen | .xin | .xout => some .saddle
  | .vmain | .vbat | .vhin | .hsw | .vbel | .mppset | .vmref => some .saddle
  | .vsys | .vcorec | .vio _ | .vss | .avss | .pgnd => none

/-- The VIO bank that supplies a ball (R587). -/
def ballBank (b : Signal) : Option Nat :=
  match b with
  | .ltxd | .lrxd | .lstb | .dpck | .dpio | .nreset | .testen => some 0
  | .gpio _ => some 1
  | .soutA _ | .soutB _ | .sfb _ => some 2
  | .tx _ | .rx _ => some 3
  | _ => none

/-- What the part puts on a ball. -/
inductive BallLevel where
  | low | high | highZ
  /-- A pull of the part's own, and nothing else (R265). -/
  | pullUp | pullDown
  /-- The 8 kHz square wave of R413. -/
  | wave
  /-- The level of VPANEL, and a column sink that is on at its current in µA (R457). -/
  | vpanel
  | sink (current : Nat)
  /-- The receiver's reference level (R435). -/
  | reference
  /-- An analogue output at the voltage that its block makes (R386). -/
  | analogue
  deriving DecidableEq, Repr

/-- A level as a ball shows it. -/
def levelOf (b : Bool) : BallLevel := if b then .high else .low

/-- Output balls of the safety function (R413): the wave is on the B ball. -/
def State.soutLevel (s : State) (n : Nat) (b : Bool) : BallLevel :=
  if wbit s.outputsOn n then (if b then .wave else .high) else .low

/-- A GPIO ball (R264, R265). -/
def State.gpioLevel (s : State) (n : Nat) : BallLevel :=
  if wbit s.gpioDrives n then levelOf (s.bit Reg.GPIO_OUT n)
  else if wbit s.gpioUp n then .pullUp
  else if wbit s.gpioDown n then .pullDown
  else .highZ

/-- LSTB (R503): the standby level while nobody owns the bus; LKE_CFG.STBPOL = 0 makes it high. -/
def State.lstbLevel (s : State) : BallLevel := levelOf (decide (s.lnk.owner = .nobody) != s.bit Reg.LKE_CFG 3)

/-- The panel drives its balls: a frame with RUN = 1 (R457, R471). -/
def State.panelDrives (s : State) : Bool := s.pnlRun && s.slotTiming

/-- The level of ROWr at a tick of the slot in progress (Tables 16.1 and 16.3). -/
def State.rowLevel (s : State) (tick r : Nat) : BallLevel :=
  if !s.panelDrives then .low
  else if slotRow s.pnl.slot = some r ∧ tick < 15 then .low
  else .vpanel

/-- The level of COLc at a tick of the row slot of row `r`, or of a quiet slot's catch-up (Tables 16.1 and 16.3, R460). -/
def State.colLevel (s : State) (tick c : Nat) : BallLevel :=
  if !s.panelDrives then .low
  else
    match slotRow s.pnl.slot with
    | some r =>
      let n := 64 * r + c
      let g := rowGrey (s.pnl.rowBuf.getD []) c
      if tick < g then .sink (s.pixelCurrent (s.pixel n).fwd)
      else if tick < 15 then .low
      else if g ≠ 0 ∧ tick < 15 + s.pixelDwell n g then .low
      else .vpanel
    | none =>
      let n := 64 * s.f Reg.PNL_STAT 8 5 + c
      if s.pnl.quiet.isSome ∧ 0 < (s.pixel n).bal ∧ tick < s.catchupDwell s.catchupTicks n then .low else .vpanel

/-- The level that the part puts on a ball between two commands (R435, R457, R503, R587, R588). Frames of the link and touch
bursts lie within a command, so LTXD is recessive and the TX balls are low; `tick` is the tick of the panel slot in progress, or of
its catch-up, from 31 on at rest. A ball that only reads and has no pull, or that is no signal of the part's, is high impedance; so
is every output in OFF, and one whose bank is below 1.62 V (R590). -/
def State.ballLevel (s : State) (tick : Nat) (b : Signal) : BallLevel :=
  if s.hrv.pstate = .off then .highZ
  else if (ballBank b).any fun k => !(s.pins.vio.getD k true) then .highZ
  else
    match b with
    | .soutA n => s.soutLevel n false
    | .soutB n => s.soutLevel n true
    | .gpio n => s.gpioLevel n
    | .ltxd => .high
    | .lstb => s.lstbLevel
    | .tx _ => .low
    | .rx _ => .reference
    | .col n => s.colLevel tick n
    | .row n => s.rowLevel tick n
    | .vmref => .low
    | .vrefo => if s.refPowered then .analogue else .highZ
    | .vrefc => if s.domOn .meas then .analogue else .highZ
    | .dpio => .pullUp
    | .nreset => .pullUp
    | .dpck => .pullDown
    | .testen => .pullDown
    | _ => .highZ

end Sys2Proof.Machine
end

