-- ==== Sys2Proof/Tests/Slice0.lean ====
section
/-!
SUPPORT. Tests: ill-formed commands, words of the core's instructions written out from the tables, and for every statement
with hypotheses a concrete state and operands that meet them, clause by clause.
-/
namespace Sys2Proof.Tests
open Sys2Proof.Machine

set_option maxRecDepth 20000

/-! ## Ill-formed commands -/

theorem test_wf_pairs : (Instr.ldd 1 0 0).wf = false ∧ (Instr.std 15 0 0).wf = false ∧ (Instr.ldd 14 0 0).wf = true := by decide
theorem test_wf_popm : (Instr.popm 0x8000).wf = false ∧ (Instr.popm 0x7FFF).wf = true := by decide
theorem test_wf_fields : (Instr.bext 1 2 1 31 true).wf = false ∧ (Instr.bins 1 2 31 1).wf = false ∧
    (Instr.bext 1 2 0 31 true).wf = true ∧ (Instr.bins 1 2 31 0).wf = true := by decide
theorem test_wf_bcc : (Instr.bcc 15 0).wf = false ∧ (Instr.bcc 14 0).wf = true := by decide
theorem test_wf_register_write : (Instr.registerWrite 0x40000002 0 ⟨0, 0x400⟩).wf = false ∧
    (Instr.registerWrite 0x40000000 0 ⟨11, 0x400⟩).wf = false ∧ (Instr.registerWrite 0x40000000 0 ⟨0, 0x800⟩).wf = false ∧
    (Instr.registerWrite 0x40000000 0 ⟨10, 0x7FF⟩).wf = true := by decide
theorem test_wf_burst : (Instr.touchBurst 0 [1, 2, 3]).wf = false := by decide
theorem test_wf_frames : (Instr.canFrameReceived ⟨2048, false, false, false, false, false, 0, []⟩).wf = false ∧
    (Instr.canFrameReceived ⟨2047, false, false, false, false, false, 9, List.replicate 9 0⟩).wf = false ∧
    (Instr.canFrameReceived ⟨536870911, true, false, true, false, false, 15, List.replicate 64 0⟩).wf = true := by decide

/-! ## Words of the core's instructions, field by field from Tables 07.1 to 07.11 -/

/-- System: WCALL is 0x02 with SVC in bits 19 to 0; CSRR is 0x08 with RD and the CSR number. -/
theorem test_decode_system : decodeWord 0x01000000 = some .nop ∧ decodeWord 0x02012345 = some (.wcall 0x12345) ∧
    decodeWord 0x08300010 = some (.csrr 3 0x010) ∧ decodeWord 0x0A040024 = some (.csrs 0x024 4) := by decide
/-- Arithmetic: 0x10, RD 1, RA 2, RB 3; DIVS names its remainder register in bits 11 to 8. -/
theorem test_decode_arith : decodeWord 0x10123000 = some (.add 1 2 3) ∧ decodeWord 0x1C123400 = some (.divs 1 2 3 4) ∧
    decodeWord 0x2812FFFF = some (.addi 1 2 0xFFFF) ∧ decodeWord 0x10123001 = none := by decide
/-- Logic, shifts and bit fields: N in bits 4 to 0; BEXT has POS in bits 4 to 0, W in 9 to 5 and S in bit 10. -/
theorem test_decode_logic : decodeWord 0x33123000 = some (.andn 1 2 3) ∧ decodeWord 0x4612001F = some (.asri 1 2 31) ∧
    decodeWord 0x4B1204E4 = some (.bext 1 2 4 7 true) ∧ decodeWord 0x4B1203E1 = none := by decide
/-- Compares and moves. -/
theorem test_decode_moves : decodeWord 0x50012000 = some (.cmp 1 2) ∧ decodeWord 0x5C5ABCDE = some (.movi 5 0xABCDE) ∧
    decodeWord 0x5D501234 = some (.movhi 5 0x1234) ∧ decodeWord 0x50112000 = none := by decide
/-- Loads, stores, multiples and atomics. -/
theorem test_decode_memory : decodeWord 0x6012FFFC = some (.ldw 1 2 0xFFFC) ∧ decodeWord 0x6B420008 = some (.std 4 2 8) ∧
    decodeWord 0x6B520008 = none ∧ decodeWord 0x6D007FFF = some (.popm 0x7FFF) ∧ decodeWord 0x6D008000 = none ∧
    decodeWord 0x71123000 = some (.scnd 1 3 2) ∧ decodeWord 0x7B000000 = some .barSync := by decide
/-- Branches: the condition in bits 23 to 20, 15 reserved; the offset in bits 19 to 0. -/
theorem test_decode_branches : decodeWord 0x80E00010 = some (.bcc 14 0x10) ∧ decodeWord 0x80F00010 = none ∧
    decodeWord 0x823FFFFF = some (.cbnz 3 0xFFFFF) ∧ decodeWord 0x840E0000 = some (.blr 14) ∧ decodeWord 0x86000000 = none := by
  decide

/-! ## States for the witnesses -/

/-- The state after reset with its core changed. -/
def withCore (f : Core → Core) : State := { State.reset with core := f Core.reset }

/-- A core with some general registers set. -/
def withG (l : List (Fin 16 × Word)) (c : Core) : Core := l.foldl (fun c p => { c with g := c.g.set p.1 p.2 }) c

/-- A state with some registers written. -/
def withRegs (l : List (Nat × Word)) (s : State) : State := l.foldl (fun s p => s.wr p.1 p.2) s

/-- The state after reset with words in Saddle RAM. -/
def withRam (l : List (Nat × Nat)) (s : State) : State :=
  { s with saddle := l.foldl (fun m p => m.putWord p.1 (bytesLE 4 p.2)) s.saddle }

/-- A write by the Warden's code on the core. -/
def warden : Writer := ⟨0, 0x400⟩

/-- The state after reset is awake and executes: every statement that asks no more has its witness here. -/
theorem test_w_awake : State.reset.awake := by decide
theorem test_w_executes : State.reset.executes := ⟨by decide, by decide, _, rfl⟩

/-! ## Core -/

/-- Trap enables set, and operands at the ends of the range. -/
def trapState : State := withCore fun c => { withG [(1, 0x7FFFFFFF), (2, 1), (3, 0x80000000), (4, 0xFFFFFFFF)] c with astat := 0x300 }
/-- The same operands without the trap enables. -/
def plainState : State := withCore (withG [(1, 0x7FFFFFFF), (2, 1), (3, 0x80000000), (4, 0xFFFFFFFF), (5, 33), (6, 0xFFFFFF20)])

theorem test_w_trapState : trapState.executes ∧ trapState.core.astat.getLsbD 9 = true ∧ trapState.core.astat.getLsbD 8 = true ∧
    2 ^ 31 - 1 < (trapState.g 1).toInt + (trapState.g 2).toInt ∧ (trapState.g 3).toInt - (trapState.g 2).toInt < -(2 ^ 31) ∧
    trapState.g 0 = 0 ∧ trapState.g 3 = 0x80000000 ∧ trapState.g 4 = 0xFFFFFFFF :=
  ⟨⟨by decide, by decide, _, rfl⟩, by decide⟩
theorem test_w_plainState : plainState.executes ∧ plainState.core.astat.getLsbD 9 = false ∧ plainState.core.astat.getLsbD 8 = false ∧
    plainState.g 0 = 0 ∧ plainState.g 2 ≠ 0 ∧ plainState.g 3 = 0x80000000 ∧ plainState.g 4 = 0xFFFFFFFF :=
  ⟨⟨by decide, by decide, _, rfl⟩, by decide⟩
/-- Fields that end at bit 31. -/
theorem test_w_fields : (0 : BitVec 5).toNat + (31 : BitVec 5).toNat + 1 ≤ 32 ∧ (31 : BitVec 5).toNat + (0 : BitVec 5).toNat + 1 ≤ 32 := by
  decide
/-- Rotations by 0, 32, 33 and 31 places: the register's low byte is 32 and 33, the immediate is 0 and 31. -/
theorem test_w_rotates :
    (∀ j : Fin 32, (0x7FFFFFFF : Word)[j] = (plainState.g 1).getLsbD ((j.val + 0) % 32)) ∧ 32 = (plainState.g 6).toNat % 256 ∧
    (∀ j : Fin 32, (0x7FFFFFFF : Word)[j] = (plainState.g 1).getLsbD ((j.val + 32) % 32)) ∧ 33 = (plainState.g 5).toNat % 256 ∧
    (∀ j : Fin 32, (0xBFFFFFFF : Word)[j] = (plainState.g 1).getLsbD ((j.val + 33) % 32)) ∧ 31 = (31 : BitVec 5).toNat ∧
    (∀ j : Fin 32, (0xFFFFFFFE : Word)[j] = (plainState.g 1).getLsbD ((j.val + 31) % 32)) := by decide

/-- Registers of gate 2's entry 0 that refuse every access of Saddle RAM to every master. -/
def denyRam : List (Nat × Word) :=
  [(Reg.GATE_RULE_BASE 32, 0x30008000), (Reg.GATE_RULE_LIMIT 32, 0x3000BFE0), (Reg.GATE_RULE_CTL 32, 0x7FFFF), (Reg.GATE_RULE_CLS 32, 0x1FFFF)]

/-- Saddle RAM holds two words; g1 and g15 point at it, g2 at an address that is not mapped, g3 at core space, g4 at the Store. -/
def memState : State :=
  withRam [(0, 0x80FFFE7F), (4, 0x11223344)]
    (withCore (withG [(1, 0x30008000), (2, 0x50000000), (3, 0xE0000000), (4, 0x10000040), (5, 0x30008003), (14, 0x1234), (15, 0x30008000)]))
/-- The same in Tenant mode, and with a stack limit just above g15. -/
def tenantState : State := { memState with core := { memState.core with status := 0x180 } }
def stackState : State := { memState with core := { memState.core with splim := 0x30008001 } }
def deniedState : State := withRegs denyRam memState
def eccState : State := { memState with saddle := { memState.saddle with ecc := [(0, 5)] } }

theorem test_w_loads : memState.executes ∧ memState.stackOk 15 0x30008000 8 ∧
    memState.tenantMode = false ∧
    (memState.fetch.s.coreRead 0x30008000 4).resp = .ok 0x80FFFE7F ∧ (memState.fetch.s.coreRead 0x30008002 2).resp = .ok 0x80FF ∧
    (memState.fetch.s.coreRead 0x30008003 1).resp = .ok 0x80 ∧
    (memState.fetch.s.coreRead 0x30008000 8).resp = .ok 0x1122334480FFFE7F :=
  ⟨⟨by decide, by decide, _, rfl⟩, by unfold State.stackOk; decide, by decide, by decide, by decide, by decide, by decide⟩
theorem test_w_load_traps :
    (stackState.executes ∧ ¬stackState.stackOk 15 0x30008000 4 ∧ stackState.stackOk 15 0x30008001 4 ∧ stackState.stackOk 14 0 4) ∧
    (tenantState.executes ∧ tenantState.tenantMode = true ∧ coreSpace (0xE0000000 : Word) ∧ coreSpace (0xEFFFFFFF : Word) ∧
      ¬coreSpace (0xF0000000 : Word)) ∧
    (deniedState.executes ∧ (deniedState.fetch.s.coreRead 0x30008000 4).resp = .denied) ∧
    (memState.fetch.s.coreRead 0x50000000 4).resp = .abort 1 ∧
    (eccState.executes ∧ (eccState.fetch.s.coreRead 0x30008000 4).resp = .ecc 0x30008000 5) :=
  ⟨⟨⟨by decide, by decide, _, rfl⟩, by unfold State.stackOk; decide⟩, ⟨⟨by decide, by decide, _, rfl⟩, by unfold coreSpace; decide⟩,
    ⟨⟨by decide, by decide, _, rfl⟩, by decide⟩, by decide, ⟨⟨by decide, by decide, _, rfl⟩, by decide⟩⟩
theorem test_w_plainRegion : plainRegion (regionOf 0x30008000) ∧ plainRegion (regionOf 0) ∧ plainRegion (regionOf 0x10000000) ∧
    plainRegion (regionOf 0xF0000000) ∧ ¬plainRegion (regionOf 0x20004000) := by unfold plainRegion; decide
/-- Stores: of every width, the pair from g14, with the buffer empty and with three entries. -/
def oneStore (a d : Nat) : Posted :=
  { req := { mid := 0, aid := 0x400, tid := 0, cls := 0, kind := .write, addr := a, size := 4, data := d, rom := false }, epoch := 0 }
def fullState : State := { memState with core := { memState.core with buf := List.replicate 3 (oneStore 0x30008000 1) } }
theorem test_w_stores : fullState.executes ∧ fullState.core.buf.length < 4 ∧ fullState.stackOk 15 0x30008000 8 ∧
    ¬coreSpace (fullState.g 1) ∧ (14 : Fin 16).val % 2 = 0 :=
  ⟨⟨by decide, by decide, _, rfl⟩, by decide, by unfold State.stackOk; decide, by unfold coreSpace; decide, by decide⟩
/-- PUSHM of four registers, and POPM of two. -/
theorem test_w_push_pop : memState.core.buf = [] ∧ ((List.range 16).filter fun j => (0x8007 : BitVec 16).getLsbD j).length ≤ 4 ∧
    memState.stackOk 15 (memState.g 15 - 16) 16 ∧ (∀ j, j < 4 → ¬coreSpace (memState.g 15 - 16 + BitVec.ofNat 32 (4 * j))) ∧
    (memState.fetch.s.popWords (memState.g 15) 2).priv = false ∧
    (memState.fetch.s.popWords (memState.g 15) 2).resp = .ok 0x1122334480FFFE7F :=
  ⟨by decide, by decide, by unfold State.stackOk; decide, by unfold coreSpace; decide, by decide, by decide⟩

/-- A Store whose arrays hold zeros, an LRSV reservation of its granule 2 under the Warden, and g4 pointing into it. -/
def storeState : State :=
  { memState with store := List.replicate 17 (.blank .zeros), core := { memState.core with resv := some (0x10000040, 0x400) } }
theorem test_w_atomics : storeState.executes ∧ (storeState.g 4).toNat % 4 = 0 ∧ regionOf (storeState.g 4).toNat = .store ∧
    (storeState.fetch.s.coreRead 0x10000040 4).resp = .ok 0 ∧
    (storeState.fetch.s.coreRead 0x10000040 4).s.storeEff ((storeState.fetch.s.coreRead 0x10000040 4).s.coreReq .read 0x10000040 4 0) =
      some 0x10000040 ∧
    (storeState.fetch.s.coreAtomic .scnd 0x10000040 (storeState.g 14)).resp = .ok 0 ∧
    (storeState.fetch.s.coreAtomic .amoAdd 0x10000040 (storeState.g 14)).resp = .ok 0 ∧
    (storeState.fetch.s.coreAtomic .amoSwap 0x10000040 (storeState.g 14)).resp = .ok 0 :=
  ⟨⟨by decide, by decide, _, rfl⟩, by decide, by decide, by decide, by decide, by decide, by decide, by decide⟩
/-- The same with the Store refused, and addresses that are misaligned or outside the Store. -/
def deniedStore : State :=
  withRegs [(Reg.GATE_RULE_BASE 16, 0x10000000), (Reg.GATE_RULE_LIMIT 16, 0x100FFFE0), (Reg.GATE_RULE_CTL 16, 0x7FFFF),
    (Reg.GATE_RULE_CLS 16, 0x1FFFF)] storeState
theorem test_w_atomics_refused : deniedStore.executes ∧
    (deniedStore.fetch.s.coreAtomic .scnd 0x10000040 (deniedStore.g 14)).resp = .denied ∧
    (storeState.g 5).toNat % 4 = 3 ∧ ¬(regionOf (storeState.g 1).toNat = .store ∨ regionOf (storeState.g 1).toNat = .window) :=
  ⟨⟨by decide, by decide, _, rfl⟩, by decide, by decide, by decide⟩
/-- At the bank: the granule and agent of the reservation, and another agent. -/
theorem test_w_scnd : storeState.core.resv = some (0x1000005F - 0x1000005F % 32, 0x400) ∧
    storeState.core.resv ≠ some (0x10000060 - 0x10000060 % 32, 0x400) := by decide
theorem test_w_barriers : memState.executes ∧ memState.core.buf = [] ∧ memState.fetch.s.bus.nvmQ = [] :=
  ⟨⟨by decide, by decide, _, rfl⟩, by decide, by decide⟩

/-- In Tenant mode CC may be named, in Warden mode VBASE too. -/
theorem test_w_csr : tenantState.executes ∧ tenantState.tenantMode = true ∧
    [0x000, 0x020, 0x021, 0x022, 0x023, 0x024, 0x028, 0x029, 0x030].contains (0x031 : BitVec 12).toNat = false ∧
    [0x000, 0x020, 0x021, 0x022, 0x023, 0x024, 0x028, 0x029, 0x030].contains (0x030 : BitVec 12).toNat = true ∧
    memState.tenantMode = false :=
  ⟨⟨by decide, by decide, _, rfl⟩, by decide⟩
def debugBrk : State := withRegs [(Reg.DBG_CTL, 1)] memState
theorem test_w_calls : memState.fetch.s.bit Reg.DBG_CTL 0 = false ∧
    (debugBrk.executes ∧ debugBrk.fetch.s.bit Reg.DBG_CTL 0 = true) ∧
    [0x000, 0x001, 0x002, 0x010, 0x020, 0x021, 0x022, 0x023, 0x024, 0x028, 0x029, 0x030, 0x031, 0x040, 0x041, 0x042, 0x043,
      0x044].contains (0x003 : BitVec 12).toNat = false :=
  ⟨by decide, ⟨⟨by decide, by decide, _, rfl⟩, by decide⟩, by decide⟩

/-- Tenant 5 READY and current, tenant 6 absent; saved statuses in both modes. -/
def tenants (c : Core → Core) : State :=
  { withRegs [(Reg.TEN_CTL, 1)] { memState with core := c memState.core } with ten := { Ten.reset with table := [(40, 1)] } }
def toTenant (tid : Word) : State := tenants fun c => { c with status := 0x82, estatus := 0x180, tid := tid }
def inTenant (tstatus : Word) : State := tenants fun c => { c with status := 0x180, tid := 5, tstatus := tstatus }
theorem test_w_returns :
    (memState.core.status.getLsbD 8 = false ∧ memState.core.estatus.getLsbD 8 = false) ∧
    ((toTenant 5).executes ∧ (toTenant 5).core.estatus.getLsbD 8 = true ∧ (toTenant 5).fetch.s.tenState 5 = 1) ∧
    ((toTenant 6).executes ∧ (toTenant 6).fetch.s.tenState 6 ≠ 1) ∧
    ((inTenant 2).executes ∧ (inTenant 2).core.tstatus.getLsbD 1 = true) ∧
    ((inTenant 0).executes ∧ (inTenant 0).core.tstatus.getLsbD 1 = false) :=
  ⟨by decide, ⟨⟨by decide, by decide, _, rfl⟩, by decide⟩, ⟨⟨by decide, by decide, _, rfl⟩, by decide⟩,
    ⟨⟨by decide, by decide, _, rfl⟩, by decide⟩, ⟨⟨by decide, by decide, _, rfl⟩, by decide⟩⟩

/-- WFI: an enabled software line, LEVEL 0, 1, 2 and 3, Tenant mode, the debug port keeping power, a debug step. -/
def lineState : State := withRegs [(Reg.EIC_EN 3, 1)] { memState with core := { memState.core with swLines := 1, status := 0x81 } }
def levelState (l : Word) : State := withRegs [(Reg.SDL_CFG, (regReset Reg.SDL_CFG &&& 0xFFFFFFFC) ||| l)] memState
theorem test_w_wfi :
    (lineState.executes ∧ lineState.fetch.s.eligible.isSome = true) ∧
    (memState.hdp.stepping = false ∧ memState.fetch.s.eligible = none) ∧
    (tenantState.fetch.s.eligible = none ∧ tenantState.tenantMode = true) ∧
    ((levelState 0).fetch.s.f Reg.SDL_CFG 0 2 = 0 ∧ (levelState 0).fetch.s.eligible = none) ∧
    ((levelState 1).executes ∧ (levelState 1).fetch.s.f Reg.SDL_CFG 0 2 = 1 ∧ (levelState 1).fetch.s.bit Reg.HDP_PWR 1 = false ∧
      (levelState 1).core.buf = []) ∧
    ((levelState 2).executes ∧ 2 ≤ (levelState 2).fetch.s.f Reg.SDL_CFG 0 2) ∧ 2 ≤ (levelState 3).fetch.s.f Reg.SDL_CFG 0 2 :=
  ⟨⟨⟨by decide, by decide, _, rfl⟩, by decide⟩, by decide, by decide, by decide, ⟨⟨by decide, by decide, _, rfl⟩, by decide⟩,
    ⟨⟨by decide, by decide, _, rfl⟩, by decide⟩, by decide⟩

/-- Vectors in Saddle RAM: every word there is a multiple of 4, so a handler's address. -/
def vectorState : State :=
  withRam [(4, 0x30008100), (0x2C, 0x30008200), (0x180, 0x30008300)] { memState with core := { memState.core with vbase := 0x30008000 } }
theorem test_w_exceptions : vectorState.core.status.getLsbD 1 = false ∧ vectorState.core.status.getLsbD 3 = false ∧
    vectorState.core.buf = [] ∧ plainRegion (regionOf (vectorState.core.vbase + BitVec.ofNat 32 (4 * 11)).toNat) ∧
    ((vectorState.enterWarden vectorState.pc (BitVec.ofNat 32 (0 * 2 ^ 16 + 11)) 7 vectorState.core.status).vectorRead 11).resp =
      .ok 0x30008200 :=
  ⟨by decide, by decide, by decide, by unfold plainRegion; decide, by decide⟩

/-! ## Time, supplies, domains and resets -/

def tmbOf (f : Tmb → Tmb) (l : List (Nat × Word)) : State := withRegs l { State.reset with tmb := f Tmb.reset }
def hrvOf (f : Hrv → Hrv) : State := { State.reset with hrv := f Hrv.reset }
def pwrOf (f : Pwr → Pwr) (l : List (Nat × Word)) : State := withRegs l { State.reset with pwr := f Pwr.reset }
def lcsOf (f : Lcs → Lcs) (l : List (Nat × Word)) : State := withRegs l { State.reset with lcs := f Lcs.reset }

theorem test_w_rtc :
    (State.reset.tmb.escalated = false ∧ State.reset.domOn .core = true ∧ State.reset.core.halted = false) ∧
    (let s := tmbOf (fun t => { t with trimTicks := 2 ^ 20 - 1 }) []
     s.awake ∧ s.tmb.trimTicks < 2 ^ 20) ∧
    (let s := tmbOf (fun t => { t with trimTicks := 2 ^ 20 }) [(Reg.RTC_CAL, 0xFF), (Reg.RTC_SUB, 0x7D00)]
     s.awake ∧ 2 ^ 20 ≤ s.tmb.trimTicks ∧
       ((31999 : Nat) : Int) = s.f Reg.RTC_SUB 0 15 + ((s.rd Reg.RTC_CAL).setWidth 8).toInt ∧ 31999 < s.tickRate) ∧
    (let s := withRegs [(Reg.STM_CTL, 1), (Reg.STM_STAT, 2), (Reg.STM_CMPLO, 3)] State.reset
     s.awake ∧ s.bit Reg.STM_CTL 0 = true ∧ s.bit Reg.STM_STAT 1 = true) := by and_intros <;> decide
theorem test_w_power_path :
    (let s := hrvOf fun h => { h with batV := true, cBat := ⟨true, 0⟩, cMain := ⟨false, 0⟩ }
     s.awake ∧ s.hrv.pstate = .on ∧ s.hrv.src = .main ∧ s.hrv.mainV = true ∧ s.hrv.batV = true ∧ s.hrv.cBat.raw = true ∧
       s.hrv.cMain.raw = false ∧ 2 ≤ s.hrv.cMain.held + 2 ∧ s.hrv.cMain.held + 1 < 2) ∧
    (let s := hrvOf fun h => { h with cMain := ⟨false, 0⟩ }
     s.hrv.mainV = true ∧ s.hrv.batV = false ∧ s.hrv.cBat.raw = false ∧ s.hrv.belCrit = false ∧ s.hrv.cCrit.raw = false) ∧
    (let s := hrvOf fun h => { h with pstate := .handover, newSrc := .bat, batV := true }
     s.awake ∧ s.hrv.pstate = .handover ∧ s.hrv.newSrc = .bat ∧ s.hrv.cBat.raw = false ∧ s.hrv.cMain.raw = true ∧ s.hrv.mainV = true) ∧
    (let s := hrvOf fun h => { h with src := .bat, batV := true, mainV := false, cMain := ⟨true, 999⟩ }
     s.awake ∧ s.hrv.pstate = .on ∧ s.hrv.src ≠ .main ∧ s.hrv.mainV = false ∧
       (s.hrv.cMain.raw && decide (1000 ≤ s.hrv.cMain.held + 1)) = true ∧
       (s.hrv.cMain.raw && decide (1000 ≤ s.hrv.cMain.held + 0)) = false) ∧
    (let s := hrvOf fun h => { h with pstate := .settle, completing := true }
     s.awake ∧ s.hrv.pstate = .settle ∧ s.hrv.completing = true ∧ s.hrv.src = .main ∧ s.hrv.mainV = true) ∧
    (hrvOf fun h => { h with pstate := .shutdown }).hrv.pstate = .shutdown ∧
    (let s := hrvOf fun h => { h with pstate := .off }
     s.hrv.pstate = .off ∧ s.core.stalled = none ∧ s.hdp.stepping = false ∧
       (s.hrv.cMain.raw && decide (1000 ≤ s.hrv.cMain.held)) = true) ∧
    (let s := hrvOf fun h => { h with pstate := .off, cMain := ⟨false, 0⟩ }
     s.hrv.pstate = .off ∧ (s.hrv.cMain.raw || s.hrv.cOk.raw || s.hrv.cBat.raw) = false) := by and_intros <;> decide
/-- R56: VMAIN at 3.0 V for one more microsecond is valid after 1 ms and takes the part back from BAT. -/
theorem test_vmain_valid :
    (let s := hrvOf fun h => { h with src := .bat, batV := true, cBat := ⟨true, 0⟩, mainV := false, cMain := ⟨true, 999⟩ }
     match exec (.sourceValid ⟨1, ⟨0, 3000, 0, 3000⟩⟩) s with
     | .next t => t.hrv.mainV && decide (t.hrv.pstate = .handover) && decide (t.hrv.newSrc = .main)
     | _ => false) = true := by decide
/-- Table 03.1, R60: after 1 ms in OFF with 3.3 V at VBEL and 2.0 V at VBAT the part leaves on BAT: VBEL is not above BEL_OK. -/
theorem test_off_exit_bat :
    (let s := hrvOf fun h => { h with pstate := .off, mainV := false, levels := ⟨0, 2999, 3300, 2000⟩, cMain := ⟨false, 0⟩,
                                      cBat := ⟨true, 0⟩, cLow := ⟨true, 0⟩, cCrit := ⟨true, 0⟩ }
     match exec (.offExit ⟨1000, s.hrv.levels⟩ false) s with
     | .next t => decide (t.hrv.src = .bat) && t.hrv.batV && !t.hrv.belOk && t.hrv.belLow
     | _ => false) = true := by decide
/-- HRV_THR as it is after reset is in order, 0 is not; BEL_MAX code 0 is 26 steps. -/
theorem test_w_harvester :
    let max50 (w : Word) : Nat := [26, 32, 38, 42].getD (w.toNat / 2 ^ 4 % 4) 0
    let ordered (thr cfg : Word) : Prop :=
      thr.toNat % 64 < thr.toNat / 2 ^ 8 % 64 ∧ thr.toNat / 2 ^ 8 % 64 < thr.toNat / 2 ^ 16 % 64 ∧ thr.toNat / 2 ^ 16 % 64 < max50 cfg
    let on := State.reset
    (on.awake ∧ on.bit Reg.HRV_CFG 0 = true) ∧
    2000 + 50 * max50 (on.rd Reg.HRV_CFG) = 4100 ∧
    ordered (State.reset.written Reg.HRV_THR 0x00170E0D) (State.reset.rd Reg.HRV_CFG) ∧
    ¬ordered (State.reset.written Reg.HRV_THR 0x00170E0E) (State.reset.rd Reg.HRV_CFG) ∧
    ¬ordered (State.reset.written Reg.HRV_THR 0) (State.reset.rd Reg.HRV_CFG) ∧
    ordered (State.reset.rd Reg.HRV_THR) (State.reset.written Reg.HRV_CFG (State.reset.rd Reg.HRV_CFG)) ∧
    ordered (on.rd Reg.HRV_THR) (on.written Reg.HRV_CFG (on.rd Reg.HRV_CFG ^^^ 1)) ∧ State.reset.hrv.src ≠ .bat ∧
    (on.written Reg.HRV_CFG (on.rd Reg.HRV_CFG ^^^ 1)).getLsbD 0 ≠ on.bit Reg.HRV_CFG 0 ∧
    (let low := withRegs [(Reg.HRV_THR, 0x001F0E0D)] State.reset
     low.awake ∧ ¬ordered (low.rd Reg.HRV_THR) (low.written Reg.HRV_CFG 0)) := by and_intros <;> decide
theorem test_w_domains :
    (let s := State.reset
     let new := s.written Reg.PWR_DOMCTL 0xB
     s.domOn .sys = true ∧ s.outputsOn = 0 ∧
       (∀ e ∈ softDomains, e ≠ .hmi → new.getLsbD (domBit e) = s.bit Reg.PWR_DOMCTL (domBit e)) ∧
       new.getLsbD (domBit .hmi) = false ∧ s.bit Reg.PWR_DOMCTL (domBit .hmi) = true ∧ s.domOn .hmi = true) ∧
    (let s := (withRegs [(Reg.PWR_DOMCTL, 0xB)] State.reset).setDom .hmi .retention
     let new := s.written Reg.PWR_DOMCTL 0xF
     s.awake ∧ (∀ e ∈ softDomains, e ≠ .hmi → new.getLsbD (domBit e) = s.bit Reg.PWR_DOMCTL (domBit e)) ∧
       new.getLsbD (domBit .hmi) = true ∧ s.bit Reg.PWR_DOMCTL (domBit .hmi) = false ∧ s.dom .hmi = .retention ∧
       .hmi ∉ s.pwr.pdown ∧ s.bit Reg.RST_STAT (domBit .hmi) = false ∧ s.stepsLeft .hmi = false) ∧
    (let s := (pwrOf (fun p => { p with pdown := [.hmi] }) []).setDom .hmi .transition
     s.awake ∧ Domain.hmi ∈ s.pwr.pdown ∧ Domain.hmi ∈ softDomains) ∧
    State.reset.pins.vio.getD 1 true = true ∧
    (let s := pwrOf (fun p => { p with wkScans := [1, 2, 3] }) [(Reg.SDL_WKEY, 0x80)]
     s.awake ∧ s.bit Reg.SDL_WKEY 7 = true ∧ s.bit Reg.TCH_CTL 0 = false ∧ s.pwr.wkScans.length < 4 ∧
       ¬(s.domOn .hmi = true ∧ (s.bit Reg.PNL_CTL 0 = true ∨ s.bit Reg.PNL_STAT 0 = true))) ∧
    (let s : State := { pwrOf (fun p => { p with wkScans := [1, 2, 3] }) [(Reg.SDL_WKEY, 0x80), (Reg.PNL_CTL, 1)] with
       pnl := { Pnl.reset with quiet := some 7 } }
     s.awake ∧ s.domOn .hmi = true ∧ s.bit Reg.PNL_CTL 0 = true ∧ s.pnl.quiet ≠ none ∧ Pnl.reset.quiet = none) ∧
    (let s := (pwrOf (fun p => { p with stagger := [13, 14] }) []).setDom .hmi .reset
     s.calm ∧ s.lcs.nresetLow = false ∧ s.pwr.stagger = [13, 14] ∧ s.skips 13 = false ∧ s.dom (stepDom 13) ≠ .transition ∧
       stepDom 13 ≠ .meas) ∧
    (let s := { (pwrOf (fun p => { p with stagger := [8, 9, 10, 11, 12] }) []).setDom .meas .transition with
       pins := { Pins.reset with vcoreBad := true } }
     s.calm ∧ s.lcs.nresetLow = false ∧ s.pwr.stagger = [8, 9, 10, 11, 12] ∧ s.dom .meas = .transition ∧
       s.bit Reg.RST_STAT 1 = false ∧ s.safeConds ≠ []) ∧
    (let s := State.reset.setDom .core .transition
     s.calm ∧ s.mayUse .core = true ∧ s.bus.held = []) ∧
    (let s := State.reset.setDom .hmi .transition
     s.calm ∧ s.mayUse .hmi = true ∧ s.domctl .hmi = true) ∧
    (let s := pwrOf (fun p => { p with entry := some .hibernate }) []
     s.calm ∧ s.pwr.entry = some .hibernate ∧ s.core.buf = [] ∧ s.bus.nvmQ = [] ∧ s.lcsBusy = false ∧ s.lcs.keyLoad = none ∧
       s.stcPh ≠ 5 ∧ s.stcPh ≠ 10 ∧ s.bus.held = [] ∧ s.msr.held = []) ∧
    (let s := pwrOf (fun p => { p with level := .hibernate }) [(Reg.SDL_WAKEEN, 2)]
     s.calm ∧ s.pwr.level = .hibernate ∧ s.pwr.entry = none ∧ s.pwr.waking = false ∧ s.wakeEnabled .rtc .hibernate = true) := by
  and_intros <;> decide
/-- The boot ROM waits for the cold MATS+, which runs. -/
def coldState : State :=
  { withRegs [(Reg.STC_STAT, 0x10000000)] State.reset with
    pwr := { Pwr.reset with boot := true, stage := .mats }, store := List.replicate 17 (.blank .zeros) }
theorem test_w_resets :
    (0xA5C20000 : Word).toNat / 2 ^ 16 ≠ 0xA5C3 ∧ ((0xA5C30100 : Word).toNat / 2 ^ 16 = 0xA5C3 ∧ (0xA5C30100 : Word).getLsbD 8 = true) ∧
    (Domain.sec ∈ softDomains ∧ State.reset.bit Reg.RST_STAT (domBit .sec) = false) ∧
    (let s := lcsOf (fun l => { l with pendingResets := [.software] }) []
     s.calm ∧ s.lcs.pendingResets = [.software] ∧ s.resetDeferred = false) ∧
    (let s := coldState
     s.powered = true ∧ s.core.stalled = none ∧ s.hdp.stepping = false ∧ s.pwr.boot = true ∧ s.domOn .core = true ∧
       s.core.halted = false ∧ s.core.stopped = false ∧ s.pwr.stage = .mats ∧ s.domOn .sec = true ∧ s.pwr.stagger = [] ∧
       s.stcPh = 1 ∧ s.store.length = 17) := by and_intros <;> decide


theorem test_w_life_cycle :
    (let v : Word := 0x1C5E0004
     v.toNat / 2 ^ 16 = 0x1C5E ∧ State.reset.lcsBusy = false ∧ State.reset.bit Reg.LCS_STAT 7 = false ∧ State.reset.outputsOn = 0 ∧
       State.reset.transitionReady (v.toNat % 8) = true ∧ (State.reset.lcState, v.toNat % 8) ∈ [(0, 1), (1, 2), (0, 4)]) ∧
    (let s := lcsOf (fun l => { l with keys := List.replicate 8 [1] }) []
     s.awake ∧ s.transitionReady 1 = true ∧ (s.lcState, 1) ∈ [(0, 1), (1, 2), (0, 4)]) ∧
    (let s := withRegs [(Reg.LCS_STATE, 0x203)] State.reset
     s.awake ∧ s.lcsBusy = false ∧ s.bit Reg.LCS_STAT 7 = false ∧ s.transitionReady 3 = true ∧
       (s.lcState, 3) ∈ [(2, 3), (3, 2), (1, 4), (2, 4), (3, 4)]) ∧
    (0x1C5F0004 : Word).toNat / 2 ^ 16 ≠ 0x1C5E ∧
    (let s := lcsOf (fun l => { l with chalWrite := true }) []
     s.awake ∧ s.lcs.chalWrite = true ∧ s.hdp.unlocking = false ∧ s.lcsBusy = true) ∧
    (let s := withRegs [(Reg.LCS_STAT, regReset Reg.LCS_STAT ||| 8)] State.reset
     s.awake ∧ s.bit Reg.LCS_STAT 3 = true ∧ State.reset.bit Reg.LCS_STAT 3 = false) ∧
    (let s := lcsOf (fun l => { l with checking := true }) []
     s.awake ∧ s.lcs.checking = true ∧ s.usableKey 7 = none) ∧
    (let s := lcsOf (fun l => { l with journal := true, target := 4 }) []
     s.awake ∧ s.lcs.journal = true ∧ s.lcs.journalDone = 0 ∧ s.lcs.pendingResets = []) ∧
    (let v : Word := 0x4B594001
     v.toNat / 2 ^ 16 = 0x4B59 ∧ State.reset.lcs.keyLoad = none ∧ State.reset.mayLoad (v.toNat % 8) = true ∧
       0 < v.toNat / 2 ^ 8 % 128 ∧ v.toNat / 2 ^ 8 % 128 ≤ 64) ∧
    (let s := lcsOf (fun l => { l with keyLoad := some (1, 64) }) []
     s.awake ∧ s.lcs.keyLoad = some (1, 64)) := by and_intros <;> decide

/-- Responses that pass: HMAC-SHA-256 under the key 01 of sixteen zero bytes with 07 03, and with D6 03, worked out apart from
the model. -/
def passState : State :=
  withRegs ((Reg.LCS_STATE, 0x203) ::
    (List.range 8).map fun i => (Reg.LCS_RESP i,
      [0x8b12de21, 0xfee5479f, 0x10c0f7c9, 0xbd11b075, 0xdc2409d9, 0x98c14e8f, 0xfec6b984, 0x807eecee].getD i 0))
    { State.reset with lcs := { Lcs.reset with keys := List.replicate 8 [1], checking := true, target := 3 } }
def unlockState : State :=
  withRegs ((Reg.LCS_STATE, 0x203) ::
    (List.range 8).map fun i => (Reg.HDP_RESP i,
      [0xadb92441, 0x7fbb041f, 0xe60d0140, 0xbd151b03, 0xf4513b37, 0x7408ad7a, 0x83f248a1, 0x83eac3a0].getD i 0))
    { State.reset with
      lcs := { Lcs.reset with keys := List.replicate 8 [1], checking := true }, hdp := { Hdp.reset with unlocking := true } }
theorem test_w_response_passes : passState.awake ∧ passState.lcs.checking = true ∧ passState.hdp.unlocking = false ∧
    passState.usableKey 7 = some [1] ∧
    hmacSha256 [1] (passState.regBytes Reg.LCS_CHAL 4 ++
      [BitVec.ofNat 8 (codeOfState passState.lcs.target), BitVec.ofNat 8 (passState.f Reg.LCS_STATE 0 5)]) =
      passState.regBytes Reg.LCS_RESP 8 := by
  and_intros <;> decide
theorem test_w_unlock_fits : unlockState.awake ∧ unlockState.lcs.checking = true ∧ unlockState.hdp.unlocking = true ∧
    unlockState.usableKey 6 = some [1] ∧
    hmacSha256 [1] (unlockState.regBytes Reg.HDP_CHAL 4 ++ [0xD6, BitVec.ofNat 8 (unlockState.f Reg.LCS_STATE 0 5)]) =
      unlockState.regBytes Reg.HDP_RESP 8 := by
  and_intros <;> decide

/-! ## The tracker, the boundaries, entries of the core -/

/-- On LXO at the given increment and mode (CURINC in bits 31 to 16, MODE in 9 and 8 of TMB_STAT). -/
def lxo (mode : Nat) (f : Tmb → Tmb) : State := tmbOf f [(Reg.TMB_STAT, word (27962 * 0x10000 + mode * 0x100))]
theorem test_w_tracker :
    (let u := (lxo 0 fun t => { t with crossSeen := true, sinceCross := 298 }).advanceTicks 1
     u.onLrc = false ∧ u.tmb.crossSeen = true ∧ u.tmb.sinceCross < 2 ^ 23 / u.curInc) ∧
    (let u := (lxo 2 fun t => { t with crossSeen := true, sinceCross := 495 }).advanceTicks 1
     u.tmb.intervalSwitched = false ∧ 2 ^ 23 / u.curInc ≤ u.tmb.sinceCross ∧ 496 ≤ u.tmb.sinceCross ∧ u.mstate = 2) ∧
    (let u := (withRegs [(Reg.TMB_CFG, regReset Reg.TMB_CFG ||| 0x100000)]
       (lxo 0 fun t => { t with crossSeen := true, sinceCross := 729, validRun := 3 })).advanceTicks 0
     u.tmb.sinceCross ≤ 729 ∧ u.mstate = 0 ∧ u.tmb.validRun = 3 ∧ u.bit Reg.TMB_CFG 20 = true) ∧
    (let u := (lxo 1 fun t => { t with missLeft := 0, missRun := 0 }).advanceTicks 0
     u.tmb.missLeft = 0 ∧ u.mstate = 1 ∧ u.tmb.missRun + 1 < u.f Reg.TMB_CFG 24 3 + 1) ∧
    (let u := (lxo 2 fun t => { t with missLeft := 0, missRun := 7 }).advanceTicks 0
     u.mstate = 2 ∧ u.f Reg.TMB_CFG 24 3 + 1 ≤ u.tmb.missRun + 1) ∧
    (let u := (lxo 0 fun t => { t with lxoRuns := true }).advanceTicks 0
     (lxo 0 fun t => { t with lxoRuns := true }).awake ∧ u.tmb.lxoRuns = true ∧ u.onLrc = false) ∧
    (let u := (tmbOf (fun t => { t with fromShelf := true }) []).advanceTicks 0
     u.tmb.fromShelf = true) ∧
    (let u := State.reset.advanceTicks 4
     u.tmb.lxoRuns = false ∧ u.bit Reg.TMB_STAT 13 = false ∧ u.onLrc = true) ∧
    (let u := tmbOf (fun t => { t with lxoRuns := true, lxoWhole := true }) []
     u.awake ∧ u.domOn .sys = true ∧ u.tmb.lxoWhole = true ∧ u.tmb.busySeen = false ∧ u.bit Reg.CLK_STAT 0 = false) ∧
    (let legal (v : Word) : Prop := 4 ≤ v.toNat % 128 ∧ v.toNat % 128 ≤ 96 ∧ (v.getLsbD 8 = true ∨ v.toNat % 128 ≤ 32)
     legal 0x004 ∧ legal 0x020 ∧ legal 0x160 ∧ ¬legal 0x003 ∧ ¬legal 0x021 ∧ ¬legal 0x161) ∧
    (withRegs [(Reg.CLK_STAT, 0x1003)] State.reset).bit Reg.CLK_STAT 0 = true := by and_intros <;> decide

theorem test_w_boundaries :
    (let u := (tmbOf (fun t => { t with acc := 2 ^ 24 }) []).advanceTicks 0
     2 ^ 24 ≤ u.tmb.acc ∧ u.mstate = 0 ∧ u.tmb.breathDiv ≤ 32) ∧
    (let u := (tmbOf (fun t => { t with acc := 2 ^ 24 - 1 }) []).advanceTicks 0
     u.tmb.acc < 2 ^ 24 ∧ u.f Reg.TMB_STAT 0 5 + 1 < u.tmb.breathDiv ∧
       (u.f Reg.TMB_STAT 0 5 + 1) * 2 ^ 24 / u.tmb.breathDiv ≤ u.tmb.acc) ∧
    (let u := (lxo 1 fun t => { t with acc := 2 ^ 24, target := none }).advanceTicks 0
     u.mstate ≠ 0 ∧ u.tmb.target = none) ∧
    (let u := (lxo 2 fun t => { t with acc := 2 ^ 24, target := some 30000 }).advanceTicks 0
     u.mstate ≠ 0 ∧ u.tmb.target = some 30000) ∧
    (let u := (tmbOf (fun t => { t with acc := 2 ^ 20 - 1 }) []).advanceTicks 0
     u.tmb.acc < (u.f Reg.TMB_STAT 0 5 + 1) * 2 ^ 24 / u.tmb.breathDiv) ∧
    (let u := (withRegs [(Reg.TMB_STAT, 15)] (tmbOf (fun t => { t with acc := 2 ^ 24 }) [])).advanceTicks 0
     u.tmb.breathDiv ≤ u.f Reg.TMB_STAT 0 5 + 1) ∧
    (let s := tmbOf (fun t => { t with acc := 2 ^ 20, brtWhole := true, brtDone := true }) [(Reg.BRT_CFG, regReset Reg.BRT_CFG ||| 1)]
     let u := s.advanceTicks 0
     s.awake ∧ u.bit Reg.BRT_CFG 0 = true ∧ u.core.halted = false ∧ u.tmb.brtWhole = true ∧ u.tmb.brtDone = true) ∧
    (let s := tmbOf (fun t => { t with acc := 2 ^ 20, brtWhole := true }) [(Reg.BRT_CFG, regReset Reg.BRT_CFG ||| 1)]
     (s.advanceTicks 0).tmb.brtDone = false) := by and_intros <;> decide

/-- Line 96 pending and enabled with its vector at the word 128 of Saddle RAM; line 127 too, of the same priority. -/
def irqState : State :=
  withRam [(4, 0x30008100), (0x200, 0x30008200)]
    (withRegs [(Reg.EIC_EN 3, 0x80000001)]
      (withCore fun c => { c with swLines := 0x80000001, status := 0x81, vbase := 0x30008000 }))
/-- A safety NMI with its vector, and a tenant whose line 3 is injected and enabled, current, in both modes of TSTATUS. -/
def nmiState : State := { irqState with core := { irqState.core with nmi := true } }
def virtState (exit : Bool) : State :=
  { (withRegs [(Reg.TEN_CTL, 1)] (withCore fun c => { c with status := 0x180, tid := 5, tstatus := 1 })) with
    ten := { Ten.reset with table := [(40, 1), (45, 0x80000)], latches := [83], exitDue := exit } }
theorem test_w_interrupt : irqState.awake ∧ irqState.coreRuns = true ∧ irqState.hdp.haltReq = false ∧ irqState.hdp.wpHit = none ∧
    irqState.breakpoint = none ∧ irqState.nmiDue = false ∧ irqState.ten.exitDue = false ∧ irqState.core.status.getLsbD 1 = false ∧
    irqState.core.status.getLsbD 2 = false ∧ irqState.core.status.getLsbD 0 = true ∧
    irqState.bit (Reg.EIC_EN (96 / 32)) (96 % 32) = true ∧ irqState.eicLine 96 = true ∧
    irqState.prio 96 < irqState.core.status.toNat / 16 % 16 ∧
    (∀ m, m < 128 → irqState.bit (Reg.EIC_EN (m / 32)) (m % 32) = true → irqState.prio 96 < irqState.prio m ∨
      irqState.prio 96 = irqState.prio m ∧ 96 ≤ m) ∧
    irqState.core.buf = [] ∧ plainRegion (regionOf (irqState.core.vbase + BitVec.ofNat 32 (4 * 128)).toNat) ∧
    ((irqState.enterWarden irqState.pc (BitVec.ofNat 32 (2 ^ 31 + 96)) 0 (setFld irqState.core.status 4 4 (irqState.prio 96))).vectorRead
      (32 + 96)).resp = .ok 0x30008200 ∧
    State.reset.interruptDue = none := by
  and_intros <;> first | decide | (unfold plainRegion; decide)
theorem test_w_entries :
    (nmiState.awake ∧ nmiState.core.nmi = true ∧ nmiState.core.status.getLsbD 2 = false ∧ nmiState.core.buf = [] ∧
      plainRegion (regionOf (nmiState.core.vbase + BitVec.ofNat 32 (4 * 1)).toNat) ∧
      (let entered := { nmiState.core with
        nepc := nmiState.core.pc, nstatus := 0x81, status := (nmiState.core.status &&& 0xFFFFFEFE) ||| 4, nmi := false, resv := none,
        guard := [] }
       (({ nmiState with core := entered } : State).vectorRead 1).resp = .ok 0x30008100) ∧ nmiState.bus.held = [] ∧
      nmiState.ten.exitDue = false ∧ (nmiState.core.status &&& 0x1FF) = 0x81 ∧ nmiState.breakpoint = none) ∧
    ((virtState false).awake ∧ (virtState false).coreRuns = true ∧ (virtState false).interruptDue = none ∧
      (virtState false).core.tstatus.getLsbD 0 = true ∧ (virtState false).core.tstatus.getLsbD 1 = false ∧
      (virtState false).tenantLine = some 3 ∧ (virtState false).nmiDue = false ∧ (virtState false).breakpoint = none) ∧
    ((virtState true).awake ∧ (virtState true).coreRuns = true ∧ (virtState true).ten.exitDue = true ∧
      (virtState true).tenantMode = true ∧ (virtState true).nmiDue = false) ∧
    State.reset.domOn .meas = true := by
  and_intros <;> first | decide | (unfold plainRegion; decide)

/-! ## The interconnect, the pins and the gates -/

theorem test_w_register_access :
    (∀ a ∈ plainRegs, State.reset.regUp a = true ∧ (regDef? a).isSome = true) ∧
    (let s := State.reset.setDom .hmi .retention
     s.awake ∧ s.regUp Reg.TCH_IEN = false) ∧
    (let s := withRegs [(Reg.SAF_CFG, regReset Reg.SAF_CFG)] State.reset
     s.regUp Reg.SAF_CFG = true) := by and_intros <;> decide
def posted (a : Nat) (errs : List (Word × Word)) : State :=
  { withCore (fun c => { c with buf := [oneStore a 0x12345678] }) with bus := { Bus.reset with errs := errs } }
theorem test_w_interconnect :
    (∀ a ∈ [0x30008000, 0x3000BFFC], (posted a []).awake ∧ (posted a []).domOn .sys = true ∧ (oneStore a 0).req.addr % 4 = 0 ∧
      ((posted a []).gateCheck 2 a 0 (oneStore a 0x12345678).req).ok = true) ∧
    regionOf (oneStore 0x50000000 0).req.addr = .unmapped ∧
    (posted 0x50000000 (List.replicate 7 (0, 0))).bus.errs.length < 8 ∧ 8 ≤ (posted 0x50000000 (List.replicate 8 (0, 0))).bus.errs.length ∧
    (let w : NvmWrite := { addr := 0x1000, bytes := List.replicate 8 (some 1), mid := 0 }
     let s : State := { State.reset with bus := { Bus.reset with nvmQ := [w] } }
     s.awake ∧ s.bus.nvmQ = [w] ∧ w.bytes.length = 8) := by and_intros <;> decide
theorem test_w_gpio :
    (State.reset.pins.vio.length = 4 ∧ State.reset.pins.vio.getD 1 true = true ∧ State.reset.bit Reg.GPIO_DIR 15 = false ∧
      State.reset.bit Reg.GPIO_LVL 15 = false ∧ State.reset.bit Reg.GPIO_FILT 15 = false) ∧
    (let s := withRegs [(Reg.GPIO_FILT, 0x0F008000), (Reg.GPIO_PULL, 0x00008000)] State.reset
     s.awake ∧ s.bit Reg.GPIO_FILT 15 = true ∧ s.f Reg.GPIO_FILT 24 4 + 2 = 17 ∧ s.bit Reg.GPIO_PULL 15 = true ∧
       s.bit Reg.GPIO_PULL 31 = false) ∧ 1 < (2 : Fin 4).val ∧
    (let s : State := { State.reset with pins := { Pins.reset with vio := [false, true, true, true] } }
     s.awake ∧ s.pins.vio.getD 0 true = false ∧ s.pins.vio.length = 4) := by and_intros <;> decide
theorem test_w_gates :
    State.reset.bit (Reg.GATE_RULE_CTL 0) 31 = false ∧ State.reset.bit Reg.GTC_CTL 0 = false ∧
    (let s := withRegs [(Reg.GATE_RULE_CTL 127, 0x80000000), (Reg.GTC_CTL, 1)] State.reset
     s.awake ∧ s.bit (Reg.GATE_RULE_CTL 127) 31 = true ∧ s.bit Reg.GTC_CTL 0 = true) ∧
    (let s : State := { withRegs [(Reg.GTC_CRCCTL, 2)] State.reset with gtc := { Gtc.reset with crcRuns := true } }
     s.awake ∧ s.gtc.crcRuns = true ∧ s.bit Reg.GTC_CRCCTL 1 = true) ∧
    (let s : State := { State.reset with gtc := { Gtc.reset with crcRuns := true } }
     s.bit Reg.GTC_CRCCTL 1 = false ∧ s.bit Reg.GTC_CRCCTL 0 = false) := by and_intros <;> decide

/-- The check that finds another CRC than the reference, and one that finds the reference (the CRC-32 of 2,048 zero bytes). -/
def crcState (ref : Word) : State :=
  { withRegs [(Reg.GTC_CRCCTL, 1), (Reg.GTC_CRCREF, ref)] State.reset with gtc := { Gtc.reset with crcRuns := true } }
theorem test_w_gate_crc :
    ((crcState 1).awake ∧ (crcState 1).bit Reg.GTC_CRCCTL 1 = false ∧ (crcState 1).bit Reg.GTC_CRCCTL 0 = true ∧
      (crcState 1).bit Reg.GTC_CRCSTAT 1 = false ∧ (crcState 1).domOn .meas = true) ∧
    (crcState 1).rd Reg.GTC_CRCREF ≠ BitVec.ofNat 32 (crc32 (crcState 1).ruleBytes) ∧
    (crcState 0xF1E8BA9E).rd Reg.GTC_CRCREF = BitVec.ofNat 32 (crc32 (crcState 0xF1E8BA9E).ruleBytes) :=
  ⟨by and_intros <;> decide, by decide +kernel, by decide +kernel⟩

/-! ## The general DMA -/

/-- Channel 0 with a state, a descriptor and a position; the descriptor stands at 0x10000100 in a Store of zeros. -/
def dmaState (st : Nat) (desc : List Word) (f : DmaCh → DmaCh) (l : List (Nat × Word)) : State :=
  { withRegs ([(Reg.DMA_CHSTAT 0, word (st * 2 ^ 28)), (Reg.DMA_CHCUR 0, 0x10000100), (Reg.DMA_CHCTL 0, 0x04000000)] ++ l) State.reset with
    dma := { Dma.reset with ch := [f { DmaCh.reset with desc := desc }] ++ List.replicate 7 DmaCh.reset }
    store := List.replicate 17 (.blank .zeros) }
/-- Descriptors: a COPY of 12 bytes within Saddle RAM, a FILL of 16, AMOADD and AMOSWP in the Store, ALLOC of class 1, and a last
one with its next descriptor or without one. -/
def copyDesc : List Word := [0x10000000, 12, 0x30008000, 0x30008020, 0, 0, 0, 0]
def fillDesc : List Word := [0x20000000, 16, 0, 0x30008020, 1, 2, 0, 0]
def amoDesc (op : Nat) : List Word := [word (op * 2 ^ 28), 0, 5, 0x10000040, 0, 0, 0, 0]
def allocDesc (dst : Word) : List Word := [0x50010000, 0, 0, dst, 0, 0, 0, 0]

theorem test_w_dma_start :
    (let s := dmaState 4 copyDesc id []
     s.awake ∧ s.domOn .sys = true ∧ s.dma.ch.length = 8 ∧ 1 ≤ s.dmaState 0 ∧ s.dmaState 0 ≤ 4) ∧
    (let s := dmaState 1 [] id []
     1 ≤ s.dmaState 0 ∧ (s.dmaCh 0).desc = [] ∧ descriptorAt 0x10000100 = true) ∧
    ((dmaState 5 [] id []).dmaState 0 = 5 ∧ (dmaState 0 [] id []).dmaState 0 = 0) ∧
    (let s := dmaState 1 [] id [(Reg.DMA_CHCUR 0, 0x10000110)]
     s.dmaState 0 = 1 ∧ descriptorAt (s.rd (Reg.DMA_CHCUR 0)).toNat = false) := by and_intros <;> decide
/-- The arbiter of bank 0 before the first read of a descriptor and after each. -/
def readGrants (j : Nat) : List Arb := if j = 0 then [] else [{ Arb.fresh 32 with last2 := 2 }]
/-- The four reads of a descriptor of zeros; its OP 0 is no operation. A descriptor that is whole is accepted. -/
theorem test_w_dma_fetch :
    (let s := dmaState 1 [] id []
     let i (g : List Arb) : State := { s.dmaIssued 0 with bus := { s.bus with arbs := g } }
     (∀ m, m < 8 → m ≠ 0 → s.dmaReady m = false) ∧ readGrants 0 = s.bus.arbs ∧
     ∀ j, j < 4 → let x (g : List Arb) := (i g).setDmaCh 0 { s.dmaCh 0 with desc := (List.replicate 8 0).take (2 * j) }
       (x (readGrants j)).read ((x (readGrants j)).dmaReq 0 .read (0x10000100 + 8 * j) 8 0) (.dma 0) = ⟨x (readGrants (j + 1)), .ok 0⟩) ∧
    (dmaState 1 (List.replicate 8 0) id []).dmaDescOk 0 = false ∧ (dmaState 1 copyDesc id []).dmaDescOk 0 = true := by
  have eta : ∀ (a : Ans) (u : State) (r : Resp), a.s = u → a.resp = r → a = ⟨u, r⟩ := by rintro ⟨_, _⟩ _ _ rfl rfl; rfl
  refine ⟨⟨by decide, rfl, fun j hj => eta _ _ _ ?_ ?_⟩, by decide, by decide⟩
  · interval_cases j <;> rfl
  · interval_cases j <;> decide
theorem test_w_dma_run :
    (let s := withRam [(0, 0x11223344), (4, 0x55667788)] (dmaState 2 copyDesc id [])
     s.awake ∧ s.dmaState 0 = 2 ∧ (s.dmaCh 0).wb = 0 ∧ s.dmaOp 0 = 1 ∧ (s.dmaCh 0).copy = none ∧ s.copyStep 0 = 8 ∧
       regionOf (s.dmaSrc 0) = .ram ∧
       (∀ m, m < 8 → s.dmaReady m = true → (0 + 7 - s.dma.last % 8) % 8 ≤ (m + 7 - s.dma.last % 8) % 8) ∧
       ((s.dmaIssued 0).read (s.dmaReq 0 .read 0x30008000 8 0) (.dma 0)).resp = .ok 0x5566778811223344) ∧
    (let s := dmaState 2 copyDesc (fun c => { c with copy := some 7 }) []
     (s.dmaCh 0).copy = some 7 ∧ s.dmaDst 0 % s.copyStep 0 = 0 ∧
       (s.gateCheck 2 0x30008020 0 (s.dmaReq 0 .write 0x30008020 8 7)).ok = true ∧ s.dmaPos 0 + s.copyStep 0 < s.dmaLen 0) ∧
    (let s := dmaState 2 fillDesc id []
     s.dmaOp 0 = 2 ∧ (s.gateCheck 2 0x30008020 0 (s.dmaReq 0 .write 0x30008020 8 0x200000001)).ok = true ∧ s.dmaPos 0 + 8 < s.dmaLen 0) ∧
    (let s := dmaState 2 (amoDesc 3) id []
     s.dmaOp 0 = 3 ∧ regionOf (s.dmaDst 0) = .store ∧ ((s.dmaIssued 0).access (s.dmaReq 0 .amoAdd 0x10000040 4 5) (.dma 0)).resp = .ok 0) ∧
    (let s := dmaState 2 (amoDesc 4) id []
     s.dmaOp 0 = 4 ∧ ((s.dmaIssued 0).access (s.dmaReq 0 .amoSwap 0x10000040 4 5) (.dma 0)).resp = .ok 0) := by and_intros <;> decide
/-- ALLOC: a pool of four buffers of class 1, one with none left, one that is disabled. -/
def poolRegs (free : Nat) : List (Nat × Word) :=
  [(Reg.POOL_CTL, 1), (Reg.POOL_CNT01, 0x40000), (Reg.POOL_CLSBASE 1, 0x10000000), (Reg.POOL_STAT 1, word free)]
def withPool (s : State) : State := { s with pool := { Pool.reset with undef := none, cnt := [0, 4, 0, 0] } }
theorem test_w_dma_alloc :
    (let s := withPool (dmaState 2 (allocDesc 0) id (poolRegs 4))
     s.awake ∧ s.domOn .store = true ∧ s.dmaOp 0 = 5 ∧ (s.dmaCh 0).handle = none ∧
       (s.gateCheck 4 (Reg.POOL_ALLOC 1) 0 (s.dmaReq 0 .read (Reg.POOL_ALLOC 1) 4 0)).ok = true ∧
       (∀ m, m < 8 → s.dmaReady m = true → (0 + 7 - s.dma.last % 8) % 8 ≤ (m + 7 - s.dma.last % 8) % 8) ∧
       (((s.dmaIssued 0).granted 8 2 2).poolAlloc (fld (s.dmaWord 0 0) 16 2) 2 (s.dmaAid 0)).code = 0 ∧
       (((s.dmaIssued 0).granted 8 2 2).poolAlloc (fld (s.dmaWord 0 0) 16 2) 2 (s.dmaAid 0)).handle = 0x01004000 ∧ s.dmaDst 0 = 0) ∧
    (let s := withPool (dmaState 3 (allocDesc 0) id (poolRegs 4))
     s.dmaState 0 = 3 ∧ (s.dmaCh 0).seen ≠ (s.poolFreeCount 1, s.usage (s.dmaAid 0) 1) ∧
       ((s.granted 8 2 2).poolAlloc 1 2 (s.dmaAid 0)).code = 0 ∧ ((s.granted 8 2 2).poolAlloc 1 2 (s.dmaAid 0)).handle = 0x01004000) ∧
    (withPool (dmaState 2 (allocDesc 0x30008020) id (poolRegs 4))).dmaDst 0 ≠ 0 ∧
    (let s := withPool (dmaState 2 (allocDesc 0) id (poolRegs 0))
     (((s.dmaIssued 0).granted 8 2 2).poolAlloc 1 2 (s.dmaAid 0)).code = 3) ∧
    (let s := withPool (dmaState 3 (allocDesc 0) (fun c => { c with seen := (1, 0) }) (poolRegs 0))
     (s.dmaCh 0).seen ≠ (s.poolFreeCount 1, s.usage 0x400 1) ∧ ((s.granted 8 2 2).poolAlloc 1 2 0x400).code = 3) ∧
    (let s := withPool (dmaState 3 (allocDesc 0) id (poolRegs 0))
     (s.dmaCh 0).seen = (s.poolFreeCount 1, s.usage (s.dmaAid 0) 1)) ∧
    (let s := dmaState 2 (allocDesc 0) id []
     (((s.dmaIssued 0).granted 8 2 2).poolAlloc 1 2 (s.dmaAid 0)).code = 1) := by and_intros <;> decide
theorem test_w_dma_rotation :
    (∀ m, m < 8 → State.reset.dmaReady m = false) ∧
    (let s := dmaState 1 [] id [(Reg.DMA_CHSTAT 7, 0x10000000)]
     s.dmaReady 0 = true ∧ (∀ m, m < 8 → s.dmaReady m = true → (0 + 7 - s.dma.last % 8) % 8 ≤ (m + 7 - s.dma.last % 8) % 8)) ∧
    (let s := dmaState 2 copyDesc (fun c => { c with wb := 3, handle := some 5 }) []
     s.dmaState 0 = 2 ∧ (s.dmaCh 0).wb = 3 ∧ s.dmaWord 0 6 = 0) ∧
    (let s := dmaState 2 [0x18000000, 12, 0x30008000, 0x30008020, 0, 0, 0x10000120, 0] (fun c => { c with wb := 3 }) []
     (s.dmaWord 0 0).getLsbD 25 = false ∧ s.dmaWord 0 6 ≠ 0) := by and_intros <;> decide

/-! ## The Stitch engine and the pool -/

/-- A gate whose entries name no master refuses nothing. -/
theorem denier_none (s : State) (n a mid aid p : Nat) (h : ∀ m, m < 16 → s.rd (Reg.GATE_RULE_CTL (16 * n + m)) = 0) :
    s.denier n a mid aid p = none := by
  have : (List.range 16).find? (fun m => s.ruleMatches n m a mid aid p) = none := by
    rw [List.find?_eq_none]
    intro m hm
    simp [State.ruleMatches, h m (List.mem_range.1 hm), wbit]
  rw [State.denier, this]
theorem deniedAt_none (s : State) (slot aid : Nat) (w : Bool) (h : ∀ m, m < 16 → s.rd (Reg.GATE_RULE_CTL (16 * 1 + m)) = 0) :
    s.deniedAt slot aid w = [] := by
  simp only [State.deniedAt, denier_none s 1 _ _ _ _ h, Option.isSome_none, List.filter_false]
theorem arrDenied_clean (s : State) (aid arr : Nat) (h : ∀ m, m < 16 → s.rd (Reg.GATE_RULE_CTL (16 * 1 + m)) = 0) :
    (s.arrDenied aid arr).clean = true := by
  simp only [State.arrDenied, ArrDenied.clean, deniedAt_none s _ _ _ h, List.isEmpty_nil, Bool.and_self]

/-- A phase of the engine, registers, and its typed state; the arrays hold zeros. -/
def stcState (ph : Nat) (l : List (Nat × Word)) (f : Stc → Stc) : State :=
  { withRegs ((Reg.STC_STAT, word (ph * 2 ^ 28)) :: l) State.reset with
    stc := f Stc.reset, store := List.replicate 17 (.blank .zeros) }
theorem test_w_stitch_run :
    (let v : Word := 0x57170010
     let s := stcState 0 [(Reg.STC_RUNCFG, 1)] id
     v.toNat / 2 ^ 16 = 0x5717 ∧ v.toNat / 2 ^ 4 % 16 = 1 ∧ s.awake ∧ s.domOn .sec = true ∧ s.domOn .store = true ∧
       s.store.length = 17 ∧ s.stcPh = 0 ∧
       s.program (s.f Reg.STC_RUNCFG 0 3) (s.f Reg.STC_RUNCFG 4 3) (s.bit Reg.STC_RUNCFG 8) = some (preset 1)) ∧
    (let s := stcState 0 [(Reg.STC_RUNCFG, 6)] id
     s.program (s.f Reg.STC_RUNCFG 0 3) (s.f Reg.STC_RUNCFG 4 3) (s.bit Reg.STC_RUNCFG 8) = none) ∧
    (let s := stcState 2 [] fun c => { c with prog := preset 1, arrays := [3], aid := 0x400 }
     s.awake ∧ s.stcPh = 2 ∧ s.stc.todo = [] ∧ s.stc.transp = false ∧ (progWrites s.stc.prog).getLast? = some (0, bit01 false) ∧
       s.stc.repair = false) ∧
    (let s := stcState 2 [(Reg.STC_RTNEXT, 511)] fun c => { c with todo := [(12, 511)], repair := true }
     s.awake ∧ s.stc.todo = [(12, 511)] ∧ s.f Reg.STC_RTNEXT 0 10 < 512 ∧
       (s.engineGate 0 (0x3F1000 + 8 * 511) 7 s.stc.aid 8 true).ok = true) ∧
    512 ≤ (stcState 2 [(Reg.STC_RTNEXT, 512)] fun c => { c with todo := [(12, 511)] }).f Reg.STC_RTNEXT 0 10 ∧
    ((stcState 1 [] id).stcPh < 2 ∧ (stcState 4 [] id).stcPh = 4 ∧ (stcState 0 [] id).bit Reg.STC_MAPSTAT 31 = false) ∧
    (let s := stcState 0 [(Reg.STC_SCRUB, 1), (Reg.STC_SCRPOS, 0x3FFFE)] fun c => { c with scrubOwed := 1 }
     let bank := 15
     let off := 0xFFF8
     s.awake ∧ s.bit Reg.STC_SCRUB 0 = true ∧ s.stcPh ≠ 1 ∧ s.stcPh ≠ 2 ∧ s.stc.scrubOwed ≠ 0 ∧ bank ∉ s.core.guard ∧
       s.f Reg.STC_SCRPOS 0 18 / 2 * 2 / 16384 = bank ∧ s.f Reg.STC_SCRPOS 0 18 / 2 * 2 % 16384 * 4 = off ∧
       (s.engineGate 1 (storeAddr bank off) 7 0x401 8 false).ok = true ∧
       (s.array (s.arrayOf bank)).eccClass (s.arrayOf bank) (s.cellOf (s.arrayOf bank) off) = 0 ∧
       (s.array (s.arrayOf bank)).eccClass (s.arrayOf bank) (s.cellOf (s.arrayOf bank) (off + 4)) = 0 ∧
       s.arrayOf bank < 17 ∧ s.bit Reg.STC_MAPSTAT 30 = false ∧
       (s.engineGate 1 (storeAddr bank off) 7 0x401 4 true).ok = true) ∧
    (let s := stcState 0 [] id
     let t : State := { s with store := s.store.set 15 { base := .zeros, cells := [], ecc := [(0xFFF8, 0)] } }
     (t.array (t.arrayOf 15)).eccClass (t.arrayOf 15) (t.cellOf (t.arrayOf 15) 0xFFF8) = 1) := by and_intros <;> decide

theorem test_w_swap :
    (let s := stcState 0 [(Reg.STC_SWPCFG, 1)] id
     s.awake ∧ s.stcPh = 0 ∧ s.bit Reg.STC_MAPSTAT 31 = false ∧
       s.program (s.f Reg.STC_SWPCFG 0 3) (s.f Reg.STC_SWPCFG 4 3) false = some (preset 1)) ∧
    (stcState 8 [(Reg.STC_MAPSTAT, regReset Reg.STC_MAPSTAT ||| 0x80000000)] id).bit Reg.STC_MAPSTAT 31 = true ∧
    (let s := stcState 3 [] fun c => { c with u := 16 }
     s.awake ∧ s.stcPh = 3 ∧ s.stc.u = 16) ∧
    (let s := stcState 4 [] fun c => { c with copyPos := 8191 }
     s.awake ∧ s.stcPh = 4 ∧ s.arrayOf s.swapBank ≠ s.arrayOf 16 ∧ s.arrayOf s.swapBank < 17 ∧ s.arrayOf 16 < 17 ∧
       s.stc.copyPos < 8192 ∧
       (s.engineGate 1 (storeAddr s.swapBank 65528) 7 s.stc.aid 8 false).ok = true ∧
       (s.engineGate 1 (storeAddr 16 65528) 7 s.stc.aid 8 true).ok = true ∧
       (s.array (s.arrayOf s.swapBank)).eccClass (s.arrayOf s.swapBank) (s.cellOf (s.arrayOf s.swapBank) 65528) = 0 ∧
       (s.array (s.arrayOf s.swapBank)).eccClass (s.arrayOf s.swapBank) (s.cellOf (s.arrayOf s.swapBank) 65532) = 0) ∧
    ((stcState 5 [] id).awake ∧ (stcState 5 [] id).stcPh = 5 ∧ (stcState 10 [] id).awake ∧ (stcState 10 [] id).stcPh = 10) ∧
    (let s := stcState 6 [] fun c => { c with f := 2, prog := preset 1 }
     s.awake ∧ s.stcPh = 6) ∧
    (let s := stcState 11 [(Reg.STC_RTNEXT, 511)] id
     s.awake ∧ s.stcPh = 11 ∧ s.f Reg.STC_RTNEXT 0 10 < 512 ∧
       (s.engineGate 0 (0x3F1000 + 8 * 511) 7 s.stc.aid 8 true).ok = true) ∧
    (let s := stcState 8 [(Reg.STC_SWPCFG, 0x200)] id
     s.awake ∧ s.stcPh = 8 ∧ s.bit Reg.STC_SWPCFG 9 = true) ∧
    (let s := stcState 8 [] fun c => { c with fGood := true }
     s.bit Reg.STC_SWPCFG 9 = false ∧ s.stc.fGood = true ∧ (stcState 8 [] id).stc.fGood = false) := by and_intros <;> decide

/-- An array of zeros is without an error. -/
theorem no_ecc (s : State) (arr a : Nat) (h : s.array arr = .blank .zeros) : (s.array arr).eccClass arr a = 0 := by
  rw [h]
  simp [Mem.eccClass, Mem.blank, Mem.wordDefined, Mem.get?, baseByte, alGet]

/-- In those states no gate refuses the engine. -/
theorem test_w_stitch_gates :
    (∀ a, a < 17 → (coldState.arrDenied 0x401 a).clean = true) ∧
    (let s := stcState 2 [] fun c => { c with prog := preset 1, arrays := [3], aid := 0x400, transp := true }
     s.awake ∧ s.stcPh = 2 ∧ s.stc.todo = [] ∧ s.stc.transp = true ∧ s.stc.repair = false ∧ s.stc.arrays = [3] ∧
       (s.arrDenied s.stc.aid 3).clean = true ∧
       ∀ i, i < 16384 → (s.array 3).eccClass 3 (s.cellOf 3 (4 * i)) = 0) ∧
    (let s := stcState 2 [] fun c => { c with prog := preset 1, arrays := [3], aid := 0x400 }
     (s.arrDenied s.stc.aid 3).clean = true) ∧
    (let s := stcState 3 [] fun c => { c with u := 16 }
     (s.arrDenied s.stc.aid s.stc.u).clean = true) ∧
    (let s := stcState 6 [] fun c => { c with f := 2, prog := preset 1 }
     (s.arrDenied s.stc.aid s.stc.f).clean = true) ∧ progClean none (preset 1) = true ∧
    progClean none [0x82002000, 0x81000000] = true ∧ progClean none [0x81002000, 0x81001000] = false :=
  ⟨fun _ _ => arrDenied_clean _ _ _ (by decide),
    ⟨by decide, by decide, by decide, by decide, by decide, by decide, arrDenied_clean _ _ _ (by decide),
      fun _ _ => no_ecc _ _ _ (by decide)⟩,
    arrDenied_clean _ _ _ (by decide), arrDenied_clean _ _ _ (by decide), arrDenied_clean _ _ _ (by decide), by decide, by decide,
    by decide⟩

/-- A pool of four buffers of class 1, with some metadata, enabled. -/
def pools (words : List (Nat × Word)) (f : State → State) : State :=
  f { withPool (withRegs (poolRegs 4) State.reset) with
    pool := { Pool.reset with undef := none, cnt := [0, 4, 0, 0], words := words, staged := [(0, 0x01004000, 0x400)] } }
/-- Tenants 5 READY, 6 SUSPENDED, 7 in RESET and 8 FAULT, with a quota for tenant 5. -/
def tenTable (s : State) : State :=
  { withRegs [(Reg.TEN_CTL, 1)] s with ten := { Ten.reset with table := [(40, 1), (43, 0xFFFFFFFF), (48, 2), (56, 3), (64, 4)] } }
theorem test_w_pool :
    (let s := withRegs [(Reg.POOL_CNT01, 0x08001000), (Reg.POOL_CNT23, 0x20), (Reg.POOL_BASE, 0)] State.reset
     s.awake ∧ s.domOn .store = true ∧ s.bit Reg.POOL_CTL 0 = false ∧ s.bit Reg.POOL_CTL 8 = false) ∧
    (withRegs [(Reg.POOL_CNT01, 0x04000400), (Reg.POOL_CNT23, 0x200080)] State.reset).poolCfgOk = true ∧
    (withRegs [(Reg.POOL_CNT01, 0x1001)] State.reset).poolCfgOk = false ∧
    (withRegs [(Reg.POOL_CTL, 3)] State.reset).bit Reg.POOL_CTL 1 = true ∧
    State.reset.allocCode 0 0 0x400 ≠ 0 ∧
    (let s := pools [(4096, descWord 0x400 0 1), (4097, descWord 0x400 0 1), (4098, descWord 0x400 0 1)] id
     s.awake ∧ s.pool.undef = none ∧ s.allocCode 1 0 0x400 = 0 ∧ metaUsed (s.metaWord (poolBase 1 + 3)) = false ∧
       (∀ j, j < 3 → metaUsed (s.metaWord (poolBase 1 + j)) = true)) ∧
    (let s := pools [(4096, descWord 0x400 0 1)] id
     hDesc 0x01004000 = 4096 ∧ poolClass 4096 = hClass 0x01004000 ∧ s.handleCode 2 0x01004000 = 0 ∧ s.handleCode 4 0x01004000 = 0 ∧
       s.freeCode 4096 0x400 = 0 ∧ s.freeCode 4096 0x401 ≠ 0 ∧ s.entryOf 4096 0x400 = none ∧ s.handleCode 3 0x02004000 ≠ 0) ∧
    (let s := pools [(4096, descWord 0x400 1 1), (7360, entryWord 0x401 1 4096)] id
     s.handleCode 3 0x01004000 = 0 ∧ s.entryOf 4096 0x401 = some 7360 ∧ metaShares (s.metaWord 4096) ≠ 0) ∧
    (thrOrder 0 0 = true ∧ thrOrder 0x00020003 0x00010000 = false) := by and_intros <;> decide
/-- Shares: one more for agent 0x401, and the buffer passed to tenant 5. -/
theorem test_w_share :
    (let s := pools [(4096, descWord 0x400 0 1)] tenTable
     alGet s.pool.staged 0 = some (0x01004000, 0x400) ∧ s.handleCode 5 0x01004000 = 0 ∧ s.shareCode 4096 0x400 0x400 0x401 1 = 0 ∧
       s.entryOf 4096 0x401 = none ∧ s.freeEntry = some 7360 ∧ s.shareCode 4096 0x400 5 0 0 = 0 ∧ s.entryOf 4096 5 = none) := by
  and_intros <;> decide

/-! ## Tenants -/

def tens : State := tenTable State.reset
theorem test_w_tenants :
    State.reset.bit Reg.TEN_CTL 0 = false ∧ (tens.awake ∧ tens.domOn .sys = true ∧ tens.tenEnabled = true ∧ tens.anyTenant = true) ∧
    (withRegs [(Reg.TEN_CTL, 3)] State.reset).bit Reg.TEN_CTL 1 = true ∧
    (tens.tenState 1023 = 0 ∧ tens.tenState 5 = 1 ∧ tens.tenState 6 = 2 ∧ tens.tenState 7 = 3 ∧ tens.tenState 8 = 4) ∧
    ((0x7E4A43FF : Word).toNat / 2 ^ 16 = 0x7E4A ∧ (0x7E4A43FF : Word).toNat / 2 ^ 12 % 8 = 4 ∧ (0x7E4A43FF : Word).toNat % 2 ^ 10 = 1023) ∧
    tens.tenBusy = false ∧ (withRegs [(Reg.TEN_STAT, 1)] tens).tenBusy = true ∧
    (tens.tenOpen 5 = true ∧ tens.tenOpen 7 = false ∧ tens.tenOpen 9 = false) ∧
    ((0x80050000 : Word).getLsbD 31 = true ∧ (0x80050000 : Word).toNat / 2 ^ 16 % 2 ^ 10 = 5) ∧
    (let s := withRegs [(Reg.DMA_CHCTL 0, 0x00050000), (Reg.DMA_CHSTAT 0, 0x20000000)] tens
     s.awake ∧ s.f (Reg.DMA_CHCTL 0) 16 11 = 5 ∧ s.dmaBusy 0 = true) ∧
    (let s : State := { tens with core := { tens.core with status := 0x180, tid := 5 } }
     s.awake ∧ s.isCurrent 5 = true) := by and_intros <;> decide
/-- A reset of tenant 5 at a step, with a window of 256 bytes at the second block of the Store and ZERO set. -/
def resetAt (step pos : Nat) (l : List (Nat × Word)) : State :=
  let s := withRegs ([(Reg.TEN_CTL, 1), (Reg.TEN_STAT, word (1 + step * 0x100 + 5 * 0x1000))] ++ l) State.reset
  { s with ten := { Ten.reset with table := [(40, 0xB), (41, 0x00010001)], zeroPos := pos }, store := List.replicate 17 (.blank .zeros)
           pool := { Pool.reset with undef := none } }
theorem test_w_tenant_reset :
    ((resetAt 1 0 []).awake ∧ (resetAt 1 0 []).tenEnabled = true ∧ (resetAt 1 0 []).tenBusy = true ∧ (resetAt 1 0 []).tenOf = 5 ∧
      (resetAt 1 0 []).tenStep = 1 ∧ (resetAt 1 0 []).isCurrent 5 = false ∧ (resetAt 1 0 []).bufHolds 5 = false) ∧
    (let s : State := { resetAt 1 0 [] with core := { Core.reset with status := 0x180, tid := 5 } }
     s.awake ∧ s.isCurrent 5 = true) ∧
    ((resetAt 2 0 []).tenStep = 2 ∧ (resetAt 8 0 []).tenStep = 8) ∧
    (let s := resetAt 4 0 [(Reg.POOL_CTL, 1)]
     s.tenStep = 4 ∧ s.poolReady = true ∧ s.pool.undef = none) ∧
    (let s := resetAt 7 248 []
     s.tenStep = 7 ∧ s.domOn .sec = true ∧ s.inDomReset .sec = false ∧ s.bankWaits (0x10000100 + 248) 7 0x400 true = false ∧
       (s.trec 5 1).toNat % 2 ^ 12 * 256 = 256 ∧ (s.trec 5 1).toNat / 2 ^ 16 % 2 ^ 9 * 256 = 256 ∧
       (s.engineGate 1 (0x10000100 + 248) 7 0x400 8 true).ok = true) ∧
    (let s := resetAt 7 0 [(Reg.GATE_RULE_BASE 16, 0x10000000), (Reg.GATE_RULE_LIMIT 16, 0x100FFFE0), (Reg.GATE_RULE_CTL 16, 0x7FFFF),
       (Reg.GATE_RULE_CLS 16, 0x1FFFF)]
     s.ten.zeroPos + 8 < 256 ∧ (s.engineGate 1 0x10000100 7 0x400 8 true).ok = false) := by
  and_intros <;> decide

/-! ## Measurement and safety -/

def msrState (f : Msr → Msr) (l : List (Nat × Word)) : State := withRegs l { State.reset with msr := f Msr.reset }
/-- Frames are written to a Store ring of two at 0x10000000; channel 0 is enabled with a fast tap on group 3. -/
def ringRegs (count : Nat) (ctl : Word) : List (Nat × Word) :=
  [(Reg.MSR_RINGCTL, ctl), (Reg.MSR_RINGBASE, 0x10000000), (Reg.MSR_RINGLEN, 2), (Reg.MSR_RINGCNT, word count)]
def frame0 : List Word := List.replicate 50 0
theorem test_w_ring :
    (State.reset.msr.held = [] ∧ State.reset.domOn .meas = true ∧ State.reset.msr.chs.length = 48) ∧
    (let s := msrState (fun m => { m with held := [frame0] }) (ringRegs 1 1)
     s.awake ∧ s.msr.held = [frame0] ∧ s.domOn .store = true ∧ s.bit Reg.MSR_RINGCTL 0 = true ∧ s.ringWaits = false ∧
       s.f Reg.MSR_RINGCNT 0 11 < s.f Reg.MSR_RINGLEN 0 11 ∧
       (({ s with msr := { s.msr with held := [] } } : State).frameBeats (s.f Reg.MSR_RINGCTL 16 11) 0x10000000
         (frameBytes (frameWith frame0 0))).ok = true) ∧
    (let s := msrState (fun m => { m with held := [frame0] }) (ringRegs 2 3)
     s.f Reg.MSR_RINGLEN 0 11 ≤ s.f Reg.MSR_RINGCNT 0 11 ∧ s.bit Reg.MSR_RINGCTL 1 = true) ∧
    (let s := msrState id (ringRegs 2 0)
     s.bit Reg.MSR_RINGCTL 0 = false ∧ 2 ≤ s.f Reg.MSR_RINGLEN 0 11 ∧ 0x10000000 ≤ (s.rd Reg.MSR_RINGBASE).toNat ∧
       1 ≤ 2 ∧ 2 ≤ s.f s.storeRing.cnt 0 s.storeRing.wCnt ∧ s.f s.saddleRing.cnt 0 s.saddleRing.wCnt < 1) ∧
    (let s := msrState id [(Reg.MSR_RINGLEN, 1024), (Reg.MSR_RINGBASE, 0x100CE000)]
     (s.rd Reg.MSR_RINGBASE).toNat + 200 * s.f Reg.MSR_RINGLEN 0 11 ≤ 0x10100000) ∧
    (State.reset.f Reg.MSR_RINGLEN 0 11 < 2) ∧
    (let s := msrState id [(Reg.MSR_HRINGCNT, 1), (Reg.MSR_SENTCNT, 2048)]
     1 ≤ s.f s.saddleRing.cnt 0 s.saddleRing.wCnt ∧ 2048 ≤ s.f s.sentRing.cnt 0 12) := by and_intros <;> decide
/-- A window of two clocks: eight new ones fill it with ones, beyond a limit of 0 on both sides and within a wide one. -/
def tapState (limits : Word) : State :=
  msrState (fun m => { m with nLast := 128, chs := { MsrCh.reset with cfg := 0x361 } :: List.replicate 47 MsrCh.reset })
    [(Reg.MSR_CFG, 1), (Reg.MSR_CHFAST 0, limits)]
theorem test_w_fast_tap :
    (let s := tapState 0x07FF0800
     let value : Int := Int.tdiv ((2 * (onesOf 3 2 : Int) - 2) * 2047) 2
     s.awake ∧ s.bit Reg.MSR_CFG 0 = true ∧ (s.ch 0).cfg.getLsbD 0 = true ∧ (s.ch 0).cfg.getLsbD 5 = true ∧
       (s.ch 0).cfg.getLsbD 1 = false ∧ s.msr.nLast / 64 = 2 ∧
       ((s.ch 0).hist * 2 ^ 8 + (255 : BitVec 8).toNat) % 2 ^ 2 = 3 ∧
       ¬((BitVec.ofNat 12 ((0x07FF0800 : Word).toNat / 2 ^ 16)).toInt < value ∨ value < (BitVec.ofNat 12 (0x07FF0800 : Word).toNat).toInt)) ∧
    (let value : Int := Int.tdiv ((2 * (onesOf 3 2 : Int) - 2) * 2047) 2
     (BitVec.ofNat 12 ((0 : Word).toNat / 2 ^ 16)).toInt < value ∧ ((tapState 0).ch 0).cfg.getLsbD 6 = true ∧
       ((tapState 0).ch 0).trip = false) := by and_intros <;> decide
/-- Drone slot 0 with a channel to check, and slots 14 and 15. -/
def droneState (slot : Nat) : State :=
  msrState (fun m => { m with slot := slot, slotDrone := true, slotRef := true,
                              chs := { MsrCh.reset with cfg := 1, fresh := false } :: List.replicate 47 MsrCh.reset })
    [(Reg.MSR_CFG, 1), (Reg.MSR_DRCTL, 1)]
theorem test_w_drone :
    (let s := droneState 0
     s.awake ∧ s.msr.slotDrone = true ∧ s.msr.slot < 14 ∧ s.bit Reg.MSR_CFG 0 = true ∧ s.f Reg.MSR_DRSTAT 0 5 = 0 ∧
       (s.ch 0).cfg.getLsbD 0 = true ∧ (s.ch 0).cfg.getLsbD 1 = false ∧ (s.ch 0).fresh = false ∧
       s.f Reg.MSR_DRCTL 16 16 < (Int.tdiv ((2 * (100 : Int) - 100) * 2 ^ 15) 100 - Int.tdiv ((2 * (0 : Int) - 100) * 2 ^ 15) 100).natAbs ∧
       (Int.tdiv ((2 * (50 : Int) - 100) * 2 ^ 15) 100 - Int.tdiv ((2 * (50 : Int) - 100) * 2 ^ 15) 100).natAbs ≤ s.f Reg.MSR_DRCTL 16 16) ∧
    ((droneState 14).awake ∧ (droneState 14).msr.slot = 14 ∧ (droneState 15).awake ∧ (droneState 15).msr.slot = 15 ∧
      (droneState 15).msr.slotRef = true ∧ (droneState 15).f Reg.MSR_CFG 8 8 < (((0xFFFF : BitVec 16).toNat : Int) - 2 ^ 15).natAbs) ∧
    ((0 + 1) * 2 ^ 24 / 16 ≤ ((droneState 0).advanceTicks 41).tmb.acc ∧ ((droneState 0).advanceTicks 41).tmb.acc < 2 ^ 24 ∧
      ((droneState 0).advanceTicks 40).tmb.acc < (0 + 1) * 2 ^ 24 / 16 ∧
      (15 + 1) * 2 ^ 24 / 16 ≤ ((droneState 15).advanceTicks 641).tmb.acc) ∧
    (droneState 0).refPowered = true ∧
    (let s := { msrState (fun m => { m with sentRec := some (1, 2) }) [(Reg.SDL_CFG, 0x40)] with pwr := { Pwr.reset with level := .shelf } }
     s.calm ∧ s.pwr.level = .shelf ∧ s.bit Reg.SDL_CFG 6 = true ∧ s.msr.sentRec = some (1, 2) ∧
       s.f Reg.MSR_SENTCNT 0 12 < s.f Reg.MSR_SENTLEN 0 11 + 1 ∧ s.sentBeyond 12 (Reg.MSR_SENTLIM 0) 2 = false ∧
       s.sentBeyond 13 (Reg.MSR_SENTLIM 1) 0 = false) ∧
    (let s := withRegs [(Reg.MSR_SENTCFG, 0x100), (Reg.MSR_SENTCNT, 1)] State.reset
     s.f Reg.MSR_SENTLEN 0 11 + 1 ≤ s.f Reg.MSR_SENTCNT 0 12 ∧ s.bit Reg.MSR_SENTCFG 8 = true) := by and_intros <;> decide
/-- Everything an output needs: the watchdog, the gate check and the reference. -/
def outState (l : List (Nat × Word)) : State :=
  withRegs ([(Reg.BRT_CFG, regReset Reg.BRT_CFG ||| 1), (Reg.GTC_CRCCTL, 1), (Reg.MSR_STAT, 1)] ++ l) State.reset
theorem test_w_safety :
    (let s := outState []
     s.awake ∧ s.domOn .meas = true ∧
       ¬(s.bit Reg.SAF_STAT 0 = true ∨ s.bit Reg.BRT_CFG 0 = false ∨ s.bit Reg.GTC_CRCCTL 0 = false ∨ s.bit Reg.MSR_STAT 0 = false) ∧
       ((0x8001 : Word) &&& ~~~(s.rd Reg.SAF_OUTREQ) &&& 0xFFFF) &&& s.rd Reg.SAF_TRIP = 0 ∧ s.safeConds = []) ∧
    (let s := outState [(Reg.SAF_STAT, 0x100)]
     s.awake ∧ s.bit Reg.SAF_STAT 8 = true) ∧
    (let s := outState [(Reg.SAF_STAT, 1)]
     s.awake ∧ s.bit Reg.SAF_STAT 0 = true ∧ (0x8000 : Word) &&& ~~~(s.rd Reg.SAF_OUTREQ) &&& 0xFFFF ≠ 0) ∧
    ((0x3C960001 : Word).toNat / 2 ^ 16 = 0x3C96 ∧ (0x3C960002 : Word).getLsbD 1 = true ∧ (0x7E57000F : Word).toNat / 2 ^ 16 = 0x7E57) ∧
    (let s : State := { outState [(Reg.SAF_STAT, 1)] with pins := { Pins.reset with vcoreBad := true } }
     s.awake ∧ s.safeConds ≠ []) ∧
    (let s : State := { outState [(Reg.SAF_STAT, 0x101), (Reg.SAF_CFG, 0x10000)] with saf := { Saf.reset with esc := 1 } }
     s.awake ∧ s.bit Reg.SAF_STAT 8 = true ∧ s.bit Reg.SAF_CFG 16 = true ∧ s.f Reg.SAF_CFG 8 4 + 1 ≤ s.saf.esc) := by
  and_intros <;> decide

/-! ## Touch keys and the panel -/

def tchState (f : Tch → Tch) (l : List (Nat × Word)) : State := withRegs l { State.reset with tch := f Tch.reset }
def pnlState (f : Pnl → Pnl) (l : List (Nat × Word)) : State := withRegs l { State.reset with pnl := f Pnl.reset }
theorem test_w_touch :
    (let s := { tchState (fun t => { t with whole := true, bursts := [(0, [])] }) [(Reg.TCH_CTL, 0x200001), (Reg.TCH_RAWCTL, 0x4001)] with
       pnl := { Pnl.reset with quiet := some 7 } }
     s.awake ∧ s.domOn .hmi = true ∧ s.bit Reg.TCH_CTL 0 = true ∧ s.tch.whole = true ∧ s.pnl.quiet = some 7 ∧
       (∀ p ∈ s.tch.bursts, p.1 ≠ 7) ∧ s.bit Reg.TCH_RAWCTL 0 = true ∧ s.tch.inRef = false) ∧
    (let s := tchState (fun t => { t with raw := [.beat 7 1 5, .publish 9] }) [(Reg.TCH_CTL, 0x200001), (Reg.TCH_RAWCTL, 0x101), (Reg.TCH_RAWBASE, 0x10000000)]
     s.awake ∧ s.tch.raw = [.beat 7 1 5, .publish 9] ∧ s.domOn .store = true ∧ s.storeWaits 4 0 (0x10000000 + 16 * 7 + 8) 4 = false ∧
       s.f Reg.TCH_RAWCTL 8 7 = 1) ∧
    ((0x00200001 : Word).toNat / 2 ^ 16 % 2 ^ 6 = 32 ∧ (0x00210001 : Word).toNat / 2 ^ 16 % 2 ^ 6 = 33 ∧ State.reset.bit Reg.TCH_CTL 0 = false) ∧
    ((BitVec.ofNat 16 ((0xFFFF0000 : Word).toNat / 2 ^ 16)).toInt < (BitVec.ofNat 16 (0xFFFF0000 : Word).toNat).toInt) ∧
    (let legal (v : Word) : Prop := 8 ≤ v.toNat / 2 ^ 8 % 2 ^ 6 ∧ v.toNat / 2 ^ 8 % 2 ^ 6 ≤ 32 ∧
       16 * (v.toNat % 2 ^ 3 + 1) * (v.toNat / 2 ^ 8 % 2 ^ 6) ≤ 1520
     legal 0x800 ∧ legal 0x2000 ∧ legal 0x1304 ∧ ¬legal 0x1404 ∧ ¬legal 0x700 ∧ ¬legal 0x2100) ∧
    (let s := tchState id [(Reg.TCH_RAWBASE, 0x100FE000)]
     s.awake ∧ s.bit Reg.TCH_RAWCTL 0 = false ∧ (s.rd Reg.TCH_RAWBASE).toNat + 128 * 64 ≤ 0x10100000 ∧
       (0x4001 : Word).toNat / 2 ^ 8 % 2 ^ 7 = 64 ∧ (0x4101 : Word).toNat / 2 ^ 8 % 2 ^ 7 = 65) := by and_intros <;> decide
/-- A row with grey level 15 in its first pixel and 0 elsewhere, driven in slot 35; the quiet slot 8; its catch-up. -/
def rowState (slot : Nat) (l : List (Nat × Word)) : State :=
  pnlState (fun p => { p with slot := slot, rowBuf := some (0xF :: List.replicate 7 0), undef := none,
                              ledger := [(0, ⟨0, 0, 100⟩), (1, ⟨0, 0, -5⟩)] }) ((Reg.PNL_CTL, 0x101) :: l)
theorem test_w_panel :
    (let s := rowState 34 [(Reg.PNL_STAT, 1)]
     s.awake ∧ s.domOn .hmi = true ∧ s.bit Reg.PNL_CTL 0 = true ∧ s.pnl.slot < 36 ∧ s.pnl.slot % 9 ≠ 8 ∧ s.pnl.quiet = none ∧
       s.bit Reg.PNL_STAT 0 = true ∧ s.pnl.rowBuf = some (0xF :: List.replicate 7 0) ∧
       (s.pixel (64 * 31)).fwd < 0xFFFF00 ∧ (s.pixel (64 * 31)).res < 2 ^ 20 ∧ (s.pixel (64 * 31)).bal = 0) ∧
    (rowState 34 []).bit Reg.PNL_STAT 0 = false ∧
    ((rowState 35 []).awake ∧ (rowState 35 []).pnl.slot < 36 ∧ (rowState 35 []).pnl.slot % 9 = 8) ∧
    (let s := { rowState 9 [(Reg.PNL_STAT, 1)] with pnl := { (rowState 9 []).pnl with quiet := some 4 } }
     s.awake ∧ s.pnl.quiet = some 4 ∧ s.bit Reg.PNL_STAT 0 = true ∧ 0 < (s.pixel 0).bal ∧ (s.pixel 0).bal ≤ 32767 ∧ (s.pixel 1).bal ≤ 0 ∧
       0 < s.pnl.vp.toNat % 2 ^ 8) ∧
    ((let s := rowState 9 [(Reg.PNL_STAT, 1)]
      s.pnl.slot < 35 ∧ (s.pnl.slot + 1) % 9 ≠ 8 ∧ s.pnl.nextBuf = none ∧ s.pnl.quiet = none) ∧
     (let s := { rowState 35 [(Reg.PNL_STAT, 1)] with pnl := { (rowState 35 []).pnl with quiet := some 7 } }
      s.awake ∧ s.pnl.slot = 35 ∧ s.pnl.quiet = some 7)) ∧
    (let s := { rowState 35 [(Reg.PNL_STAT, 1)] with pnl := { (rowState 35 []).pnl with fbBase := 0x10000000 }, store := List.replicate 17 (.blank .zeros) }
     s.awake ∧ s.fetchRow = some 0 ∧ s.pnl.halted = false ∧ s.domOn .store = true ∧ (s.rowReads 0).ok = true ∧ (s.rowReads 0).waits = false) ∧
    (let s := withRegs [(Reg.GATE_RULE_BASE 16, 0x10000000), (Reg.GATE_RULE_LIMIT 16, 0x100FFFE0), (Reg.GATE_RULE_CTL 16, 0x7FFFF),
       (Reg.GATE_RULE_CLS 16, 0x1FFFF)] (rowState 35 [(Reg.PNL_STAT, 1)])
     ({ s with pnl := { s.pnl with fbBase := 0x10000000 } } : State).fetchRow = some 0 ∧
       (({ s with pnl := { s.pnl with fbBase := 0x10000000 } } : State).rowReads 0).ok = false) := by and_intros <;> decide
theorem test_w_ledger :
    (State.reset.bit Reg.PNL_CTL 0 = false ∧ State.reset.bit Reg.PNL_LSTAT 31 = false ∧ State.reset.bit Reg.PNL_STAT 0 = false) ∧
    (let s := withRegs [(Reg.PNL_LSTAT, 0x80000000), (Reg.PNL_FBBASE, 0x100FFC00)] State.reset
     s.awake ∧ s.bit Reg.PNL_LSTAT 31 = true ∧ (s.rd Reg.PNL_FBBASE).toNat % 32 = 0 ∧ 0x10000000 ≤ (s.rd Reg.PNL_FBBASE).toNat ∧
       (s.rd Reg.PNL_FBBASE).toNat + 1024 ≤ 0x10100000) ∧
    ((withRegs [(Reg.PNL_STAT, 1)] State.reset).bit Reg.PNL_STAT 0 = true ∧
      (withRegs [(Reg.PNL_LSTAT, 0x40000000)] State.reset).bit Reg.PNL_LSTAT 30 = true) := by and_intros <;> decide
def boostState (b : Boost) (l : List (Nat × Word)) : State := pnlState (fun p => { p with boost := b }) l
theorem test_w_vpanel :
    (let s := boostState .off [(Reg.PNL_CTL, 0x100)]
     s.awake ∧ s.pnl.boost = .off ∧ 14 ∉ s.pwr.stagger ∧ s.bit Reg.PNL_CTL 8 = true ∧ s.hrv.src ≠ .bat ∧ s.bit Reg.PNL_FAULT 1 = false) ∧
    ((boostState .off []).bit Reg.PNL_CTL 8 = (State.reset.bit Reg.PNL_CTL 8) ∧ (boostState .off [(Reg.PNL_CTL, 0)]).bit Reg.PNL_CTL 8 = false) ∧
    ((boostState .ramp []).awake ∧ (boostState .ramp []).pnl.boost = .ramp ∧ (boostState .ramp []).f Reg.PNL_FAULT 2 2 ≠ 3 ∧
      (boostState .running [(Reg.PNL_FAULT, 0xC)]).awake ∧ (boostState .running [(Reg.PNL_FAULT, 0xC)]).f Reg.PNL_FAULT 2 2 = 3) ∧
    (let s := boostState .waiting [(Reg.PNL_CTL, 0x100), (Reg.PNL_FAULT, 8)]
     s.awake ∧ s.pnl.boost = .waiting ∧ s.bit Reg.PNL_CTL 8 = true ∧ s.f Reg.PNL_FAULT 2 2 < 3) ∧
    (let s := { boostState .running [(Reg.PNL_STAT, 5)] with pnl := { Pnl.reset with slot := 34, boost := .running, rowBuf := some [0xF] } }
     s.awake ∧ s.domOn .hmi = true ∧ s.pnl.boost = .running ∧ s.bit Reg.PNL_STAT 0 = true ∧ s.pnl.quiet = none ∧ s.pnl.slot % 9 ≠ 8 ∧
       (boostState .running []).bit Reg.PNL_STAT 0 = false) ∧
    ((boostState .running [(Reg.PNL_STAT, 4)]).bit Reg.PNL_STAT 2 = true) ∧
    (let s := boostState .off [(Reg.PNL_FAULT, 0xE), (Reg.PNL_CTL, 0x100)]
     s.awake ∧ s.bit Reg.PNL_FAULT 1 = true ∧ s.pnl.boost = .off) := by and_intros <;> decide

/-! ## The digest engine -/

/-- Context 3 of tenant-less agent 0x400 as given, the others as after reset. -/
def dgsState (c : DgsCtx) (l : List (Nat × Word)) : State :=
  withRegs l { State.reset with dgs := { Dgs.reset with ctxs := Dgs.reset.ctxs.set 3 c, feed := 3 } }
def ctx3 (st : Nat) : DgsCtx := { DgsCtx.reset with state := st, owner := 0x400 }
theorem test_w_digest_commands :
    ((0x0301 : Word).toNat % 2 ^ 4 = 1 ∧ (0x0301 : Word).toNat / 2 ^ 8 % 2 ^ 4 = 3 ∧ (State.reset.ctx 3).state = 0 ∧
      State.reset.domOn .sec = true ∧ (State.reset.ctx 15).state ≠ 0) ∧
    ((dgsState (ctx3 1) []).awake ∧ ((dgsState (ctx3 1) []).ctx 3).state ≠ 0 ∧ ((dgsState (ctx3 1) []).ctx 3).owner = 0x400 ∧
      (dgsState (ctx3 1) []).bit Reg.DGS_DMACTL 1 = false) ∧
    (let c := ctx3 1
     c.cfg.toNat / 2 ^ 8 % 2 ^ 5 ≤ 8 ∧ c.len ≤ 2 ^ 61 - 1 ∧ c.cfg.getLsbD 1 = false ∧ ({ c with len := 2 ^ 61 } : DgsCtx).len ≠ 2 ^ 64 - 1 ∧
       ¬({ c with len := 2 ^ 61 } : DgsCtx).len ≤ 2 ^ 61 - 1) ∧
    (let s : State := { dgsState { ctx3 1 with cfg := 2 } [] with lcs := { Lcs.reset with keys := [1] :: List.replicate 7 [] } }
     s.awake ∧ (s.ctx 3).cfg.getLsbD 1 = true ∧ s.usableKey 0 = some [1]) ∧
    (dgsState { ctx3 1 with cfg := 2 } []).usableKey 0 = none ∧
    (let c := { ctx3 2 with len := 4, count := 4 }
     c.state = 2 ∧ c.blocks.length < 2 ∧ c.count = c.len ∧ ({ c with count := 3 } : DgsCtx).count ≠ c.len) ∧
    ((dgsState (ctx3 4) []).ctx 3).state = 4 := by and_intros <;> decide
theorem test_w_digest_internal :
    (let s : State := { State.reset with lcs := { Lcs.reset with checking := true, checkBlocks := 4 } }
     s.awake ∧ s.domOn .sec = true ∧ s.lcs.checking = true ∧ s.lcs.checkBlocks = 3 + 1) ∧
    ((dgsState (ctx3 1) []).ctx 3).owner ≠ 0x401 ∧ Lcs.reset.checking = false := by and_intros <;> decide
theorem test_w_digest_data :
    (let c := { ctx3 2 with len := 64, count := 60, part := List.replicate 60 0 }
     let s := dgsState c []
     s.awake ∧ 3 < s.dgs.ctxs.length ∧ (s.ctx 3).state = 2 ∧ (s.ctx 3).count + 4 ≤ (s.ctx 3).len ∧ (s.ctx 3).part.length + 4 = 64) ∧
    (let c := { ctx3 2 with len := 60, count := 56, part := List.replicate 56 0 }
     c.count + 4 ≤ c.len ∧ c.part.length + 4 < 64 ∧ c.count + 4 = c.len) ∧
    (let c := { ctx3 2 with len := 4, count := 4 }
     c.count = c.len ∧ c.overlen = false ∧ c.len ≠ 2 ^ 64 - 1) ∧
    (let ready (s : State) (m : Nat) : Prop :=
       ((s.ctx m).state = 2 ∨ (s.ctx m).state = 3) ∧ ((s.ctx m).keyBlock = true ∨ (s.ctx m).blocks ≠ [])
     (∀ m, m < 16 → ¬ready State.reset m) ∧
       ready (dgsState { ctx3 3 with blocks := [List.replicate 64 0] } []) 3 ∧ 3 = ((dgsState (ctx3 3) []).dgs.last + 1 + 3) % 16 ∧
       (∀ j, j < 3 → ¬ready (dgsState { ctx3 3 with blocks := [List.replicate 64 0] } []) ((15 + 1 + j) % 16)) ∧
       ready (dgsState { ctx3 2 with keyBlock := true } []) 3) := by and_intros <;> decide
/-- A list of two at 0x10000000 whose first entry names buffer 0 of class 1, with KEEP and a count of 4. -/
def listState (h : Nat) : State :=
  let s := pools [(4096, descWord 0x400 0 1)] (withRegs [(Reg.DGS_DMACTL, 2)])
  { s with dgs := { Dgs.reset with ctxs := Dgs.reset.ctxs.set 3 { ctx3 2 with len := 64 }, feed := 3, listBase := 0x10000000, listLen := 2 }
           store := ((Mem.blank .zeros).putWord 0 (bytesLE 4 h)).putWord 4 (bytesLE 4 0x40000004) :: List.replicate 16 (.blank .zeros) }
theorem test_w_digest_list :
    (let s := dgsState (ctx3 2) [(Reg.DGS_DMALIST, 0x100FFFF8), (Reg.DGS_DMACNT, 1)]
     s.awake ∧ s.bit Reg.DGS_DMACTL 1 = false ∧ (s.ctx 3).state = 2 ∧ 1 ≤ s.f Reg.DGS_DMACNT 0 11 ∧ s.f Reg.DGS_DMACNT 0 11 ≤ 1024 ∧
       (s.rd Reg.DGS_DMALIST).toNat + 8 * s.f Reg.DGS_DMACNT 0 11 ≤ 0x10100000) ∧
    (dgsState (ctx3 2) []).f Reg.DGS_DMACNT 0 11 = 0 ∧
    (let s := listState 0x01004000
     let y := (s.dgsRead 0x10000000).s.dgsRead 0x10000004
     s.awake ∧ s.bit Reg.DGS_DMACTL 1 = true ∧
       (s.dgsRead 0x10000000).val = some 0x01004000 ∧ y.val = some 0x40000004 ∧ 0 < y.s.pool.cnt.getD 1 0 ∧ 4 ≤ poolSize 1 ∧
       (y.s.feedBuffer 3 (y.s.hAddr 0x01004000) 4).ok = true ∧
       s.f Reg.DGS_DMASTAT 0 11 + 1 < s.dgs.listLen) ∧
    (let s := listState 0x01004004
     let y := (s.dgsRead 0x10000000).s.dgsRead 0x10000004
     y.val = some 0x40000004 ∧ ¬(4 < y.s.pool.cnt.getD 1 0)) := by and_intros <;> decide

/-! ## The field link -/

def lnkState (f : Lnk → Lnk) (l : List (Nat × Word)) : State := withRegs l { State.reset with lnk := f Lnk.reset }
def ctlState (f : Lnk → Lnk) (stat : Word) : State := lnkState (fun x => f { x with owner := .controller }) [(Reg.LNK_STAT, stat), (Reg.LNK_CTL, 1)]
def lkeState (f : Lnk → Lnk) (l : List (Nat × Word)) : State := lnkState (fun x => f { x with owner := .lke }) ((Reg.LKE_CFG, 0x0E000001) :: l)
theorem test_w_link_bus :
    (State.reset.lnk.owner = .nobody ∧ State.reset.bit Reg.LKE_CFG 0 = false ∧ State.reset.domOn .link = true) ∧
    (let s := lnkState id [(Reg.LNK_STAT, 1), (Reg.LNK_CTL, 1)]
     s.awake ∧ s.bit Reg.LNK_STAT 0 = true ∧ s.bit Reg.LNK_CTL 0 = true) ∧
    (let s := ctlState id 0xF8000101
     s.awake ∧ s.lnk.owner = .controller ∧ s.f Reg.LNK_STAT 8 2 = 1 ∧ 255 < s.f Reg.LNK_STAT 24 8 + 8) ∧
    (let s := ctlState (fun x => { x with recover := true }) 0x201
     s.awake ∧ s.f Reg.LNK_STAT 8 2 = 2 ∧ s.lnk.recover = true ∧ s.bit Reg.LNK_CTL 1 = false) ∧
    (let s := lkeState (fun x => { x with lkeTec := 247 }) []
     s.awake ∧ s.lnk.owner = .lke ∧ s.lnk.lkeOff = false ∧ s.lnk.lkeTec + 8 ≤ 255) := by and_intros <;> decide
/-- A request of the master for the object 0x2000.0 of node 7, and a frame that carries it. -/
def reqFrame : CanFrame := ⟨0x04000E01, true, false, false, false, false, 4, [1, 0, 0x20, 0]⟩
/-- The ring at Saddle RAM 0x100 with that request at RD; the object table at 0x2000 with one object of 4 bytes at 0x3000. -/
def ringRam (s : State) : State :=
  withRam [(0x100, 0x04000E01), (0x104, 0x00000400), (0x108, 0x00200001), (0x2000, 0x00200000), (0x2004, 0x04000425), (0x2008, 0x3000),
    (0x3000, 0x12345678)] s
def ringStat : List (Nat × Word) :=
  [(Reg.LKE_RING, 0x00000100), (Reg.LKE_RIDX, 0x00010100), (Reg.LKE_OBJ, 0x00012000), (Reg.LKE_FLT_ID 31, 0x84000E00),
    (Reg.LKE_FLT_MASK 31, 0x1C00FE00)]
theorem test_w_frame_received :
    (let s := lkeState id [(Reg.LKE_RING, 0x00040100), (Reg.LKE_RIDX, 0x001B0000), (Reg.LKE_FLT_ID 31, 0x84000E00), (Reg.LKE_FLT_MASK 31, 0x1C00FE00)]
     s.awake ∧ reqFrame.ext = true ∧ reqFrame.remote = false ∧ reqFrame.fd = false ∧ s.bit (Reg.LKE_FLT_ID 31) 31 = true ∧
       BitVec.ofNat 32 reqFrame.id &&& (s.rd (Reg.LKE_FLT_MASK 31) &&& 0x1FFFFFFF) =
         s.rd (Reg.LKE_FLT_ID 31) &&& (s.rd (Reg.LKE_FLT_MASK 31) &&& 0x1FFFFFFF) ∧
       reqFrame.id / 2 ^ 26 % 2 ^ 3 = 1 ∧ s.f Reg.LKE_RING 16 4 = 4 ∧ 4 < 32 - s.f Reg.LKE_RIDX 16 6 ∧
       s.f Reg.LKE_RING 3 11 * 8 + 32 * 72 ≤ 0x4000) ∧
    (let s := lkeState id [(Reg.LKE_RING, 0x00040100), (Reg.LKE_RIDX, 0x001C0000)]
     ¬(s.f Reg.LKE_RING 16 4 < 32 - s.f Reg.LKE_RIDX 16 6)) ∧
    State.reset.f Reg.LKE_RIDX 16 6 = 0 := by and_intros <;> decide
theorem test_w_ring_examined :
    (let s := ringRam (lkeState id ringStat)
     let e : Entry := ⟨0x04000E01, false, false, 4, 1, 0x2000, 0⟩
     s.awake ∧ s.f Reg.LKE_RIDX 16 6 ≠ 0 ∧ s.lnk.rd = .unseen ∧ s.entry.e = some e ∧ e.id / 2 ^ 26 % 2 ^ 3 = 1 ∧
       e.id / 2 ^ 9 % 2 ^ 7 = s.f Reg.LKE_CFG 25 7 ∧ e.id / 2 ^ 9 % 2 ^ 7 ≠ 0 ∧ s.lnk.resp = none ∧
       (s.entry.s.object e).o = some ⟨0x04000425, 0x3000⟩ ∧ (⟨0x04000425, 0x3000⟩ : Object).served = true ∧
       (⟨0x04000425, 0x3000⟩ : Object).allows e = true ∧ (⟨0x04000425, 0x3000⟩ : Object).isReg = false ∧
       (⟨0x04000425, 0x3000⟩ : Object).type ≠ 10 ∧ (⟨0x04000425, 0x3000⟩ : Object).size ≤ 4 ∧ s.lnk.rate = 0 ∧
       ((s.entry.s.object e).s.lkeRead 0x3000 4 0x400).ok = true) ∧
    (let s := withRam [(0x100, 0x18000001), (0x104, 0x400), (0x108, 0)] (withRegs ringStat (ctlState id 1))
     s.awake ∧ s.lnk.owner = .controller ∧ s.entry.e = some ⟨0x18000001, false, false, 4, 0, 0, 0⟩ ∧ s.lnk.rd = .unseen) ∧
    (let s := withRam [(0x100, 0x04000001), (0x104, 0x400), (0x108, 0)] (lkeState id ringStat)
     s.entry.e = some ⟨0x04000001, false, false, 4, 0, 0, 0⟩) := by and_intros <;> decide
/-- A WRITE of 5 to that object, and a READ of an object that the table does not hold. -/
theorem test_w_ring_decided :
    (let s := withRam [(0x104, 0x00000800), (0x108, 0x00200002), (0x10C, 5)] (ringRam (lkeState id ringStat))
     let e : Entry := ⟨0x04000E01, false, false, 8, 2, 0x2000, 0⟩
     s.awake ∧ s.entry.e = some e ∧ (s.entry.s.object e).o = some ⟨0x04000425, 0x3000⟩ ∧ (⟨0x04000425, 0x3000⟩ : Object).allows e = true ∧
       ((s.entry.s.object e).s.saddleRead ((s.entry.s.object e).s.rdAddr + 12) 4 0x7FF).ue = none ∧ s.lnk.rate = 0) ∧
    (let s := withRam [(0x108, 0x00200101)] (ringRam (lkeState id ringStat))
     let e : Entry := ⟨0x04000E01, false, false, 4, 1, 0x2001, 0⟩
     s.awake ∧ s.entry.e = some e ∧ (s.entry.s.object e).o = none ∧ (s.entry.s.object e).s.bit Reg.LKE_CFG 2 = false) ∧
    (let s := withRegs [(Reg.LKE_CFG, 0x0E000005), (Reg.SDL_WAKEEN, 8)] (withRam [(0x108, 0x00200101)] (ringRam (lkeState id ringStat)))
     let e : Entry := ⟨0x04000E01, false, false, 4, 1, 0x2001, 0⟩
     s.awake ∧ s.entry.e = some e ∧ (s.entry.s.object e).o = none ∧ (s.entry.s.object e).s.bit Reg.LKE_CFG 2 = true ∧
       (s.entry.s.object e).s.bit Reg.SDL_WAKEEN 3 = true) := by and_intros <;> decide
/-- The CAN DMA moves a response into a buffer of class 0. -/
def moveState (free : Nat) : State :=
  let s := withRegs ([(Reg.POOL_CTL, 1), (Reg.POOL_CNT01, 4), (Reg.POOL_CLSBASE 0, 0x10000000), (Reg.POOL_STAT 0, word free), (Reg.LNK_RXCFG, 0x04000001)] ++ ringStat)
    (ctlState (fun x => { x with rd := .pass }) 1)
  { withRam [(0x100, 0x18000001), (0x104, 0x400), (0x108, 0), (0x10C, 0)] s with
    pool := { Pool.reset with undef := none, cnt := [4, 0, 0, 0] }, store := List.replicate 17 (.blank .zeros) }
theorem test_w_can_dma :
    (let s := moveState 4
     s.awake ∧ s.lnk.rd = .pass ∧ s.f Reg.LKE_RIDX 16 6 ≠ 0 ∧ s.domOn .link = true ∧ s.bit Reg.LNK_RXCFG 0 = true ∧
       s.domOn .sys = true ∧ s.domOn .store = true ∧ s.lnk.rxq.length < 32 ∧ s.entry.e = some ⟨0x18000001, false, false, 4, 0, 0, 0⟩ ∧
       (s.entry.s.canAlloc 0).ans = some (0, 0x01000000) ∧
       ((s.entry.s.canAlloc 0).s.canBeats 2 s.entry.s.rdAddr ((s.entry.s.canAlloc 0).s.hAddr 0x01000000)).map (·.ok) = some true) ∧
    ((moveState 0).entry.s.canAlloc 0).ans.map (·.1) = some 3 := by and_intros <;> decide
/-- A request to move: its transaction is new, known, or has no place in the table. -/
theorem test_w_can_claim :
    let e : Entry := ⟨0x04000E01, false, false, 4, 1, 0x2000, 0⟩
    let s (t : List Txn) : State := withRam [(0x100, 0x04000E01), (0x108, 0x00200001)]
      { moveState 4 with lnk := { (moveState 4).lnk with txns := t } }
    let m : Txn := ⟨0, 1, 0, 0, false, false, false⟩
    (s []).awake ∧ (s []).entry.e = some e ∧ e.id / 2 ^ 26 % 2 ^ 3 = 1 ∧
      ((s []).entry.s.txnClaim e).lnk.txns = [⟨0, 1, 0x2000, 0, false, false, false⟩] ∧
      (((s []).entry.s.txnClaim e).canAlloc 0).ans = some (0, 0x01000000) ∧
      (((((s []).entry.s.txnClaim e).canAlloc 0).s.canBeats 2 ((s []).entry.s.txnClaim e).rdAddr
        ((((s []).entry.s.txnClaim e).canAlloc 0).s.hAddr 0x01000000)).map (·.ok) = some true) ∧
      m.tenant = e.id / 2 ^ 16 % 2 ^ 10 ∧ m.tag = e.id % 2 ^ 9 ∧
      64 ≤ (s (List.replicate 64 { m with tag := 2 })).lnk.txns.length := by and_intros <;> decide
/-- An image at 0x10000040: identifier, format and length, then its data. -/
def imageState (w0 w1 w2 : Nat) (f : Lnk → Lnk) : State :=
  { withRegs [(Reg.POOL_CLSBASE 0, 0x10000000)] (ctlState f 1) with
    store := (((Mem.blank .zeros).putWord 0x40 (bytesLE 4 w0)).putWord 0x44 (bytesLE 4 w1)).putWord 0x48 (bytesLE 4 w2) ::
      List.replicate 16 (.blank .zeros) }
def post (id : Nat) : TxPost := ⟨1, 0x400, id⟩
theorem test_w_link_send :
    (let s := imageState 0x14000001 0x0800 0 id
     s.awake ∧ s.domOn .link = true ∧ s.lnk.txq.length < 16 ∧ s.hAddr 1 = 0x10000040 ∧
       (s.imagePair 0x10000040 0x400).data = .ok 0x80014000001 ∧ ¬(8 < (0x80014000001 / 2 ^ 40 % 2 ^ 7 : Nat)) ∧
       (0x14000001 / 2 ^ 26 : Nat) = 5) ∧
    (let s := imageState 0x08000001 0x0300 2 id
     (s.imagePair 0x10000040 0x400).data = .ok 0x30008000001 ∧ (s.imagePair 0x10000048 0x400).data = .ok 2 ∧ (0x08000001 / 2 ^ 26 : Nat) = 2 ∧ (imageState 0x08000001 0x0300 2 id).lnk.txns = []) ∧
    8 < (0x0900 / 2 ^ 8 % 2 ^ 7 : Nat) ∧
    16 ≤ (lnkState (fun x => { x with txq := List.replicate 16 (post 0) }) []).lnk.txq.length ∧
    (let s := imageState 0x14000001 0x0800 0 fun x => { x with txq := [post 0x14000002, post 0x14000001, post 0x14000001] }
     s.awake ∧ s.bit Reg.LNK_CTL 4 = false ∧ s.lnk.txq = [post 0x14000002] ++ post 0x14000001 :: [post 0x14000001] ∧ s.slotIds = [] ∧
       (s.imageRead 0x10000040 0x400).map (·.ok) = some true) ∧
    (let s := ctlState (fun x => { x with hb := some reqFrame, resp := some reqFrame }) 0xFF000001
     s.awake ∧ s.lnk.hb = some reqFrame ∧ s.lnk.resp = some reqFrame ∧ s.lnk.rd ≠ .respond ∧ (∀ i ∈ s.txIds, reqFrame.id ≤ i)) ∧
    (let m : Txn := ⟨5, 3, 0x8001, 2, true, false, false⟩
     let s := ctlState (fun x => { x with txns := [{ m with marked := false }, m] }) 0xFF000001
     s.awake ∧ s.lnk.txns = [{ m with marked := false }] ++ m :: [] ∧ (∀ i ∈ s.txIds, 2 * 2 ^ 26 + 5 * 2 ^ 16 + 3 ≤ i)) ∧
    (let s := lkeState (fun x => { x with resp := some reqFrame }) []
     s.awake ∧ s.lnk.rate = 0 ∧ s.lnk.hb = none ∧ reqFrame.fd = false) ∧
    (let s := lkeState (fun x => { x with hb := some reqFrame, resp := some reqFrame }) []
     s.awake ∧ s.lnk.lkeTec ≤ 255 ∧ s.lnk.hb = some reqFrame) ∧
    (lkeState (fun x => { x with rate := 1, resp := some reqFrame }) []).lnk.rate ≠ 0 := by and_intros <;> decide

/-! ## The debug port -/

def hdpState (f : Hdp → Hdp) (l : List (Nat × Word)) : State := withRegs l { State.reset with hdp := f { Hdp.reset with lost := false } }
def portState (k : Nat) (a : Ap) : State := hdpState (fun h => { h with aps := h.aps.set k a }) []
theorem test_w_debug_packets :
    (State.reset.hdp.lost = true ∧ State.reset.hrv.pstate ≠ .off ∧ (hdpState id []).hdp.lost = false) ∧
    ((portState 3 { Ap.reset with pending := true }).ap 3).pending = true ∧
    ((portState 0 { Ap.reset with busy := some (false, 0, 0) }).ap 0).busy ≠ none ∧
    (((hdpState id []).ap 1).pending = false ∧ ((hdpState id []).ap 1).busy = none) ∧
    (hdpState id []).apCheck 1 0x30008000 none = none ∧ (hdpState id []).apCheck 1 0x30008001 none ≠ none ∧
    (hdpState id []).apCheck 1 0x30008001 (some 0) ≠ none ∧ (hdpState id []).apCheck 1 0x30008000 (some 0) = none ∧
    (let s : State := { portState 0 { Ap.reset with busy := some (false, BitVec.ofNat 32 Reg.DBG_PC, 0) } with core := { Core.reset with halted := true } }
     s.awake ∧ s.debugOpen = true ∧ s.core.halted = true ∧ (s.ap 0).busy = some (false, BitVec.ofNat 32 Reg.DBG_PC, 0)) ∧
    (portState 0 { Ap.reset with busy := some (false, BitVec.ofNat 32 Reg.DBG_PC, 0) }).core.halted = false ∧
    (let s := withRam [(0, 0x55)] (portState 1 { Ap.reset with busy := some (false, 0x30008000, 0) })
     s.awake ∧ (s.access (s.ap1Req false 0x30008000 0) .ap1).resp = .ok 0x55) ∧
    (let s := withRegs [(Reg.GATE_RULE_BASE 32, 0x30008000), (Reg.GATE_RULE_LIMIT 32, 0x3000BFE0), (Reg.GATE_RULE_CTL 32, 0x7FFFF),
       (Reg.GATE_RULE_CLS 32, 0x1FFFF)] (portState 1 { Ap.reset with busy := some (true, 0x30008000, 0) })
     s.awake ∧ (s.access (s.ap1Req true 0x30008000 0) .ap1).resp = .denied) ∧
    (let s := portState 3 { Ap.reset with busy := some (false, 4, 0) }
     s.awake ∧ (s.ap 3).busy = some (false, 4, 0) ∧ s.rd Reg.HDP_IDR = 0x4C534810) := by and_intros <;> decide
def debugger : Writer := ⟨10, 0x400⟩
/-- A halted core whose PC points at NOP in the Store. -/
def haltedState : State :=
  { hdpState id [] with core := { Core.reset with halted := true, pc := 0x10000000 },
                        store := (Mem.blank .zeros).putWord 0 (bytesLE 4 0x01000000) :: List.replicate 16 (.blank .zeros) }
theorem test_w_core_control :
    (debugger.mid = 10 ∧ (hdpState id []).awake ∧ (hdpState id []).debugOpen = true ∧ (hdpState id []).core.halted = false) ∧
    (let s := hdpState (fun h => { h with haltReq := true }) []
     s.awake ∧ s.domOn .core = true ∧ s.core.asleep = false ∧ s.core.stopped = false ∧ s.hdp.haltReq = true) ∧
    (let s := hdpState (fun h => { h with wpHit := some 3 }) []
     s.awake ∧ s.hdp.haltReq = false ∧ s.hdp.wpHit = some 3) ∧
    (let s := hdpState id [(Reg.DBG_BP 7, 0xF0000001)]
     s.awake ∧ s.breakpoint = some 7) ∧
    (State.reset.breakpoint = none ∧ State.reset.hdp.wpHit = none ∧ State.reset.hdp.haltReq = false) ∧
    (let s := haltedState
     let u : State := { s.wr Reg.DBG_CTL (s.written Reg.DBG_CTL 0x40000) with core := { s.core with halted := false }, hdp := { s.hdp with stepping := true } }
     s.awake ∧ s.core.halted = true ∧ u.coreRuns = true ∧ s.bus.held = [] ∧ u.interruptDue = none ∧ u.tenantDue = none ∧
       u.boundary.isNone = true ∧ decodeWord 0x01000000 = some .nop ∧ (coreBody .nop u.fetch.s).core.halted = false ∧
       (coreBody .nop u.fetch.s).core.stalled = none ∧ (coreBody .nop u.fetch.s).hdp.stepping = true ∧
       (coreBody .nop u.fetch.s).hdp.wpHit = none ∧ (coreBody .nop u.fetch.s).pwr.boot = false ∧
       (coreBody .nop u.fetch.s).f Reg.LCS_BOOT 24 8 = 0) ∧
    (haltedState.bit Reg.DBG_REGSEL 12 = false ∧ haltedState.f Reg.DBG_REGSEL 0 12 = (0 : Fin 16).val ∧
      (withRegs [(Reg.DBG_REGSEL, 15)] haltedState).f Reg.DBG_REGSEL 0 12 = (15 : Fin 16).val) := by and_intros <;> decide
theorem test_w_core_control_word :
    (let s := haltedState
     let u : State := { s.wr Reg.DBG_CTL (s.written Reg.DBG_CTL 0x40000) with core := { s.core with halted := false }, hdp := { s.hdp with stepping := true } }
     u.fetch.res = .word 0x01000000) := by decide
theorem test_w_debug_unlock :
    (State.reset.lock = 0 ∧ (withRegs [(Reg.LCS_STATE, 0x203)] State.reset).lock = 1 ∧
      (let s : State := { withRegs [(Reg.LCS_STATE, 0x203)] State.reset with hdp := { Hdp.reset with unlocked := true } }
       s.awake ∧ s.lock = 2) ∧ (withRegs [(Reg.LCS_STATE, 0x41F)] State.reset).lock = 3) ∧
    ((1 : Word) &&& 0xFFFFFFFE = 0 ∧ (2 : Word) &&& 0xFFFFFFFE ≠ 0 ∧ (0xD6B60001 : Word).toNat / 2 ^ 16 = 0xD6B6) ∧
    (let s := withRegs [(Reg.LCS_STATE, 0x203)] State.reset
     s.awake ∧ s.bit Reg.LCS_STAT 7 = false ∧ s.lcs.chalWrite = false ∧ s.lcs.checking = false ∧ s.lcs.journal = false) ∧
    ((withRegs [(Reg.LCS_STATE, 0x203), (Reg.LCS_STAT, 0x80)] State.reset).bit Reg.LCS_STAT 7 = true) ∧
    (let s := withRegs [(Reg.LCS_STATE, 0x203), (Reg.HDP_STAT, 8)] State.reset
     s.lock ≠ 3 ∧ s.bit Reg.HDP_STAT 3 = true ∧ State.reset.bit Reg.HDP_STAT 3 = false) ∧
    (let s : State := { State.reset with lcs := { Lcs.reset with checking := true }, hdp := { Hdp.reset with unlocking := true } }
     s.awake ∧ s.lcs.checking = true ∧ s.hdp.unlocking = true ∧ s.usableKey 6 = none) := by and_intros <;> decide

/-! ## Refused settings and the block -/

theorem test_w_refused :
    ((0x121 : Word).getLsbD 8 = true ∧ (0x021 : Word).getLsbD 8 = false ∧ 32 < (0x021 : Word).toNat % 2 ^ 7 ∧ (0x103 : Word).toNat % 2 ^ 7 < 4 ∧
      96 < (0x161 : Word).toNat % 2 ^ 7) ∧
    (let s := outState [(Reg.SAF_OUTREQ, 1), (Reg.SAF_OUT, 1)]
     s.awake ∧ s.domOn .sys = true ∧ s.bit Reg.PWR_DOMCTL 1 = true ∧ s.outputsOn ≠ 0) := by and_intros <;> decide
theorem test_w_idle : State.reset.pending = [] ∧ State.reset.powered = true ∧
    (hrvOf fun h => { h with pstate := .off }).pending = [] ∧ (hrvOf fun h => { h with pstate := .shutdown }).pending = [] := by decide
/-- The step runs the command at the front; the rest stays. -/
theorem test_step_front : (match step { State.reset with pending := [.lxoRestart, .brtDoneWrite 1 warden] } with
    | .next t => decide (t.pending = [.brtDoneWrite 1 warden]) && t.tmb.lxoRuns
    | _ => false) = true := by decide
/-- The invariants of the statements hold at reset. -/
theorem test_w_invariants : State.reset.outputsShown ∧ State.reset.stored = true ∧ State.reset.pcAligned = true := by
  refine ⟨?_, by decide, by decide⟩
  unfold State.outputsShown; decide
theorem test_w_pins : State.reset.pinsHeld := by
  intro _ _ _ n hn
  revert n; decide

/-! ## Single steps, with results worked out by hand from the tables -/

/-- The state a command leads to. -/
def after (i : Instr) (s : State) : State :=
  match exec i s with
  | .next t => t
  | _ => s
def opsState : State := withCore (withG [(1, 0xFFFFFFFF), (2, 2), (3, 0x80000000), (4, 0xFFFFFFF9), (5, 0x00000100)])
/-- 0xFFFFFFFF + 2 = 1 with a carry and no overflow; the destination is a source. -/
theorem test_add : (after (.add 1 1 2) opsState).g 1 = 1 ∧ (after (.add 1 1 2) opsState).core.cc = ⟨false, false, true, false⟩ := by decide
/-- MIN − 2 overflows: the difference is 0x7FFFFFFE, C = 1 (no borrow), V = 1. -/
theorem test_sub : (after (.sub 6 3 2) opsState).g 6 = 0x7FFFFFFE ∧ (after (.sub 6 3 2) opsState).core.cc = ⟨false, false, true, true⟩ := by
  decide
/-- −7 / 2 = −3 with remainder −1. -/
theorem test_divs : (after (.divs 6 4 2 7) opsState).g 6 = 0xFFFFFFFD ∧ (after (.divs 6 4 2 7) opsState).g 7 = 0xFFFFFFFF := by decide
/-- A shift count of 256 is one of 0: nothing shifts. The high word of 0xFFFFFFFF × 2 is 1. -/
theorem test_shift_mul : (after (.lsl 6 1 5) opsState).g 6 = 0xFFFFFFFF ∧ (after (.mulhu 6 1 2) opsState).g 6 = 1 := by decide
/-- Bits 31 to 28 of g3, as a signed field: −8. Four bits of g1 go to bits 7 to 4 of g2. -/
theorem test_fields : (after (.bext 6 3 28 3 true) opsState).g 6 = 0xFFFFFFF8 ∧ (after (.bins 2 1 4 3) opsState).g 2 = 0xF2 := by decide
/-- A halfword is sign-extended; a byte store waits in the buffer; WCALL goes to its vector. -/
theorem test_memory : (after (.ldh 6 1 2) memState).g 6 = 0xFFFF80FF ∧ (after (.stb 14 1 1) memState).core.buf.length = 1 ∧
    (after (.wcall 7) vectorState).pc = 0x30008200 ∧ (after (.wcall 7) vectorState).core.epc = 0xF0000004 := by decide
/-- A branch back by one word from the reset address; BL leaves the next address in g14. -/
theorem test_branch : (after (.bcc 7 0xFFFFF) opsState).pc = 0xEFFFFFFC ∧ (after (.bl 2) opsState).g 14 = 0xF0000004 := by decide
/-- The second after 0xFFFFFFFF is 0, and no alarm at 1 rings. -/
theorem test_rtc : (after .rtcSecond (withRegs [(Reg.RTC_SEC, 0xFFFFFFFF)] State.reset)).rd Reg.RTC_SEC = 0 := by decide
/-- CLAIM of context 3 by the Warden. -/
theorem test_claim : ((after (.dgsClaim 0x301 warden) State.reset).ctx 3).state = 1 ∧ ((after (.dgsClaim 0x301 warden) State.reset).ctx 3).owner = 0x400 := by
  decide
/-- VIO0 that rises with TESTEN high leads where the manual gives no behaviour. -/
theorem test_factory : (match exec (.vioBankCrossing 0 true true)
    { State.reset with pins := { Pins.reset with vio := [false, true, true, true] } } with
    | .fault .factoryTest => true
    | _ => false) = true := by decide

end Sys2Proof.Tests
end

/-!
The scope family. A write of GPIO_PULL moves the balls that nothing drives, and with them GPIO_IN (R264 to R266), which refutes
the frame clause of the access codes; and the values at reset.
-/
namespace Sys2Proof.Machine

/-! ## One pin shown -/

/-- Showing a pin changes registers alone. -/
theorem gpioShow_eq (s : State) (n : Nat) (level : Bool) :
    s.gpioShow n level = { s with regs := (s.gpioShow n level).regs } := by
  unfold State.gpioShow
  simp only
  split
  · rfl
  · split <;> rfl

/-- What reads after a pin is shown, but for its event. -/
theorem gpioShow_rd (s : State) (n : Nat) (level : Bool) {a : Nat} (h : a ≠ Reg.GPIO_IRQ) :
    (s.gpioShow n level).rd a = if a = Reg.GPIO_IN then wputBit (s.rd Reg.GPIO_IN) n level else s.rd a := by
  unfold State.gpioShow
  simp only
  split
  · exact State.rd_putBit ..
  · split
    · rw [State.rd_setBit, if_neg h, State.rd_putBit]
    · exact State.rd_putBit ..

/-- The levels at the balls rest on the pins and on four registers, none of which a shown pin changes. -/
theorem gpioShow_gpioBalls (s : State) (n : Nat) (level : Bool) : (s.gpioShow n level).gpioBalls = s.gpioBalls := by
  have hpins : (s.gpioShow n level).pins = s.pins := by rw [gpioShow_eq]
  have hrd {a : Nat} (hin : a ≠ Reg.GPIO_IN) (hirq : a ≠ Reg.GPIO_IRQ) : (s.gpioShow n level).rd a = s.rd a := by
    rw [gpioShow_rd s n level hirq, if_neg hin]
  have hout := hrd (a := Reg.GPIO_OUT) (by decide) (by decide)
  have hdir := hrd (a := Reg.GPIO_DIR) (by decide) (by decide)
  have hod := hrd (a := Reg.GPIO_ODRAIN) (by decide) (by decide)
  have hpull := hrd (a := Reg.GPIO_PULL) (by decide) (by decide)
  simp only [State.gpioBalls, State.gpioDrives, State.gpioUndriven, State.gpioUp, State.gpioDown, hpins, hout, hdir, hod,
    hpull]

/-! ## The pins that follow a write -/

/-- Pin `n` follows its ball, unless it is filtered (R266): one turn of `State.gpioFollow`. -/
def State.followPin (s : State) (n : Nat) : State :=
  if s.bit Reg.GPIO_FILT n then s else s.gpioShow n (wbit s.gpioBalls n)

theorem gpioFollow_live {s : State} (hlive : s.gpioLive = true) (hvio : s.gpioPowered = true) :
    s.gpioFollow = (List.range 16).foldl State.followPin s := by
  rw [State.gpioFollow, hlive, hvio]
  rfl

theorem followPin_eq (s : State) (n : Nat) : s.followPin n = { s with regs := (s.followPin n).regs } := by
  unfold State.followPin
  split
  · rfl
  · rw [gpioShow_eq]

theorem followPin_rd (s : State) (n : Nat) {a : Nat} (hin : a ≠ Reg.GPIO_IN) (hirq : a ≠ Reg.GPIO_IRQ) :
    (s.followPin n).rd a = s.rd a := by
  unfold State.followPin
  split
  · rfl
  · rw [gpioShow_rd _ _ _ hirq, if_neg hin]

theorem followPin_gpioBalls (s : State) (n : Nat) : (s.followPin n).gpioBalls = s.gpioBalls := by
  unfold State.followPin
  split
  · rfl
  · exact gpioShow_gpioBalls ..

theorem followPin_gpioIn (s : State) {n m : Nat} (hn : n < 32) (hf : s.bit Reg.GPIO_FILT n = false) :
    (s.followPin m).bit Reg.GPIO_IN n = if n = m then wbit s.gpioBalls n else s.bit Reg.GPIO_IN n := by
  by_cases hm : n = m
  · subst hm
    rw [if_pos rfl, State.followPin, hf, if_neg Bool.false_ne_true, State.bit, gpioShow_rd _ _ _ (by decide), if_pos rfl,
      wbit_wputBit_self _ _ _ hn]
  · rw [if_neg hm, State.followPin]
    split
    · rfl
    · rw [State.bit, gpioShow_rd _ _ _ (by decide), if_pos rfl, wbit_wputBit_ne _ _ _ _ hm, State.bit]

theorem followPins_eq (l : List Nat) (s : State) :
    l.foldl State.followPin s = { s with regs := (l.foldl State.followPin s).regs } := by
  induction l generalizing s with
  | nil => rfl
  | cons m l ih => rw [List.foldl_cons, ih, followPin_eq]

theorem followPins_rd (l : List Nat) (s : State) {a : Nat} (hin : a ≠ Reg.GPIO_IN) (hirq : a ≠ Reg.GPIO_IRQ) :
    (l.foldl State.followPin s).rd a = s.rd a := by
  induction l generalizing s with
  | nil => rfl
  | cons m l ih => rw [List.foldl_cons, ih, followPin_rd s m hin hirq]

/-- Of the pins that follow, an unfiltered one ends at the level of its ball. -/
theorem followPins_gpioIn (l : List Nat) (s : State) {n : Nat} (hn : n < 32) (hf : s.bit Reg.GPIO_FILT n = false) :
    (l.foldl State.followPin s).bit Reg.GPIO_IN n = if n ∈ l then wbit s.gpioBalls n else s.bit Reg.GPIO_IN n := by
  induction l generalizing s with
  | nil => simp
  | cons m l ih =>
    have hf' : (s.followPin m).bit Reg.GPIO_FILT n = false := by
      rw [State.bit, followPin_rd s m (by decide) (by decide)]; exact hf
    rw [List.foldl_cons, ih _ hf', followPin_gpioBalls, followPin_gpioIn s hn hf]
    by_cases hm : n = m <;> simp [hm]

/-! ## A write of GPIO_PULL -/

/-- A domain's state stands in PWR_DOMSTAT: a write of another register leaves it. -/
theorem domOn_wr_ne (s : State) {a : Nat} (v : Word) (d : Domain) (h : Reg.PWR_DOMSTAT ≠ a) :
    (s.wr a v).domOn d = s.domOn d := by
  have hdom : (s.wr a v).dom d = s.dom d := by simp only [State.dom, State.f, State.rd_wr_ne s v h]
  rw [State.domOn, State.domOn, hdom]

theorem regUp_gpioPull (s : State) : s.regUp Reg.GPIO_PULL = s.domOn .sys := by
  have hregion : regionOf Reg.GPIO_PULL = .block .sys _ := rfl
  have hlke : s.lkeHeld Reg.GPIO_PULL = false := by rw [State.lkeHeld, decide_eq_false (by decide), Bool.and_false]
  simp [State.regUp, hregion, hlke]

theorem writeReg_gpioPull (s : State) (v : Word) (wr : Writer) :
    s.writeReg Reg.GPIO_PULL v wr = (s.stdWrite Reg.GPIO_PULL v).gpioFollow := rfl

/-- After a write of GPIO_PULL, GPIO_IN shows at each unfiltered pin the level its ball has under the new pulls (R265, R266). -/
theorem registerWrite_gpioPull_shows_ball {s : State} (hcalm : s.calm) (hsys : s.domOn .sys = true)
    (hvio : s.gpioPowered = true) (v : Word) (wr : Writer) {n : Nat} (hn : n < 16) (hf : s.bit Reg.GPIO_FILT n = false) :
    ∃ t, exec (.registerWrite Reg.GPIO_PULL v wr) s = .next t ∧
      t.bit Reg.GPIO_IN n = wbit (s.stdWrite Reg.GPIO_PULL v).gpioBalls n := by
  let u := s.stdWrite Reg.GPIO_PULL v
  have hlive : u.gpioLive = true := by
    rw [State.gpioLive, Bool.and_eq_true]
    exact ⟨hcalm.1, (domOn_wr_ne s _ .sys (by decide)).trans hsys⟩
  have hfu : u.bit Reg.GPIO_FILT n = false := by
    rw [State.bit, State.rd_stdWrite, if_neg (by decide)]; exact hf
  have hrow : s.regRow Reg.GPIO_PULL v wr = (List.range 16).foldl State.followPin u := by
    rw [State.regRow, regUp_gpioPull, hsys, if_pos rfl, writeReg_gpioPull, gpioFollow_live hlive hvio]
  have hcalm' : (s.regRow Reg.GPIO_PULL v wr).calm := by
    rw [hrow]
    refine calm_of (calm_wr hcalm Reg.GPIO_PULL _ (by decide)) ?_ ?_ ?_ ?_ ?_ (followPins_rd _ u (by decide) (by decide))
    all_goals rw [followPins_eq]; rfl
  refine ⟨_, congrArg Host.Outcome.next (cmd_calm hcalm hcalm'), ?_⟩
  rw [settle_bit _ _ _ (by decide), hrow, followPins_gpioIn _ u (by omega) hfu, if_pos (List.mem_range.2 hn)]

/-- A part in RUN that the board leaves ball GPIO0 of open, at a low level. -/
def ballOpen : State := { State.reset with pins := { Pins.reset with gpioOpen := 1 } }

theorem ballOpen_awake : ballOpen.awake := by decide

/-- Refutes O28: the frame clause does not hold of GPIO_PULL. A pull-up moves the ball that the board leaves open, and with it
GPIO_IN (R265, R266), which the statement's `levelReg` does not list. -/
theorem not_registerAccessCodes : ¬ Obligations.RegisterAccessCodes := by
  unfold Obligations.RegisterAccessCodes
  intro h
  let wr : Writer := ⟨0, 0x400⟩
  obtain ⟨t, ht, hshown⟩ :=
    registerWrite_gpioPull_shows_ball ballOpen_awake.1 (by decide) (by decide) 1 wr (n := 0) (by decide) (by decide)
  obtain ⟨-, hup⟩ := h ballOpen Reg.GPIO_PULL 1 wr ballOpen_awake
  obtain ⟨t', ht', -, hframe, -⟩ := hup (by decide) (by decide) _ rfl
  obtain rfl : t' = t := Host.Outcome.next.inj (ht'.symm.trans ht)
  have hkept : t'.rd Reg.GPIO_IN = ballOpen.rd Reg.GPIO_IN := hframe Reg.GPIO_IN (by decide) (by decide)
  rw [State.bit, hkept] at hshown
  exact absurd hshown (by decide)

/-! ## The values at reset -/

/-- A memory whose content is lost holds no defined byte. -/
theorem Mem.get?_blank_undefined (n a : Nat) : (Mem.blank (.undefined n)).get? a = none := rfl

/-- Settles O56: the values are read off `State.reset`; the two statements about memories rest on their being blank, that
about tenants on the table's being off (R355). -/
theorem resetValues : Obligations.ResetValues := by
  unfold Obligations.ResetValues
  have hstore : ∀ m ∈ State.reset.store, ∀ a, m.get? a = none := by
    intro m hm a
    rw [List.eq_of_mem_replicate hm]
    exact Mem.get?_blank_undefined 0 a
  have hsaddle : ∀ a, State.reset.saddle.get? a = none := Mem.get?_blank_undefined 0
  have hoff : State.reset.tenEnabled = false := by decide
  have htenants : ∀ t, State.reset.tenState t = 0 := by
    intro t
    rw [State.tenState, hoff, if_neg Bool.false_ne_true]
  have hctx : ∀ n : Fin 15, (State.reset.ctx n.val).state = 0 := by decide
  have hap : ∀ p : Fin 4, (State.reset.ap p).buf = 0 ∧ (State.reset.ap p).pending = false ∧ (State.reset.ap p).busy = none := by
    decide
  have hwear : ∀ k : Fin 32, State.reset.rd (Reg.PNL_WEAR k.val) = 0x1000 := by decide
  refine ⟨?_, ?_, ?_, ?_, ?_, ?_, ?_, ?_, ?_, ?_, ?_, ?_, ?_, ?_, hwear, ?_, hctx, ?_, ?_, hap, ?_, hstore, hsaddle, htenants,
    ?_, ?_⟩
  all_goals decide

end Sys2Proof.Machine

/-!
The breath and cycle family: the timebase and its boundaries, the RTC and the system timer, the tracker, the tick clock, its
monitors and the operating points. What a command moves beside the timebase, and what it leaves alone, is said first.
-/
namespace Sys2Proof.Machine

/-! ## What the timebase leaves alone -/

/-- `t` runs as `s` does: same power, levels and domains' sequencer, same requests that wait, same Store, the core neither moved
nor halted nor stalled, the boot ROM where it was. -/
structure Steady (s t : State) : Prop where
  hrv : t.hrv = s.hrv
  pwr : t.pwr = s.pwr
  hdp : t.hdp = s.hdp
  held : t.bus.held = s.bus.held
  store : t.store = s.store
  g : t.core.g = s.core.g
  stalled : t.core.stalled = s.core.stalled
  halted : t.core.halted = s.core.halted
  boot : t.rd Reg.LCS_BOOT = s.rd Reg.LCS_BOOT

theorem Steady.refl (s : State) : Steady s s := ⟨rfl, rfl, rfl, rfl, rfl, rfl, rfl, rfl, rfl⟩

theorem Steady.trans {s t u : State} (h : Steady s t) (k : Steady t u) : Steady s u :=
  ⟨k.hrv.trans h.hrv, k.pwr.trans h.pwr, k.hdp.trans h.hdp, k.held.trans h.held, k.store.trans h.store, k.g.trans h.g,
    k.stalled.trans h.stalled, k.halted.trans h.halted, k.boot.trans h.boot⟩

theorem Steady.powered {s t : State} (h : Steady s t) : t.powered = s.powered := by simp only [State.powered, h.hrv]

theorem Steady.deep {s t : State} (h : Steady s t) : t.deep = s.deep := by simp only [State.deep, h.pwr]

theorem Steady.calm {s t : State} (h : Steady s t) (hs : s.calm) : t.calm :=
  calm_of hs h.hrv h.stalled h.held (by rw [h.hdp]) (by rw [h.pwr]) h.boot

theorem Steady.awake {s t : State} (h : Steady s t) (hs : s.awake) : t.awake := by
  obtain ⟨hcalm, hlevel, hentry, hwaking⟩ := hs
  exact ⟨h.calm hcalm, by rw [h.pwr, hlevel], by rw [h.pwr, hentry], by rw [h.pwr, hwaking]⟩

/-- A wake event finds a part that is awake (R97, R184). -/
theorem State.wakeEvent_awake {s : State} (hs : s.awake) (w : WakeSource) : s.wakeEvent w = s := by
  obtain ⟨-, hlevel, hentry, hwaking⟩ := hs
  have hcolumn : s.wakeColumn = none := by simp [State.wakeColumn, hentry, hwaking, State.deep, hlevel]
  have hlight : s.light = false := by simp [State.light, hlevel]
  simp [State.wakeEvent, hcolumn, hlight]

/-- Registers of the clocks (page 0x20000), of the timebase (0x30002) and of the life cycle (0x30003). -/
abbrev timeReg (a : Nat) : Prop := a < 0x20001000 ∨ 0x30002000 ≤ a ∧ a < 0x30004000

/-- `t` differs from `s` beside the timebase alone. -/
structure Beside (s t : State) : Prop extends Steady s t where
  tmb : t.tmb = s.tmb
  rd : ∀ a, timeReg a → t.rd a = s.rd a

namespace Beside

theorem refl (s : State) : Beside s s := ⟨.refl s, rfl, fun _ _ => rfl⟩

theorem trans {s t u : State} (h : Beside s t) (k : Beside t u) : Beside s u :=
  ⟨h.toSteady.trans k.toSteady, k.tmb.trans h.tmb, fun a ha => (k.rd a ha).trans (h.rd a ha)⟩

variable {s t u : State}

theorem f (h : Beside s t) {a : Nat} (ha : timeReg a) (lo n : Nat) : t.f a lo n = s.f a lo n := by
  simp only [State.f, h.rd a ha]

theorem bit (h : Beside s t) {a : Nat} (ha : timeReg a) (i : Nat) : t.bit a i = s.bit a i := by
  simp only [State.bit, h.rd a ha]

/-- A write of another register, and with it the setting of a bit or of a field. -/
theorem wr (h : Beside s t) {a : Nat} (ha : ¬timeReg a) (v : Word) : Beside s (t.wr a v) :=
  have hne {b : Nat} (hb : timeReg b) : b ≠ a := fun e => ha (e ▸ hb)
  ⟨⟨h.hrv, h.pwr, h.hdp, h.held, h.store, h.g, h.stalled, h.halted, (State.rd_wr_ne t v (hne (by decide))).trans h.boot⟩, h.tmb,
    fun b hb => (State.rd_wr_ne t v (hne hb)).trans (h.rd b hb)⟩

/-- Of a condition's two outcomes each keeps it. -/
theorem ite (h : Beside s t) (k : Beside s u) {c : Prop} [Decidable c] : Beside s (if c then t else u) := by
  split
  · exact h
  · exact k

/-- Steps over a list. -/
theorem foldl {α : Type} {f : State → α → State} (h : Beside s t) (l : List α)
    (hf : ∀ u : State, ∀ x ∈ l, Beside u (f u x)) : Beside s (l.foldl f t) := by
  induction l generalizing t with
  | nil => exact h
  | cons x l ih =>
    exact ih (h.trans (hf t x List.mem_cons_self)) fun u y hy => hf u y (List.mem_cons_of_mem x hy)

/-! What the blocks beside the timebase hold. -/

theorem lcs (h : Beside s t) (x : Lcs) : Beside s { t with lcs := x } := { h with }
theorem gtc (h : Beside s t) (x : Gtc) : Beside s { t with gtc := x } := { h with }
theorem stc (h : Beside s t) (x : Stc) : Beside s { t with stc := x } := { h with }
theorem msr (h : Beside s t) (x : Msr) : Beside s { t with msr := x } := { h with }
theorem saf (h : Beside s t) (x : Saf) : Beside s { t with saf := x } := { h with }
theorem tch (h : Beside s t) (x : Tch) : Beside s { t with tch := x } := { h with }
theorem pnl (h : Beside s t) (x : Pnl) : Beside s { t with pnl := x } := { h with }
theorem lnk (h : Beside s t) (x : Lnk) : Beside s { t with lnk := x } := { h with }

/-! ## The safety block -/

theorem safCond (h : Beside s t) : Beside s t.safCond := h.wr (by decide) _

theorem safOut (h : Beside s t) : Beside s t.safOut := (h.wr (by decide) _).saf _

theorem clearReq (h : Beside s t) (m : Word) : Beside s (t.clearReq m) := (h.wr (by decide) _).safOut

theorem trigger (h : Beside s t) (c : ResetCause) : Beside s (t.trigger c) := h.ite (h.lcs _)

theorem queueHeartbeat (h : Beside s t) (extra : Bool) : Beside s (t.queueHeartbeat extra) := (h.lnk _).ite h

theorem safNote (h : Beside s t) (fw : Word) : Beside s (t.safNote fw) := (h.wr (by decide) _).wr (by decide) _

theorem safCapture (h : Beside s t) (fw : Word) (aid : Nat) : Beside s (t.safCapture fw aid) := by
  have hcapture : Beside s ((((t.wr Reg.SAF_FW fw).wr Reg.SAF_FCYC (t.rd Reg.TMB_CYCCNT)).wr Reg.SAF_FRTC (t.rd Reg.RTC_SEC)).wr
      Reg.SAF_FINFO (word (0x80000000 + aid % 2048))) :=
    (((h.wr (by decide) _).wr (by decide) _).wr (by decide) _).wr (by decide) _
  exact ((((h.ite (hcapture.saf _)).wr (by decide) _).saf _).ite (h.ite (hcapture.saf _)))

/-- A safety NMI is raised. -/
theorem nmi (h : Beside s t) : Beside s { t with core := { t.core with nmi := true } } := { h with }

theorem safSafe (h : Beside s t) (fw : Word) (aid : Nat) (nmi : Bool) : Beside s (t.safSafe fw aid nmi) := by
  unfold State.safSafe
  extract_lets entry latched acked captured _ raised _ _ timed
  have hlatched : Beside s latched := (h.wr (by decide) _).wr (by decide) _
  have hacked : Beside s acked := (hlatched.wr (by decide) _).ite hlatched
  have hcaptured : Beside s captured := ((hacked.safCapture fw aid).wr (by decide) _).clearReq _
  have hraised : Beside s raised := hcaptured.nmi.ite hcaptured
  have htimed : Beside s timed := hraised.ite ((hraised.wr (a := Reg.SAF_STAT) (by decide) _).saf _)
  exact (htimed.safCond.queueHeartbeat true).ite htimed.safCond

theorem safGroup (h : Beside s t) {g : Nat} (hg : g < 16) (fw : Word) : Beside s (t.safGroup g fw) := by
  have hgfw : ¬timeReg (Reg.SAF_GFW g) := by simp only [timeReg, Reg.SAF_GFW]; omega
  exact (((h.ite (h.wr hgfw _)).wr (by decide) _).wr (by decide) _).clearReq _

/-- A report: its group, if it has one, is one of the sixteen. -/
theorem safReportIn (h : Beside s t) (fw : Word) (aid : Nat) {group : Option Nat} (hg : ∀ g ∈ group, g < 16) :
    Beside s (t.safReportIn fw aid group) := by
  unfold State.safReportIn
  split
  · exact h
  · split
    · have hsafe := h.safSafe fw aid false
      exact (hsafe.trigger _).ite ((hsafe.trigger _).lcs _)
    · split
      · exact h.safSafe fw aid true
      · split
        · exact h.safGroup (hg _ rfl) fw
        · exact h.safNote fw
      · exact h.safNote fw

theorem safReport (h : Beside s t) (fw : Word) (aid : Nat) : Beside s (t.safReport fw aid) := by
  refine h.safReportIn fw aid fun g hg => ?_
  have hsgrp : ∀ n, t.sgrp? n = some g → g < 16 := by
    intro n hn
    unfold State.sgrp? at hn
    split at hn
    · obtain rfl := Option.some.inj hn
      exact fld_lt _ _ _
    · cases hn
  unfold State.faultGroup at hg
  split at hg
  · exact hsgrp _ hg
  · exact hsgrp _ hg
  · exact hsgrp _ hg
  · obtain rfl := Option.some.inj hg
    exact fld_lt _ _ _
  · cases hg

theorem escCount (h : Beside s t) : Beside s t.escCount := (h.saf _).ite h

theorem readbackAll (h : Beside s t) (sfb : Nat) : Beside s (t.readbackAll sfb) :=
  ((h.wr (a := Reg.SAF_OUT) (by decide) _).saf _).safCond.ite h

theorem haltFault (h : Beside s t) : Beside s t.haltFault :=
  ((((h.saf _).wr (a := Reg.SAF_STAT) (by decide) _).safReport _ _).ite (h.saf _)).ite h

/-! ## Measurement -/

theorem holdFrame (h : Beside s t) (l : List Word) : Beside s (t.holdFrame l) := by
  have hlost (saddle : Bool) : Beside s (t.frameLost saddle) :=
    ((h.wr (a := Reg.MSR_HRINGCNT) (by decide) _).msr _).ite ((h.wr (a := Reg.MSR_RINGSTAT) (by decide) _).msr _)
  exact (((hlost _).wr (by decide) _).wr (by decide) _).ite (h.msr _)

theorem refUpdate (h : Beside s t) : Beside s t.refUpdate := ((h.wr (a := Reg.MSR_STAT) (by decide) _).msr _).ite h

/-- The results of a frame are written. -/
theorem results (h : Beside s t) (ws : List Word) (hlen : ws.length ≤ 48) :
    Beside s (ws.zipIdx.foldl (fun s p => s.wr (Reg.MSR_RESULT p.2) p.1) t) := by
  refine h.foldl _ fun u p hp => (Beside.refl u).wr ?_ _
  have hidx := List.snd_lt_of_mem_zipIdx hp
  simp only [timeReg, Reg.MSR_RESULT]
  omega

theorem frameLatch (h : Beside s t) (b : BoundaryInput) : Beside s (t.frameLatch b).s := by
  unfold State.frameLatch
  split
  · exact h.msr _
  · extract_lets next rs anyLp anyNorm lim hdr words written held chs _ begun
    have hlen : words.length ≤ 48 := by simp [words, rs]
    have hwritten : Beside s written := (h.results words hlen).wr (by decide) _
    have hbegun : Beside s begun := ((hwritten.holdFrame _).ite h).msr _
    exact ((hbegun.ite (hbegun.msr _)).msr _).refUpdate

theorem slowLimits (h : Beside s t) (hs : s.awake) {evs : List ChEval} (hlen : evs.length ≤ 48) :
    Beside s (t.slowLimits evs) := by
  unfold State.slowLimits
  split
  · exact h
  · extract_lets beyond shown raised sen reported stay new
    have hidx : ∀ p ∈ beyond, p.2 < 48 := fun p hp => by
      have := List.snd_lt_of_mem_zipIdx (List.mem_of_mem_filter hp)
      omega
    have hshown : Beside s shown := h.foldl _ fun u p hp => (Beside.refl u).wr (by
      have := hidx p hp
      simp only [timeReg, Reg.MSR_LIMEVT]; omega) _
    have hraised : Beside s raised := by
      have hirq : Beside s (shown.msrIrq 0x20) := hshown.wr (by decide) _
      refine hshown.ite ?_
      rw [State.wakeEvent_awake (hirq.awake hs)]
      exact hirq
    have hreported : Beside s reported := hraised.foldl _ fun u p _ =>
      (Beside.refl u).safReportIn _ _ fun g hg => by
        obtain rfl := Option.some.inj hg
        exact fld_lt _ _ _
    exact hreported.saf _

theorem slotCycle (h : Beside s t) : Beside s t.slotCycle := by
  unfold State.slotCycle State.slotBegin
  split
  · exact h
  · split
    · exact h.msr _
    · exact ((h.wr (a := Reg.MSR_DRSTAT) (by decide) _).ite h).msr _

/-! ## Touch keys -/

/-- A bit of a pair of node registers of page 0x20015. -/
theorem putNode (h : Beside s t) {r : Nat → Nat} {n : Nat} (hr : ¬timeReg (r (n / 32))) (b : Bool) :
    Beside s (t.putNode r n b) := h.wr hr _

theorem setCounts (h : Beside s t) (j onc offc : Nat) : Beside s (t.setCounts j onc offc) := h.tch _

theorem keyTo (h : Beside s t) (j : Nat) (on : Bool) : Beside s (t.keyTo j on) := (h.wr (by decide) _).wr (by decide) _

theorem keyOff (h : Beside s t) (j : Nat) : Beside s (t.keyOff j) := ((h.keyTo j false).ite h).setCounts j 0 0

theorem keyEval (h : Beside s t) (j : Nat) (d : Int) : Beside s (t.keyEval j d) :=
  ((((h.keyTo j false).setCounts _ _ _).ite (h.setCounts _ _ _)).ite (h.setCounts _ _ _)).ite
    (((h.setCounts _ _ _).ite (((h.keyTo j true).setCounts _ _ _).ite (h.setCounts _ _ _))).ite (h.setCounts _ _ _))

theorem rawPublish (h : Beside s t) : Beside s t.rawPublish := by
  unfold State.rawPublish
  split
  · exact ((h.wr (by decide) _).wr (by decide) _).tch _
  · exact h

theorem postReference (h : Beside s t) : Beside s t.postReference := by
  have hrefs := h.foldl
    (f := fun s r => s.setF (Reg.TCH_REF (r / 2)) (16 * (r % 2)) 16 ((s.tch.bursts.map fun p => p.2.getD r 0).sum / 8))
    (List.range 8) fun u r hr => (Beside.refl u).wr (by
      have := List.mem_range.1 hr
      simp only [timeReg, Reg.TCH_REF]; omega) _
  exact (hrefs.tch _).ite (h.tch _)

theorem selfTest (h : Beside s t) {n : Nat} (hn : n < 64) : Beside s (t.selfTest n) := by
  have hshort : ¬timeReg (Reg.TCH_STSHORT (n / 32)) := by simp only [timeReg, Reg.TCH_STSHORT]; omega
  have hopen : ¬timeReg (Reg.TCH_STOPEN (n / 32)) := by simp only [timeReg, Reg.TCH_STOPEN]; omega
  have hnodes := fun a b => (h.putNode hshort a).putNode hopen b
  exact ((hnodes _ _).wr (a := Reg.TCH_IRQ) (by decide) _).ite (hnodes _ _)

theorem groundLow (h : Beside s t) {n : Nat} (hn : n < 64) (d : Int) : Beside s (t.groundLow n d) := by
  have hlow : ¬timeReg (Reg.TCH_GLOW (n / 32)) := by simp only [timeReg, Reg.TCH_GLOW]; omega
  unfold State.groundLow
  split
  · extract_lets shown c lim
    have hshown : Beside s shown := h.ite ((h.putNode hlow true).wr (by decide) _)
    exact ((((hshown.tch _).putNode hlow false).wr (a := Reg.TCH_IRQ) (by decide) _).tch _).ite (hshown.tch _)
  · exact (h.putNode hlow false).tch _

theorem postSeed (h : Beside s t) : Beside s t.postSeed := by
  have hbases := h.foldl nodes fun u n _ => ((Beside.refl u).tch _ : Beside u (u.setBase n (u.rawOf n * 256))).tch
    { (u.setBase n (u.rawOf n * 256)).tch with anti := (u.setBase n (u.rawOf n * 256)).tch.anti.set n 0 }
  have hkeys := hbases.foldl (List.range 32) fun u j _ => (Beside.refl u).keyOff j
  exact ((hkeys.wr (by decide) _).wr (by decide) _).wr (by decide) _

theorem postKeys (h : Beside s t) (ds : List Int) : Beside s (t.postKeys ds) := by
  refine ((h.wr (by decide) _).wr (a := Reg.TCH_IRQ) (by decide) _).ite ?_
  refine (h.wr (a := Reg.TCH_STAT) (by decide) _).foldl _ fun u j _ => ?_
  exact ((Beside.refl u).keyEval _ _).ite (.refl u)

/-- The baselines that a posting moves are the touch engine's own. -/
theorem moveBases (h : Beside s t) (l : List Nat) : Beside s (l.foldl (fun s n => s.moveBase n) t) :=
  h.foldl l fun u _ _ => (Beside.refl u).ite ((Beside.refl u).tch _)

theorem postScan (h : Beside s t) (cyc : Nat) : Beside s (t.postScan cyc) := by
  have hnode {n : Nat} (hn : n ∈ nodes) : n < 64 := List.mem_range.1 hn
  unfold State.postScan
  extract_lets chg cleared ds counted tested keysOff _ checked seeded _ grounded keyed moved changed posted
  have hcounted : Beside s counted := (h.wr (by decide) _).foldl _ fun u n hn => (Beside.refl u).wr (by
    have := hnode hn
    simp only [timeReg, Reg.TCH_NODE]; omega) _
  have htested : Beside s tested :=
    (hcounted.foldl _ fun u n hn => (Beside.refl u).selfTest (hnode hn)).wr (by decide) _
  have hkeysOff : Beside s keysOff :=
    htested.foldl _ fun u j _ => ((Beside.refl u).keyOff j).ite (.refl u)
  have hchecked : Beside s checked := (hkeysOff.tch _).ite hcounted
  have hgrounded : Beside s grounded := hchecked.foldl _ fun u n hn => (Beside.refl u).groundLow (hnode hn) _
  have hkeyed : Beside s keyed := hgrounded.postKeys ds
  have hmoved : Beside s moved := (hchecked.postSeed.tch _).ite (hkeyed.ite (hkeyed.moveBases nodes))
  have hchanged : Beside s changed := hmoved.ite (hmoved.wr (by decide) _)
  have hposted : Beside s posted := (hchanged.wr (by decide) _).wr (by decide) _
  exact (hposted.tch _).rawPublish.ite hposted

theorem touchPost (h : Beside s t) (cyc : Nat) : Beside s (t.touchPost cyc) :=
  (h.postReference.ite ((h.postScan cyc).ite (h.wr (a := Reg.TCH_STAT) (by decide) _))).ite h

theorem touchCycle (h : Beside s t) (cyc : Nat) : Beside s (t.touchCycle cyc) := by
  unfold State.touchCycle
  extract_lets _ dropped b
  have hdropped : Beside s dropped := h.tch _
  exact ((hdropped.ite (hdropped.tch _)).tch _).ite hdropped

/-! ## The panel -/

theorem setBal (h : Beside s t) (n : Nat) (b : Int) : Beside s (t.setBal n b) := by
  unfold State.setBal
  extract_lets c saturated
  have hsaturated : Beside s saturated := h.ite (h.wr (by decide) _)
  exact (hsaturated.pnl _).wr (by decide) _

theorem addCharge (h : Beside s t) (n q : Nat) : Beside s (t.addCharge n q) := by
  unfold State.addCharge
  extract_lets p
  exact h.ite (((h.pnl _).wr (a := Reg.PNL_IRQ) (by decide) _).ite (h.pnl _))

theorem rowPixel (h : Beside s t) (n g ticks : Nat) : Beside s (t.rowPixel n g ticks) := by
  unfold State.rowPixel
  split
  · exact h
  · extract_lets p i f d driven
    have hdriven : Beside s driven := (h.addCharge _ _).setBal _ _
    exact hdriven.ite (hdriven.setBal _ _)

theorem driveSlot (h : Beside s t) : Beside s t.driveSlot := by
  have hrow (r : Nat) : Beside s (t.driveRow r 32) := by
    unfold State.driveRow
    split
    · exact h
    · exact h.foldl _ fun u c _ => (Beside.refl u).rowPixel _ _ _
  unfold State.driveSlot
  split
  · exact (hrow _).ite h
  · exact h

theorem catchupRow (h : Beside s t) (cu : Nat) : Beside s (t.catchupRow cu) := by
  have hpixel (u : State) (n : Nat) : Beside u (u.catchupPixel cu n) := by
    unfold State.catchupPixel
    extract_lets b d dwelled
    have hdwelled : Beside u dwelled := (Beside.refl u).ite ((Beside.refl u).setBal _ _)
    exact (Beside.refl u).ite ((hdwelled.wr (a := Reg.PNL_IRQ) (by decide) _).ite hdwelled)
  unfold State.catchupRow
  extract_lets row
  have hrow : Beside s row := h.foldl _ fun u c _ => hpixel u _
  exact (hrow.wr (a := Reg.PNL_IRQ) (by decide) _).ite hrow

theorem lateRow (h : Beside s t) : Beside s t.lateRow := (h.wr (by decide) _).wr (by decide) _

theorem nextSlot (h : Beside s t) : Beside s t.nextSlot := by
  unfold State.nextSlot
  exact (h.pnl _).ite ((h.pnl _).lateRow.ite (h.pnl _))

theorem catchUp (h : Beside s t) : Beside s t.catchUp := by
  unfold State.catchUp
  split
  · exact h
  · extract_lets row moved ended
    have hmoved : Beside s moved := (h.catchupRow _).wr (by decide) _
    have hended : Beside s ended := ((hmoved.wr (a := Reg.PNL_IRQ) (by decide) _).ite hmoved).ite h
    exact (hended.pnl _).nextSlot

theorem frameStart (h : Beside s t) (frame : Nat) : Beside s (t.frameStart frame) := by
  unfold State.frameStart
  split
  · extract_lets ended shown
    have hended : Beside s ended := h.catchUp.ite (h.driveSlot.ite h)
    have hshown : Beside s shown := hended.wr (by decide) _
    exact (hshown.pnl _).lateRow.ite (hshown.pnl _)
  · exact h

/-! ## The link, the scrubber and the gates -/

theorem heartbeatStep (h : Beside s t) : Beside s t.heartbeatStep :=
  h.ite (((h.queueHeartbeat false).ite h).ite (((h.lnk _).ite (h.lnk _)).ite h))

theorem lkeTableSwitch (h : Beside s t) : Beside s t.lkeTableSwitch := by
  unfold State.lkeTableSwitch
  split
  · exact (h.wr (by decide) _).lnk _
  · exact h

theorem scrubBoundary (h : Beside s t) : Beside s t.scrubBoundary :=
  ((h.wr (a := Reg.STC_SCRUB) (by decide) _).ite h).stc _

theorem gateCrcStart (h : Beside s t) : Beside s t.gateCrcStart := (h.gtc _).ite h

/-- What every Breath boundary brings last: a part that is awake does not wake from NAP (R95). -/
theorem breathTail (h : Beside s t) (hs : s.awake) (faults : List Word) : Beside s (t.breathTail faults) := by
  have hreported : Beside s (faults.foldl (fun s fw => s.safReport fw 0x7FF) t).haltFault :=
    (h.foldl faults fun u fw _ => (Beside.refl u).safReport fw 0x7FF).haltFault
  obtain ⟨-, hlevel, -, -⟩ := hreported.awake hs
  rw [State.breathTail, State.napWake, hlevel]
  exact hreported

end Beside

/-! ## What passes between two boundaries -/

namespace Steady

variable {s t : State}

/-- A write of a register other than LCS_BOOT. -/
theorem wr (h : Steady s t) {a : Nat} (ha : Reg.LCS_BOOT ≠ a) (v : Word) : Steady s (t.wr a v) :=
  { h with boot := (State.rd_wr_ne t v ha).trans h.boot }

theorem tmb (h : Steady s t) (x : Tmb) : Steady s { t with tmb := x } := { h with }

theorem ite {u : State} (h : Steady s t) (k : Steady s u) {c : Prop} [Decidable c] : Steady s (if c then t else u) := by
  split
  · exact h
  · exact k

/-- RTC_SEC and RTC_SUB move; an alarm finds the part awake (R50 to R52). -/
theorem rtcMove (h : Steady s t) (hs : s.awake) (d : Int) : Steady s (t.rtcMove d) := by
  unfold State.rtcMove
  extract_lets rate total secs sec alarm hit moved
  have hmoved : Steady s moved := (h.wr (by decide) _).wr (by decide) _
  have halarm : Steady s (moved.setBit Reg.TMB_IRQ 5) := hmoved.wr (by decide) _
  rw [State.wakeEvent_awake (halarm.awake hs)]
  exact halarm.ite hmoved

theorem stmAdvance (h : Steady s t) (us : Nat) : Steady s (t.stmAdvance us) := by
  unfold State.stmAdvance State.stmCheck
  have hcount (n : Nat) : Steady s ((t.wr Reg.STM_CNTLO (word n)).wr Reg.STM_CNTHI (word (n / 0x100000000))) :=
    (h.wr (by decide) _).wr (by decide) _
  exact ((((hcount _).wr (a := Reg.STM_STAT) (by decide) _).wr (a := Reg.STM_STAT) (by decide) _).ite (hcount _)).ite h

theorem advanceTicks (h : Steady s t) (hs : s.awake) (n : Nat) : Steady s (t.advanceTicks n) := by
  unfold State.advanceTicks
  extract_lets held us good passed _ counted
  have hcounted : Steady s counted := { h with }
  exact h.ite ((hcounted.rtcMove hs _).stmAdvance _)

end Steady

/-- A command of which the effect leaves a calm state calm answers that effect. -/
theorem exec_calm {c : Instr} {s : State} {f : State → State} (hexec : exec c s = .next (s.cmd f)) (hs : s.calm)
    (hf : Steady s (f s)) : exec c s = .next (f s).settle := by
  rw [hexec, cmd_calm hs (hf.calm hs)]

/-! ## The watchdog closes a Breath (R39) -/

/-- An overrun is counted: OVRCONS becomes `cons`, OVRCNT grows, OVERRUN is set, and the escalation holds or not. -/
def State.overrun (s : State) (cons : Nat) (esc : Bool) : State :=
  { ((s.setF Reg.BRT_CFG 8 4 cons).incSat Reg.BRT_CFG 16 16).setBit Reg.TMB_IRQ 2 with tmb := { s.tmb with escalated := esc } }

theorem State.overrun_rd (s : State) (cons : Nat) (esc : Bool) {a : Nat} (hcfg : a ≠ Reg.BRT_CFG) (hirq : a ≠ Reg.TMB_IRQ) :
    (s.overrun cons esc).rd a = s.rd a := by
  have hwr : (s.overrun cons esc).rd a = (((s.setF Reg.BRT_CFG 8 4 cons).incSat Reg.BRT_CFG 16 16).setBit Reg.TMB_IRQ 2).rd a := rfl
  rw [hwr, State.rd_setBit, if_neg hirq, State.incSat, State.rd_setF, if_neg hcfg, State.rd_setF, if_neg hcfg]

theorem State.overrun_irq (s : State) (cons : Nat) (esc : Bool) : (s.overrun cons esc).bit Reg.TMB_IRQ 2 = true := by
  have hwr : (s.overrun cons esc).rd Reg.TMB_IRQ =
      wputBit (((s.setF Reg.BRT_CFG 8 4 cons).incSat Reg.BRT_CFG 16 16).rd Reg.TMB_IRQ) 2 true :=
    State.rd_wr_self ..
  rw [State.bit, hwr, wbit_wputBit_self _ _ _ (by decide)]

theorem satInc_eq_min {top n : Nat} (h : n ≤ top) : satInc top n = min top (n + 1) := by
  unfold satInc
  split <;> omega

/-- OVRCNT counts to its largest value. -/
theorem State.overrun_count (s : State) (cons : Nat) (esc : Bool) :
    (s.overrun cons esc).f Reg.BRT_CFG 16 16 = min (2 ^ 16 - 1) (s.f Reg.BRT_CFG 16 16 + 1) := by
  have hkept : (s.setF Reg.BRT_CFG 8 4 cons).f Reg.BRT_CFG 16 16 = s.f Reg.BRT_CFG 16 16 := by
    rw [State.f, State.rd_setF, if_pos rfl, fld_setFld_ne _ _ _ _ _ _ (by decide), State.f]
  have hcount : (s.overrun cons esc).rd Reg.BRT_CFG = ((s.setF Reg.BRT_CFG 8 4 cons).incSat Reg.BRT_CFG 16 16).rd Reg.BRT_CFG :=
    State.rd_wr_ne _ _ (by decide)
  have hlt : s.f Reg.BRT_CFG 16 16 < 2 ^ 16 := fld_lt _ _ _
  rw [State.f, hcount, State.incSat, State.rd_setF, if_pos rfl, fld_setFld_self _ _ _ _ (by decide), hkept,
    satInc_eq_min (by omega)]
  exact Nat.mod_eq_of_lt (by omega)

theorem State.overrun_steady (s : State) (cons : Nat) (esc : Bool) : Steady s (s.overrun cons esc) :=
  ((((Steady.refl s).wr (by decide) _).wr (by decide) _).wr (by decide) _).tmb _

/-- What the end of a Breath does to a watchdog that does not run, that was served, and that was not. -/
theorem State.wdClose_cases (s : State) :
    ((s.wdActive && s.tmb.brtWhole) = false ∧ s.wdClose = s) ∨
    ((s.wdActive && s.tmb.brtWhole) = true ∧ s.tmb.brtDone = true ∧ s.wdClose = s.setF Reg.BRT_CFG 8 4 0) ∨
    ((s.wdActive && s.tmb.brtWhole) = true ∧ s.tmb.brtDone = false ∧ ∃ cons esc, Beside (s.overrun cons esc) s.wdClose) := by
  cases hwatched : s.wdActive && s.tmb.brtWhole with
  | false => exact .inl ⟨rfl, by rw [State.wdClose, hwatched]; rfl⟩
  | true =>
    cases hdone : s.tmb.brtDone with
    | true => exact .inr (.inl ⟨rfl, rfl, by rw [State.wdClose, hwatched, hdone]; rfl⟩)
    | false =>
      refine .inr (.inr ⟨rfl, rfl, ?_⟩)
      unfold State.wdClose
      rw [if_pos hwatched, hdone, if_neg Bool.false_ne_true]
      extract_lets lim cur cons counted
      have hcounted : counted = s.overrun cons s.tmb.escalated := rfl
      split
      · exact ⟨cons, true, (Beside.refl (s.overrun cons true)).safReport _ _⟩
      · exact ⟨cons, s.tmb.escalated, hcounted ▸ .refl _⟩

theorem State.wdClose_steady (s : State) : Steady s s.wdClose := by
  rcases s.wdClose_cases with ⟨-, h⟩ | ⟨-, -, h⟩ | ⟨-, -, cons, esc, h⟩
  · rw [h]; exact .refl s
  · rw [h]; exact (Steady.refl s).wr (by decide) _
  · exact (s.overrun_steady cons esc).trans h.toSteady

/-- Of the timebase's own state the end of a Breath moves the escalation alone. -/
theorem State.wdClose_tmb (s : State) : s.wdClose.tmb = { s.tmb with escalated := s.wdClose.tmb.escalated } := by
  rcases s.wdClose_cases with ⟨-, h⟩ | ⟨-, -, h⟩ | ⟨-, -, cons, esc, h⟩
  · rw [h]
  · rw [h]; rfl
  · rw [h.tmb]; rfl

theorem State.wdClose_rd (s : State) {a : Nat} (ha : timeReg a) (hcfg : a ≠ Reg.BRT_CFG) (hirq : a ≠ Reg.TMB_IRQ) :
    s.wdClose.rd a = s.rd a := by
  rcases s.wdClose_cases with ⟨-, h⟩ | ⟨-, -, h⟩ | ⟨-, -, cons, esc, h⟩
  · rw [h]
  · rw [h, State.rd_setF, if_neg hcfg]
  · rw [h.rd a ha, s.overrun_rd cons esc hcfg hirq]

/-- A Breath that was served clears OVRCONS (R39). -/
theorem State.wdClose_served {s : State} (hactive : s.wdActive = true) (hwhole : s.tmb.brtWhole = true)
    (hdone : s.tmb.brtDone = true) : s.wdClose.f Reg.BRT_CFG 8 4 = 0 := by
  have hclose : s.wdClose = s.setF Reg.BRT_CFG 8 4 0 := by
    rw [State.wdClose, hactive, hwhole, hdone]; rfl
  rw [hclose, State.f, State.rd_setF, if_pos rfl, fld_setFld_self _ _ _ _ (by decide), Nat.zero_mod]

/-- A Breath that was not is an overrun (R39). -/
theorem State.wdClose_missed {s : State} (hactive : s.wdActive = true) (hwhole : s.tmb.brtWhole = true)
    (hdone : s.tmb.brtDone = false) :
    s.wdClose.bit Reg.TMB_IRQ 2 = true ∧ s.wdClose.f Reg.BRT_CFG 16 16 = min (2 ^ 16 - 1) (s.f Reg.BRT_CFG 16 16 + 1) := by
  rcases s.wdClose_cases with ⟨h, -⟩ | ⟨-, h, -⟩ | ⟨-, -, cons, esc, h⟩
  · simp [hactive, hwhole] at h
  · simp [hdone] at h
  · exact ⟨(h.bit (by decide) 2).trans (s.overrun_irq cons esc), (h.f (by decide) 16 16).trans (s.overrun_count cons esc)⟩

/-- The watchdog of a part that is awake (R40). -/
theorem State.wdActive_awake {s : State} (hs : s.awake) : s.wdActive = (s.bit Reg.BRT_CFG 0 && !s.core.halted) := by
  obtain ⟨hcalm, hlevel, hentry, -⟩ := hs
  simp [State.wdActive, State.deep, hlevel, hentry, hcalm.1]

theorem State.wdOpen_steady (s : State) : Steady s s.wdOpen := (Steady.refl s).tmb _

/-! ## Breath boundaries -/

/-- A Breath boundary: the readback, the close of the Breath that ends, the count of the next one, what follows beside the
timebase, and its opening. -/
theorem State.breathBoundaryAt_phases {s : State} (hs : s.awake) (b sfb : Nat) :
    ∃ compared counted, Beside s compared ∧
      Beside ((compared.wdClose.setF Reg.TMB_STAT 0 5 b).setBit Reg.TMB_IRQ 0) counted ∧
      Beside counted.wdOpen (s.breathBoundaryAt b sfb) := by
  unfold State.breathBoundaryAt
  extract_lets faults begun counted
  have hcompared : Beside s (s.readbackAll sfb) := (Beside.refl s).readbackAll sfb
  have hcounted : Beside begun counted := ((Beside.refl begun).frameStart 1).ite (.refl begun)
  have hbegun : Steady s begun :=
    ((hcompared.toSteady.trans (State.wdClose_steady _)).wr (by decide) _).wr (by decide) _
  have hopen : Steady s counted.wdOpen := (hbegun.trans hcounted.toSteady).trans counted.wdOpen_steady
  exact ⟨_, counted, hcompared, hcounted, (Beside.refl _).breathTail (hopen.awake hs) faults⟩

/-- The Breath that a boundary begins comes next in the Cycle, and its start is reached (R28). -/
theorem State.breathDue_eq (s : State) : s.breathDue =
    if s.f Reg.TMB_STAT 0 5 + 1 < s.tmb.breathDiv ∧ (s.f Reg.TMB_STAT 0 5 + 1) * 2 ^ 24 / s.tmb.breathDiv ≤ s.tmb.acc then
      some (s.f Reg.TMB_STAT 0 5 + 1)
    else none := rfl

/-! ## Cycle boundaries -/

theorem clampInt_eq {lo hi : Int} (h : lo ≤ hi) (i : Int) : clampInt lo hi i = max lo (min hi i) := by
  unfold clampInt
  split_ifs <;> omega

theorem clampInc_eq (i : Int) : (clampInc i : Int) = max 23040 (min 33792 i) := by
  rw [clampInc, clampInt_eq (by decide)]
  omega

/-- The increment that a boundary aims at: the nominal one in FREE, else the target (R30). -/
def State.incGoal (s : State) : Option Int :=
  if s.mstate = 0 then some (clampInc (s.f Reg.TMB_CFG 0 16 : Nat)) else s.tmb.target

/-- Two states that agree on TMB_STAT, on TMB_CFG and on the target aim alike. -/
theorem State.incGoal_congr {s t : State} (hstat : t.rd Reg.TMB_STAT = s.rd Reg.TMB_STAT)
    (hcfg : t.rd Reg.TMB_CFG = s.rd Reg.TMB_CFG) (htarget : t.tmb.target = s.tmb.target) : t.incGoal = s.incGoal := by
  have hmstate : t.mstate = s.mstate := by simp only [State.mstate, State.f, hstat]
  have hnominal : t.f Reg.TMB_CFG 0 16 = s.f Reg.TMB_CFG 0 16 := by simp only [State.f, hcfg]
  rw [State.incGoal, hmstate, hnominal, htarget, State.incGoal]

/-- SLEW as it acts. -/
def State.slew (s : State) : Int := max 1 (s.f Reg.TMB_TRK 0 8 : Nat)

/-- `t` differs from `s` in the tracker and in what TMB_STAT shows of it and of the clock: the Cycle in progress and its
increment are as they were. -/
structure Retimed (s t : State) : Prop extends Steady s t where
  curInc : t.curInc = s.curInc
  acc : t.tmb.acc = s.tmb.acc
  cycTicks : t.tmb.cycTicks = s.tmb.cycTicks
  rd : ∀ a, a ≠ Reg.TMB_STAT → t.rd a = s.rd a

namespace Retimed

theorem refl (s : State) : Retimed s s := ⟨.refl s, rfl, rfl, rfl, fun _ _ => rfl⟩

variable {s t u : State}

theorem trans (h : Retimed s t) (k : Retimed t u) : Retimed s u :=
  ⟨h.toSteady.trans k.toSteady, k.curInc.trans h.curInc, k.acc.trans h.acc, k.cycTicks.trans h.cycTicks,
    fun a ha => (k.rd a ha).trans (h.rd a ha)⟩

theorem ite (h : Retimed s t) (k : Retimed s u) {c : Prop} [Decidable c] : Retimed s (if c then t else u) := by
  split
  · exact h
  · exact k

theorem tmb (h : Retimed s t) (x : Tmb) (hacc : x.acc = t.tmb.acc) (hticks : x.cycTicks = t.tmb.cycTicks) :
    Retimed s { t with tmb := x } :=
  ⟨h.toSteady.tmb x, h.curInc, hacc.trans h.acc, hticks.trans h.cycTicks, h.rd⟩

/-- A field of TMB_STAT below CURINC is set. -/
theorem setF (h : Retimed s t) {lo n : Nat} (hlow : lo + n ≤ 16) (v : Nat) : Retimed s (t.setF Reg.TMB_STAT lo n v) := by
  have hinc : (t.setF Reg.TMB_STAT lo n v).curInc = t.curInc := by
    rw [State.curInc, State.f, State.rd_setF, if_pos rfl, fld_setFld_ne _ _ _ _ _ _ (.inr hlow), State.curInc, State.f]
  exact ⟨h.toSteady.wr (by decide) _, hinc.trans h.curInc, h.acc, h.cycTicks,
    fun a ha => (State.rd_wr_ne t _ ha).trans (h.rd a ha)⟩

theorem goFree (h : Retimed s t) : Retimed s (t.goFree false) := (h.setF (by decide) 0).tmb _ rfl rfl

theorem switchClock (h : Retimed s t) (lrc : Bool) : Retimed s (t.switchClock lrc) :=
  (h.setF (lo := 12) (n := 1) (by decide) lrc.toNat).tmb _ rfl rfl

end Retimed

/-- The increment of the new Cycle: what goes before it leaves the increment in force, which then moves toward the goal by at
most SLEW (R30). -/
theorem State.loadIncrement_cases (s : State) : ∃ r, Retimed s r ∧
    s.loadIncrement = match s.incGoal with
      | none => r
      | some g => r.setF Reg.TMB_STAT 16 16 (clampInc (s.curInc + clampInt (-s.slew) s.slew (g - s.curInc))) := by
  unfold State.loadIncrement
  extract_lets nom goal _ aimed run freed _ freeing _ due clocked slew cur
  have haimed : Retimed s aimed := (Retimed.refl s).tmb _ rfl rfl
  have hfreeing : Retimed s freeing := (haimed.goFree.tmb { (aimed.goFree false).tmb with validRun := run } rfl rfl).ite haimed
  have hdue : Retimed s due := hfreeing.tmb _ rfl rfl
  have hclocked : Retimed s clocked := (hdue.switchClock false).ite hdue
  have hslew : slew = s.slew := by simp only [slew, State.slew, State.f, hclocked.rd Reg.TMB_TRK (by decide)]
  have hcur : cur = s.curInc := congrArg Nat.cast hclocked.curInc
  refine ⟨clocked, hclocked, ?_⟩
  rw [hslew, hcur]
  rfl

/-- What a boundary leaves as it loads the increment. -/
theorem State.loadIncrement_keeps (s : State) : Steady s s.loadIncrement ∧ s.loadIncrement.tmb.acc = s.tmb.acc ∧
    s.loadIncrement.tmb.cycTicks = s.tmb.cycTicks ∧ ∀ a, a ≠ Reg.TMB_STAT → s.loadIncrement.rd a = s.rd a := by
  obtain ⟨r, hr, h⟩ := s.loadIncrement_cases
  rw [h]
  split
  · exact ⟨hr.toSteady, hr.acc, hr.cycTicks, hr.rd⟩
  · exact ⟨hr.toSteady.wr (by decide) _, hr.acc, hr.cycTicks, fun a ha => (State.rd_wr_ne r _ ha).trans (hr.rd a ha)⟩

theorem State.loadIncrement_hold {s : State} (hgoal : s.incGoal = none) : s.loadIncrement.curInc = s.curInc := by
  obtain ⟨r, hr, h⟩ := s.loadIncrement_cases
  rw [h, hgoal]
  exact hr.curInc

/-- The increment moves toward its goal by at most SLEW and stays within 45 to 66 Hz (R26, R30). -/
theorem State.loadIncrement_move {s : State} {g : Int} (hgoal : s.incGoal = some g) :
    (s.loadIncrement.curInc : Int) = max 23040 (min 33792 (s.curInc + max (-s.slew) (min s.slew (g - s.curInc)))) := by
  obtain ⟨r, hr, h⟩ := s.loadIncrement_cases
  have hslew : 1 ≤ s.slew := le_max_left _ _
  have hinc (i : Int) : (r.setF Reg.TMB_STAT 16 16 (clampInc i)).curInc = clampInc i := by
    have hlt := clampInc_eq i
    rw [State.curInc, State.f, State.rd_setF, if_pos rfl, fld_setFld_self _ _ _ _ (by decide), Nat.mod_eq_of_lt (by omega)]
  rw [h, hgoal, ← clampInt_eq (by omega : -s.slew ≤ s.slew), ← clampInc_eq]
  exact congrArg Nat.cast (hinc _)

/-- The Cycle as `startCycle` takes it up: LEN written, `rest` left in the accumulator, no tick of the new Cycle yet. -/
def State.wrapped (s : State) (rest : Nat) : State :=
  { s.setF Reg.TMB_LAST 0 16 s.tmb.cycTicks with tmb := { s.tmb with acc := rest, cycTicks := 0, cycleSwitched := false } }

section
variable (s : State) (rest : Nat)

theorem State.wrapped_rd {a : Nat} (ha : a ≠ Reg.TMB_LAST) : (s.wrapped rest).rd a = s.rd a := State.rd_wr_ne s _ ha

theorem State.wrapped_steady : Steady s (s.wrapped rest) := ((Steady.refl s).wr (by decide) _).tmb _

theorem State.wrapped_incGoal : (s.wrapped rest).incGoal = s.incGoal :=
  incGoal_congr (s.wrapped_rd rest (by decide)) (s.wrapped_rd rest (by decide)) rfl

theorem State.wrapped_slew : (s.wrapped rest).slew = s.slew := by
  simp only [State.slew, State.f, s.wrapped_rd rest (a := Reg.TMB_TRK) (by decide)]

theorem State.wrapped_curInc : (s.wrapped rest).curInc = s.curInc := by
  simp only [State.curInc, State.f, s.wrapped_rd rest (a := Reg.TMB_STAT) (by decide)]

/-- The new Cycle takes its increment, BREATHDIV `div`, its count and Breath 0. -/
def State.cycleFrom (div : Nat) : State :=
  (({ (s.wrapped rest).loadIncrement with tmb := { (s.wrapped rest).loadIncrement.tmb with breathDiv := div } } : State).wr
    Reg.TMB_CYCCNT (s.rd Reg.TMB_CYCCNT + 1)).setF Reg.TMB_STAT 0 5 0

theorem State.startCycle_eq : ∃ div, s.startCycle = s.cycleFrom (s.tmb.acc - 16777216) div := by
  obtain ⟨-, -, -, hrd⟩ := (s.wrapped (s.tmb.acc - 16777216)).loadIncrement_keeps
  have hcnt := (hrd Reg.TMB_CYCCNT (by decide)).trans (s.wrapped_rd _ (by decide))
  refine ⟨breathDivOf ((s.wrapped (s.tmb.acc - 16777216)).loadIncrement.f Reg.TMB_CFG 16 2), ?_⟩
  rw [State.cycleFrom, ← hcnt]
  rfl

theorem State.cycleFrom_steady (div : Nat) : Steady s (s.cycleFrom rest div) := by
  obtain ⟨hload, -⟩ := (s.wrapped rest).loadIncrement_keeps
  exact ((((s.wrapped_steady rest).trans hload).tmb _).wr (by decide) _).wr (by decide) _

theorem State.cycleFrom_curInc (div : Nat) : (s.cycleFrom rest div).curInc = (s.wrapped rest).loadIncrement.curInc := by
  rw [State.cycleFrom, State.curInc, State.f, State.rd_setF, if_pos rfl, fld_setFld_ne _ _ _ _ _ _ (.inr (by decide)),
    State.rd_wr_ne _ _ (by decide)]
  rfl

/-- What the start of a Cycle shows of the Cycle that ended, and of the new one (R25, R27). -/
theorem State.cycleFrom_counts (div : Nat) : (s.cycleFrom rest div).rd Reg.TMB_CYCCNT = s.rd Reg.TMB_CYCCNT + 1 ∧
    (s.cycleFrom rest div).f Reg.TMB_LAST 0 16 = s.tmb.cycTicks % 2 ^ 16 ∧ (s.cycleFrom rest div).tmb.acc = rest ∧
    (s.cycleFrom rest div).tmb.cycTicks = 0 ∧ (s.cycleFrom rest div).f Reg.TMB_STAT 0 5 = 0 := by
  obtain ⟨-, hacc, hticks, hrd⟩ := (s.wrapped rest).loadIncrement_keeps
  refine ⟨?_, ?_, hacc, hticks, ?_⟩
  · rw [State.cycleFrom, State.rd_setF, if_neg (by decide), State.rd_wr_self]
  · have hlast : (s.wrapped rest).rd Reg.TMB_LAST = setFld (s.rd Reg.TMB_LAST) 0 16 s.tmb.cycTicks := State.rd_wr_self ..
    rw [State.cycleFrom, State.f, State.rd_setF, if_neg (by decide), State.rd_wr_ne _ _ (by decide)]
    exact (congrArg (fld · 0 16) ((hrd _ (by decide)).trans hlast)).trans (fld_setFld_self _ _ _ _ (by decide))
  · rw [State.cycleFrom, State.f, State.rd_setF, if_pos rfl, fld_setFld_self _ _ _ _ (by decide), Nat.zero_mod]

theorem State.cycleFrom_hold (div : Nat) (hgoal : s.incGoal = none) : (s.cycleFrom rest div).curInc = s.curInc := by
  rw [s.cycleFrom_curInc, loadIncrement_hold ((s.wrapped_incGoal rest).trans hgoal), s.wrapped_curInc]

theorem State.cycleFrom_move (div : Nat) {g : Int} (hgoal : s.incGoal = some g) : ((s.cycleFrom rest div).curInc : Int) =
    max 23040 (min 33792 (s.curInc + max (-s.slew) (min s.slew (g - s.curInc)))) := by
  rw [s.cycleFrom_curInc, loadIncrement_move ((s.wrapped_incGoal rest).trans hgoal), s.wrapped_curInc, s.wrapped_slew]

end

/-- The sentinel island runs in SHELF alone (R406). -/
theorem State.sentinelCycle_awake {s : State} (hs : s.awake) (b : BoundaryInput) : s.sentinelCycle b = s := by
  obtain ⟨-, hlevel, -, -⟩ := hs
  simp [State.sentinelCycle, State.sentinelRuns, hlevel]

/-- A frame has at most 48 results. -/
theorem State.frameLatch_evs (s : State) (b : BoundaryInput) : (s.frameLatch b).evs.length ≤ 48 := by
  unfold State.frameLatch
  split
  · exact Nat.zero_le _
  · simp

/-- A Cycle boundary: the readback and the escalation count, the close of the Breath that ends, the frame of the Cycle that ended,
the start of the new Cycle, what follows it beside the timebase, and the opening of Breath 0. -/
theorem State.cycleBoundaryAt_phases {s : State} (hs : s.awake) (b : BoundaryInput) :
    ∃ compared latched begun posted, Beside s compared ∧ Beside compared.wdClose latched ∧ Beside latched.startCycle begun ∧
      Beside ((begun.setBit Reg.TMB_IRQ 0).setBit Reg.TMB_IRQ 1) posted ∧ Beside posted.wdOpen (s.cycleBoundaryAt b) := by
  let compared := s.escCount.readbackAll b.sfb
  let closed := compared.wdClose
  let x := (closed.sentinelCycle b).frameLatch b
  let begun := (x.s.startCycle.msrCycleStart.slotCycle).slowLimits x.evs
  let posted := begun.cycleRest (s.rd Reg.TMB_CYCCNT).toNat
  have hcompared : Beside s compared := (Beside.refl s).escCount.readbackAll b.sfb
  have hclosed : closed.awake := (hcompared.toSteady.trans compared.wdClose_steady).awake hs
  have hlatched : Beside closed x.s := by
    simp only [x, sentinelCycle_awake hclosed]
    exact (Beside.refl closed).frameLatch b
  have hstarted : x.s.startCycle.awake := by
    obtain ⟨div, h⟩ := x.s.startCycle_eq
    rw [h]
    exact (x.s.cycleFrom_steady _ _).awake (hlatched.awake hclosed)
  have hbegun : Beside x.s.startCycle begun :=
    ((Beside.refl _).msr _).slotCycle.slowLimits hstarted (State.frameLatch_evs _ b)
  have hposted : Beside ((begun.setBit Reg.TMB_IRQ 0).setBit Reg.TMB_IRQ 1) posted :=
    (((Beside.refl _).touchPost _).touchCycle _).frameStart 0 |>.heartbeatStep
  have hflagged : Steady begun ((begun.setBit Reg.TMB_IRQ 0).setBit Reg.TMB_IRQ 1) :=
    ((Steady.refl begun).wr (by decide) _).wr (by decide) _
  have hopen : posted.wdOpen.awake :=
    (((hbegun.toSteady.trans hflagged).trans hposted.toSteady).trans posted.wdOpen_steady).awake hstarted
  exact ⟨compared, x.s, begun, posted, hcompared, hlatched, hbegun, hposted,
    ((Beside.refl _).breathTail hopen _).lkeTableSwitch.scrubBoundary.gateCrcStart⟩

/-- What a boundary of the Cycle shows: the count, LEN, the accumulator, the increment, Breath 0 and the two events. -/
theorem State.cycleBoundaryAt_shows {s : State} (hs : s.awake) (b : BoundaryInput) :
    let t := s.cycleBoundaryAt b
    Steady s t ∧ t.rd Reg.TMB_CYCCNT = s.rd Reg.TMB_CYCCNT + 1 ∧ t.f Reg.TMB_LAST 0 16 = s.tmb.cycTicks % 2 ^ 16 ∧
      t.tmb.acc = s.tmb.acc - 16777216 ∧ t.tmb.cycTicks = 0 ∧ t.f Reg.TMB_STAT 0 5 = 0 ∧ t.bit Reg.TMB_IRQ 0 = true ∧
      t.bit Reg.TMB_IRQ 1 = true ∧ t.tmb.brtDone = false ∧ (s.incGoal = none → t.curInc = s.curInc) ∧
      ∀ g, s.incGoal = some g →
        (t.curInc : Int) = max 23040 (min 33792 (s.curInc + max (-s.slew) (min s.slew (g - s.curInc)))) := by
  obtain ⟨compared, latched, begun, posted, hcompared, hlatched, hbegun, hposted, hend⟩ := cycleBoundaryAt_phases hs b
  obtain ⟨div, hstart⟩ := latched.startCycle_eq
  have htmb : latched.tmb = { s.tmb with escalated := compared.wdClose.tmb.escalated } := by
    rw [hlatched.tmb, compared.wdClose_tmb, hcompared.tmb]
  have hbefore {a : Nat} (ha : timeReg a) (hcfg : a ≠ Reg.BRT_CFG) (hirq : a ≠ Reg.TMB_IRQ) : latched.rd a = s.rd a := by
    rw [hlatched.rd a ha, compared.wdClose_rd ha hcfg hirq, hcompared.rd a ha]
  have hacc : latched.tmb.acc = s.tmb.acc := by rw [htmb]
  have hticks : latched.tmb.cycTicks = s.tmb.cycTicks := by rw [htmb]
  have hstat : latched.rd Reg.TMB_STAT = s.rd Reg.TMB_STAT := hbefore (by decide) (by decide) (by decide)
  have hgoal : latched.incGoal = s.incGoal :=
    incGoal_congr hstat (hbefore (by decide) (by decide) (by decide)) (by rw [htmb])
  have hinc : latched.curInc = s.curInc := by simp only [State.curInc, State.f, hstat]
  have hslew : latched.slew = s.slew := by
    simp only [State.slew, State.f, hbefore (a := Reg.TMB_TRK) (by decide) (by decide) (by decide)]
  rw [hstart, hacc] at hbegun
  generalize s.tmb.acc - 16777216 = rest at hbegun ⊢
  obtain ⟨hcnt, hlast, hrest, hnew, hbreath⟩ := latched.cycleFrom_counts rest div
  have hafter {a : Nat} (ha : timeReg a) (hirq : a ≠ Reg.TMB_IRQ) :
      (s.cycleBoundaryAt b).rd a = (latched.cycleFrom rest div).rd a := by
    have hopen : posted.wdOpen.rd a = posted.rd a := rfl
    rw [hend.rd a ha, hopen, hposted.rd a ha, State.rd_setBit, if_neg hirq, State.rd_setBit, if_neg hirq, hbegun.rd a ha]
  have hf {a : Nat} (ha : timeReg a) (hirq : a ≠ Reg.TMB_IRQ) (lo n : Nat) :
      (s.cycleBoundaryAt b).f a lo n = (latched.cycleFrom rest div).f a lo n := by simp only [State.f, hafter ha hirq]
  have hcur : (s.cycleBoundaryAt b).curInc = (latched.cycleFrom rest div).curInc := hf (by decide) (by decide) 16 16
  have hevents : (s.cycleBoundaryAt b).rd Reg.TMB_IRQ = wputBit (wputBit (begun.rd Reg.TMB_IRQ) 0 true) 1 true := by
    have hopen : posted.wdOpen.rd Reg.TMB_IRQ = posted.rd Reg.TMB_IRQ := rfl
    rw [hend.rd _ (by decide), hopen, hposted.rd _ (by decide), State.rd_setBit, if_pos rfl, State.rd_setBit, if_pos rfl]
  have hflagged : Steady begun ((begun.setBit Reg.TMB_IRQ 0).setBit Reg.TMB_IRQ 1) :=
    ((Steady.refl begun).wr (by decide) _).wr (by decide) _
  have hsteady : Steady s (s.cycleBoundaryAt b) :=
    ((hcompared.toSteady.trans compared.wdClose_steady).trans hlatched.toSteady).trans <|
      ((latched.cycleFrom_steady rest div).trans hbegun.toSteady).trans <|
      (hflagged.trans hposted.toSteady).trans (posted.wdOpen_steady.trans hend.toSteady)
  refine ⟨hsteady, ?_, ?_, ?_, ?_, ?_, ?_, ?_, ?_, ?_, ?_⟩
  · rw [hafter (by decide) (by decide), hcnt, hbefore (by decide) (by decide) (by decide)]
  · rw [hf (by decide) (by decide), hlast, hticks]
  · rw [hend.tmb]
    exact (congrArg Tmb.acc (hposted.tmb.trans hbegun.tmb)).trans hrest
  · rw [hend.tmb]
    exact (congrArg Tmb.cycTicks (hposted.tmb.trans hbegun.tmb)).trans hnew
  · rw [hf (by decide) (by decide), hbreath]
  · rw [State.bit, hevents, wbit_wputBit_ne _ _ _ _ (by decide), wbit_wputBit_self _ _ _ (by decide)]
  · rw [State.bit, hevents, wbit_wputBit_self _ _ _ (by decide)]
  · rw [hend.tmb]; rfl
  · intro h
    rw [hcur, latched.cycleFrom_hold rest div (hgoal.trans h), hinc]
  · intro g h
    rw [hcur, latched.cycleFrom_move rest div (hgoal.trans h), hinc, hslew]

/-- What a boundary of a Breath shows: the Breath that begins, its event, and the watchdog's account of the one that ends. -/
theorem State.breathBoundaryAt_shows {s : State} (hs : s.awake) {b : Nat} (hb : b < 2 ^ 5) (sfb : Nat) :
    let t := s.breathBoundaryAt b sfb
    let watched := s.bit Reg.BRT_CFG 0 = true ∧ s.core.halted = false ∧ s.tmb.brtWhole = true
    Steady s t ∧ t.f Reg.TMB_STAT 0 5 = b ∧ t.bit Reg.TMB_IRQ 0 = true ∧ t.tmb.brtDone = false ∧
      (watched → s.tmb.brtDone = true → t.f Reg.BRT_CFG 8 4 = 0) ∧
      (watched → s.tmb.brtDone = false → t.bit Reg.TMB_IRQ 2 = true ∧
        t.f Reg.BRT_CFG 16 16 = min (2 ^ 16 - 1) (s.f Reg.BRT_CFG 16 16 + 1)) := by
  obtain ⟨compared, counted, hcompared, hcounted, hend⟩ := breathBoundaryAt_phases hs b sfb
  have hbegun : Steady compared.wdClose ((compared.wdClose.setF Reg.TMB_STAT 0 5 b).setBit Reg.TMB_IRQ 0) :=
    ((Steady.refl _).wr (by decide) _).wr (by decide) _
  have hsteady : Steady s (s.breathBoundaryAt b sfb) :=
    ((hcompared.toSteady.trans compared.wdClose_steady).trans hbegun).trans <|
      hcounted.toSteady.trans (counted.wdOpen_steady.trans hend.toSteady)
  have hafter {a : Nat} (ha : timeReg a) : (s.breathBoundaryAt b sfb).rd a =
      ((compared.wdClose.setF Reg.TMB_STAT 0 5 b).setBit Reg.TMB_IRQ 0).rd a := by
    have hopen : counted.wdOpen.rd a = counted.rd a := rfl
    rw [hend.rd a ha, hopen, hcounted.rd a ha]
  have hcfg (lo n : Nat) : (s.breathBoundaryAt b sfb).f Reg.BRT_CFG lo n = compared.wdClose.f Reg.BRT_CFG lo n := by
    rw [State.f, hafter (by decide), State.rd_setBit, if_neg (by decide), State.rd_setF, if_neg (by decide), State.f]
  have hirq : (s.breathBoundaryAt b sfb).rd Reg.TMB_IRQ = wputBit (compared.wdClose.rd Reg.TMB_IRQ) 0 true := by
    rw [hafter (by decide), State.rd_setBit, if_pos rfl, State.rd_setF, if_neg (by decide)]
  have hactive : s.bit Reg.BRT_CFG 0 = true → s.core.halted = false → compared.wdActive = true := by
    intro hen hrun
    rw [wdActive_awake (hcompared.awake hs), hcompared.bit (by decide), hcompared.halted, hen, hrun]
    rfl
  refine ⟨hsteady, ?_, ?_, ?_, ?_, ?_⟩
  · rw [State.f, hafter (by decide), State.rd_setBit, if_neg (by decide), State.rd_setF, if_pos rfl,
      fld_setFld_self _ _ _ _ (by decide), Nat.mod_eq_of_lt hb]
  · rw [State.bit, hirq, wbit_wputBit_self _ _ _ (by decide)]
  · rw [hend.tmb]; rfl
  · rintro ⟨hen, hrun, hwhole⟩ hdone
    rw [hcfg, wdClose_served (hactive hen hrun) (hcompared.tmb ▸ hwhole) (hcompared.tmb ▸ hdone)]
  · rintro ⟨hen, hrun, hwhole⟩ hdone
    obtain ⟨hbit, hcount⟩ := wdClose_missed (hactive hen hrun) (hcompared.tmb ▸ hwhole) (hcompared.tmb ▸ hdone)
    refine ⟨?_, ?_⟩
    · rw [State.bit, hirq, wbit_wputBit_ne _ _ _ _ (by decide)]
      exact hbit
    · rw [hcfg, hcount, hcompared.f (by decide)]

/-- CYCLE_BOUNDARY before the accumulator has wrapped, and once it has (R25). -/
theorem State.cycleBoundary_eq (s : State) (b : BoundaryInput) : s.cycleBoundary b =
    if 2 ^ 24 ≤ (s.advanceTicks b.ticks).tmb.acc then (s.advanceTicks b.ticks).cycleBoundaryAt b else s.advanceTicks b.ticks := rfl

/-- BREATH_BOUNDARY at the start of a Breath (R28). -/
theorem State.breathBoundary_due {s : State} {n b : Nat} (sfb : Nat) (h : (s.advanceTicks n).breathDue = some b) :
    s.breathBoundary n sfb = (s.advanceTicks n).breathBoundaryAt b sfb := by rw [State.breathBoundary, h]

/-- BREATH_BOUNDARY where no Breath is to begin. -/
theorem State.breathBoundary_wait {s : State} {n : Nat} (sfb : Nat) (h : (s.advanceTicks n).breathDue = none) :
    s.breathBoundary n sfb = s.advanceTicks n := by rw [State.breathBoundary, h]

/-- A command that comes before its boundary lets the ticks pass alone. The model's choice (log 4). -/
theorem breathBoundary_leaves_ticks {s : State} (hs : s.awake) {n : Nat} (sfb : Nat) (h : (s.advanceTicks n).breathDue = none) :
    Leaves (.breathBoundary n sfb) s (s.advanceTicks n) := by
  have hticks := (Steady.refl s).advanceTicks hs n
  rw [← State.breathBoundary_wait sfb h] at hticks ⊢
  exact exec_calm (f := fun s => s.breathBoundary n sfb) rfl hs.1 hticks

/-- Settles O26: a boundary is cut into its phases; what each changes of the timebase is read off, and everything between two of
them lies beside the timebase. -/
theorem boundaries : Obligations.Boundaries := by
  unfold Obligations.Boundaries
  intro s b n sfb hs
  refine ⟨?_, ?_⟩
  · extract_lets u nominal goal slew
    have hticks : Steady s u := (Steady.refl s).advanceTicks hs b.ticks
    have hgoal : u.incGoal = goal := by
      simp only [State.incGoal, goal, nominal, clampInc_eq]
    refine ⟨fun hacc => ?_, fun hacc => ?_⟩
    · have hwait : s.cycleBoundary b = u := by rw [State.cycleBoundary_eq, if_neg (Nat.not_le.2 hacc)]
      rw [← hwait] at hticks ⊢
      exact exec_calm (f := fun s => s.cycleBoundary b) rfl hs.1 hticks
    · have hreached : s.cycleBoundary b = u.cycleBoundaryAt b := by rw [State.cycleBoundary_eq, if_pos hacc]
      obtain ⟨hsteady, hcnt, hlen, hrest, hnew, hbreath, hcyc, hbrt, hdone, hhold, hmove⟩ :=
        State.cycleBoundaryAt_shows (hticks.awake hs) b
      have hall : Steady s (s.cycleBoundary b) := hreached ▸ hticks.trans hsteady
      rw [← hreached] at hcnt hlen hrest hnew hbreath hcyc hbrt hdone hhold hmove
      have hinc : (s.cycleBoundary b).settle.curInc = (s.cycleBoundary b).curInc := settle_f _ _ _ _ (by decide)
      refine ⟨_, exec_calm (f := fun s => s.cycleBoundary b) rfl hs.1 hall, ?_⟩
      rw [settle_rd _ _ (by decide), settle_f _ _ _ _ (by decide), settle_f _ _ _ _ (by decide), settle_bit _ _ _ (by decide),
        settle_bit _ _ _ (by decide), settle_tmb, settle_core, settle_store, hinc]
      exact ⟨hcnt, hlen, hrest, hnew, hbreath, hcyc, hbrt, hdone, fun h => hhold (hgoal.trans h),
        fun g h => hmove g (hgoal.trans h), hall.g, hall.store⟩
  · extract_lets u next watched
    have hticks : Steady s u := (Steady.refl s).advanceTicks hs n
    have hdue := u.breathDue_eq
    refine ⟨fun hacc => ?_, fun hdiv => ?_, fun hnext hdiv hacc => ?_⟩
    · exact breathBoundary_leaves_ticks hs sfb (hdue.trans (if_neg fun h => absurd h.2 (Nat.not_le.2 hacc)))
    · exact breathBoundary_leaves_ticks hs sfb (hdue.trans (if_neg fun h => absurd h.1 (Nat.not_lt.2 hdiv)))
    · have hreached : s.breathBoundary n sfb = u.breathBoundaryAt next sfb :=
        State.breathBoundary_due sfb (hdue.trans (if_pos ⟨hnext, hacc⟩))
      obtain ⟨hsteady, hbreath, hirq, hdone, hserved, hmissed⟩ :=
        State.breathBoundaryAt_shows (hticks.awake hs) (show next < 2 ^ 5 by omega) sfb
      have hall : Steady s (s.breathBoundary n sfb) := hreached ▸ hticks.trans hsteady
      rw [← hreached] at hbreath hirq hdone hserved hmissed
      refine ⟨_, exec_calm (f := fun s => s.breathBoundary n sfb) rfl hs.1 hall, ?_⟩
      rw [settle_f _ _ _ _ (by decide), settle_bit _ _ _ (by decide), settle_f _ _ _ _ (by decide), settle_bit _ _ _ (by decide),
        settle_f _ _ _ _ (by decide), settle_tmb, settle_core, settle_store]
      exact ⟨hbreath, hirq, hdone, hserved, hmissed, hall.g, hall.store⟩

/-! ## A write or a read of one register -/

/-- The part answers `t`, which the effect of a command on `s` reaches from a calm state. -/
theorem leaves_of_effect {c : Instr} {s t : State} {f : State → State} (hexec : exec c s = .next (s.cmd f)) (hs : s.calm)
    (hf : f s = t) (ht : Steady s t) : Leaves c s t := by
  subst hf
  exact exec_calm hexec hs ht

/-- A block of registers other than the LKE's is up where its domain is ON (R107). -/
theorem regUp_block {a gate : Nat} {d : Domain} (h : regionOf a = .block d gate) (hlke : a / 0x1000 ≠ 0x30004) (s : State) :
    s.regUp a = s.domOn d := by
  simp [State.regUp, h, State.lkeHeld, hlke]

/-- Core space is up where CORE is ON. -/
theorem regUp_core {a : Nat} (h : regionOf a = .core) (s : State) : s.regUp a = s.domOn .core := by simp [State.regUp, h]

/-- The Saddle domain is ON in every level other than OFF (R14). -/
theorem domOn_saddle (s : State) : s.domOn .saddle = true := by simp [State.domOn, State.dom]

theorem regRow_up {s : State} {a : Nat} (h : s.regUp a = true) (v : Word) (wr : Writer) :
    s.regRow a v wr = s.writeReg a v wr := if_pos h

theorem readRow_up {s : State} {a : Nat} (h : s.regUp a = true) (wr : Writer) : s.readRow a wr = (s.readReg a wr).1 := if_pos h

/-- A command that writes the register at `a` leaves what the write at its block leaves. -/
theorem leaves_of_write {c : Instr} {s t : State} {a : Nat} {v : Word} {wr : Writer}
    (hexec : exec c s = .next (s.cmd fun s => s.regRow a v wr)) (hs : s.calm) (hup : s.regUp a = true)
    (hwrite : s.writeReg a v wr = t) (ht : Steady s t) : Leaves c s t :=
  leaves_of_effect hexec hs ((regRow_up hup v wr).trans hwrite) ht

/-- So does one that reads it. -/
theorem leaves_of_read {c : Instr} {s t : State} {a : Nat} {wr : Writer}
    (hexec : exec c s = .next (s.cmd fun s => s.readRow a wr)) (hs : s.calm) (hup : s.regUp a = true)
    (hread : (s.readReg a wr).1 = t) (ht : Steady s t) : Leaves c s t :=
  leaves_of_effect hexec hs ((readRow_up hup wr).trans hread) ht

/-! ## Operating points (R47) -/

/-- The settings of CLK_OP that R47 allows. -/
abbrev clkOpLegal (v : Word) : Prop :=
  4 ≤ v.toNat % 2 ^ 7 ∧ v.toNat % 2 ^ 7 ≤ 96 ∧ (v.getLsbD 8 = true ∨ v.toNat % 2 ^ 7 ≤ 32)

theorem writeClkOp_refused {s : State} {v : Word} (h : s.bit Reg.CLK_STAT 0 = true ∨ ¬clkOpLegal v) :
    s.writeClkOp v = s.setBit Reg.CLK_STAT 2 := by
  refine if_pos ?_
  rw [show fld v 0 7 = v.toNat % 2 ^ 7 from rfl, show wbit v 8 = v.getLsbD 8 from rfl]
  rcases h with h | h
  · simp [h]
  · cases hop : v.getLsbD 8 <;> simp [clkOpLegal, hop] at h ⊢ <;> omega

theorem writeClkOp_taken {s : State} {v : Word} (hidle : s.bit Reg.CLK_STAT 0 = false) (h : clkOpLegal v) :
    s.writeClkOp v = { (s.wr Reg.CLK_OP (s.written Reg.CLK_OP v)).setBit Reg.CLK_STAT 0 with
      tmb := { s.tmb with opTarget := s.written Reg.CLK_OP v, busySeen := true } } := by
  have htaken : s.writeClkOp v = { (s.stdWrite Reg.CLK_OP v).setBit Reg.CLK_STAT 0 with
      tmb := { s.tmb with opTarget := ((s.stdWrite Reg.CLK_OP v).setBit Reg.CLK_STAT 0).rd Reg.CLK_OP, busySeen := true } } := by
    refine if_neg ?_
    rw [show fld v 0 7 = v.toNat % 2 ^ 7 from rfl, show wbit v 8 = v.getLsbD 8 from rfl, hidle]
    obtain ⟨hlo, hhi, hop | hop⟩ := h <;> simp [hop] <;> omega
  rw [htaken, State.rd_setBit, if_neg (by decide), State.rd_stdWrite, if_pos rfl]
  rfl

theorem regUp_clkOp (s : State) : s.regUp Reg.CLK_OP = s.domOn .sys := regUp_block (gate := 3) rfl (by decide) s

theorem writeReg_clkOp (s : State) (v : Word) (wr : Writer) : s.writeReg Reg.CLK_OP v wr = s.writeClkOp v := rfl

/-! ## Domain power (R112) -/

theorem regUp_domctl (s : State) : s.regUp Reg.PWR_DOMCTL = s.domOn .sys := regUp_block (gate := 3) rfl (by decide) s

/-- The MEAS bit of PWR_DOMCTL takes what is written. -/
theorem written_domctl_meas (s : State) (v : Word) : wbit (s.written Reg.PWR_DOMCTL v) 1 = v.getLsbD 1 := by
  have hdef : regDef? Reg.PWR_DOMCTL = some ⟨0x20002004, 1, 4, 0x0000000F, 0, 0x0000000F, 0, 0, 0, 0, .sys⟩ := rfl
  simp [State.written, hdef, wbit, word]

theorem writeDomctl_refused {s : State} {v : Word} (hmeas : s.bit Reg.PWR_DOMCTL 1 = true) (hv : v.getLsbD 1 = false)
    (hon : s.outputsOn ≠ 0) : s.writeDomctl v = s.setBit Reg.PWR_EVT 0 := by
  have hold : wbit (s.rd Reg.PWR_DOMCTL) 1 = true := hmeas
  refine if_pos ?_
  rw [hold, written_domctl_meas, hv, decide_eq_true hon]
  rfl

/-- Settles O53: each write is refused at its block, and REJ is all that it leaves. -/
theorem refusedSettings : Obligations.RefusedSettings := by
  unfold Obligations.RefusedSettings
  intro s v wr hs hsys mhz
  refine ⟨fun hbad => ?_, fun hmeas hv hon => ?_⟩
  · have hrefused : s.writeReg Reg.CLK_OP v wr = s.setBit Reg.CLK_STAT 2 :=
      writeClkOp_refused (.inr fun ⟨hlo, hhi, hop⟩ => by
        rcases hbad with ⟨hopl, h⟩ | h | h
        · rcases hop with hop | hop
          · exact absurd (hopl.symm.trans hop) (by decide)
          · omega
        · omega
        · omega)
    have hsteady : Steady s (s.setBit Reg.CLK_STAT 2) := (Steady.refl s).wr (by decide) _
    have hup := (regUp_clkOp s).trans hsys
    exact ⟨leaves_of_write rfl hs.1 hup hrefused hsteady, leaves_of_write rfl hs.1 hup hrefused hsteady⟩
  · have hrefused : s.writeReg Reg.PWR_DOMCTL v wr = s.setBit Reg.PWR_EVT 0 := writeDomctl_refused hmeas hv hon
    have hsteady : Steady s (s.setBit Reg.PWR_EVT 0) := (Steady.refl s).wr (by decide) _
    have hup := (regUp_domctl s).trans hsys
    exact ⟨leaves_of_write rfl hs.1 hup hrefused hsteady, leaves_of_write rfl hs.1 hup hrefused hsteady⟩

/-! ## The watchdog's clear and the RTC (R38, R50 to R52) -/

/-- A register of the Saddle blocks is up, the LKE's aside. -/
theorem regUp_saddle {a : Nat} (h : regionOf a = .block .saddle 2) (hlke : a / 0x1000 ≠ 0x30004) (s : State) : s.regUp a = true :=
  (regUp_block h hlke s).trans (domOn_saddle s)

theorem writeReg_brtDone (s : State) (v : Word) (wr : Writer) :
    s.writeReg Reg.BRT_DONE v wr = if v.getLsbD 0 then s.brtDone else s := rfl

/-- A counting write while no escalation holds. -/
theorem brtDone_calm {s : State} (h : s.tmb.escalated = false) :
    s.brtDone = { s with tmb := { s.tmb with brtDone := true } } := by
  unfold State.brtDone
  simp [h]

/-- RTC_SEC and RTC_SUB at the second `sec`, tick `sub`. -/
def State.rtcAt (s : State) (sec : Word) (sub : Nat) : State := (s.wr Reg.RTC_SEC sec).setF Reg.RTC_SUB 0 15 sub

theorem rtcAt_steady (s : State) (sec : Word) (sub : Nat) : Steady s (s.rtcAt sec sub) :=
  ((Steady.refl s).wr (by decide) _).wr (by decide) _

theorem tickRate_pos (s : State) : 0 < s.tickRate := by
  unfold State.tickRate
  split <;> decide

/-- RTC_SEC `k` seconds on. -/
theorem word_secs (w : Word) (k : Nat) : word (((w.toNat : Int) + k) % 4294967296).toNat = w + BitVec.ofNat 32 k := by
  apply BitVec.eq_of_toNat_eq
  simp only [word, BitVec.toNat_ofNat, BitVec.toNat_add]
  omega

/-- A move within the second (R51). -/
theorem rtcMove_within {s : State} {d : Int} {n : Nat} (hn : (n : Int) = s.f Reg.RTC_SUB 0 15 + d) (hlt : n < s.tickRate) :
    s.rtcMove d = s.rtcAt (s.rd Reg.RTC_SEC) n := by
  unfold State.rtcMove
  extract_lets rate total secs sec alarm hit moved
  have htotal : total = n := hn.symm
  have hsecs : secs = 0 := by
    rw [show secs = total / rate from rfl, htotal]
    exact Int.ediv_eq_zero_of_lt (by omega) (Int.ofNat_lt.2 hlt)
  have hsub : (total % rate).toNat = n := by
    rw [htotal, Int.emod_eq_of_lt (by omega) (Int.ofNat_lt.2 hlt), Int.toNat_natCast]
  have hhit : hit = false := by
    simp only [hit, hsecs]
    simp
    omega
  have hmoved : moved = s.rtcAt (s.rd Reg.RTC_SEC) n := by
    have hsec := word_secs (s.rd Reg.RTC_SEC) 0
    simp only [moved, hsecs, hsub, State.rtcAt, sec]
    rw [show ((0 : Int)) = ((0 : Nat) : Int) from rfl, hsec, BitVec.add_zero]
  rw [hhit, hmoved]
  rfl

/-- A move to the end of the second: the alarm is that of the second that begins (R50, R52). -/
theorem rtcMove_second {s : State} (hs : s.awake) {d : Int} (hd : (s.f Reg.RTC_SUB 0 15 : Nat) + d = s.tickRate) :
    s.rtcMove d =
      if s.rd Reg.RTC_ALARM = s.rd Reg.RTC_SEC + 1 then (s.rtcAt (s.rd Reg.RTC_SEC + 1) 0).setBit Reg.TMB_IRQ 5
      else s.rtcAt (s.rd Reg.RTC_SEC + 1) 0 := by
  have hpos : (0 : Int) < s.tickRate := Int.ofNat_lt.2 (tickRate_pos s)
  unfold State.rtcMove
  extract_lets rate total secs sec alarm hit moved
  have htotal : total = rate := hd
  have hsecs : secs = 1 := by
    rw [show secs = total / rate from rfl, htotal]
    exact Int.ediv_self hpos.ne'
  have hsub : (total % rate).toNat = 0 := by rw [htotal, Int.emod_self]; rfl
  have hhit : hit = true ↔ s.rd Reg.RTC_ALARM = s.rd Reg.RTC_SEC + 1 := by
    have hsec := (s.rd Reg.RTC_SEC).isLt
    have halarm := (s.rd Reg.RTC_ALARM).isLt
    simp only [hit, hsecs, ← BitVec.toNat_inj, BitVec.toNat_add, sec, alarm]
    simp
    omega
  have hmoved : moved = s.rtcAt (s.rd Reg.RTC_SEC + 1) 0 := by
    have hsec := word_secs (s.rd Reg.RTC_SEC) 1
    simp only [moved, hsecs, hsub, State.rtcAt, sec]
    exact congrArg (fun w => (s.wr Reg.RTC_SEC w).setF Reg.RTC_SUB 0 15 0) hsec
  have halarm : Steady s ((s.rtcAt (s.rd Reg.RTC_SEC + 1) 0).setBit Reg.TMB_IRQ 5) :=
    (rtcAt_steady s _ 0).wr (by decide) _
  simp only [hhit, hmoved, State.wakeEvent_awake (halarm.awake hs)]

theorem rtcSecond_eq {s : State} (hs : s.awake) : s.rtcSecond =
    if s.rd Reg.RTC_ALARM = s.rd Reg.RTC_SEC + 1 then (s.rtcAt (s.rd Reg.RTC_SEC + 1) 0).setBit Reg.TMB_IRQ 5
    else s.rtcAt (s.rd Reg.RTC_SEC + 1) 0 :=
  rtcMove_second hs (by omega)

/-- CAL as a signed byte. -/
theorem signed_fld_byte (w : Word) : signed 8 (fld w 0 8) = (w.setWidth 8).toInt := by
  rw [BitVec.toInt_eq_toNat_cond, BitVec.toNat_setWidth, show fld w 0 8 = w.toNat % 2 ^ 8 from rfl, signed]
  split_ifs <;> omega

/-- The move does not depend on the ticks since the last trim. -/
theorem rtcMove_within_rest {s : State} {d : Int} {n : Nat} (hn : (n : Int) = s.f Reg.RTC_SUB 0 15 + d) (hlt : n < s.tickRate)
    (rest : Nat) : ({ s with tmb := { s.tmb with trimTicks := rest } } : State).rtcMove d =
      ({ s with tmb := { s.tmb with trimTicks := rest } } : State).rtcAt (s.rd Reg.RTC_SEC) n :=
  rtcMove_within (s := { s with tmb := { s.tmb with trimTicks := rest } }) hn hlt

/-- A trim that is due moves RTC_SUB by CAL, here within a second (R51). -/
theorem rtcTrim_within {s : State} (hdue : 1048576 ≤ s.tmb.trimTicks) {n : Nat}
    (hn : (n : Int) = s.f Reg.RTC_SUB 0 15 + signed 8 (s.f Reg.RTC_CAL 0 8)) (hlt : n < s.tickRate) :
    s.rtcTrim = ({ s with tmb := { s.tmb with trimTicks := s.tmb.trimTicks - 1048576 } } : State).rtcAt (s.rd Reg.RTC_SEC) n := by
  rw [State.rtcTrim, if_pos hdue]
  exact rtcMove_within_rest hn hlt _

/-! ## The system timer (R189, R190) -/

theorem stmRuns_awake {s : State} (hs : s.awake) (hen : s.bit Reg.STM_CTL 0 = true) (hrun : s.core.halted = false) :
    s.stmRuns = true := by
  obtain ⟨hcalm, hlevel, -, -⟩ := hs
  simp [State.stmRuns, State.deep, hen, hrun, hcalm.1, hlevel]

/-- STM_CNT holds `n`. -/
def State.stmAt (s : State) (n : Nat) : State :=
  (s.wr Reg.STM_CNTLO (BitVec.ofNat 32 n)).wr Reg.STM_CNTHI (BitVec.ofNat 32 (n / 2 ^ 32))

theorem stmAt_rd (s : State) (n : Nat) {a : Nat} (hlo : a ≠ Reg.STM_CNTLO) (hhi : a ≠ Reg.STM_CNTHI) :
    (s.stmAt n).rd a = s.rd a := (State.rd_wr_ne _ _ hhi).trans (State.rd_wr_ne _ _ hlo)

/-- The count is one of 64 bits. -/
theorem stmAt_mod (s : State) (n : Nat) : s.stmAt (n % 2 ^ 64) = s.stmAt n := by
  have hlo : BitVec.ofNat 32 (n % 2 ^ 64) = BitVec.ofNat 32 n := by
    apply BitVec.eq_of_toNat_eq
    simp only [BitVec.toNat_ofNat]
    omega
  have hhi : BitVec.ofNat 32 (n % 2 ^ 64 / 2 ^ 32) = BitVec.ofNat 32 (n / 2 ^ 32) := by
    apply BitVec.eq_of_toNat_eq
    simp only [BitVec.toNat_ofNat]
    omega
  rw [State.stmAt, hlo, hhi, State.stmAt]

theorem stmAt_stmCnt (s : State) {n : Nat} (hn : n < 2 ^ 64) : (s.stmAt n).stmCnt = n := by
  have hlo : (s.stmAt n).rd Reg.STM_CNTLO = BitVec.ofNat 32 n := (State.rd_wr_ne _ _ (by decide)).trans (State.rd_wr_self ..)
  have hhi : (s.stmAt n).rd Reg.STM_CNTHI = BitVec.ofNat 32 (n / 2 ^ 32) := State.rd_wr_self ..
  rw [State.stmCnt, hlo, hhi, BitVec.toNat_ofNat, BitVec.toNat_ofNat]
  omega

/-- The count as `us` microseconds have passed. -/
theorem stmAdvance_runs {s : State} (h : s.stmRuns = true) (us : Nat) :
    s.stmAdvance us = (s.stmAt ((s.stmCnt + us) % 2 ^ 64)).stmCheck := by
  rw [stmAt_mod]
  exact if_pos h

/-- An armed comparator that is reached sets MATCH and disarms. -/
theorem stmCheck_eq (s : State) : s.stmCheck =
    if s.bit Reg.STM_STAT 1 = true ∧ s.stmCmp ≤ s.stmCnt then (s.setBit Reg.STM_STAT 0).clrBit Reg.STM_STAT 1 else s := by
  simp only [State.stmCheck, Bool.and_eq_true, decide_eq_true_eq]

theorem State.stmCheck_steady (s : State) : Steady s s.stmCheck :=
  (((Steady.refl s).wr (a := Reg.STM_STAT) (by decide) _).wr (a := Reg.STM_STAT) (by decide) _).ite (.refl s)

/-- The comparator is armed at the value that a write of STM_CMPHI completes. -/
theorem writeCmpHi_eq (s : State) (v : Word) : s.writeCmpHi v =
    if v.toNat * 2 ^ 32 + (s.rd Reg.STM_CMPLO).toNat ≤ s.stmCnt then
      (((s.wr Reg.STM_CMPHI v).setBit Reg.STM_STAT 1).setBit Reg.STM_STAT 0).clrBit Reg.STM_STAT 1
    else (s.wr Reg.STM_CMPHI v).setBit Reg.STM_STAT 1 := by
  let armed := (s.wr Reg.STM_CMPHI v).setBit Reg.STM_STAT 1
  have hrd {a : Nat} (hstat : a ≠ Reg.STM_STAT) (hcmp : a ≠ Reg.STM_CMPHI) : armed.rd a = s.rd a :=
    (State.rd_wr_ne _ _ hstat).trans (State.rd_wr_ne _ _ hcmp)
  have harm : armed.bit Reg.STM_STAT 1 = true := by
    rw [State.bit, State.rd_setBit, if_pos rfl, wbit_wputBit_self _ _ _ (by decide)]
  have hcmp : armed.stmCmp = v.toNat * 2 ^ 32 + (s.rd Reg.STM_CMPLO).toNat := by
    have hhi : armed.rd Reg.STM_CMPHI = v := (State.rd_wr_ne _ _ (by decide)).trans (State.rd_wr_self ..)
    rw [State.stmCmp, hhi, hrd (by decide) (by decide)]
    rfl
  have hcnt : armed.stmCnt = s.stmCnt := by
    rw [State.stmCnt, hrd (by decide) (by decide), hrd (by decide) (by decide), State.stmCnt]
  rw [show s.writeCmpHi v = armed.stmCheck from rfl, stmCheck_eq, harm, hcmp, hcnt]
  simp only [true_and]
  rfl

/-- Settles O19: each command is one write, one read or one count, said by its lemma above. The match at once is the model's
choice (log 57), and so is a trim that comes before it is due (log 4). -/
theorem rtcAndTimer : Obligations.RtcAndTimer := by
  unfold Obligations.RtcAndTimer
  intro s v wr us hs cnt cmpLo cmp matched
  have hsaddle {a : Nat} (h : regionOf a = .block .saddle 2) (hlke : a / 0x1000 ≠ 0x30004) : s.regUp a = true :=
    regUp_saddle h hlke s
  refine ⟨fun hv => ?_, fun hv hesc => ?_, ?_, ?_, ?_, fun htrim => ?_, fun htrim m hm hlt => ?_, fun hen hrun => ?_,
    fun hcore => ⟨?_, ?_, ?_, ?_⟩⟩
  · exact leaves_of_write rfl hs.1 (hsaddle rfl (by decide))
      ((writeReg_brtDone s v wr).trans (if_neg (by rw [hv]; decide))) (.refl s)
  · exact leaves_of_write rfl hs.1 (hsaddle rfl (by decide))
      (((writeReg_brtDone s v wr).trans (if_pos hv)).trans (brtDone_calm hesc)) ((Steady.refl s).tmb _)
  · exact leaves_of_read (a := Reg.RTC_SUB) rfl hs.1 (hsaddle rfl (by decide)) rfl ((Steady.refl s).wr (by decide) _)
  · exact leaves_of_write (a := Reg.RTC_SEC) rfl hs.1 (hsaddle rfl (by decide)) rfl (rtcAt_steady s v 0)
  · have hat := rtcAt_steady s (s.rd Reg.RTC_SEC + 1) 0
    exact leaves_of_effect rfl hs.1 (rtcSecond_eq hs) ((hat.wr (by decide) _).ite hat)
  · exact leaves_of_effect rfl hs.1 (if_neg (Nat.not_le.2 htrim)) (.refl s)
  · have hpow : 2 ^ 20 = 1048576 := by norm_num
    rw [hpow] at htrim ⊢
    rw [← signed_fld_byte] at hm
    exact leaves_of_effect rfl hs.1 (rtcTrim_within htrim hm hlt) (((Steady.refl s).tmb _).trans (rtcAt_steady _ _ m))
  · intro n u
    have hat : Steady s u := ((Steady.refl s).wr (by decide) _).wr (by decide) _
    have hcheck : u.stmCheck = if s.bit Reg.STM_STAT 1 = true ∧ cmp ≤ n then matched u else u := by
      have hstat : u.bit Reg.STM_STAT 1 = s.bit Reg.STM_STAT 1 := by
        exact congrArg (wbit · 1) (stmAt_rd s n (by decide) (by decide))
      have hcmp : u.stmCmp = cmp := by
        rw [State.stmCmp, show u = s.stmAt n from rfl, stmAt_rd s n (by decide) (by decide), stmAt_rd s n (by decide) (by decide)]
        rfl
      have hcnt : u.stmCnt = n := stmAt_stmCnt s (Nat.mod_lt _ (by decide))
      rw [stmCheck_eq, hstat, hcmp, hcnt]
    rw [← hcheck]
    exact leaves_of_effect rfl hs.1 (stmAdvance_runs (stmRuns_awake hs hen hrun) us) (hat.trans u.stmCheck_steady)
  · exact leaves_of_read (a := Reg.STM_CNTLO) rfl hs.1 ((regUp_core rfl s).trans hcore) rfl ((Steady.refl s).wr (by decide) _)
  · have harmed : Steady s ((s.wr Reg.STM_CMPHI v).setBit Reg.STM_STAT 1) :=
      ((Steady.refl s).wr (by decide) _).wr (by decide) _
    exact leaves_of_write (a := Reg.STM_CMPHI) rfl hs.1 ((regUp_core rfl s).trans hcore) (writeCmpHi_eq s v)
      (((harmed.wr (by decide) _).wr (by decide) _).ite harmed)
  · exact leaves_of_write (a := Reg.EIC_SWSET) rfl hs.1 ((regUp_core rfl s).trans hcore) rfl { Steady.refl s with }
  · exact leaves_of_write (a := Reg.EIC_SWCLR) rfl hs.1 ((regUp_core rfl s).trans hcore) rfl { Steady.refl s with }

/-! ## The tracker at a crossing (R29 to R32) -/

/-- A command that lets the ticks pass and then does `f` answers what `f` makes of the state at that tick. -/
theorem leaves_after_ticks {c : Instr} {s : State} {n : Nat} {f : State → State}
    (hexec : exec c s = .next (s.cmd fun s => f (s.advanceTicks n))) (hs : s.awake)
    (hf : Steady (s.advanceTicks n) (f (s.advanceTicks n))) : Leaves c s (f (s.advanceTicks n)) :=
  leaves_of_effect hexec hs.1 rfl (((Steady.refl s).advanceTicks hs n).trans hf)

theorem settle_mstate (s : State) : s.settle.mstate = s.mstate := settle_f _ _ _ _ (by decide)

theorem settle_onLrc (s : State) : s.settle.onLrc = s.onLrc := settle_bit _ _ _ (by decide)

/-- MSTATE takes one of its three values. -/
theorem mstate_setF (s : State) {m : Nat} (hm : m < 2 ^ 2) : (s.setF Reg.TMB_STAT 8 2 m).mstate = m := by
  rw [State.mstate, State.f, State.rd_setF, if_pos rfl, fld_setFld_self _ _ _ _ (by decide), Nat.mod_eq_of_lt hm]

/-- Outside SHELF the tracker moves by MSTATE (R34). -/
theorem trackState_awake {s : State} (h : s.tmb.fromShelf = false) : s.trackState = s.mstate := by
  rw [State.trackState, h]
  rfl

theorem trackState_shelf {s : State} (h : s.tmb.fromShelf = true) : s.trackState = 0 := if_pos h

theorem trackState_free {s : State} (h : s.mstate = 0) : s.trackState = 0 := by
  rw [State.trackState, h]
  exact ite_self 0

/-- What a valid interval does (Table 02.2): MSTATE stays, or the interval is the one that leads to LOCKED, or to ACQUIRE, from
FREE or for being outside the window. Its runs are counted, that of misses starts anew. -/
theorem validInterval_cases (s : State) (ph : Int) : ∃ x : Tmb, x.sinceCross = s.tmb.sinceCross ∧ x.missRun = 0 ∧
    (s.validInterval ph = { s with tmb := x } ∧
        (s.trackState = 0 → ¬(4 ≤ s.tmb.validRun + 1 ∧ s.bit Reg.TMB_CFG 20 = true)) ∨
      s.validInterval ph = { (s.setF Reg.TMB_STAT 8 2 2).setBit Reg.TMB_IRQ 4 with tmb := x } ∧ s.trackState = 1 ∨
      s.validInterval ph = { s.setF Reg.TMB_STAT 8 2 1 with tmb := x } ∧
        (s.trackState = 2 → s.f Reg.TMB_TRK 8 8 < ph.natAbs)) := by
  unfold State.validInterval
  extract_lets +onlyGivenNames win _ begun
  have hmatch : begun.trackState = s.trackState := rfl
  split
  case h_1 h =>
    have hfree : s.trackState = 0 := hmatch.symm.trans h
    by_cases hdue : 4 ≤ s.tmb.validRun + 1 ∧ s.bit Reg.TMB_CFG 20 = true
    · exact ⟨{ s.tmb with validRun := 0, missRun := 0, lockRun := 0, unlockRun := 0 }, rfl, rfl,
        .inr (.inr ⟨if_pos hdue, by omega⟩)⟩
    · exact ⟨{ s.tmb with missRun := 0, validRun := s.tmb.validRun + 1 }, rfl, rfl, .inl ⟨if_neg hdue, fun _ => hdue⟩⟩
  case h_2 h =>
    have hacquire : s.trackState = 1 := hmatch.symm.trans h
    by_cases hdue : 8 ≤ if ph.natAbs ≤ s.f Reg.TMB_TRK 8 8 then s.tmb.lockRun + 1 else 0
    · exact ⟨{ s.tmb with missRun := 0, lockRun := 0, unlockRun := 0 }, rfl, rfl, .inr (.inl ⟨if_pos hdue, hacquire⟩)⟩
    · exact ⟨{ s.tmb with missRun := 0, lockRun := if ph.natAbs ≤ s.f Reg.TMB_TRK 8 8 then s.tmb.lockRun + 1 else 0 },
        rfl, rfl, .inl ⟨if_neg hdue, by omega⟩⟩
  case h_3 h _ =>
    have hlocked : s.trackState ≠ 0 := h
    by_cases hdue : 4 ≤ if s.f Reg.TMB_TRK 8 8 < ph.natAbs then s.tmb.unlockRun + 1 else 0
    · refine ⟨{ s.tmb with missRun := 0, lockRun := 0, unlockRun := 0 }, rfl, rfl, .inr (.inr ⟨if_pos hdue, fun _ => ?_⟩)⟩
      by_contra hin
      rw [if_neg hin] at hdue
      omega
    · exact ⟨{ s.tmb with missRun := 0, unlockRun := if s.f Reg.TMB_TRK 8 8 < ph.natAbs then s.tmb.unlockRun + 1 else 0 },
        rfl, rfl, .inl ⟨if_neg hdue, fun h0 => absurd h0 hlocked⟩⟩

/-- Of the registers a valid interval moves TMB_STAT and TMB_IRQ. -/
theorem validInterval_keeps (s : State) (ph : Int) : Steady s (s.validInterval ph) ∧ (s.validInterval ph).core = s.core ∧
    (s.validInterval ph).tmb.sinceCross = s.tmb.sinceCross ∧ (s.validInterval ph).tmb.missRun = 0 ∧
    (s.validInterval ph).rd Reg.TMB_LAST = s.rd Reg.TMB_LAST := by
  have hmoved (m : Nat) : Steady s (s.setF Reg.TMB_STAT 8 2 m) := (Steady.refl s).wr (by decide) _
  have hlast (m : Nat) : (s.setF Reg.TMB_STAT 8 2 m).rd Reg.TMB_LAST = s.rd Reg.TMB_LAST := State.rd_wr_ne s _ (by decide)
  obtain ⟨x, hsince, hmiss, ⟨h, -⟩ | ⟨h, -⟩ | ⟨h, -⟩⟩ := validInterval_cases s ph <;> rw [h]
  · exact ⟨(Steady.refl s).tmb x, rfl, hsince, hmiss, rfl⟩
  · exact ⟨((hmoved 2).wr (by decide) _).tmb x, rfl, hsince, hmiss, (State.rd_wr_ne _ _ (by decide)).trans (hlast 2)⟩
  · exact ⟨(hmoved 1).tmb x, rfl, hsince, hmiss, hlast 1⟩

/-- The fourth valid interval in FREE leads to ACQUIRE once MSEN is set. -/
theorem validInterval_acquires {s : State} (hfree : s.trackState = 0) (hrun : s.tmb.validRun = 3)
    (hmsen : s.bit Reg.TMB_CFG 20 = true) (ph : Int) : (s.validInterval ph).mstate = 1 := by
  obtain ⟨x, -, -, ⟨-, hstay⟩ | ⟨-, hacquire⟩ | ⟨h, -⟩⟩ := validInterval_cases s ph
  · exact absurd ⟨by omega, hmsen⟩ (hstay hfree)
  · omega
  · rw [h]
    exact mstate_setF s (by decide)

/-- LOCKED is left for ACQUIRE at most, and not by an interval within the window. -/
theorem validInterval_locked {s : State} (htrack : s.trackState = 2) (hmstate : s.mstate = 2) (ph : Int) :
    (s.validInterval ph).mstate ≠ 0 ∧ (ph.natAbs ≤ s.f Reg.TMB_TRK 8 8 → (s.validInterval ph).mstate = 2) := by
  obtain ⟨x, -, -, ⟨h, -⟩ | ⟨-, hacquire⟩ | ⟨h, hout⟩⟩ := validInterval_cases s ph
  · have hkept : (s.validInterval ph).mstate = 2 := h ▸ hmstate
    exact ⟨by omega, fun _ => hkept⟩
  · omega
  · have hmoved : (s.validInterval ph).mstate = 1 := h ▸ mstate_setF s (by decide)
    exact ⟨by omega, fun hin => absurd (hout htrack) (Nat.not_lt.2 hin)⟩

/-- The distance of the accumulator from the nearer end of the Cycle (R30). -/
def State.offset (s : State) : Int :=
  if s.tmb.acc % 16777216 < 8388608 then ((s.tmb.acc % 16777216 : Nat) : Int) else ((s.tmb.acc % 16777216 : Nat) : Int) - 16777216

/-- PHERR of the interval that ends (R32). -/
def State.phaseError (s : State) : Int := Int.tdiv (s.offset * s.tmb.sinceCross) 16777216

/-- The interval that ends at a crossing is taken up: a new one begins, and PHERR is shown. -/
def State.interval (s : State) (ph : Int) : State :=
  ({ s with tmb := { s.tmb with sinceCross := 0, crossSeen := true, intervalSwitched := false } } : State).setF
    Reg.TMB_LAST 16 16 (unsign 16 ph)

/-- N_last, the miss timer and the target, as a valid interval of `n` ticks sets them. -/
def State.aim (x : State) (lrc : Bool) (e : Int) (n : Nat) : State :=
  { x with tmb := { x.tmb with
      nLast := n, missLeft := (3 * n + 1) / 2, target := if x.mstate = 0 then none else some (incTarget lrc e n) } }

theorem offset_natAbs_le (s : State) : s.offset.natAbs ≤ 8388608 := by
  have hlt := Nat.mod_lt s.tmb.acc (show 0 < 16777216 by decide)
  unfold State.offset
  split <;> omega

/-- PHERR of a valid interval is far from its limits. -/
theorem phaseError_natAbs_le {s : State} (hhi : s.tmb.sinceCross ≤ 729) : s.phaseError.natAbs ≤ 365 := by
  have hmul : s.offset.natAbs * s.tmb.sinceCross ≤ 8388608 * 729 := Nat.mul_le_mul (offset_natAbs_le s) hhi
  rw [State.phaseError, Int.natAbs_tdiv, Int.natAbs_mul, Int.natAbs_natCast]
  exact (Nat.div_le_div_right hmul).trans (by decide)

/-- A number of 16 bits comes back from the field that holds it. -/
theorem toInt_unsign {i : Int} (h : i.natAbs ≤ 365) : (BitVec.ofNat 16 (unsign 16 i % 2 ^ 16)).toInt = i := by
  rw [BitVec.toInt_eq_toNat_cond, BitVec.toNat_ofNat, unsign]
  split <;> omega

/-- Before the gate of half a Cycle a crossing is ignored (R29). -/
theorem crossing_early {s : State} (hlrc : s.onLrc = false) (hseen : s.tmb.crossSeen = true)
    (hgate : s.tmb.sinceCross < 8388608 / s.curInc) : s.crossing = s := by
  refine if_pos (.inr (.inr ⟨hseen, ?_⟩))
  rw [hlrc]
  exact hgate

/-- A crossing that ends a valid interval on LXO. -/
theorem crossing_valid {s : State} (hs : s.awake) (hlrc : s.onLrc = false) (hseen : s.tmb.crossSeen = true)
    (hmeasured : s.tmb.intervalSwitched = false) (hgate : 8388608 / s.curInc ≤ s.tmb.sinceCross)
    (hlo : 496 ≤ s.tmb.sinceCross) (hhi : s.tmb.sinceCross ≤ 729) :
    s.crossing = ((s.interval s.phaseError).validInterval s.phaseError).aim false s.offset s.tmb.sinceCross := by
  obtain ⟨hcalm, hlevel, -, -⟩ := hs
  have hph : clampInt (-32768) 32767 s.phaseError = s.phaseError := by
    have := phaseError_natAbs_le hhi
    rw [clampInt_eq (by decide)]
    omega
  have hon : s.hrv.pstate ≠ .off := fun h => by simpa [State.powered, h] using hcalm.1
  have hopen : ¬(s.hrv.pstate = .off ∨ s.pwr.level = .shelf ∨
      (s.tmb.crossSeen = true ∧ s.tmb.sinceCross < (if s.onLrc then 8192000 else 8388608) / s.curInc)) := by
    rintro (h | h | ⟨-, h⟩)
    · exact hon h
    · rw [hlevel] at h
      cases h
    · rw [hlrc] at h
      exact absurd h (Nat.not_lt.2 hgate)
  have hboth : (s.tmb.crossSeen && !s.tmb.intervalSwitched) = true := by rw [hseen, hmeasured]; rfl
  have hvalid : (if s.onLrc then 484 else 496) ≤ s.tmb.sinceCross ∧ s.tmb.sinceCross ≤ (if s.onLrc then 712 else 729) := by
    rw [hlrc]; exact ⟨hlo, hhi⟩
  have htaken : s.crossing = ((s.interval (clampInt (-32768) 32767 s.phaseError)).validInterval
      (clampInt (-32768) 32767 s.phaseError)).aim s.onLrc s.offset s.tmb.sinceCross :=
    (if_neg hopen).trans ((if_pos hboth).trans (if_pos hvalid))
  rw [htaken, hph, hlrc]

/-- What the crossing that ends a valid interval shows (R30 to R32). -/
theorem crossing_shows {s : State} (hs : s.awake) (hlrc : s.onLrc = false) (hseen : s.tmb.crossSeen = true)
    (hmeasured : s.tmb.intervalSwitched = false) (hgate : 8388608 / s.curInc ≤ s.tmb.sinceCross)
    (hlo : 496 ≤ s.tmb.sinceCross) (hhi : s.tmb.sinceCross ≤ 729) (hshelf : s.tmb.fromShelf = false) :
    let t := s.crossing
    Steady s t ∧ t.tmb.nLast = s.tmb.sinceCross ∧ t.tmb.missLeft = (3 * s.tmb.sinceCross + 1) / 2 ∧ t.tmb.sinceCross = 0 ∧
      t.tmb.missRun = 0 ∧ (BitVec.ofNat 16 (t.f Reg.TMB_LAST 16 16)).toInt = s.phaseError ∧
      (s.mstate = 2 → t.tmb.target = some (incTarget false s.offset s.tmb.sinceCross)) ∧
      (s.mstate = 2 → s.phaseError.natAbs ≤ s.f Reg.TMB_TRK 8 8 → t.mstate = 2) ∧
      (s.mstate = 0 → s.tmb.validRun = 3 → s.bit Reg.TMB_CFG 20 = true → t.mstate = 1) ∧ t.core = s.core := by
  intro t
  let begun := s.interval s.phaseError
  let x := begun.validInterval s.phaseError
  have ht : t = x.aim false s.offset s.tmb.sinceCross := crossing_valid hs hlrc hseen hmeasured hgate hlo hhi
  have hrd {a : Nat} (ha : a ≠ Reg.TMB_LAST) : begun.rd a = s.rd a := State.rd_wr_ne _ _ ha
  have hmstate : begun.mstate = s.mstate := congrArg (fld · 8 2) (hrd (by decide))
  have htrack : begun.trackState = s.mstate := (trackState_awake (s := begun) hshelf).trans hmstate
  have hbegun : Steady s begun := ((Steady.refl s).tmb _).wr (by decide) _
  obtain ⟨hsteady, hcore, hsince, hmiss, hlast⟩ := validInterval_keeps begun s.phaseError
  rw [ht]
  refine ⟨(hbegun.trans hsteady).tmb _, rfl, rfl, hsince, hmiss, ?_, fun h => ?_, fun h hin => ?_, fun h hrun hmsen => ?_, hcore⟩
  · have hshown : (x.aim false s.offset s.tmb.sinceCross).f Reg.TMB_LAST 16 16 = unsign 16 s.phaseError % 2 ^ 16 := by
      have hbefore : begun.rd Reg.TMB_LAST = setFld (s.rd Reg.TMB_LAST) 16 16 (unsign 16 s.phaseError) := State.rd_wr_self ..
      rw [← fld_setFld_self (s.rd Reg.TMB_LAST) 16 16 _ (by decide), ← hbefore, ← hlast]
      rfl
    rw [hshown, toInt_unsign (phaseError_natAbs_le hhi)]
  · exact if_neg (validInterval_locked (htrack.trans h) (hmstate.trans h) s.phaseError).1
  · refine (validInterval_locked (htrack.trans h) (hmstate.trans h) s.phaseError).2 ?_
    rw [State.f, hrd (by decide)]
    exact hin
  · exact validInterval_acquires (htrack.trans h) hrun ((congrArg (wbit · 20) (hrd (by decide))).trans hmsen) s.phaseError

/-! ## Misses (R33) -/

theorem missTimer_free {s : State} (h : s.trackState = 0) : s.missTimer = s := if_neg (by omega)

theorem missTimer_expired {s : State} (hleft : s.tmb.missLeft = 0) (htrack : s.trackState = 1 ∨ s.trackState = 2) :
    s.missTimer = if s.f Reg.TMB_CFG 24 3 + 1 ≤ s.tmb.missRun + 1 then
      ({ s with tmb := { s.tmb with missLeft := s.tmb.nLast, missRun := s.tmb.missRun + 1 } } : State).goFree true
    else { s with tmb := { s.tmb with missLeft := s.tmb.nLast, missRun := s.tmb.missRun + 1 } } := if_pos ⟨hleft, htrack⟩

/-- LOCKED is lost with its target, and MLOST tells it. -/
theorem goFree_locked {s : State} (h : s.mstate = 2) : Steady s (s.goFree true) ∧ (s.goFree true).mstate = 0 ∧
    (s.goFree true).bit Reg.TMB_IRQ 3 = true ∧ (s.goFree true).tmb.target = none := by
  let freed : State := { s.setF Reg.TMB_STAT 8 2 0 with
    tmb := { s.tmb with target := none, validRun := 0, missRun := 0, lockRun := 0, unlockRun := 0 } }
  have hlost : s.goFree true = freed.setBit Reg.TMB_IRQ 3 := if_pos (by rw [h]; rfl)
  rw [hlost]
  refine ⟨(((Steady.refl s).wr (by decide) _).tmb _).wr (by decide) _, ?_, ?_, rfl⟩
  · rw [State.mstate, State.f, State.rd_setBit, if_neg (by decide)]
    exact mstate_setF s (by decide)
  · rw [State.bit, State.rd_setBit, if_pos rfl, wbit_wputBit_self _ _ _ (by decide)]

/-! ## The tick clock (R43, R45) -/

/-- LXO gives no edge any more, and LXOFAIL tells it. -/
def State.lxoFailed (s : State) : State :=
  (({ s with tmb := { s.tmb with lxoRuns := false, lxoWhole := false, lxoGood := 0 } } : State).setBit Reg.TMB_STAT 13).setBit
    Reg.TMB_IRQ 6

theorem lxoFailed_steady (s : State) : Steady s s.lxoFailed := (((Steady.refl s).tmb _).wr (by decide) _).wr (by decide) _

theorem lxoFailed_stat (s : State) : s.lxoFailed.rd Reg.TMB_STAT = wputBit (s.rd Reg.TMB_STAT) 13 true :=
  (State.rd_wr_ne _ _ (by decide)).trans (State.rd_wr_self ..)

theorem lxoFailed_irq (s : State) : s.lxoFailed.bit Reg.TMB_IRQ 6 = true := by
  rw [State.lxoFailed, State.bit, State.rd_setBit, if_pos rfl, wbit_wputBit_self _ _ _ (by decide)]

theorem lxoFailed_bit (s : State) {i : Nat} (hi : i ≠ 13) : s.lxoFailed.bit Reg.TMB_STAT i = s.bit Reg.TMB_STAT i := by
  rw [State.bit, lxoFailed_stat, wbit_wputBit_ne _ _ _ _ hi, State.bit]

theorem lxoFailed_shown (s : State) : s.lxoFailed.bit Reg.TMB_STAT 13 = true := by
  rw [State.bit, lxoFailed_stat, wbit_wputBit_self _ _ _ (by decide)]

theorem lxoFailed_mstate (s : State) : s.lxoFailed.mstate = s.mstate := by
  rw [State.mstate, State.f, lxoFailed_stat, fld_wputBit_ne _ _ _ _ _ (.inl (by decide)), State.mstate, State.f]

/-- A stop that LXOFAIL does not show yet. -/
theorem lxoStop_new {s : State} (h : s.tmb.lxoRuns = true ∨ s.bit Reg.TMB_STAT 13 = false) : s.lxoStop =
    if s.lxoFailed.onLrc then s.lxoFailed
    else { s.lxoFailed.switchClock true with tmb := { (s.lxoFailed.switchClock true).tmb with cycleSwitched := true } } := by
  refine if_pos ?_
  rcases h with h | h <;> rw [h]
  · rfl
  · exact Bool.or_true _

theorem switchClock_stat (s : State) (lrc : Bool) :
    (s.switchClock lrc).rd Reg.TMB_STAT = wputBit (s.rd Reg.TMB_STAT) 12 lrc := State.rd_wr_self ..

/-- What the move to LRC shows of the stop that caused it. -/
theorem lxoStop_switches {s : State} (hruns : s.tmb.lxoRuns = true) (hlxo : s.onLrc = false) :
    let t := s.lxoStop
    Steady s t ∧ t.onLrc = true ∧ t.bit Reg.TMB_STAT 13 = true ∧ t.bit Reg.TMB_IRQ 6 = true ∧ t.tmb.cycleSwitched = true ∧
      t.tmb.lxoRuns = false ∧ t.tmb.nLast = s.tmb.nLast * 125 / 128 ∧ t.mstate = s.mstate := by
  let x := s.lxoFailed.switchClock true
  have hclock : s.lxoFailed.onLrc = false := (lxoFailed_bit s (by decide)).trans hlxo
  have hstop : s.lxoStop = { x with tmb := { x.tmb with cycleSwitched := true } } :=
    (lxoStop_new (.inl hruns)).trans (if_neg (by rw [hclock]; decide))
  have hstat : x.rd Reg.TMB_STAT = wputBit (s.lxoFailed.rd Reg.TMB_STAT) 12 true := switchClock_stat _ true
  rw [hstop]
  refine ⟨(((lxoFailed_steady s).wr (by decide) _).tmb _).tmb _, ?_, ?_, ?_, rfl, rfl, rfl, ?_⟩
  · exact (congrArg (wbit · 12) hstat).trans (wbit_wputBit_self _ _ _ (by decide))
  · exact ((congrArg (wbit · 13) hstat).trans (wbit_wputBit_ne _ _ _ _ (by decide))).trans (lxoFailed_shown s)
  · exact (congrArg (wbit · 6) (State.rd_wr_ne s.lxoFailed _ (by decide))).trans (lxoFailed_irq s)
  · exact ((congrArg (fld · 8 2) hstat).trans (fld_wputBit_ne _ _ _ _ _ (.inl (by decide)))).trans (lxoFailed_mstate s)

/-- An LXO that has never started is reported on LRC, which stays the tick clock. -/
theorem lxoStop_onLrc {s : State} (hshown : s.bit Reg.TMB_STAT 13 = false) (hlrc : s.onLrc = true) : s.lxoStop = s.lxoFailed :=
  (lxoStop_new (.inr hshown)).trans (if_pos ((lxoFailed_bit s (by decide)).trans hlrc))

/-! ## The clock monitors (R46) -/

/-- `t` differs from `s` beside the timebase, and in the monitors' own runs. -/
structure Monitored (s t : State) : Prop extends Steady s t where
  busySeen : t.tmb.busySeen = s.tmb.busySeen
  rd : ∀ a, timeReg a → t.rd a = s.rd a

theorem Monitored.tmb (s : State) {x : Tmb} (hx : x.busySeen = s.tmb.busySeen) : Monitored s { s with tmb := x } :=
  ⟨(Steady.refl s).tmb x, hx, fun _ _ => rfl⟩

theorem Monitored.beside {s t u : State} (h : Monitored s t) (k : Beside t u) : Monitored s u :=
  ⟨h.toSteady.trans k.toSteady, (congrArg Tmb.busySeen k.tmb).trans h.busySeen, fun a ha => (k.rd a ha).trans (h.rd a ha)⟩

theorem Monitored.ite {s t u : State} (h : Monitored s t) (k : Monitored s u) {c : Prop} [Decidable c] :
    Monitored s (if c then t else u) := by
  split
  · exact h
  · exact k

/-- The LRC check counts its runs and reports the second failure. -/
theorem lrcCheck_monitored (s : State) (w lrc : Nat) : Monitored s (s.lrcCheck w lrc) := by
  have hfailed := Monitored.tmb s (x := { s.tmb with lrcRun := s.tmb.lrcRun + 1 }) rfl
  have hreported := Monitored.tmb s (x := { s.tmb with lrcRun := s.tmb.lrcRun + 1, lrcFail := true }) rfl
  have hpassed := Monitored.tmb s (x := { s.tmb with lrcRun := 0, lrcFail := false }) rfl
  exact ((hreported.beside ((Beside.refl _).safReport _ _)).ite hfailed).ite (hpassed.beside (Beside.refl _).safCond)

/-- HFO is off by more than two in a hundred of what a window of `w` periods at `rate` Hz holds at `mhz` (R46). -/
def hfoOff (w hfo rate mhz : Nat) : Bool :=
  decide (w * mhz * 1000000 < ((hfo * rate : Nat) - ((w * mhz * 1000000 : Nat) : Int)).natAbs * 50)

theorem hfoCheck_shows (s : State) (w hfo rate : Nat) :
    ∃ x : Tmb, Beside { s.putBit Reg.CLK_STAT 3 (hfoOff w hfo rate (s.f Reg.CLK_STAT 8 7)) with tmb := x }
      (s.hfoCheck w hfo rate) := by
  have hoff : hfoOff w hfo rate (s.f Reg.CLK_STAT 8 7) = decide (((hfo * rate : Nat) -
      ((w : Int) * s.f Reg.CLK_STAT 8 7 * 1000000)).natAbs * 50 > ((w : Int) * s.f Reg.CLK_STAT 8 7 * 1000000).toNat) := by
    have hcast : ((w : Int) * s.f Reg.CLK_STAT 8 7 * 1000000) = ((w * s.f Reg.CLK_STAT 8 7 * 1000000 : Nat) : Int) := by
      push_cast; rfl
    rw [hcast, Int.toNat_natCast]
    rfl
  rw [hoff]
  exact ⟨_, ((Beside.refl _).safReport _ _).ite (Beside.refl _).safCond⟩

/-- What a window hands to the next one: whether a change of the operating point is under way. -/
def State.windowEnd (s : State) : State := { s with tmb := { s.tmb with busySeen := s.bit Reg.CLK_STAT 0 } }

theorem State.windowEnd_steady (s : State) : Steady s s.windowEnd := (Steady.refl s).tmb _

theorem State.windowEnd_rd (s : State) (a : Nat) : s.windowEnd.rd a = s.rd a := rfl

/-- A window on LXO, with no change of the operating point under way, reports its counts and the HFO check. -/
theorem monitorWindow_lxo {s : State} (hs : s.awake) (hsys : s.domOn .sys = true) {w : Nat} (hw : 0 < w)
    (hwhole : s.tmb.lxoWhole = true) (hseen : s.tmb.busySeen = false) (hbusy : s.bit Reg.CLK_STAT 0 = false) (hfo lrc : Nat) :
    let t := s.monitorWindow w hfo lrc true
    Steady s t ∧ t.f Reg.CLK_MON 16 16 = w % 2 ^ 16 ∧ t.f Reg.CLK_MON 0 16 = lrc % 2 ^ 16 ∧
      t.bit Reg.CLK_STAT 3 = hfoOff w hfo 32768 (s.f Reg.CLK_STAT 8 7) := by
  let counted := (s.setF Reg.CLK_MON 16 16 w).setF Reg.CLK_MON 0 16 lrc
  let checked := counted.lrcCheck w lrc
  have hcounted : Steady s counted := ((Steady.refl s).wr (by decide) _).wr (by decide) _
  have hmon : counted.rd Reg.CLK_MON = setFld (setFld (s.rd Reg.CLK_MON) 16 16 w) 0 16 lrc := by
    simp only [counted, State.rd_setF, if_pos]
  have hkept : counted.rd Reg.CLK_STAT = s.rd Reg.CLK_STAT :=
    (State.rd_wr_ne _ _ (by decide)).trans (State.rd_wr_ne _ _ (by decide))
  have hchecked : Monitored counted checked := lrcCheck_monitored counted w lrc
  have hstat : checked.rd Reg.CLK_STAT = s.rd Reg.CLK_STAT := (hchecked.rd _ (by decide)).trans hkept
  have hidle : (checked.tmb.busySeen || checked.bit Reg.CLK_STAT 0) = false := by
    rw [State.bit, hstat, show checked.tmb.busySeen = s.tmb.busySeen from hchecked.busySeen, hseen]
    exact hbusy
  have hruns : (s.hfoRuns && decide (0 < w) && decide (true = s.tmb.lxoWhole)) = true := by
    obtain ⟨hcalm, hlevel, -, -⟩ := hs
    simp [State.hfoRuns, State.deep, hcalm.1, hsys, hlevel, hw, hwhole]
  have hmhz : checked.f Reg.CLK_STAT 8 7 = s.f Reg.CLK_STAT 8 7 := congrArg (fld · 8 7) hstat
  obtain ⟨x, hcheck⟩ := hfoCheck_shows checked w hfo 32768
  rw [hmhz] at hcheck
  generalize hfoOff w hfo 32768 (s.f Reg.CLK_STAT 8 7) = bad at hcheck ⊢
  have hwindow : s.monitorWindow w hfo lrc true = (checked.hfoCheck w hfo 32768).windowEnd := by
    have hcase : s.monitorWindow w hfo lrc true =
        (if (checked.tmb.busySeen || checked.bit Reg.CLK_STAT 0) = true then checked
          else checked.hfoCheck w hfo 32768).windowEnd := if_pos hruns
    rw [hcase, hidle, if_neg Bool.false_ne_true]
  have hshown : (s.monitorWindow w hfo lrc true).rd Reg.CLK_MON = setFld (setFld (s.rd Reg.CLK_MON) 16 16 w) 0 16 lrc := by
    rw [hwindow, State.windowEnd_rd, hcheck.rd _ (by decide), ← hmon, ← hchecked.rd _ (by decide)]
    exact State.rd_wr_ne _ _ (by decide)
  have hfailed : (s.monitorWindow w hfo lrc true).rd Reg.CLK_STAT = wputBit (checked.rd Reg.CLK_STAT) 3 bad := by
    rw [hwindow, State.windowEnd_rd, hcheck.rd _ (by decide)]
    exact State.rd_wr_self ..
  have hput : Steady checked { checked.putBit Reg.CLK_STAT 3 bad with tmb := x } := ((Steady.refl _).wr (by decide) _).tmb x
  refine ⟨?_, ?_, ?_, ?_⟩
  · rw [hwindow]
    exact ((hcounted.trans hchecked.toSteady).trans (hput.trans hcheck.toSteady)).trans (State.windowEnd_steady _)
  · rw [State.f, hshown, fld_setFld_ne _ _ _ _ _ _ (by decide), fld_setFld_self _ _ _ _ (by decide)]
  · rw [State.f, hshown, fld_setFld_self _ _ _ _ (by decide)]
  · rw [State.bit, hfailed, wbit_wputBit_self _ _ _ (by decide)]

/-- A window of the other clock does not run. -/
theorem monitorWindow_other {s : State} {onLxo : Bool} (h : s.tmb.lxoWhole ≠ onLxo) (w hfo lrc : Nat) :
    s.monitorWindow w hfo lrc onLxo = s := by
  have hother : decide (onLxo = s.tmb.lxoWhole) = false := decide_eq_false (Ne.symm h)
  rw [State.monitorWindow, hother, Bool.and_false]
  rfl

/-! ## The end of a change of the operating point (R48) -/

theorem atOp_stat (s : State) (op : Word) : (s.atOp op).rd Reg.CLK_STAT =
    wputBit (setFld (wputBit (s.rd Reg.CLK_STAT) 16 (wbit op 8)) 8 7 (fld op 0 7)) 0 false := by
  have hclr : (s.atOp op).rd Reg.CLK_STAT =
      (((s.putBit Reg.CLK_STAT 16 (wbit op 8)).setF Reg.CLK_STAT 8 7 (fld op 0 7)).clrBit Reg.CLK_STAT 0).rd Reg.CLK_STAT := rfl
  rw [hclr, State.rd_clrBit, if_pos rfl, State.rd_setF, if_pos rfl, State.rd_putBit, if_pos rfl]

theorem atOp_steady (s : State) (op : Word) : Steady s (s.atOp op) :=
  ((((Steady.refl s).wr (by decide) _).wr (by decide) _).wr (by decide) _).tmb _

/-- No change is in progress, and CLK_STAT shows the new operating point. -/
theorem atOp_shows (s : State) (op : Word) : (s.atOp op).bit Reg.CLK_STAT 0 = false ∧
    (s.atOp op).f Reg.CLK_STAT 8 7 = op.toNat % 128 ∧ (s.atOp op).bit Reg.CLK_STAT 16 = op.getLsbD 8 := by
  refine ⟨?_, ?_, ?_⟩
  · rw [State.bit, atOp_stat, wbit_wputBit_self _ _ _ (by decide)]
  · rw [State.f, atOp_stat, fld_wputBit_ne _ _ _ _ _ (.inr (by decide)), fld_setFld_self _ _ _ _ (by decide)]
    exact Nat.mod_mod _ _
  · rw [State.bit, atOp_stat, wbit_wputBit_ne _ _ _ _ (by decide), wbit_setFld_ne _ _ _ _ _ (.inr (by decide)),
      wbit_wputBit_self _ _ _ (by decide)]
    rfl

theorem opChangeDone_due {s : State} (hbusy : s.bit Reg.CLK_STAT 0 = true) (hsys : s.domOn .sys = true) :
    s.opChangeDone = s.atOp s.tmb.opTarget := if_pos (by rw [hbusy, hsys]; rfl)

theorem lxoRestart_steady (s : State) : Steady s s.lxoRestart := ((Steady.refl s).tmb _).wr (by decide) _

/-- Settles O25: each command is one of the steps above, after the ticks that it brings. The kinds of a monitor window and what
its checks report are the model's choices (log 57, log 58), as is CLK_STAT over a change (log 58). -/
theorem trackerAndClocks : Obligations.TrackerAndClocks := by
  unfold Obligations.TrackerAndClocks
  intro s n w hfo lrc onLxo v wr hs u N a e ph missLim
  have hu : u.awake := ((Steady.refl s).advanceTicks hs n).awake hs
  have h23 : (2 : Nat) ^ 23 = 8388608 := by norm_num
  have he : e = u.offset := by
    have h24 : (2 : Nat) ^ 24 = 16777216 := by norm_num
    have h24' : (2 : Int) ^ 24 = 16777216 := by norm_num
    simp only [e, a, State.offset, h23, h24, h24']
  have hph : ph = u.phaseError := by
    have h24' : (2 : Int) ^ 24 = 16777216 := by norm_num
    simp only [ph, he, N, State.phaseError, h24']
  have hcross {t : State} (ht : u.crossing = t) (h : Steady u t) : Leaves (.mainsCrossing n) s t := by
    subst ht
    exact leaves_after_ticks (f := State.crossing) rfl hs h
  have hmiss {t : State} (ht : u.missTimer = t) (h : Steady u t) : Leaves (.mainsMiss n) s t := by
    subst ht
    exact leaves_after_ticks (f := State.missTimer) rfl hs h
  have hstop {t : State} (ht : u.lxoStop = t) (h : Steady u t) : Leaves (.lxoStop n) s t := by
    subst ht
    exact leaves_after_ticks (f := State.lxoStop) rfl hs h
  refine ⟨fun hlxo hshelf => ⟨fun hseen hgate => ?_, fun hseen hmeasured hgate hlo hhi => ?_⟩, fun hshelf => ?_,
    fun hshelf hleft hstate hfew => ?_, fun hshelf hleft hlocked hmany => ?_, fun hfree => ?_, fun hruns hlxo => ?_,
    fun hruns hshown hlrc => ?_, ?_, fun hsys => ⟨fun hother => ?_, fun hw hwhole hseen hidle => ?_, fun hidle hlegal => ?_,
    fun hrefused => ?_⟩, fun hbusy hsys => ?_⟩
  · rw [h23] at hgate
    exact hcross (crossing_early hlxo hseen hgate) (.refl u)
  · rw [h23] at hgate
    obtain ⟨hsteady, hlast, hleft, hsince, hmisses, herr, htarget, hstay, hacquire, hcore⟩ :=
      crossing_shows hu hlxo hseen hmeasured hgate hlo hhi hshelf
    refine ⟨_, hcross rfl hsteady, ?_⟩
    rw [settle_tmb, settle_f _ _ _ _ (by decide), settle_mstate, settle_core, hph, he]
    exact ⟨hlast, hleft, hsince, hmisses, herr, htarget, hstay, hacquire, hcore⟩
  · exact hmiss (missTimer_free (trackState_shelf hshelf)) (.refl u)
  · have hexpired := missTimer_expired hleft (by rwa [trackState_awake hshelf])
    exact hmiss (hexpired.trans (if_neg (Nat.not_le.2 hfew))) ((Steady.refl u).tmb _)
  · have hexpired := missTimer_expired hleft (.inr ((trackState_awake hshelf).trans hlocked))
    obtain ⟨hsteady, hfree, hlost, hnone⟩ := goFree_locked
      (s := { u with tmb := { u.tmb with missLeft := u.tmb.nLast, missRun := u.tmb.missRun + 1 } }) hlocked
    refine ⟨_, hmiss (hexpired.trans (if_pos hmany)) (((Steady.refl u).tmb _).trans hsteady), ?_⟩
    rw [settle_mstate, settle_bit _ _ _ (by decide), settle_tmb]
    exact ⟨hfree, hlost, hnone⟩
  · exact hmiss (missTimer_free (trackState_free hfree)) (.refl u)
  · obtain ⟨hsteady, hlrc, hshown, hirq, hswitched, hstopped, hlast, hmstate⟩ := lxoStop_switches hruns hlxo
    refine ⟨_, hstop rfl hsteady, ?_⟩
    rw [settle_onLrc, settle_bit _ _ _ (by decide), settle_bit _ _ _ (by decide), settle_tmb, settle_mstate]
    exact ⟨hlrc, hshown, hirq, hswitched, hstopped, hlast, hmstate⟩
  · refine ⟨_, hstop (lxoStop_onLrc hshown hlrc) (lxoFailed_steady u), ?_⟩
    rw [settle_bit _ _ _ (by decide), settle_bit _ _ _ (by decide), settle_onLrc]
    exact ⟨lxoFailed_shown u, lxoFailed_irq u, (lxoFailed_bit u (by decide)).trans hlrc⟩
  · exact leaves_of_effect rfl hs.1 rfl (lxoRestart_steady s)
  · exact leaves_of_effect rfl hs.1 (monitorWindow_other hother w hfo lrc) (.refl s)
  · intro expected
    obtain ⟨hsteady, hwin, hlrc, hfail⟩ := monitorWindow_lxo hs hsys hw hwhole hseen hidle hfo lrc
    refine ⟨_, leaves_of_effect (f := fun s => s.monitorWindow w hfo lrc true) rfl hs.1 rfl hsteady, ?_⟩
    rw [settle_f _ _ _ _ (by decide), settle_f _ _ _ _ (by decide), settle_bit _ _ _ (by decide), settle_core, settle_store]
    exact ⟨hwin, hlrc, hfail, hsteady.g, hsteady.store⟩
  · exact leaves_of_write rfl hs.1 ((regUp_clkOp s).trans hsys) ((writeReg_clkOp s v wr).trans (writeClkOp_taken hidle hlegal))
      ((((Steady.refl s).wr (by decide) _).wr (by decide) _).tmb _)
  · exact leaves_of_write rfl hs.1 ((regUp_clkOp s).trans hsys) ((writeReg_clkOp s v wr).trans (writeClkOp_refused hrefused))
      ((Steady.refl s).wr (by decide) _)
  · have hdone := opChangeDone_due hbusy hsys
    obtain ⟨hidle, hmhz, hop⟩ := atOp_shows s s.tmb.opTarget
    refine ⟨_, leaves_of_effect rfl hs.1 hdone (atOp_steady s _), ?_⟩
    rw [settle_bit _ _ _ (by decide), settle_f _ _ _ _ (by decide), settle_bit _ _ _ (by decide), settle_tmb]
    exact ⟨hidle, hmhz, hop, rfl⟩

end Sys2Proof.Machine

/-!
The supplies family: the power path, the harvester and the VPANEL boost. Leaving OFF serves the requests that wait, which refutes
the clause that the NVM keeps; the harvester's commands move what the power path holds and one register; those of the boost the
panel, whose ledger the slot that a short cuts has charged.
-/
namespace Sys2Proof.Machine

/-! ## Leaving OFF with a request that waits -/

/-- A store of the Warden's to STC_CMD: ABORT. -/
def stcAbortStore : Req :=
  { mid := 0, aid := 0x400, tid := 0, cls := 0, kind := .write, addr := Reg.STC_CMD, size := 4, data := 0x57170040, rom := false }

/-- A part in OFF, 3.0 V at VMAIN for 1 ms, with the Stitch engine before its KEEP record (phase 11) and a store to STC_CMD that
still waits, for a domain that is ON. -/
def offWithStore : State :=
  { State.reset.setF Reg.STC_STAT 28 4 11 with
    hrv := { Hrv.reset with pstate := .off, cMain := ⟨true, 1000⟩ }
    core := { Core.reset with buf := [⟨stcAbortStore, 0⟩] }
    bus := { Bus.reset with held := [⟨stcAbortStore, Reg.STC_CMD, .coreStore, .saddle, false⟩] } }

theorem offWithStore_nvm : offWithStore.nvm.get? 0x3F1003 = some 0 := rfl

/-- The part as it leaves OFF: MAIN connected, the cold start to come. -/
def offLeft : State := offWithStore.offExit ⟨0, offWithStore.hrv.levels⟩ false

/-- Where the core's domain is not ON, a command ends with the requests that can be served. -/
theorem finish_core_down {s : State} (hstalled : s.serveHeld.core.stalled = none) (hstep : s.serveHeld.hdp.stepping = false)
    (hcore : s.serveHeld.domOn .core = false) : s.finish = s.serveHeld.settle := by
  have hretry : s.serveHeld.retryStalled = s.serveHeld := by simp [State.retryStalled, hstalled]
  have hend : s.serveHeld.stepEnd = s.serveHeld := by simp [State.stepEnd, hstep]
  have hbegin : s.serveHeld.stepBegin = s.serveHeld := by simp [State.stepBegin, hstep]
  have hboot : s.serveHeld.bootStep = s.serveHeld := by simp [State.bootStep, State.bootLoop, State.coreRuns, hcore]
  rw [State.finish, hretry, hend, hbegin, hboot]

theorem offLeft_finish : offLeft.finish = offLeft.serveHeld.settle :=
  finish_core_down (by decide) (by decide) (by decide)

theorem offExit_offWithStore :
    exec (.offExit ⟨0, offWithStore.hrv.levels⟩ false) offWithStore = .next offLeft.serveHeld.settle := by
  have hpowered : offLeft.powered = true := by decide
  exact congrArg Host.Outcome.next ((if_pos hpowered).trans offLeft_finish)

/-- The store is served as the part leaves OFF, and the abort completes the record (R313), of which 0x3F1003 holds a byte. -/
theorem offLeft_nvm : offLeft.serveHeld.nvm.get? 0x3F1003 = some 0x58 := by decide

/-- Refutes O20: the clause on leaving OFF does not ask, as `State.calm` does, that no request waits. One that does is served
once the part has power (R109), and here it makes the Stitch engine write its KEEP record to the NVM. The
model enters OFF with no request waiting (`State.powerOff`), but the statement's premises admit such a state. -/
theorem not_powerPath : ¬ Obligations.PowerPath := by
  unfold Obligations.PowerPath
  intro h
  obtain ⟨-, -, hoff⟩ := h offWithStore ⟨0, offWithStore.hrv.levels⟩ false
  obtain ⟨hleaves, -⟩ := hoff rfl rfl rfl
  obtain ⟨t, ht, -, -, -, -, -, -, -, hnvm⟩ := hleaves (by decide)
  obtain rfl : offLeft.serveHeld.settle = t := Host.Outcome.next.inj (offExit_offWithStore.symm.trans ht)
  have hkept : offLeft.serveHeld.nvm.get? 0x3F1003 = some 0 := by rw [← settle_nvm, hnvm, offWithStore_nvm]
  exact absurd (offLeft_nvm.symm.trans hkept) (by decide)

/-! ## What the supplies leave alone -/

/-- `t` runs as `s` does but for the registers and what the power path holds, which is in the same state. -/
structure Supplied (s t : State) : Prop where
  core : t.core = s.core
  pwr : t.pwr = s.pwr
  bus : t.bus = s.bus
  hdp : t.hdp = s.hdp
  pstate : t.hrv.pstate = s.hrv.pstate
  boot : t.rd Reg.LCS_BOOT = s.rd Reg.LCS_BOOT

namespace Supplied

variable {s t : State}

theorem refl (s : State) : Supplied s s := ⟨rfl, rfl, rfl, rfl, rfl, rfl⟩

theorem powered (h : Supplied s t) : t.powered = s.powered := by simp only [State.powered, h.pstate]

theorem calm (h : Supplied s t) (hs : s.calm) : t.calm := by
  obtain ⟨hpowered, hstalled, hheld, hstep, hpboot, hboot⟩ := hs
  refine ⟨h.powered.trans hpowered, ?_, ?_, ?_, ?_, ?_⟩
  · rw [h.core, hstalled]
  · rw [h.bus, hheld]
  · rw [h.hdp, hstep]
  · rw [h.pwr, hpboot]
  · rw [State.f, h.boot, ← hboot, State.f]

theorem awake (h : Supplied s t) (hs : s.awake) : t.awake := by
  obtain ⟨hcalm, hlevel, hentry, hwaking⟩ := hs
  exact ⟨h.calm hcalm, by rw [h.pwr, hlevel], by rw [h.pwr, hentry], by rw [h.pwr, hwaking]⟩

theorem wr (h : Supplied s t) {a : Nat} (ha : Reg.LCS_BOOT ≠ a) (v : Word) : Supplied s (t.wr a v) :=
  { h with boot := (State.rd_wr_ne t v ha).trans h.boot }

/-- The power path holds `x`, in the state it was in. -/
theorem hrv (h : Supplied s t) {x : Hrv} (hx : x.pstate = t.hrv.pstate) : Supplied s { t with hrv := x } :=
  { h with pstate := hx.trans h.pstate }

theorem cmpSee (h : Supplied s t) : Supplied s t.cmpSee := by
  unfold State.cmpSee
  split
  · exact h.hrv rfl
  · exact h.hrv rfl

theorem belMaxSees (h : Supplied s t) : Supplied s t.belMaxSees := h.hrv rfl

theorem setLevels (h : Supplied s t) (x : Levels) : Supplied s (t.setLevels x) :=
  (h.hrv (x := { t.hrv with levels := x }) rfl).cmpSee.belMaxSees

end Supplied

/-- A command whose effect moves the registers and the power path within its state answers that effect. -/
theorem leaves_of_supply {c : Instr} {s t : State} {f : State → State} (hexec : exec c s = .next (s.cmd f)) (hs : s.calm)
    (hf : f s = t) (ht : Supplied s t) : Leaves c s t := by
  subst hf
  rw [Leaves, hexec, cmd_calm hs (ht.calm hs)]

/-- An HRV_IRQ event of a part that is awake is its bit alone. -/
theorem hrvEvent_awake {s : State} (hs : s.awake) (i : Nat) : s.hrvEvent i = s.setBit Reg.HRV_IRQ i := by
  have hset : Steady s (s.setBit Reg.HRV_IRQ i) := (Steady.refl s).wr (by decide) _
  rw [State.hrvEvent, State.wakeEvent_awake (hset.awake hs)]
  exact ite_self _

/-! ## Levels at the inputs -/

/-- What the comparators see moves the comparators alone. -/
theorem cmpSee_hrv (s : State) : s.cmpSee.hrv = { s.hrv with
    cMain := s.cmpSee.hrv.cMain, cBat := s.cmpSee.hrv.cBat, cOk := s.cmpSee.hrv.cOk, cLow := s.cmpSee.hrv.cLow,
    cCrit := s.cmpSee.hrv.cCrit } := by
  unfold State.cmpSee
  split <;> rfl

theorem cmpSee_rd (s : State) (a : Nat) : s.cmpSee.rd a = s.rd a := by rw [State.cmpSee_changes_hrv]; rfl

/-- BELFULL once charging has stopped or resumed at the levels `x` (R67, R71). -/
def State.fullAt (s : State) (x : Levels) : Bool :=
  if s.belMax ≤ x.vbel then true else if x.vbel < s.belMax - 50 then false else s.hrv.belFull

/-- New levels move the comparators and BELFULL. -/
theorem setLevels_hrv (s : State) (x : Levels) : (s.setLevels x).hrv = { s.hrv with
    levels := x, belFull := s.fullAt x, cMain := (s.setLevels x).hrv.cMain, cBat := (s.setLevels x).hrv.cBat, cOk :=
    (s.setLevels x).hrv.cOk, cLow := (s.setLevels x).hrv.cLow, cCrit := (s.setLevels x).hrv.cCrit } := by
  let u : State := { s with hrv := { s.hrv with levels := x } }
  have htop : u.cmpSee.belMax = s.belMax := by simp only [State.belMax, State.f, cmpSee_rd]; rfl
  have hfull : (s.setLevels x).hrv = { u.cmpSee.hrv with
      belFull := if u.cmpSee.belMax ≤ u.cmpSee.hrv.levels.vbel then true
        else if u.cmpSee.hrv.levels.vbel < u.cmpSee.belMax - 50 then false else u.cmpSee.hrv.belFull } := rfl
  rw [hfull, htop, cmpSee_hrv]
  rfl

theorem setLevels_rd (s : State) (x : Levels) (a : Nat) : (s.setLevels x).rd a = s.rd a :=
  cmpSee_rd { s with hrv := { s.hrv with levels := x } } a

@[simp] theorem setLevels_levels (s : State) (x : Levels) : (s.setLevels x).hrv.levels = x := by rw [setLevels_hrv]
@[simp] theorem setLevels_belFull (s : State) (x : Levels) : (s.setLevels x).hrv.belFull = s.fullAt x := by rw [setLevels_hrv]
@[simp] theorem setLevels_src (s : State) (x : Levels) : (s.setLevels x).hrv.src = s.hrv.src := by rw [setLevels_hrv]
@[simp] theorem setLevels_boostOn (s : State) (x : Levels) : (s.setLevels x).hrv.boostOn = s.hrv.boostOn := by rw [setLevels_hrv]
@[simp] theorem setLevels_regPoint (s : State) (x : Levels) : (s.setLevels x).hrv.regPoint = s.hrv.regPoint := by
  rw [setLevels_hrv]

/-- In a part that is awake VBEL is compared with BEL_OK all the time (R57, R60). -/
theorem cmpSee_ok {s : State} (hs : s.awake) : s.cmpSee.hrv.cOk.raw = s.okSees := by
  obtain ⟨-, hlevel, -, -⟩ := hs
  have hlive : s.strobed = false := by simp [State.strobed, State.deep, hlevel]
  rw [State.cmpSee, hlive, if_neg Bool.false_ne_true]
  exact (Cmp.see_held _ _).1

/-- VBEL at BEL_MAX stops the charging. -/
theorem fullAt_stop {s : State} {x : Levels} (h : s.belMax ≤ x.vbel) : s.fullAt x = true := if_pos h

/-- VBEL more than 50 mV below BEL_MAX lets it resume. -/
theorem fullAt_resume {s : State} {x : Levels} (h : x.vbel < s.belMax - 50) : s.fullAt x = false := by
  rw [State.fullAt, if_neg (by omega), if_pos h]

/-! ## Charging -/

/-- The harvester with a regulation point. -/
theorem hrun_eq {s : State} (hpowered : s.powered = true) (hen : s.bit Reg.HRV_CFG 0 = true) {p : Nat}
    (hpoint : s.hrv.regPoint = some p) : s.hrun = (s.hrv.boostOn && !s.hrv.belFull && decide (p < s.hrv.levels.vhin)) := by
  rw [State.hrun, hpowered, hen, hpoint]
  simp

theorem belCharges_full {s : State} (h : s.hrv.belFull = true) : s.belCharges = false := by
  simp [State.belCharges, State.hrun, State.mainCharges, h]

theorem mainCharges_resumed {s : State} (hpowered : s.powered = true) (h : s.hrv.belFull = false) :
    s.mainCharges = (decide (s.hrv.src = .main) && s.bit Reg.HRV_CFG 3) := by
  simp [State.mainCharges, hpowered, h]

theorem clampNat_eq {lo hi : Nat} (h : lo ≤ hi) (n : Nat) : clampNat lo hi n = max lo (min hi n) := by
  unfold clampNat
  split_ifs <;> omega

theorem fld_eq_div_mod (w : Word) (lo n : Nat) : fld w lo n = w.toNat / 2 ^ lo % 2 ^ n := by
  rw [fld, Nat.shiftRight_eq_div_pow]

/-- BEL_MAX in steps of 50 mV above 2.0 V, by the field of HRV_CFG (Table 03.1). -/
theorem belMaxCode_field (w : Word) : belMaxCode (fld w 4 2) = [26, 32, 38, 42].getD (w.toNat / 2 ^ 4 % 4) 0 := by
  have hlt : fld w 4 2 < 4 := fld_lt w 4 2
  rw [show w.toNat / 2 ^ 4 % 4 = fld w 4 2 from (fld_eq_div_mod w 4 2).symm]
  interval_cases fld w 4 2 <;> rfl

theorem belMax_ge (s : State) : 3300 ≤ s.belMax := by
  have hcode : 26 ≤ belMaxCode (s.f Reg.HRV_CFG 4 2) := by
    unfold belMaxCode
    split <;> decide
  simp only [State.belMax, belMv]
  omega

/-! ## HRV_THR and HRV_CFG -/

/-- BEL_CRIT < BEL_LOW < BEL_OK < BEL_MAX (R58). -/
abbrev belOrdered (thr cfg : Word) : Prop :=
  thr.toNat % 64 < thr.toNat / 2 ^ 8 % 64 ∧ thr.toNat / 2 ^ 8 % 64 < thr.toNat / 2 ^ 16 % 64 ∧
    thr.toNat / 2 ^ 16 % 64 < [26, 32, 38, 42].getD (cfg.toNat / 2 ^ 4 % 4) 0

theorem thrOk_iff (thr cfg : Word) : thrOk thr cfg = true ↔ belOrdered thr cfg := by
  simp only [thrOk, Bool.and_eq_true, decide_eq_true_eq, and_assoc, belMaxCode_field]
  simp only [fld_eq_div_mod, Nat.pow_zero, Nat.div_one]
  rfl

theorem writeReg_hrvThr (s : State) (v : Word) (wr : Writer) : s.writeReg Reg.HRV_THR v wr = s.writeHrvThr v := rfl
theorem writeReg_hrvCfg (s : State) (v : Word) (wr : Writer) : s.writeReg Reg.HRV_CFG v wr = s.writeHrvCfg v := rfl

theorem writeHrvThr_taken {s : State} {v : Word} (h : belOrdered (s.written Reg.HRV_THR v) (s.rd Reg.HRV_CFG)) :
    s.writeHrvThr v = (s.wr Reg.HRV_THR (s.written Reg.HRV_THR v)).cmpSee := if_pos ((thrOk_iff _ _).2 h)

theorem writeHrvThr_refused {s : State} (hs : s.awake) {v : Word}
    (h : ¬belOrdered (s.written Reg.HRV_THR v) (s.rd Reg.HRV_CFG)) : s.writeHrvThr v = s.setBit Reg.HRV_IRQ 7 :=
  (if_neg (mt (thrOk_iff _ _).1 h)).trans (hrvEvent_awake hs 7)

theorem writeHrvCfg_refused {s : State} (hs : s.awake) {v : Word}
    (h : ¬belOrdered (s.rd Reg.HRV_THR) (s.written Reg.HRV_CFG v)) : s.writeHrvCfg v = s.setBit Reg.HRV_IRQ 7 :=
  (if_neg (mt (thrOk_iff _ _).1 h)).trans (hrvEvent_awake hs 7)

/-- HRV_CFG takes its new value, against which BEL_MAX is compared. -/
def State.hrvCfgAt (s : State) (cfg : Word) : State := (s.wr Reg.HRV_CFG cfg).belMaxSees

theorem hrvCfgAt_rd (s : State) (cfg : Word) : (s.hrvCfgAt cfg).rd Reg.HRV_CFG = cfg := State.rd_wr_self ..

/-- A write of HRV_CFG that is taken while the source is not BAT: the VPANEL boost stays, and a change of HRVEN takes the
regulation point (R69, R72, R80). -/
theorem writeHrvCfg_taken {s : State} {v : Word} (h : belOrdered (s.rd Reg.HRV_THR) (s.written Reg.HRV_CFG v))
    (hsrc : s.hrv.src ≠ .bat) :
    let cfg := s.written Reg.HRV_CFG v
    s.writeHrvCfg v =
      if cfg.getLsbD 0 = s.bit Reg.HRV_CFG 0 then s.hrvCfgAt cfg
      else { s.hrvCfgAt cfg with hrv := { (s.hrvCfgAt cfg).hrv with regPoint := none } } := by
  intro cfg
  have hstays : (s.hrvCfgAt cfg).panelInhibit = s.hrvCfgAt cfg := if_neg fun hbat => hsrc hbat.1
  have hbit : (s.hrvCfgAt cfg).bit Reg.HRV_CFG 0 = cfg.getLsbD 0 := congrArg (wbit · 0) (hrvCfgAt_rd s cfg)
  have htaken : s.writeHrvCfg v =
      let u := if (s.hrvCfgAt cfg).hrv.pstate = .on then (s.hrvCfgAt cfg).panelInhibit else s.hrvCfgAt cfg
      if s.bit Reg.HRV_CFG 0 = u.bit Reg.HRV_CFG 0 then u else { u with hrv := { u.hrv with regPoint := none } } :=
    if_pos ((thrOk_iff _ _).2 h)
  rw [htaken, hstays, ite_self]
  simp only [hbit, eq_comm]

/-- HRV_LEVEL shows the four inputs in steps of 50 mV (R85). -/
theorem hrvLevel_eq {s : State} (hpowered : s.powered = true) (x : Levels) :
    let code (mv : Nat) : Nat := min 255 (mv / 50)
    s.hrvLevel x = (s.wr Reg.HRV_LEVEL (BitVec.ofNat 32
      (code x.vhin * 2 ^ 24 + code x.vmain * 2 ^ 16 + code x.vbel * 2 ^ 8 + code x.vbat))).setLevels x := if_pos hpowered

/-- Settles O21: a command sets levels, a register or a field of the power path, said by its lemma above. That BELLOWS_FULL and
BELLOWS_RESUME stand for a level of VBEL is the model's choice (log 59). -/
theorem harvester : Obligations.Harvester := by
  unfold Obligations.Harvester
  intro s mv vhin x v wr hs max50 ordered thr cfg code point top
  have hpowered : s.powered = true := hs.1.1
  have htop : s.belMax = top := by
    simp only [State.belMax, belMv, State.f, belMaxCode_field, top, max50]
  have hpos := belMax_ge s
  have hthr {t : State} (ht : s.writeHrvThr v = t) (hsup : Supplied s t) : Leaves (.hrvThrWrite v wr) s t :=
    leaves_of_supply rfl hs.1 ((regRow_up (regUp_saddle rfl (by decide) s) v wr).trans ht) hsup
  have hcfg {t : State} (ht : s.writeHrvCfg v = t) (hsup : Supplied s t) : Leaves (.hrvCfgWrite v wr) s t :=
    leaves_of_supply rfl hs.1 ((regRow_up (regUp_saddle rfl (by decide) s) v wr).trans ht) hsup
  have hrej : Supplied s (s.setBit Reg.HRV_IRQ 7) := (Supplied.refl s).wr (by decide) _
  have hat : Supplied s (s.hrvCfgAt cfg) := ((Supplied.refl s).wr (by decide) cfg).belMaxSees
  refine ⟨fun hen => ?_, ?_, ?_, ?_, fun hord => ?_, fun hbad => ?_, fun hord hsrc hsame => ?_, fun hord hsrc hother => ?_,
    fun hbad => ?_, ?_⟩
  · let u : State := { s with hrv := { s.hrv with regPoint := some (clampNat 350 3600 (3 * mv)) } }
    let y : Levels := { s.hrv.levels with vhin := vhin }
    have hpoint : clampNat 350 3600 (3 * mv) = point := clampNat_eq (by decide) _
    have hsample : s.harvestSample mv vhin = u.setLevels y := if_pos (by rw [hpowered, hen]; rfl)
    have hsup : Supplied s (u.setLevels y) := ((Supplied.refl s).hrv (x := u.hrv) rfl).setLevels y
    have hbit : (u.setLevels y).bit Reg.HRV_CFG 0 = true := (congrArg (wbit · 0) (setLevels_rd u y _)).trans hen
    have hreg : (u.setLevels y).hrv.regPoint = some point := (setLevels_regPoint u y).trans (congrArg some hpoint)
    refine ⟨_, leaves_of_supply (f := fun s => s.harvestSample mv vhin) rfl hs.1 hsample hsup, ?_⟩
    rw [hrun_eq (by rw [settle_powered]; exact hsup.powered.trans hpowered)
      (by rw [settle_bit _ _ _ (by decide)]; exact hbit) (by rw [settle_hrv]; exact hreg)]
    rw [settle_hrv, setLevels_levels, setLevels_boostOn]
    exact ⟨hreg, rfl, rfl⟩
  · let y : Levels := { s.hrv.levels with vbel := max s.hrv.levels.vbel s.belMax }
    have hfull : (s.setLevels y).hrv.belFull = true := (setLevels_belFull s y).trans (fullAt_stop (le_max_right _ _))
    refine ⟨_, leaves_of_supply (t := s.setLevels y) rfl hs.1 rfl ((Supplied.refl s).setLevels y), ?_⟩
    rw [belCharges_full (by rw [settle_hrv]; exact hfull), settle_hrv, setLevels_levels, ← htop]
    exact ⟨hfull, rfl, rfl⟩
  · let y : Levels := { s.hrv.levels with vbel := min s.hrv.levels.vbel (s.belMax - 51) }
    have hsup : Supplied s (s.setLevels y) := (Supplied.refl s).setLevels y
    have hlow : y.vbel < s.belMax - 50 := by simp only [y]; omega
    have hresumed : (s.setLevels y).hrv.belFull = false := (setLevels_belFull s y).trans (fullAt_resume hlow)
    have hbit : (s.setLevels y).bit Reg.HRV_CFG 3 = s.bit Reg.HRV_CFG 3 := congrArg (wbit · 3) (setLevels_rd s y _)
    refine ⟨_, leaves_of_supply (t := s.setLevels y) rfl hs.1 rfl hsup, ?_⟩
    rw [mainCharges_resumed (by rw [settle_powered]; exact hsup.powered.trans hpowered) (by rw [settle_hrv]; exact hresumed),
      settle_bit _ _ _ (by decide), hbit, settle_hrv, setLevels_src, setLevels_levels, ← htop]
    exact ⟨hresumed, rfl, rfl⟩
  · have hsup : Supplied s s.coldHandoff := (Supplied.refl s).hrv rfl
    have hcold : s.always (fun s => s.coldHandoff) = s.coldHandoff.finish := if_pos (hsup.powered.trans hpowered)
    exact congrArg Host.Outcome.next (hcold.trans (finish_calm (hsup.calm hs.1)))
  · have hwr : Supplied s (s.wr Reg.HRV_THR thr) := (Supplied.refl s).wr (by decide) thr
    refine ⟨hthr (writeHrvThr_taken hord) hwr.cmpSee, ?_⟩
    rw [cmpSee_ok (hwr.awake hs), State.okSees, State.f, State.rd_wr_self, fld_eq_div_mod, decide_eq_true_iff]
    rfl
  · exact hthr (writeHrvThr_refused hs hbad) hrej
  · exact hcfg ((writeHrvCfg_taken hord hsrc).trans (if_pos hsame)) hat
  · refine ⟨_, hcfg ((writeHrvCfg_taken hord hsrc).trans (if_neg hother)) (hat.hrv rfl), ?_⟩
    rw [settle_rd _ _ (by decide), settle_hrv]
    exact ⟨hrvCfgAt_rd s cfg, rfl, rfl⟩
  · exact hcfg (writeHrvCfg_refused hs hbad) hrej
  · exact leaves_of_supply (f := fun s => s.hrvLevel x) rfl hs.1 (hrvLevel_eq hpowered x)
      (((Supplied.refl s).wr (by decide) _).setLevels x)

/-! ## The ledger (R464 to R468) -/

/-- `t` differs from `s` in the ledger and in what PNL_IRQ and PNL_LSTAT show of it. -/
structure Ledgered (s t : State) : Prop where
  same : ∃ r l, t = { s with regs := r, pnl := { s.pnl with ledger := l } }
  rd : ∀ a, a ≠ Reg.PNL_IRQ → a ≠ Reg.PNL_LSTAT → t.rd a = s.rd a

namespace Ledgered

variable {s t u : State}

theorem refl (s : State) : Ledgered s s := ⟨⟨s.regs, s.pnl.ledger, rfl⟩, fun _ _ _ => rfl⟩

theorem trans (h : Ledgered s t) (k : Ledgered t u) : Ledgered s u := by
  obtain ⟨⟨r, l, rfl⟩, hrd⟩ := h
  obtain ⟨⟨r', l', rfl⟩, krd⟩ := k
  exact ⟨⟨r', l', rfl⟩, fun a hirq hstat => (krd a hirq hstat).trans (hrd a hirq hstat)⟩

theorem ite (h : Ledgered s t) (k : Ledgered s u) {c : Prop} [Decidable c] : Ledgered s (if c then t else u) := by
  split
  · exact h
  · exact k

theorem foldl {α : Type} {f : State → α → State} (h : Ledgered s t) (l : List α) (hf : ∀ u x, Ledgered u (f u x)) :
    Ledgered s (l.foldl f t) := by
  induction l generalizing t with
  | nil => exact h
  | cons x l ih => exact ih (h.trans (hf t x))

theorem pnlIrq (h : Ledgered s t) (m : Word) : Ledgered s (t.pnlIrq m) :=
  h.trans ⟨⟨_, _, rfl⟩, fun _ hirq _ => State.rd_wr_ne t _ hirq⟩

theorem lstat (h : Ledgered s t) (lo n v : Nat) : Ledgered s (t.setF Reg.PNL_LSTAT lo n v) :=
  h.trans ⟨⟨_, _, rfl⟩, fun _ _ hstat => State.rd_wr_ne t _ hstat⟩

theorem setPixel (h : Ledgered s t) (n : Nat) (p : Pixel) : Ledgered s (t.setPixel n p) :=
  h.trans ⟨⟨_, _, rfl⟩, fun _ _ _ => rfl⟩

theorem setBal (h : Ledgered s t) (n : Nat) (b : Int) : Ledgered s (t.setBal n b) :=
  (((h.ite (h.pnlIrq 8)).setPixel _ _).lstat _ _ _)

theorem addCharge (h : Ledgered s t) (n q : Nat) : Ledgered s (t.addCharge n q) := by
  unfold State.addCharge
  extract_lets p c f
  split
  · exact h
  · split
    · exact (h.setPixel _ _).pnlIrq _
    · exact h.setPixel _ _

theorem rowPixel (h : Ledgered s t) (n g ticks : Nat) : Ledgered s (t.rowPixel n g ticks) := by
  unfold State.rowPixel
  extract_lets p i f d driven
  have hdriven : Ledgered s driven := (h.addCharge _ _).setBal _ _
  exact h.ite (hdriven.ite (hdriven.setBal _ _))

theorem driveRow (h : Ledgered s t) (r ticks : Nat) : Ledgered s (t.driveRow r ticks) := by
  unfold State.driveRow
  split
  · exact h
  · exact h.foldl _ fun u c => (refl u).rowPixel _ _ _

theorem catchupPixel (h : Ledgered s t) (cu n : Nat) : Ledgered s (t.catchupPixel cu n) := by
  unfold State.catchupPixel
  extract_lets b d dwelled
  have hdwelled : Ledgered s dwelled := h.ite (h.setBal _ _)
  exact h.ite ((hdwelled.pnlIrq _).ite hdwelled)

theorem catchupRow (h : Ledgered s t) (cu : Nat) : Ledgered s (t.catchupRow cu) := by
  unfold State.catchupRow
  extract_lets row
  have hrow : Ledgered s row := h.foldl _ fun u c => (refl u).catchupPixel _ _
  exact (hrow.pnlIrq _).ite hrow

theorem cutSlot (h : Ledgered s t) (ticks : Nat) : Ledgered s (t.cutSlot ticks) := by
  unfold State.cutSlot
  split
  · split
    · exact h.catchupRow _
    · split
      · exact h.driveRow _ _
      · exact h
  · exact h

theorem steady (h : Ledgered s t) : Steady s t := by
  obtain ⟨⟨r, l, rfl⟩, hrd⟩ := h
  exact ⟨rfl, rfl, rfl, rfl, rfl, rfl, rfl, rfl, hrd _ (by decide) (by decide)⟩

theorem core (h : Ledgered s t) : t.core = s.core := by
  obtain ⟨⟨r, l, rfl⟩, -⟩ := h
  rfl

/-- All of the panel but its ledger. -/
theorem pnl (h : Ledgered s t) : t.pnl = { s.pnl with ledger := t.pnl.ledger } := by
  obtain ⟨⟨r, l, rfl⟩, -⟩ := h
  rfl

theorem wear (h : Ledgered s t) (k lo n : Nat) : t.f (Reg.PNL_WEAR k) lo n = s.f (Reg.PNL_WEAR k) lo n := by
  have hne : Reg.PNL_WEAR k ≠ Reg.PNL_IRQ ∧ Reg.PNL_WEAR k ≠ Reg.PNL_LSTAT := by
    simp only [Reg.PNL_WEAR, Reg.PNL_IRQ, Reg.PNL_LSTAT]; omega
  rw [State.f, h.rd _ hne.1 hne.2, State.f]

end Ledgered

/-! ## Pixels -/

/-- The pixels are what the ledger holds, and what it shows where it is undefined. -/
theorem pixel_congr {s t : State} (hledger : t.pnl.ledger = s.pnl.ledger) (hundef : t.pnl.undef = s.pnl.undef) (n : Nat) :
    t.pixel n = s.pixel n := by
  unfold State.pixel
  rw [hledger, hundef]

theorem pixel_setPixel (s : State) (n m : Nat) (p : Pixel) : (s.setPixel n p).pixel m = if m = n then p else s.pixel m := by
  have hblank {t : State} (h : t.pnl.undef = none) : t.pixel m = (alGet t.pnl.ledger m).getD ⟨0, 0, 0⟩ := by
    unfold State.pixel
    rw [h]
    cases alGet t.pnl.ledger m <;> rfl
  cases hundef : s.pnl.undef with
  | none =>
    have hledger : (s.setPixel n p).pnl.ledger = alSet ⟨0, 0, 0⟩ s.pnl.ledger n p := by simp only [State.setPixel, hundef]
    rw [hblank (t := s.setPixel n p) hundef, hledger]
    by_cases hm : m = n
    · rw [hm, alGet_alSet_self, if_pos rfl]
    · rw [alGet_alSet_ne _ _ _ hm, if_neg hm, hblank hundef]
  | some seed =>
    have hledger : (s.setPixel n p).pnl.ledger = alInsert (alDel s.pnl.ledger n) n p := by simp only [State.setPixel, hundef]
    unfold State.pixel
    rw [hledger]
    by_cases hm : m = n
    · rw [hm, alGet_alInsert_self _ _ _ (alGet_alDel_self _ _), if_pos rfl]
    · rw [alGet_alInsert_ne _ _ hm, alGet_alDel_ne _ hm, if_neg hm]
      rfl

theorem clampInt_self {lo hi i : Int} (hlo : lo ≤ i) (hhi : i ≤ hi) : clampInt lo hi i = i := by
  unfold clampInt
  split_ifs <;> omega

theorem setBal_pixel (s : State) (n m : Nat) (b : Int) :
    (s.setBal n b).pixel m = if m = n then { s.pixel n with bal := clampInt (-32768) 32767 b } else s.pixel m := by
  let u : State := if clampInt (-32768) 32767 b = b then s else s.pnlIrq 8
  have hu (k : Nat) : u.pixel k = s.pixel k := by
    simp only [u]
    split <;> rfl
  have hset : (s.setBal n b).pixel m = (u.setPixel n { u.pixel n with bal := clampInt (-32768) 32767 b }).pixel m := rfl
  rw [hset, pixel_setPixel, hu, hu]

/-- A balance within its range is the one written (R467). -/
theorem setBal_pixel_self (s : State) (n : Nat) {b : Int} (hlo : -32768 ≤ b) (hhi : b ≤ 32767) :
    (s.setBal n b).pixel n = { s.pixel n with bal := b } := by
  rw [setBal_pixel, if_pos rfl, clampInt_self hlo hhi]

theorem setBal_pixel_ne (s : State) {n m : Nat} (b : Int) (h : m ≠ n) : (s.setBal n b).pixel m = s.pixel m := by
  rw [setBal_pixel, if_neg h]

/-- A charge that does not saturate FWD (R465). -/
theorem addCharge_pixel_self {s : State} {n q : Nat} (h : (s.pixel n).fwd + ((s.pixel n).res + q) / 2 ^ 20 < 0xFFFFFF) :
    (s.addCharge n q).pixel n =
      ⟨(s.pixel n).fwd + ((s.pixel n).res + q) / 2 ^ 20, ((s.pixel n).res + q) % 2 ^ 20, (s.pixel n).bal⟩ := by
  have hfwd : (s.pixel n).fwd ≠ 0xFFFFFF := by omega
  have hcharge : s.addCharge n q = s.setPixel n { s.pixel n with
      fwd := (s.pixel n).fwd + ((s.pixel n).res + q) / 2 ^ 20, res := ((s.pixel n).res + q) % 2 ^ 20 } :=
    (if_neg hfwd).trans (if_neg (Nat.not_le.2 h))
  rw [hcharge, pixel_setPixel, if_pos rfl]

theorem addCharge_pixel_ne (s : State) {n m : Nat} (q : Nat) (h : m ≠ n) : (s.addCharge n q).pixel m = s.pixel m := by
  have hset (u : State) (p : Pixel) : (u.setPixel n p).pixel m = u.pixel m := by rw [pixel_setPixel, if_neg h]
  unfold State.addCharge
  extract_lets p t f
  split
  · rfl
  · split
    · exact hset _ _
    · exact hset _ _

/-! ## Rows (R461, R465, R468) -/

/-- The dwell of a pixel in ticks (R465). -/
theorem pixelDwell_eq (s : State) (n g : Nat) :
    let p := s.pixel n
    let nominal : Int := ((g * s.pixelCurrent p.fwd * (s.pnl.dwk.toNat % 2 ^ 16) + 2 ^ 20 - 1) / 2 ^ 20 : Nat)
    let owed : Int := if p.bal < 0 then (((-p.bal).toNat / s.panelVp : Nat) : Int) else 0
    s.pixelDwell n g = (max 0 (min 16 (nominal - owed))).toNat := by
  intro p nominal owed
  have howed : (if p.bal < 0 then nominal - (((-p.bal).toNat / s.panelVp : Nat) : Int) else nominal) = nominal - owed := by
    simp only [owed]
    split <;> omega
  rw [← clampInt_eq (by decide), ← howed]
  rfl

theorem pixelDwell_le (s : State) (n g : Nat) : s.pixelDwell n g ≤ 16 := by
  rw [pixelDwell_eq]
  omega

theorem pixelCurrent_le (s : State) (fwd : Nat) : s.pixelCurrent fwd ≤ 255 := min_le_left _ _

/-- Pixel `p`, with grey level `g`, once the first `ticks` ticks of its row slot have driven it and dwelled. -/
def State.drivenPixel (s : State) (p : Pixel) (g ticks : Nat) : Pixel :=
  let vp := s.pnl.vp.toNat % 2 ^ 8
  let i := min 255 (s.pnl.drv.toNat % 2 ^ 8 * s.f (Reg.PNL_WEAR (p.fwd / 2 ^ 19)) 0 16 / 4096)
  let nominal : Int := ((g * i * (s.pnl.dwk.toNat % 2 ^ 16) + 2 ^ 20 - 1) / 2 ^ 20 : Nat)
  let owed : Int := if p.bal < 0 then (((-p.bal).toNat / vp : Nat) : Int) else 0
  let d := min (max 0 (min 16 (nominal - owed))).toNat (ticks - 15)
  let f := min g ticks
  ⟨p.fwd + (p.res + i * f) / 2 ^ 20, (p.res + i * f) % 2 ^ 20,
    p.bal + (f * (s.pnl.drv.toNat / 2 ^ 8 % 2 ^ 8) : Nat) - (d * vp : Nat)⟩

/-- A pixel that a slot can charge without saturation. -/
structure Pixel.Roomy (p : Pixel) : Prop where
  fwd : p.fwd < 0xFFFF00
  res : p.res < 2 ^ 20
  low : -28000 ≤ p.bal
  high : p.bal ≤ 28000

theorem drivenPixel_ledgered {s t : State} (h : Ledgered s t) (p : Pixel) (g ticks : Nat) :
    t.drivenPixel p g ticks = s.drivenPixel p g ticks := by
  unfold State.drivenPixel
  rw [h.pnl, h.wear]

/-- No tick drives a pixel. -/
theorem drivenPixel_zero (s : State) {p : Pixel} (h : p.Roomy) (g : Nat) : s.drivenPixel p g 0 = p := by
  have hnone : s.drivenPixel p g 0 = ⟨p.fwd + p.res / 2 ^ 20, p.res % 2 ^ 20, p.bal⟩ := by
    simp only [State.drivenPixel, Nat.min_zero, Nat.mul_zero, Nat.zero_sub, Nat.zero_mul, Nat.cast_zero, add_zero,
      sub_zero]
  rw [hnone, Nat.div_eq_of_lt h.res, Nat.mod_eq_of_lt h.res, Nat.add_zero]

theorem rowPixel_pixel_ne (s : State) {n m : Nat} (g ticks : Nat) (h : m ≠ n) : (s.rowPixel n g ticks).pixel m = s.pixel m := by
  unfold State.rowPixel
  split
  · rfl
  · extract_lets p i f d driven
    have hdriven : driven.pixel m = s.pixel m := (setBal_pixel_ne _ _ h).trans (addCharge_pixel_ne s _ h)
    split
    · exact hdriven
    · exact (setBal_pixel_ne _ _ h).trans hdriven

/-- A dark pixel is not driven. -/
theorem rowPixel_dark (s : State) (n ticks : Nat) : s.rowPixel n 0 ticks = s := rfl

/-- A lit pixel is (R461, R465). -/
theorem rowPixel_lit {s : State} {n g : Nat} (ticks : Nat) (hroomy : (s.pixel n).Roomy) (hgrey : g ≠ 0) (hlt : g < 16) :
    (s.rowPixel n g ticks).pixel n = s.drivenPixel (s.pixel n) g ticks := by
  unfold State.rowPixel
  rw [if_neg hgrey]
  extract_lets p i f d driven
  obtain ⟨hfwd, hres, hlow, hhigh⟩ : p.Roomy := hroomy
  have hf : f ≤ 15 := (min_le_left _ _).trans (by omega)
  have hq : i * f ≤ 255 * 15 := Nat.mul_le_mul (pixelCurrent_le s _) hf
  have hup : f * fld s.pnl.drv 8 8 ≤ 15 * 255 := Nat.mul_le_mul hf (Nat.le_of_lt_succ (fld_lt _ 8 8))
  have hdown : d * s.panelVp ≤ 16 * 255 :=
    Nat.mul_le_mul ((min_le_left _ _).trans (pixelDwell_le s n g)) (Nat.le_of_lt_succ (fld_lt _ 0 8))
  have hcharged : (s.addCharge n (i * f)).pixel n = ⟨p.fwd + (p.res + i * f) / 2 ^ 20, (p.res + i * f) % 2 ^ 20, p.bal⟩ :=
    addCharge_pixel_self (by change p.fwd + (p.res + i * f) / 2 ^ 20 < 0xFFFFFF; omega)
  have hdriven : driven.pixel n = ⟨p.fwd + (p.res + i * f) / 2 ^ 20, (p.res + i * f) % 2 ^ 20,
      p.bal + (f * fld s.pnl.drv 8 8 : Nat)⟩ := by
    rw [show driven = (s.addCharge n (i * f)).setBal n (p.bal + (f * fld s.pnl.drv 8 8 : Nat)) from rfl,
      setBal_pixel_self _ _ (by omega) (by omega), hcharged]
  have hkept : Ledgered s driven := ((Ledgered.refl s).addCharge _ _).setBal _ _
  have hvp : driven.panelVp = s.panelVp := by rw [State.panelVp, hkept.pnl]; rfl
  have hend : (if d = 0 then driven else driven.setBal n ((driven.pixel n).bal - (d * driven.panelVp : Nat))).pixel n =
      ⟨p.fwd + (p.res + i * f) / 2 ^ 20, (p.res + i * f) % 2 ^ 20,
        p.bal + (f * fld s.pnl.drv 8 8 : Nat) - (d * s.panelVp : Nat)⟩ := by
    rw [hvp, hdriven]
    split
    · next h0 => rw [hdriven, h0]; simp
    · rw [setBal_pixel_self _ _ (by simp only; omega) (by simp only; omega), hdriven]
  rw [hend]
  simp only [d, pixelDwell_eq, State.panelVp, i, State.pixelCurrent, fld_eq_div_mod, f, p, State.drivenPixel, Nat.pow_zero,
    Nat.div_one]

/-- The pixels of row `r` in the columns of `l` are driven. -/
def State.driveCols (s : State) (r ticks : Nat) (ws : List Word) (l : List Nat) : State :=
  l.foldl (fun s c => s.rowPixel (64 * r + c) (rowGrey ws c) ticks) s

section
variable (r ticks : Nat) (ws : List Word)

theorem driveCols_pixel_ne (l : List Nat) (s : State) {n : Nat} (h : ∀ c ∈ l, n ≠ 64 * r + c) :
    (s.driveCols r ticks ws l).pixel n = s.pixel n := by
  induction l generalizing s with
  | nil => rfl
  | cons x l ih =>
    exact (ih _ fun c hc => h c (List.mem_cons_of_mem x hc)).trans (rowPixel_pixel_ne s _ _ (h x List.mem_cons_self))

theorem driveCols_pixel (l : List Nat) (hl : l.Nodup) (s : State) {c : Nat} (hc : c ∈ l) :
    (rowGrey ws c = 0 → (s.driveCols r ticks ws l).pixel (64 * r + c) = s.pixel (64 * r + c)) ∧
    (rowGrey ws c ≠ 0 → (s.pixel (64 * r + c)).Roomy →
      (s.driveCols r ticks ws l).pixel (64 * r + c) = s.drivenPixel (s.pixel (64 * r + c)) (rowGrey ws c) ticks) := by
  induction l generalizing s with
  | nil => cases hc
  | cons x l ih =>
    obtain ⟨hx, hl⟩ := List.nodup_cons.1 hl
    let u := s.rowPixel (64 * r + x) (rowGrey ws x) ticks
    have hcons : s.driveCols r ticks ws (x :: l) = u.driveCols r ticks ws l := rfl
    rw [hcons]
    by_cases hcx : c = x
    · subst hcx
      have hrest : (u.driveCols r ticks ws l).pixel (64 * r + c) = u.pixel (64 * r + c) :=
        driveCols_pixel_ne r ticks ws l u fun d hd e => hx (Nat.add_left_cancel e ▸ hd)
      rw [hrest]
      refine ⟨fun hdark => ?_, fun hlit hroomy => rowPixel_lit ticks hroomy hlit (fld_lt _ _ _)⟩
      simp only [u, hdark, rowPixel_dark]
    · have hkept : u.pixel (64 * r + c) = s.pixel (64 * r + c) :=
        rowPixel_pixel_ne s _ _ fun e => hcx (Nat.add_left_cancel e)
      have hthen := ih hl u ((List.mem_cons.1 hc).resolve_left hcx)
      rw [hkept, drivenPixel_ledgered ((Ledgered.refl s).rowPixel _ _ _)] at hthen
      exact hthen

end

/-- A row slot of which `ticks` ticks have run has driven its row so far (R468), whatever else has happened to the state. -/
theorem rowDriven_of_pixels {s t : State} {r ticks : Nat} {ws : List Word}
    (h : ∀ n, t.pixel n = (s.driveCols r ticks ws (List.range 64)).pixel n) : s.rowDriven t r ticks ws := by
  refine ⟨fun n hn => ?_, fun c hc => ?_⟩
  · rw [h, driveCols_pixel_ne r ticks ws _ s fun c hc e => hn (by have := List.mem_range.1 hc; omega)]
  · obtain ⟨hdark, hlit⟩ := driveCols_pixel r ticks ws (List.range 64) List.nodup_range s (List.mem_range.2 hc)
    rw [rowGrey, fld_eq_div_mod] at hdark hlit
    rw [← h] at hdark hlit
    exact ⟨hdark, fun hg hfwd hres hlow hhigh => hlit hg ⟨hfwd, hres, hlow, hhigh⟩⟩

/-- No tick has run. -/
theorem rowDriven_zero {s t : State} (r : Nat) (ws : List Word) (h : ∀ n, t.pixel n = s.pixel n) : s.rowDriven t r 0 ws := by
  refine ⟨fun n _ => h n, fun c _ => ⟨fun _ => h _, fun _ hfwd hres hlow hhigh => ?_⟩⟩
  exact (h _).trans (drivenPixel_zero s ⟨hfwd, hres, hlow, hhigh⟩ _).symm

theorem slotRow_row {k : Nat} (h : k < 36) (hrow : k % 9 ≠ 8) : slotRow k = some (k - k / 9) :=
  if_neg (by omega)

/-- The slot timing of a part that is awake runs while the panel is driven. -/
theorem slotTiming_driving {s : State} (hs : s.awake) (hhmi : s.domOn .hmi = true) (hrun : s.bit Reg.PNL_STAT 0 = true) :
    s.slotTiming = true := by
  obtain ⟨hcalm, hlevel, -, -⟩ := hs
  simp [State.slotTiming, State.deep, State.pnlRun, hcalm.1, hhmi, hlevel, hrun]

theorem cutSlot_idle {s : State} {ticks : Nat} (h : s.bit Reg.PNL_STAT 0 = false ∨ ticks = 0) : s.cutSlot ticks = s := by
  refine if_neg ?_
  rcases h with h | h <;> simp [State.pnlRun, h]

/-- The cut of a row slot drives the ticks that have run. -/
theorem cutSlot_row {s : State} (hs : s.awake) (hhmi : s.domOn .hmi = true) (hrun : s.bit Reg.PNL_STAT 0 = true) {ticks r : Nat}
    (hticks : ticks ≠ 0) (hquiet : s.pnl.quiet = none) (hslot : slotRow s.pnl.slot = some r) {ws : List Word}
    (hbuf : s.pnl.rowBuf = some ws) : s.cutSlot ticks = s.driveCols r ticks ws (List.range 64) := by
  have hcut : s.cutSlot ticks = s.driveRow r ticks := by
    simp [State.cutSlot, State.pnlRun, hrun, slotTiming_driving hs hhmi hrun, hticks, hquiet, hslot]
  rw [hcut, State.driveRow, hbuf]
  rfl

/-! ## When the boost may run (R80, R472) -/

/-- The boost is asked for and its source may supply it: VPEN, step 14 begun, a source other than BAT or PNLBAT. -/
abbrev State.boostAsked (s : State) : Prop :=
  14 ∉ s.pwr.stagger ∧ s.bit Reg.PNL_CTL 8 = true ∧ (s.hrv.src ≠ .bat ∨ s.bit Reg.HRV_CFG 1 = true)

theorem boostMay_iff {s : State} (hs : s.awake) (hhmi : s.domOn .hmi = true) :
    s.boostMay = true ↔ s.boostAsked ∧ s.bit Reg.PNL_FAULT 1 = false := by
  obtain ⟨hcalm, hlevel, hentry, -⟩ := hs
  have hdeep : s.deep = false := by simp [State.deep, hlevel]
  simp only [State.boostMay, State.boostAsked, hcalm.1, hhmi, hdeep, hentry]
  simp
  tauto

/-- What changes PNL_FAULT alone of the registers leaves the boost asked for. -/
theorem boostMay_iff_asked {s t : State} (hs : s.awake) (hhmi : s.domOn .hmi = true) (ht : Steady s t)
    (hrd : ∀ a, a ≠ Reg.PNL_FAULT → t.rd a = s.rd a) : t.boostMay = true ↔ s.boostAsked ∧ t.bit Reg.PNL_FAULT 1 = false := by
  have hstat : t.f Reg.PWR_DOMSTAT (domShift .hmi) 2 = s.f Reg.PWR_DOMSTAT (domShift .hmi) 2 :=
    congrArg (fld · (domShift .hmi) 2) (hrd _ (by decide))
  have hdom : t.domOn .hmi = s.domOn .hmi := by rw [State.domOn, State.dom, hstat, State.domOn, State.dom]
  have hask : t.boostAsked ↔ s.boostAsked := by
    simp only [State.boostAsked, State.bit, ht.pwr, ht.hrv, hrd Reg.PNL_CTL (by decide), hrd Reg.HRV_CFG (by decide)]
  rw [boostMay_iff (ht.awake hs) (hdom.trans hhmi), hask]

theorem setBoost_steady (s : State) (b : Boost) : Steady s (s.setBoost b) := { Steady.refl s with }

theorem softStart_starts {s : State} (hmay : s.boostMay = true) (hoff : s.pnl.boost = .off) : s.softStart = s.setBoost .ramp :=
  if_pos (by rw [hmay, decide_eq_true hoff]; rfl)

theorem softStart_stays {s : State} (h : ¬s.boostMay = true) : s.softStart = s :=
  if_neg (by simp [h])

/-- A restart counts and ramps (R474). -/
theorem vpanelRetry_ramps {s : State} (hs : s.awake) (hhmi : s.domOn .hmi = true) (hwait : s.pnl.boost = .waiting)
    (hask : s.boostAsked) (hlatch : s.bit Reg.PNL_FAULT 1 = false) :
    s.vpanelRetry = (s.setF Reg.PNL_FAULT 2 2 (s.f Reg.PNL_FAULT 2 2 + 1)).setBoost .ramp := by
  have hmay : (s.setBoost .off).boostMay = true := (boostMay_iff hs hhmi).2 ⟨hask, hlatch⟩
  have hagain : ((s.setBoost .off).setF Reg.PNL_FAULT 2 2 (s.f Reg.PNL_FAULT 2 2 + 1)).boostMay = true := by
    refine (boostMay_iff_asked hs hhmi ((setBoost_steady s .off).wr (by decide) _) fun a ha => State.rd_wr_ne _ _ ha).2 ⟨hask, ?_⟩
    rw [State.bit, State.rd_wr_self, wbit_setFld_ne _ _ _ _ _ (.inl (by decide))]
    exact hlatch
  have hretry : s.vpanelRetry = ((s.setBoost .off).setF Reg.PNL_FAULT 2 2 (s.f Reg.PNL_FAULT 2 2 + 1)).softStart :=
    (if_pos hwait).trans (if_pos hmay)
  rw [hretry, softStart_starts hagain rfl]
  rfl

/-! ## PNL_FAULT -/

theorem regUp_pnlFault (s : State) : s.regUp Reg.PNL_FAULT = s.domOn .hmi := regUp_block (gate := 6) rfl (by decide) s

theorem writeReg_pnlFault (s : State) (v : Word) (wr : Writer) : s.writeReg Reg.PNL_FAULT v wr = s.writePnlFault v := rfl

/-- PNL_FAULT after a write that clears the latch: RETRIES is 0. -/
def State.latchCleared (s : State) (v : Word) : State :=
  (s.wr Reg.PNL_FAULT (s.written Reg.PNL_FAULT v)).setF Reg.PNL_FAULT 2 2 0

/-- LATCH is cleared by a 1. -/
theorem written_latch {s : State} {v : Word} (hv : v.getLsbD 1 = true) : wbit (s.written Reg.PNL_FAULT v) 1 = false := by
  have hdef : regDef? Reg.PNL_FAULT = some ⟨0x2001600C, 1, 4, 0, 0, 0, 0x00000003, 0, 0, 0, .hmi⟩ := rfl
  simp [State.written, hdef, wbit, word, hv]

theorem latchCleared_latch {s : State} {v : Word} (hv : v.getLsbD 1 = true) :
    (s.latchCleared v).bit Reg.PNL_FAULT 1 = false := by
  rw [State.bit, State.latchCleared, State.rd_setF, if_pos rfl, wbit_setFld_ne _ _ _ _ _ (.inl (by decide)), State.rd_wr_self,
    written_latch hv]

theorem latchCleared_steady (s : State) (v : Word) : Steady s (s.latchCleared v) :=
  ((Steady.refl s).wr (by decide) _).wr (by decide) _

theorem latchCleared_rd (s : State) (v : Word) {a : Nat} (ha : a ≠ Reg.PNL_FAULT) : (s.latchCleared v).rd a = s.rd a :=
  (State.rd_wr_ne _ _ ha).trans (State.rd_wr_ne _ _ ha)

theorem writePnlFault_clears {s : State} {v : Word} (hlatch : s.bit Reg.PNL_FAULT 1 = true) (hv : v.getLsbD 1 = true) :
    s.writePnlFault v = (s.latchCleared v).softStart := if_pos (by rw [hlatch, show wbit v 1 = true from hv]; rfl)

/-! ## A short (R473, R474, R476) -/

/-- The boost stopped by a short, `later` once it was READY. -/
def State.shorted (s : State) (later : Bool) : State :=
  ((s.boostOff.setBit Reg.PNL_FAULT 0).putBit Reg.PNL_FAULT 4 later).pnlIrq 0x20

/-- The boost latched, after the third retry. -/
def State.boostLatched (s : State) : State := (s.setBit Reg.PNL_FAULT 1).pnlIrq 0x40

theorem boostOff_stat (s : State) : s.boostOff.rd Reg.PNL_STAT = wputBit (wputBit (s.rd Reg.PNL_STAT) 2 false) 0 false := by
  rw [State.boostOff, State.rd_clrBit, if_pos rfl, State.rd_clrBit, if_pos rfl]
  rfl

theorem boostOff_rd (s : State) {a : Nat} (ha : a ≠ Reg.PNL_STAT) : s.boostOff.rd a = s.rd a :=
  (State.rd_wr_ne _ _ ha).trans (State.rd_wr_ne _ _ ha)

theorem shorted_stat (s : State) (later : Bool) :
    (s.shorted later).rd Reg.PNL_STAT = wputBit (wputBit (s.rd Reg.PNL_STAT) 2 false) 0 false := by
  rw [State.shorted, State.pnlIrq, State.rd_orReg, if_neg (by decide), State.rd_putBit, if_neg (by decide), State.rd_setBit,
    if_neg (by decide), boostOff_stat]

theorem shorted_fault (s : State) (later : Bool) :
    (s.shorted later).rd Reg.PNL_FAULT = wputBit (wputBit (s.rd Reg.PNL_FAULT) 0 true) 4 later := by
  rw [State.shorted, State.pnlIrq, State.rd_orReg, if_neg (by decide), State.rd_putBit, if_pos rfl, State.rd_setBit, if_pos rfl,
    boostOff_rd s (by decide)]

theorem shorted_irq (s : State) (later : Bool) : (s.shorted later).rd Reg.PNL_IRQ = s.rd Reg.PNL_IRQ ||| 0x20 := by
  rw [State.shorted, State.pnlIrq, State.rd_orReg, if_pos rfl, State.rd_putBit, if_neg (by decide), State.rd_setBit,
    if_neg (by decide), boostOff_rd s (by decide)]

theorem shorted_steady (s : State) (later : Bool) : Steady s (s.shorted later) := by
  have hpnl (p : Pnl) : Steady s { s with pnl := p } := { Steady.refl s with }
  exact (((((hpnl _).wr (by decide) _).wr (by decide) _).wr (by decide) _).wr (by decide) _).wr (by decide) _

theorem boostLatched_steady (s : State) : Steady s s.boostLatched := ((Steady.refl s).wr (by decide) _).wr (by decide) _

theorem shorted_retries (s : State) (later : Bool) : (s.shorted later).f Reg.PNL_FAULT 2 2 = s.f Reg.PNL_FAULT 2 2 := by
  rw [State.f, shorted_fault, fld_wputBit_ne _ _ _ _ _ (.inl (by decide)), fld_wputBit_ne _ _ _ _ _ (.inr (by decide)), State.f]

/-- The end of a short: the boost latches, or waits for a retry. -/
def State.shortEnds (s : State) (later latches : Bool) : State :=
  if latches then (s.shorted later).boostLatched else (s.shorted later).setBoost .waiting

section
variable (s : State) (later latches : Bool)

theorem shortEnds_stat :
    (s.shortEnds later latches).rd Reg.PNL_STAT = wputBit (wputBit (s.rd Reg.PNL_STAT) 2 false) 0 false := by
  rw [← shorted_stat s later]
  cases latches
  · rfl
  · exact (State.rd_wr_ne _ _ (by decide)).trans (State.rd_wr_ne _ _ (by decide))

/-- Of PNL_FAULT a latching short sets LATCH beside what any short sets. -/
theorem shortEnds_fault (i : Nat) : (s.shortEnds later latches).bit Reg.PNL_FAULT i =
    if i = 1 ∧ latches = true then true else (s.shorted later).bit Reg.PNL_FAULT i := by
  cases latches
  · exact (if_neg fun h => Bool.false_ne_true h.2).symm
  · have hset : (s.shortEnds later true).rd Reg.PNL_FAULT = wputBit ((s.shorted later).rd Reg.PNL_FAULT) 1 true :=
      (State.rd_wr_ne _ _ (by decide)).trans (State.rd_wr_self ..)
    rw [State.bit, hset]
    by_cases h1 : i = 1
    · rw [if_pos ⟨h1, rfl⟩, h1, wbit_wputBit_self _ _ _ (by decide)]
    · rw [if_neg fun h => h1 h.1, wbit_wputBit_ne _ _ _ _ h1, State.bit]

theorem shortEnds_irq : (s.shortEnds later latches).bit Reg.PNL_IRQ 5 = true := by
  have hshort : (s.shorted later).bit Reg.PNL_IRQ 5 = true := by
    rw [State.bit, shorted_irq, wbit_or]
    exact Bool.or_eq_true_iff.2 (.inr (by decide))
  cases latches
  · exact hshort
  · have hset : (s.shortEnds later true).rd Reg.PNL_IRQ = (s.shorted later).rd Reg.PNL_IRQ ||| 0x40 :=
      (State.rd_wr_self ..).trans (congrArg (· ||| _) (State.rd_wr_ne _ _ (by decide)))
    rw [State.bit, hset, wbit_or]
    exact Bool.or_eq_true_iff.2 (.inl hshort)

theorem shortEnds_boost : (s.shortEnds later latches).pnl.boost = if latches then .off else .waiting := by cases latches <;> rfl

theorem shortEnds_core : (s.shortEnds later latches).core = s.core := by cases latches <;> rfl

theorem shortEnds_pixel (n : Nat) : (s.shortEnds later latches).pixel n = s.pixel n := by cases latches <;> rfl

theorem shortEnds_steady : Steady s (s.shortEnds later latches) := by
  have hstopped := shorted_steady s later
  exact (hstopped.trans (boostLatched_steady _)).ite (hstopped.trans (setBoost_steady _ _))

end

/-- A short cuts the slot in progress and stops the boost, which latches after the third retry and else waits. -/
theorem vpanelShort_on {s : State} (hon : s.pnl.boost = .ramp ∨ s.pnl.boost = .running) (cut : Option (Fin 32)) :
    s.vpanelShort cut = (s.cutSlot (shortTicks cut)).shortEnds (decide (s.pnl.boost = .running))
      (decide (s.f Reg.PNL_FAULT 2 2 = 3)) := by
  have hboost : s.boostOn = true := by rcases hon with h | h <;> simp [State.boostOn, h]
  have hcut : (s.cutSlot (shortTicks cut)).f Reg.PNL_FAULT 2 2 = s.f Reg.PNL_FAULT 2 2 :=
    congrArg (fld · 2 2) (((Ledgered.refl s).cutSlot (shortTicks cut)).rd _ (by decide) (by decide))
  have hshort : s.vpanelShort cut =
      let stopped := (s.cutSlot (shortTicks cut)).shorted (decide (s.pnl.boost = .running))
      if stopped.f Reg.PNL_FAULT 2 2 = 3 then stopped.boostLatched else stopped.setBoost .waiting := if_pos hboost
  rw [hshort]
  simp only [shorted_retries, hcut, State.shortEnds, decide_eq_true_eq]

theorem vpanelShort_steady {s : State} (hon : s.pnl.boost = .ramp ∨ s.pnl.boost = .running) (cut : Option (Fin 32)) :
    Steady s (s.vpanelShort cut) := by
  rw [vpanelShort_on hon]
  exact ((Ledgered.refl s).cutSlot _).steady.trans (shortEnds_steady _ _ _)

/-- What a short shows, whether the boost latches or waits. -/
theorem vpanelShort_shows {s : State} (hon : s.pnl.boost = .ramp ∨ s.pnl.boost = .running) (cut : Option (Fin 32)) :
    let t := s.vpanelShort cut
    let third := s.f Reg.PNL_FAULT 2 2 = 3
    t.bit Reg.PNL_STAT 2 = false ∧ t.bit Reg.PNL_STAT 0 = false ∧ t.bit Reg.PNL_FAULT 0 = true ∧
      t.bit Reg.PNL_FAULT 4 = decide (s.pnl.boost = .running) ∧ t.bit Reg.PNL_IRQ 5 = true ∧
      t.bit Reg.PNL_FAULT 1 = (s.bit Reg.PNL_FAULT 1 || decide third) ∧
      t.pnl.boost = (if third then .off else .waiting) ∧ t.core = s.core ∧
      ∀ n, t.pixel n = (s.cutSlot (shortTicks cut)).pixel n := by
  intro t third
  let u := s.cutSlot (shortTicks cut)
  have hu : Ledgered s u := (Ledgered.refl s).cutSlot _
  have ht : t = u.shortEnds (decide (s.pnl.boost = .running)) (decide third) := vpanelShort_on hon cut
  rw [ht]
  refine ⟨?_, ?_, ?_, ?_, shortEnds_irq .., ?_, ?_, (shortEnds_core ..).trans hu.core, shortEnds_pixel _ _ _⟩
  · rw [State.bit, shortEnds_stat, wbit_wputBit_ne _ _ _ _ (by decide), wbit_wputBit_self _ _ _ (by decide)]
  · rw [State.bit, shortEnds_stat, wbit_wputBit_self _ _ _ (by decide)]
  · rw [shortEnds_fault, if_neg fun h => absurd h.1 (by decide), State.bit, shorted_fault,
      wbit_wputBit_ne _ _ _ _ (by decide), wbit_wputBit_self _ _ _ (by decide)]
  · rw [shortEnds_fault, if_neg fun h => absurd h.1 (by decide), State.bit, shorted_fault,
      wbit_wputBit_self _ _ _ (by decide)]
  · have hkept : (u.shorted (decide (s.pnl.boost = .running))).bit Reg.PNL_FAULT 1 = s.bit Reg.PNL_FAULT 1 := by
      rw [State.bit, shorted_fault, wbit_wputBit_ne _ _ _ _ (by decide), wbit_wputBit_ne _ _ _ _ (by decide),
        hu.rd _ (by decide) (by decide), State.bit]
    rw [shortEnds_fault, hkept]
    by_cases hthird : third <;> simp [hthird]
  · rw [shortEnds_boost]
    simp only [decide_eq_true_eq]

/-- Settles O43: each command is one step of the boost, said by its lemma above. A short drives the row slot in progress for the
ticks that have run. -/
theorem vpanel : Obligations.Vpanel := by
  unfold Obligations.Vpanel
  intro s v wr cut hs hhmi may latch retries boost stopped driving slot
  have hmay := boostMay_iff hs hhmi
  refine ⟨fun hoff hask hlatch => ?_, fun hoff hbar => ?_, fun hramp => ?_, fun hon => ?_, fun hwait hask hlatch hfew => ?_,
    fun hready => ?_, fun hready => ?_, fun hlatch hv hoff => ?_⟩
  · exact leaves_of_effect rfl hs.1 (softStart_starts (hmay.2 ⟨hask, hlatch⟩) hoff) (setBoost_steady s .ramp)
  · have hnot : ¬s.boostMay = true := fun h => by
      obtain ⟨hask, hclear⟩ := hmay.1 h
      exact hbar.elim (fun hno => hno hask) fun hset => Bool.false_ne_true (hclear.symm.trans hset)
    exact leaves_of_effect rfl hs.1 (softStart_stays hnot) (.refl s)
  · exact leaves_of_effect rfl hs.1 (if_pos hramp) (((setBoost_steady s .running).wr (by decide) _).wr (by decide) _)
  · intro faulty
    have hsteady := vpanelShort_steady hon cut
    refine ⟨fun hidle => ?_, ?_⟩
    · have hcut : s.cutSlot (shortTicks cut) = s := cutSlot_idle (hidle.imp id fun h => by rw [h]; rfl)
      have hshort (latches : Bool) (hl : decide (retries = 3) = latches) :
          s.vpanelShort cut = s.shortEnds (decide (s.pnl.boost = .running)) latches := by rw [vpanelShort_on hon, hcut, ← hl]
      exact ⟨fun h => leaves_of_effect rfl hs.1 (hshort true (decide_eq_true h)) (shortEnds_steady s _ true),
        fun h => leaves_of_effect rfl hs.1 (hshort false (decide_eq_false h)) (shortEnds_steady s _ false)⟩
    · obtain ⟨hstopped, hdark, hset, hlater, hirq, hlatch, hboost, hcore, hpixel⟩ := vpanelShort_shows hon cut
      refine ⟨_, leaves_of_effect (f := fun s => s.vpanelShort cut) rfl hs.1 rfl hsteady, ?_⟩
      rw [settle_bit _ _ _ (by decide), settle_bit _ _ _ (by decide), settle_bit _ _ _ (by decide), settle_bit _ _ _ (by decide),
        settle_bit _ _ _ (by decide), settle_bit _ _ _ (by decide), settle_pnl, settle_core]
      refine ⟨hstopped, hdark, hset, hlater, hirq, hlatch, hboost, hcore, fun hrun hquiet hlt hrow ws hbuf => ?_⟩
      have hsettled (n : Nat) : (s.vpanelShort cut).settle.pixel n = (s.cutSlot (shortTicks cut)).pixel n :=
        (pixel_congr (by rw [settle_pnl]) (by rw [settle_pnl]) n).trans (hpixel n)
      change s.rowDriven _ _ (shortTicks cut) ws
      by_cases hticks : shortTicks cut = 0
      · rw [hticks] at hsettled ⊢
        exact rowDriven_zero _ ws fun n => (hsettled n).trans (by rw [cutSlot_idle (.inr rfl)])
      · rw [cutSlot_row hs hhmi hrun hticks hquiet (slotRow_row hlt hrow) hbuf] at hsettled
        exact rowDriven_of_pixels hsettled
  · exact leaves_of_effect rfl hs.1 (vpanelRetry_ramps hs hhmi hwait hask hlatch)
      (((Steady.refl s).wr (by decide) _).trans (setBoost_steady _ .ramp))
  · exact leaves_of_effect rfl hs.1 (if_pos hready) ((Steady.refl s).wr (by decide) _)
  · exact leaves_of_effect rfl hs.1 (if_neg (by rw [hready]; decide)) (.refl s)
  · intro cleared
    have hclear : cleared.bit Reg.PNL_FAULT 1 = false := latchCleared_latch hv
    have hsteady : Steady s cleared := latchCleared_steady s v
    have hagain := boostMay_iff_asked hs hhmi hsteady fun a ha => latchCleared_rd s v ha
    have hwrite : s.writeReg Reg.PNL_FAULT v wr = cleared.softStart := writePnlFault_clears hlatch hv
    have hup := (regUp_pnlFault s).trans hhmi
    refine ⟨hclear, fun hask => ?_, fun hno => ?_⟩
    · exact leaves_of_write rfl hs.1 hup (hwrite.trans (softStart_starts (hagain.2 ⟨hask, hclear⟩) hoff))
        (hsteady.trans (setBoost_steady _ .ramp))
    · exact leaves_of_write rfl hs.1 hup (hwrite.trans (softStart_stays fun h => hno (hagain.1 h).1)) hsteady

end Sys2Proof.Machine

/-!
The sleep family, the core's side: WFI goes on, or enters the level named for it.
-/
namespace Sys2Proof.Machine

/-! ## The boost and the watchdog at a change of level -/

/-- The boost that stops has its slot cut, and moves the panel, a free value and registers of the panel. -/
theorem boostStop_eq (s : State) : ∃ u, Ledgered s u ∧ (s.boostStop = u.boostOff ∨ s.boostStop = u.tickFree.boostOff) := by
  unfold State.boostStop
  split
  · exact ⟨_, (Ledgered.refl s).cutSlot _, .inr rfl⟩
  · exact ⟨s, .refl s, .inl rfl⟩

theorem boostStop_core (s : State) : s.boostStop.core = s.core := by
  obtain ⟨u, hu, h | h⟩ := boostStop_eq s <;> rw [h] <;> exact hu.core

theorem boostStop_pwr (s : State) : s.boostStop.pwr = s.pwr := by
  obtain ⟨u, hu, h | h⟩ := boostStop_eq s <;> rw [h] <;> exact hu.steady.pwr

/-- What the watchdog notes of a change of level: registers and the timebase. -/
theorem wdSync_eq (s old : State) : s.wdSync old = { s with regs := (s.wdSync old).regs, tmb := (s.wdSync old).tmb } := by
  unfold State.wdSync
  split
  · rfl
  · split <;> rfl

/-! ## WFI (R91 to R94, R567) -/

/-- WFI has its effect on the state after its fetch. -/
theorem exec_wfi {s : State} (hs : s.executes) : exec .wfi s = .next (opWfi s.fetch.s).settle :=
  congrArg Host.Outcome.next (runInstr_executes hs rfl)

/-- WFI that goes straight on (R92, R567). -/
theorem opWfi_goes {u : State} (h : u.hdp.stepping = true ∨ u.eligible.isSome = true) : opWfi u = u.advance :=
  if_pos (Bool.or_eq_true_iff.2 h)

section
variable {u : State} (hstep : u.hdp.stepping = false) (hnone : u.eligible = none)
include hstep hnone

/-- WFI in DOZE: from Tenant mode, while the debug port keeps power, and with LEVEL 0 (R93). -/
theorem opWfi_doze (h : u.tenantMode = true ∨ u.bit Reg.HDP_PWR 1 = true ∨ u.f Reg.SDL_CFG 0 2 = 0) :
    opWfi u = u.advance.doze := by
  rcases h with h | h | h
  · simp [opWfi, hstep, hnone, h]
  · simp [opWfi, hstep, hnone, h]
  · simp [opWfi, hstep, hnone, h]

variable (hwarden : u.tenantMode = false) (hport : u.bit Reg.HDP_PWR 1 = false)
include hwarden hport

theorem opWfi_nap (h : u.f Reg.SDL_CFG 0 2 = 1) : opWfi u = u.nap := by simp [opWfi, hstep, hnone, hwarden, hport, h]

/-- LEVEL 2 and 3 begin a deep entry (R96). -/
theorem opWfi_deep (h : 2 ≤ u.f Reg.SDL_CFG 0 2) :
    opWfi u = u.deepEntry (if u.f Reg.SDL_CFG 0 2 = 2 then .hibernate else .shelf) := by
  have hlt : u.f Reg.SDL_CFG 0 2 < 4 := fld_lt _ _ _
  obtain h | h : u.f Reg.SDL_CFG 0 2 = 2 ∨ u.f Reg.SDL_CFG 0 2 = 3 := by omega
  · simp [opWfi, hstep, hnone, hwarden, hport, h]
  · simp [opWfi, hstep, hnone, hwarden, hport, h]

end

/-- No store is left to drain. -/
theorem drainAll_empty {s : State} (h : s.core.buf = []) : s.drainAll = s := by simp [State.drainAll, State.drainFor, h]

/-- NAP with no store left (R94). -/
theorem nap_drained {u : State} (h : u.core.buf = []) :
    let t := (u.advance.setDom .core .retention).setLevel .nap
    u.nap = { t with core := { t.core with asleep := true } } := by
  rw [State.nap, drainAll_empty h, h]
  rfl

/-- A deep entry leaves the core asleep, and its level is the target (Table 04.3). -/
theorem deepEntry_begins (s : State) (l : Level) :
    (s.deepEntry l).core.asleep = true ∧ (s.deepEntry l).pwr.entry = some l := by
  rw [State.deepEntry, wdSync_eq]
  simp only [boostStop_core, boostStop_pwr]
  exact ⟨rfl, rfl⟩

/-- Settles O17: the fetch leaves the mode, the buffer and the debug step as they were; WFI then takes one of its five ways, each
said by its lemma above. That an interrupt is eligible whatever IE and EXL is the model's choice (R92, log 57). -/
theorem waitForInterrupt : Obligations.WaitForInterrupt := by
  unfold Obligations.WaitForInterrupt
  intro s hs u quiet asleep
  have hwfi := exec_wfi hs
  have hstepping : u.hdp.stepping = s.hdp.stepping := by rw [fetch_hdp]
  have hmode : u.tenantMode = s.tenantMode := fetch_tenantMode s
  refine ⟨fun hgo => ?_, fun ⟨hstep, hnone⟩ hlight => ?_, fun ⟨hstep, hnone⟩ hwarden hport hnap hbuf => ?_,
    fun ⟨hstep, hnone⟩ hwarden hport hdeep => ?_⟩
  · refine ⟨_, hwfi, ?_⟩
    rw [opWfi_goes (hgo.imp hstepping.trans id)]
    exact executed_core s Core.next s.core.next (by rw [fetch_core]; rfl)
  · rw [hwfi, opWfi_doze (hstepping.trans hstep) hnone (hlight.imp hmode.trans id)]
    rfl
  · rw [hwfi, opWfi_nap (hstepping.trans hstep) hnone (hmode.trans hwarden) hport hnap,
      nap_drained ((fetch_buf s).trans hbuf)]
  · obtain ⟨hasleep, hentry⟩ := deepEntry_begins u (if u.f Reg.SDL_CFG 0 2 = 2 then .hibernate else .shelf)
    refine ⟨_, hwfi, ?_⟩
    rw [opWfi_deep (hstepping.trans hstep) hnone (hmode.trans hwarden) hport hdeep, settle_core, settle_pwr]
    exact ⟨hasleep, hentry⟩

end Sys2Proof.Machine

/-!
The sleep family, the sequencer's side: domains, levels, deep entries, the staggered start and wake events. What sleeping leaves
where it is comes first: every block that a domain takes down or brings up lies apart from the sequencer, so that each command
is read off the few rules that move the sequencer itself.
-/
namespace Sys2Proof.Machine

/-! ## What lies apart from the sequencer -/

/-- Registers of the resets and of the domain sequencer (pages 0x20001 and 0x20002), and LCS_BOOT. -/
abbrev sequencerReg (a : Nat) : Prop := 0x20001000 ≤ a ∧ a < 0x20003000 ∨ a = Reg.LCS_BOOT

/-- Two states with one PWR_DOMSTAT show the same domains. -/
theorem dom_congr {s t : State} (h : t.rd Reg.PWR_DOMSTAT = s.rd Reg.PWR_DOMSTAT) (d : Domain) : t.dom d = s.dom d := by
  have hfield : t.f Reg.PWR_DOMSTAT (domShift d) 2 = s.f Reg.PWR_DOMSTAT (domShift d) 2 := congrArg (fld · _ _) h
  rw [State.dom, hfield, State.dom]

/-- `t` is calm where `s` is, with the same Store, the same Saddle RAM and the same frames held. -/
structure Rested (s t : State) : Prop where
  pstate : t.hrv.pstate = s.hrv.pstate
  stalled : t.core.stalled = s.core.stalled
  held : t.bus.held = s.bus.held
  stepping : t.hdp.stepping = s.hdp.stepping
  boot : t.pwr.boot = s.pwr.boot
  lcsBoot : t.rd Reg.LCS_BOOT = s.rd Reg.LCS_BOOT
  store : t.store = s.store
  saddle : t.saddle = s.saddle
  frames : t.msr.held = s.msr.held

namespace Rested

variable {s t u : State}

theorem refl (s : State) : Rested s s := ⟨rfl, rfl, rfl, rfl, rfl, rfl, rfl, rfl, rfl⟩

theorem trans (h : Rested s t) (k : Rested t u) : Rested s u :=
  ⟨k.pstate.trans h.pstate, k.stalled.trans h.stalled, k.held.trans h.held, k.stepping.trans h.stepping, k.boot.trans h.boot,
    k.lcsBoot.trans h.lcsBoot, k.store.trans h.store, k.saddle.trans h.saddle, k.frames.trans h.frames⟩

theorem powered (h : Rested s t) : t.powered = s.powered := by simp only [State.powered, h.pstate]

theorem calm (h : Rested s t) (hs : s.calm) : t.calm := by
  obtain ⟨hpowered, hstalled, hheld, hstep, hboot, hstage⟩ := hs
  exact ⟨h.powered.trans hpowered, h.stalled.trans hstalled, h.held.trans hheld, h.stepping.trans hstep, h.boot.trans hboot,
    (congrArg (fld · 24 8) h.lcsBoot).trans hstage⟩

theorem wr (h : Rested s t) {a : Nat} (ha : Reg.LCS_BOOT ≠ a) (v : Word) : Rested s (t.wr a v) :=
  { h with lcsBoot := (State.rd_wr_ne t v ha).trans h.lcsBoot }

theorem ite (h : Rested s t) (k : Rested s u) {c : Prop} [Decidable c] : Rested s (if c then t else u) := by
  split
  · exact h
  · exact k

theorem setDom (h : Rested s t) (d : Domain) (x : DomState) : Rested s (t.setDom d x) := h.ite (h.wr (by decide) _)

/-- The sequencer moves, but not to or from the boot ROM. -/
theorem pwr (h : Rested s t) {p : Pwr} (hp : p.boot = t.pwr.boot) : Rested s { t with pwr := p } :=
  { h with boot := hp.trans h.boot }

theorem domResetEnds (h : Rested s t) (d : Domain) : Rested s (t.domResetEnds d) :=
  (((h.wr (by decide) _).wr (by decide) _).wr (a := Reg.PWR_DOMCTL) (by decide) _).ite h

theorem staggerEnds (h : Rested s t) : Rested s t.staggerEnds := by
  unfold State.staggerEnds
  split
  · exact h.pwr rfl
  · exact h

theorem powerUp (h : Rested s t) (d : Domain) : Rested s (t.powerUp d) := by
  unfold State.powerUp
  split
  · exact h
  · exact h.pwr rfl

end Rested

/-- `t` differs from `s` apart from the sequencer alone. -/
structure Apart (s t : State) : Prop extends Rested s t where
  pwr : t.pwr = s.pwr
  rd : ∀ a, sequencerReg a → t.rd a = s.rd a

/-- The command answers its effect, which leaves the part calm. -/
theorem exec_rested {c : Instr} {s t : State} {f : State → State} (hexec : exec c s = .next (s.cmd f)) (hs : s.calm)
    (hf : f s = t) (ht : Rested s t) : exec c s = .next t.settle := by
  subst hf
  rw [hexec, cmd_calm hs (ht.calm hs)]

namespace Apart

variable {s t u : State}

theorem refl (s : State) : Apart s s := ⟨.refl s, rfl, fun _ _ => rfl⟩

theorem trans (h : Apart s t) (k : Apart t u) : Apart s u :=
  ⟨h.toRested.trans k.toRested, k.pwr.trans h.pwr, fun a ha => (k.rd a ha).trans (h.rd a ha)⟩

theorem wr (h : Apart s t) {a : Nat} (ha : ¬sequencerReg a) (v : Word) : Apart s (t.wr a v) :=
  have hne {b : Nat} (hb : sequencerReg b) : b ≠ a := fun e => ha (e ▸ hb)
  ⟨h.toRested.wr (hne (.inr rfl)) v, h.pwr, fun b hb => (State.rd_wr_ne t v (hne hb)).trans (h.rd b hb)⟩

theorem ite (h : Apart s t) (k : Apart s u) {c : Prop} [Decidable c] : Apart s (if c then t else u) := by
  split
  · exact h
  · exact k

/-- Steps over a list. -/
theorem foldl {α : Type} {f : State → α → State} (h : Apart s t) (l : List α) (hf : ∀ u : State, ∀ x ∈ l, Apart u (f u x)) :
    Apart s (l.foldl f t) := by
  induction l generalizing t with
  | nil => exact h
  | cons x l ih =>
    exact ih (h.trans (hf t x List.mem_cons_self)) fun u y hy => hf u y (List.mem_cons_of_mem x hy)

/-! What the blocks hold. -/

theorem saf (h : Apart s t) (x : Saf) : Apart s { t with saf := x } := { h with }
theorem lcs (h : Apart s t) (x : Lcs) : Apart s { t with lcs := x } := { h with }
theorem lnk (h : Apart s t) (x : Lnk) : Apart s { t with lnk := x } := { h with }
theorem stc (h : Apart s t) (x : Stc) : Apart s { t with stc := x } := { h with }
theorem pnl (h : Apart s t) (x : Pnl) : Apart s { t with pnl := x } := { h with }
theorem tch (h : Apart s t) (x : Tch) : Apart s { t with tch := x } := { h with }
theorem dma (h : Apart s t) (x : Dma) : Apart s { t with dma := x } := { h with }
theorem dgs (h : Apart s t) (x : Dgs) : Apart s { t with dgs := x } := { h with }
theorem tmb (h : Apart s t) (x : Tmb) : Apart s { t with tmb := x } := { h with }
theorem tickFree (h : Apart s t) : Apart s t.tickFree := { h with }

/-- The power path holds `x`, in the state it was in. -/
theorem hrv (h : Apart s t) {x : Hrv} (hx : x.pstate = t.hrv.pstate) : Apart s { t with hrv := x } :=
  { h with pstate := hx.trans h.pstate }

/-- Of the core anything but what it waits with. -/
theorem core (h : Apart s t) {c : Core} (hc : c.stalled = t.core.stalled) : Apart s { t with core := c } :=
  { h with stalled := hc.trans h.stalled }

/-- Of the measurement subsystem anything but the frames held. -/
theorem msr (h : Apart s t) {x : Msr} (hx : x.held = t.msr.held) : Apart s { t with msr := x } :=
  { h with frames := hx.trans h.frames }

/-! What the sequencer shows of itself. -/

theorem dom (h : Apart s t) (d : Domain) : t.dom d = s.dom d := dom_congr (h.rd _ (by decide)) d

theorem domctl (h : Apart s t) (d : Domain) : t.domctl d = s.domctl d := congrArg (wbit · _) (h.rd _ (by decide))

theorem safReady (h : Apart s t) : t.safReady = s.safReady := by
  have hreset : t.bit Reg.RST_STAT (domBit .meas) = s.bit Reg.RST_STAT (domBit .meas) :=
    congrArg (wbit · _) (h.rd _ (by decide))
  simp only [State.safReady, State.measFirst, State.domOn, h.powered, h.dom, h.pwr, hreset]

/-! ## The safety block's outputs -/

theorem safOut (h : Apart s t) : Apart s t.safOut := (h.wr (by decide) _).saf _

/-! ## HMI: the touch keys and the panel (R455, R471) -/

theorem ledgered (h : Apart s t) (k : Ledgered t u) : Apart s u := by
  refine h.trans ?_
  obtain ⟨⟨r, l, rfl⟩, hrd⟩ := k
  have hkept {a : Nat} (ha : sequencerReg a) : State.rd { t with regs := r, pnl := { t.pnl with ledger := l } } a = t.rd a :=
    hrd a (fun e => absurd (e ▸ ha) (by decide)) fun e => absurd (e ▸ ha) (by decide)
  exact ⟨⟨rfl, rfl, rfl, rfl, rfl, hkept (.inr rfl), rfl, rfl, rfl⟩, rfl, fun _ => hkept⟩

theorem boostOff (h : Apart s t) : Apart s t.boostOff := ((h.pnl _).wr (by decide) _).wr (by decide) _

theorem boostStop (h : Apart s t) : Apart s t.boostStop := by
  obtain ⟨u, hu, hstop | hstop⟩ := boostStop_eq t <;> rw [hstop]
  · exact (h.ledgered hu).boostOff
  · exact (h.ledgered hu).tickFree.boostOff

theorem panelOff (h : Apart s t) : Apart s t.panelOff := h.boostStop.pnl _

/-! ## LINK (R503, R531) -/

theorem setOwner (h : Apart s t) (o : Owner) : Apart s (t.setOwner o) := h.ite ((h.wr (a := Reg.LNK_STAT) (by decide) _).lnk _)

theorem linkOff (h : Apart s t) : Apart s t.linkOff :=
  have hstopped : Apart s (t.clrBit Reg.LNK_STAT 0) := h.wr (by decide) _
  (hstopped.setOwner _).ite hstopped

/-! ## SEC: the flip of a bank swap (R318, R325) -/

theorem stcPhase (h : Apart s t) (p : Nat) : Apart s (t.stcPhase p) := (h.wr (by decide) _).wr (by decide) _

theorem stcNewLog (h : Apart s t) : Apart s t.stcNewLog :=
  ((h.foldl (List.range 8) fun u i hi => (Apart.refl u).wr (by
    have := List.mem_range.1 hi
    simp only [sequencerReg, Reg.STC_FAIL, Reg.LCS_BOOT]; omega) _).stc _).wr (by decide) _

theorem clearResv (h : Apart s t) (n : Nat) : Apart s (t.clearResv n) := by
  unfold State.clearResv
  split
  · split
    · exact h.core rfl
    · exact h
  · exact h

theorem flip (h : Apart s t) {n : Nat} (hn : n < 16) : Apart s (t.flip n) := by
  have hmap : ¬sequencerReg (Reg.STC_MAP (n / 4)) := by simp only [sequencerReg, Reg.STC_MAP, Reg.LCS_BOOT]; omega
  exact (((h.wr hmap _).wr (by decide) _).wr (by decide) _).clearResv n

theorem flipNow (h : Apart s t) : Apart s t.flipNow := by
  have hbank : t.swapBank < 16 := fld_lt _ _ _
  have hout : Apart s t.flipOut := ((h.flip hbank).wr (by decide) _).stc _
  have hback : Apart s t.flipBack := ((h.flip hbank).wr (a := Reg.STC_MAPSTAT) (by decide) _).stc _
  have hended : Apart s t.flipBack.stcIdle := (hback.stcPhase 0).wr (by decide) _
  exact ((hout.stcNewLog.wr (a := Reg.STC_STAT) (by decide) _).stcPhase 6).ite (hended.ite h)

/-! ## MEAS (R401, R406, R409) -/

theorem invalidate (h : Apart s t) : Apart s t.invalidate := h.msr rfl

theorem tapUpdate (h : Apart s t) : Apart s t.tapUpdate := h.msr rfl

theorem refUpdate (h : Apart s t) : Apart s t.refUpdate := (h.wr (a := Reg.MSR_STAT) (by decide) _).invalidate.ite h

theorem msrOff (h : Apart s t) : Apart s t.msrOff := by
  unfold State.msrOff
  extract_lets chs _ dropped
  have hdropped : Apart s dropped := h.msr rfl
  exact hdropped.invalidate.tapUpdate.refUpdate

theorem sentinelStart (h : Apart s t) : Apart s t.sentinelStart := h.msr rfl

/-! ## SYS and SEC as they come up (R90, R104, R268, R371) -/

theorem hfoRestart (h : Apart s t) : Apart s t.hfoRestart :=
  ((((h.wr (a := Reg.CLK_STAT) (by decide) _).wr (by decide) _).wr (by decide) _).tmb _).ite h

theorem dmaResume (h : Apart s t) {n : Nat} (hn : n < 8) : Apart s (t.dmaResume n) := by
  have hstat : ¬sequencerReg (Reg.DMA_CHSTAT n) := by simp only [sequencerReg, Reg.DMA_CHSTAT, Reg.LCS_BOOT]; omega
  unfold State.dmaResume
  extract_lets _ u
  have hu : Apart s u := (h.dma _).ite h
  exact (hu.wr hstat _).ite hu

theorem dmaResumeAll (h : Apart s t) : Apart s t.dmaResumeAll :=
  h.foldl _ fun u _ hn => (Apart.refl u).dmaResume (List.mem_range.1 hn)

theorem gpioLoad (h : Apart s t) : Apart s t.gpioLoad := h.wr (by decide) _

theorem tenMark (h : Apart s t) : Apart s t.tenMark := (h.lnk _).wr (by decide) _

end Apart

/-! ## The safety block as it comes up (R409, R418, R419, R621) -/

theorem sgrp?_lt {s : State} {n g : Nat} (h : s.sgrp? n = some g) : g < 16 := by
  unfold State.sgrp? at h
  split at h
  · cases h
    exact fld_lt _ _ _
  · cases h

/-- The group of a fault is one of the sixteen. -/
theorem faultGroup_lt {s : State} {fw : Word} {g : Nat} (h : s.faultGroup fw = some g) : g < 16 := by
  unfold State.faultGroup at h
  split at h
  · exact sgrp?_lt h
  · exact sgrp?_lt h
  · exact sgrp?_lt h
  · cases h
    exact fld_lt _ _ _
  · cases h

/-- `t` follows reports of faults from `s`: a safe state that was latched stays. -/
structure Reported (s t : State) : Prop extends Apart s t where
  latch : s.bit Reg.SAF_STAT 0 = true → t.bit Reg.SAF_STAT 0 = true

namespace Reported

variable {s t u : State}

theorem refl (s : State) : Reported s s := ⟨.refl s, id⟩

theorem trans (h : Reported s t) (k : Reported t u) : Reported s u := ⟨h.toApart.trans k.toApart, k.latch ∘ h.latch⟩

theorem ite (h : Reported s t) (k : Reported s u) {c : Prop} [Decidable c] : Reported s (if c then t else u) := by
  split
  · exact h
  · exact k

/-- Steps over a list. -/
theorem foldl {α : Type} {f : State → α → State} (h : Reported s t) (l : List α)
    (hf : ∀ u : State, ∀ x ∈ l, Reported u (f u x)) : Reported s (l.foldl f t) := by
  induction l generalizing t with
  | nil => exact h
  | cons x l ih =>
    exact ih (h.trans (hf t x List.mem_cons_self)) fun u y hy => hf u y (List.mem_cons_of_mem x hy)

theorem wr (h : Reported s t) {a : Nat} (ha : ¬sequencerReg a ∧ Reg.SAF_STAT ≠ a) (v : Word) : Reported s (t.wr a v) :=
  ⟨h.toApart.wr ha.1 v, fun hs => (congrArg (wbit · 0) (State.rd_wr_ne t v ha.2)).trans (h.latch hs)⟩

/-- Of SAF_STAT anything but SAFE. -/
theorem stat (h : Reported s t) {lo : Nat} (hlo : 0 < lo) (n v : Nat) : Reported s (t.setF Reg.SAF_STAT lo n v) := by
  refine ⟨h.toApart.wr (by decide) _, fun hs => ?_⟩
  rw [State.bit, State.rd_setF, if_pos rfl, wbit_setFld_ne _ _ _ _ _ (.inl hlo)]
  exact h.latch hs

/-- SAFE is latched. -/
theorem safe (h : Reported s t) : Reported s (t.setBit Reg.SAF_STAT 0) := by
  refine ⟨h.toApart.wr (by decide) _, fun _ => ?_⟩
  rw [State.bit, State.rd_setBit, if_pos rfl, wbit_wputBit_self _ _ _ (by decide)]

theorem saf (h : Reported s t) (x : Saf) : Reported s { t with saf := x } := ⟨h.toApart.saf x, h.latch⟩
theorem lcs (h : Reported s t) (x : Lcs) : Reported s { t with lcs := x } := ⟨h.toApart.lcs x, h.latch⟩
theorem lnk (h : Reported s t) (x : Lnk) : Reported s { t with lnk := x } := ⟨h.toApart.lnk x, h.latch⟩

/-- A safety NMI is raised. -/
theorem nmi (h : Reported s t) : Reported s { t with core := { t.core with nmi := true } } := ⟨h.toApart.core rfl, h.latch⟩

theorem safCond (h : Reported s t) : Reported s t.safCond := h.stat (by decide) _ _

theorem safOut (h : Reported s t) : Reported s t.safOut := (h.wr (by decide) _).saf _

theorem clearReq (h : Reported s t) (m : Word) : Reported s (t.clearReq m) := (h.wr (by decide) _).safOut

theorem trigger (h : Reported s t) (c : ResetCause) : Reported s (t.trigger c) := h.ite (h.lcs _)

theorem queueHeartbeat (h : Reported s t) (extra : Bool) : Reported s (t.queueHeartbeat extra) := (h.lnk _).ite h

theorem safNote (h : Reported s t) (fw : Word) : Reported s (t.safNote fw) := (h.wr (by decide) _).wr (by decide) _

theorem safCapture (h : Reported s t) (fw : Word) (aid : Nat) : Reported s (t.safCapture fw aid) := by
  have hcapture : Reported s ((((t.wr Reg.SAF_FW fw).wr Reg.SAF_FCYC (t.rd Reg.TMB_CYCCNT)).wr Reg.SAF_FRTC (t.rd Reg.RTC_SEC)).wr
      Reg.SAF_FINFO (word (0x80000000 + aid % 2048))) :=
    (((h.wr (by decide) _).wr (by decide) _).wr (by decide) _).wr (by decide) _
  exact (((h.ite (hcapture.saf _)).wr (by decide) _).saf _).ite (h.ite (hcapture.saf _))

/-- A SAFE fault latches SAFE first (R419). -/
theorem safSafe_latched (s : State) (fw : Word) (aid : Nat) (nmi : Bool) :
    Reported (s.setBit Reg.SAF_STAT 0) (s.safSafe fw aid nmi) := by
  unfold State.safSafe
  extract_lets entry latched acked captured _ raised _ _ timed
  have hlatched : Reported (s.setBit Reg.SAF_STAT 0) latched := (refl _).stat (by decide) _ _
  have hacked : Reported _ acked := (hlatched.stat (by decide) 1 _).ite hlatched
  have hcaptured : Reported _ captured := ((hacked.safCapture fw aid).wr (by decide) _).clearReq _
  have hraised : Reported _ raised := hcaptured.nmi.ite hcaptured
  have htimed : Reported _ timed := hraised.ite ((hraised.stat (by decide) 1 _).saf _)
  exact (htimed.safCond.queueHeartbeat true).ite htimed.safCond

theorem safSafe (h : Reported s t) (fw : Word) (aid : Nat) (nmi : Bool) : Reported s (t.safSafe fw aid nmi) :=
  h.safe.trans (safSafe_latched t fw aid nmi)

theorem safGroup (h : Reported s t) {g : Nat} (hg : g < 16) (fw : Word) : Reported s (t.safGroup g fw) := by
  have hgfw : ¬sequencerReg (Reg.SAF_GFW g) ∧ Reg.SAF_STAT ≠ Reg.SAF_GFW g := by
    simp only [sequencerReg, Reg.SAF_GFW, Reg.LCS_BOOT, Reg.SAF_STAT]; omega
  exact (((h.ite (h.wr hgfw _)).wr (by decide) _).wr (by decide) _).clearReq _

theorem safReport (h : Reported s t) (fw : Word) (aid : Nat) : Reported s (t.safReport fw aid) := by
  unfold State.safReport State.safReportIn
  split
  · exact h
  · split
    · have hsafe := h.safSafe fw aid false
      exact (hsafe.trigger _).ite ((hsafe.trigger _).lcs _)
    · split
      · exact h.safSafe fw aid true
      · split
        · next g hg => exact h.safGroup (faultGroup_lt hg) fw
        · exact h.safNote fw
      · exact h.safNote fw

end Reported

/-- DOMAIN and CODE of the SAFE-class conditions (Table 14.1). -/
abbrev safeClass : List (Nat × Nat) := [(1, 1), (1, 2), (2, 1), (2, 2), (2, 0x10), (6, 1), (11, 1), (11, 2), (11, 3)]

theorem eq_of_mem_ite {α : Type} {c : Prop} [Decidable c] {x y : α} (h : x ∈ if c then [y] else []) : x = y := by
  split at h
  · exact List.mem_singleton.1 h
  · cases h

/-- Every condition that holds is of that class (R423). -/
theorem safeConds_class {s : State} {fw : Word} (h : fw ∈ s.safeConds) : ∃ p ∈ safeClass, ∃ x, fw = faultWord p.1 p.2 x := by
  simp only [State.safeConds, List.mem_append, List.mem_map] at h
  rcases h with (((((((h | h) | h) | h) | h) | h) | ⟨n, -, h⟩) | h) | h
  · exact ⟨(1, 1), by decide, _, eq_of_mem_ite h⟩
  · exact ⟨(1, 2), by decide, _, eq_of_mem_ite h⟩
  · exact ⟨(2, 1), by decide, _, eq_of_mem_ite h⟩
  · exact ⟨(2, 2), by decide, _, eq_of_mem_ite h⟩
  · exact ⟨(2, 0x10), by decide, _, eq_of_mem_ite h⟩
  · exact ⟨(6, 1), by decide, _, eq_of_mem_ite h⟩
  · exact ⟨(11, 1), by decide, _, h.symm⟩
  · exact ⟨(11, 2), by decide, _, eq_of_mem_ite h⟩
  · exact ⟨(11, 3), by decide, _, eq_of_mem_ite h⟩

theorem faultWord_toNat (dom code detail : Nat) :
    (faultWord dom code detail).toNat = dom % 16 * 0x10000000 + code % 4096 * 0x10000 + detail % 65536 := by
  simp only [faultWord, word, BitVec.toNat_ofNat]
  omega

theorem faultWord_domain (dom code detail : Nat) : fld (faultWord dom code detail) 28 4 = dom % 16 := by
  rw [fld_eq_div_mod, faultWord_toNat]
  omega

theorem faultWord_code (dom code detail : Nat) : fld (faultWord dom code detail) 16 12 = code % 4096 := by
  rw [fld_eq_div_mod, faultWord_toNat]
  omega

/-- The action of a SAFE-class condition is SAFE, and its DOMAIN is not the core's (R419). -/
theorem faultAction_safe {s : State} {fw : Word} (h : fw ∈ s.safeConds) (u : State) : fld fw 28 4 ≠ 4 ∧ u.faultAction fw = 2 := by
  obtain ⟨p, hp, x, rfl⟩ := safeConds_class h
  rw [State.faultAction, faultWord_domain, faultWord_code]
  fin_cases hp <;> exact ⟨by decide, rfl⟩

/-- The report of a SAFE-class condition latches SAFE where the safety block is ON. -/
theorem safReport_latches {s u : State} {fw : Word} (h : fw ∈ s.safeConds) (hready : u.safReady = true) (aid : Nat) :
    (u.safReport fw aid).bit Reg.SAF_STAT 0 = true := by
  obtain ⟨hdomain, haction⟩ := faultAction_safe h u
  have hsafe : u.safReport fw aid = u.safSafe fw aid true := by
    simp [State.safReport, State.safReportIn, hready, haction, hdomain]
  rw [hsafe]
  refine (Reported.safSafe_latched u fw aid true).latch ?_
  rw [State.bit, State.rd_setBit, if_pos rfl, wbit_wputBit_self _ _ _ (by decide)]

theorem reportAll_reported (l : List Word) (s : State) :
    Reported s (l.foldl (fun s fw => s.safReport fw 0x7FF) s) :=
  (Reported.refl s).foldl l fun u fw _ => (Reported.refl u).safReport fw 0x7FF

/-- The reports of what holds latch SAFE. -/
theorem reportAll_latches {s : State} (hready : s.safReady = true) (hconds : s.safeConds ≠ []) :
    (s.safeConds.foldl (fun s fw => s.safReport fw 0x7FF) s).bit Reg.SAF_STAT 0 = true := by
  obtain ⟨fw, l, hl⟩ := List.exists_cons_of_ne_nil hconds
  have hmem : fw ∈ s.safeConds := by rw [hl]; exact List.mem_cons_self
  rw [hl]
  exact (reportAll_reported l _).latch (safReport_latches hmem hready 0x7FF)

/-- The safety block comes up: it notes a halt, reports the conditions that hold, and then the groups and the core's stop. -/
theorem safRestart_phases (s : State) : ∃ noted, Reported s noted ∧ (s.safeConds ≠ [] → noted.safeConds ≠ []) ∧
    Reported (noted.safeConds.foldl (fun s fw => s.safReport fw 0x7FF) noted) s.safRestart := by
  unfold State.safRestart
  extract_lets noted reported grouped stopped
  have hgrouped : Reported reported grouped :=
    (Reported.refl reported).foldl _ fun u g hg => ((Reported.refl u).safGroup (List.mem_range.1 hg) _).ite (.refl u)
  refine ⟨noted, ((Reported.refl s).stat (by decide) 1 1).ite (.refl s), fun hconds => ?_,
    ((hgrouped.safReport _ _).ite hgrouped).safOut⟩
  by_cases hhalt : (s.core.halted && s.saf.haltSeen) = true
  · have hbit : noted.bit Reg.SAF_STAT 4 = true := by
      simp only [noted, if_pos hhalt]
      rw [State.bit, State.rd_setBit, if_pos rfl, wbit_wputBit_self _ _ _ (by decide)]
    simp [State.safeConds, hbit]
  · simp only [noted, if_neg hhalt]
    exact hconds

theorem Reported.safRestart {s t : State} (h : Reported s t) : Reported s t.safRestart := by
  obtain ⟨noted, hnoted, -, hend⟩ := safRestart_phases t
  exact (h.trans hnoted).trans ((reportAll_reported _ noted).trans hend)

theorem safRestart_latches {s : State} (hready : s.safReady = true) (hconds : s.safeConds ≠ []) :
    s.safRestart.bit Reg.SAF_STAT 0 = true := by
  obtain ⟨noted, hnoted, hkept, hend⟩ := safRestart_phases s
  exact hend.latch (reportAll_latches (hnoted.safReady.trans hready) (hkept hconds))

/-! ## The state of a domain -/

theorem setDom_rd_ne (s : State) (d : Domain) (x : DomState) {a : Nat} (ha : a ≠ Reg.PWR_DOMSTAT) :
    (s.setDom d x).rd a = s.rd a := by
  unfold State.setDom
  split
  · rfl
  · exact State.rd_wr_ne s _ ha

theorem setDom_pwr (s : State) (d : Domain) (x : DomState) : (s.setDom d x).pwr = s.pwr := by
  unfold State.setDom
  split <;> rfl

theorem setDom_core (s : State) (d : Domain) (x : DomState) : (s.setDom d x).core = s.core := by
  unfold State.setDom
  split <;> rfl

/-- A domain other than SADDLE is in the state that was set. -/
theorem dom_setDom_self (s : State) {d : Domain} (hd : d ≠ .saddle) (x : DomState) : (s.setDom d x).dom d = x := by
  have hshift : domShift d + 2 ≤ 32 := by cases d <;> decide
  have hfield : (s.setDom d x).f Reg.PWR_DOMSTAT (domShift d) 2 = domCode x := by
    rw [State.setDom, if_neg hd, State.f, State.rd_setF, if_pos rfl, fld_setFld_self _ _ _ _ hshift]
    cases x <;> rfl
  rw [State.dom, if_neg hd, hfield]
  cases x <;> rfl

/-- The fields of two domains lie apart. -/
theorem domShift_apart {d e : Domain} (h : e ≠ d) : domShift e + 2 ≤ domShift d ∨ domShift d + 2 ≤ domShift e := by
  cases d <;> cases e <;> simp [domShift] at h ⊢

/-- Every other domain keeps its state. -/
theorem dom_setDom_ne (s : State) {d e : Domain} (h : e ≠ d) (x : DomState) : (s.setDom d x).dom e = s.dom e := by
  by_cases hd : d = .saddle
  · rw [State.setDom, if_pos hd]
  · have hfield : (s.setDom d x).f Reg.PWR_DOMSTAT (domShift e) 2 = s.f Reg.PWR_DOMSTAT (domShift e) 2 := by
      rw [State.setDom, if_neg hd, State.f, State.rd_setF, if_pos rfl, fld_setFld_ne _ _ _ _ _ _ (domShift_apart h), State.f]
    rw [State.dom, hfield, State.dom]

theorem settle_dom (s : State) (d : Domain) : s.settle.dom d = s.dom d := by
  rw [State.dom, settle_f _ _ _ _ (by decide), State.dom]

/-! ## Domains down and up (R105, R108, R109) -/

theorem flipNow_idle {s : State} (h5 : s.stcPh ≠ 5) (h10 : s.stcPh ≠ 10) : s.flipNow = s := by
  rw [State.flipNow, if_neg h5, if_neg h10]

theorem linkOff_core (s : State) : s.linkOff.core = s.core := by
  unfold State.linkOff State.setOwner
  extract_lets
  split
  · split <;> rfl
  · rfl

theorem msrOff_core (s : State) : s.msrOff.core = s.core := by
  unfold State.msrOff State.refUpdate
  extract_lets
  split <;> rfl

/-- Domain `d`, whose blocks have stopped, is in RETENTION. -/
def State.retained (s : State) (d : Domain) : State :=
  (if d = .meas then (s.setDom d .retention).msrOff else s.setDom d .retention).safOut

theorem retained_apart (s : State) (d : Domain) : Apart (s.setDom d .retention) (s.retained d) :=
  ((Apart.refl _).msrOff.ite (.refl _)).safOut

theorem retained_core (s : State) (d : Domain) : (s.retained d).core = s.core := by
  have hout (u : State) : u.safOut.core = u.core := rfl
  rw [State.retained, hout]
  split
  · rw [msrOff_core, setDom_core]
  · exact setDom_core s d _

/-- The blocks of a domain that goes down stop (R325, R455, R471, R531). -/
def State.blocksOff (s : State) (d : Domain) : State :=
  match d with
  | .hmi => s.touchDrop.panelOff
  | .link => s.linkOff
  | .sec => s.flipNow
  | _ => s

theorem domDown_eq (s : State) (d : Domain) : s.domDown d = (s.blocksOff d).retained d := by cases d <;> rfl

theorem blocksOff_apart (s : State) (d : Domain) : Apart s (s.blocksOff d) := by
  have hs : Apart s s := .refl s
  cases d
  case hmi => exact (hs.tch _).panelOff
  case link => exact hs.linkOff
  case sec => exact hs.flipNow
  all_goals exact hs

/-- The core sees of it a flip of the Stitch engine alone. -/
theorem blocksOff_core {s : State} (h5 : s.stcPh ≠ 5) (h10 : s.stcPh ≠ 10) (d : Domain) : (s.blocksOff d).core = s.core := by
  cases d
  case hmi =>
    have htouch : s.touchDrop.core = s.core := rfl
    have hpanel (u : State) : u.panelOff.core = u.boostStop.core := rfl
    change s.touchDrop.panelOff.core = s.core
    rw [hpanel, boostStop_core, htouch]
  case link => exact linkOff_core s
  case sec =>
    change s.flipNow.core = s.core
    rw [flipNow_idle h5 h10]
  all_goals rfl

theorem Rested.domDown {s t : State} (h : Rested s t) (d : Domain) : Rested s (t.domDown d) := by
  rw [domDown_eq]
  exact ((h.trans (blocksOff_apart t d).toRested).setDom d .retention).trans (retained_apart _ d).toRested

theorem domDown_dom (s : State) {d : Domain} (hd : d ≠ .saddle) : (s.domDown d).dom d = .retention := by
  rw [domDown_eq, (retained_apart _ d).dom, dom_setDom_self _ hd]

theorem domDown_core {s : State} (h5 : s.stcPh ≠ 5) (h10 : s.stcPh ≠ 10) (d : Domain) : (s.domDown d).core = s.core := by
  rw [domDown_eq, retained_core, blocksOff_core h5 h10]

/-- The end of a power-down: the domain is down, and powered again where it has been asked for meanwhile. -/
theorem downDone_eq {s : State} {d : Domain} (h : d ∈ s.pwr.pdown) :
    let down := s.domDown d
    let t : State := { down with pwr := { down.pwr with pdown := down.pwr.pdown.filter fun x => decide (x ≠ d) } }
    s.downDone d = t ∨ s.downDone d = t.powerUp d := by
  intro down t
  have hdone : s.downDone d = if t.domctl d || (t.bus.held.any fun h => decide (h.dom = d)) then t.powerUp d else t :=
    if_pos (List.contains_iff_mem.2 h)
  rw [hdone]
  split
  · exact .inr rfl
  · exact .inl rfl

/-- What powering a domain moves: the steps to begin. -/
theorem powerUp_eq (s : State) (d : Domain) : s.powerUp d = { s with pwr := { s.pwr with stagger := (s.powerUp d).pwr.stagger } } := by
  unfold State.powerUp
  split <;> rfl

/-- POWER_DOWN_DONE: the domain is in RETENTION and no longer in power-down. -/
theorem downDone_shows {s : State} {d : Domain} (h : d ∈ s.pwr.pdown) (hd : d ≠ .saddle) :
    Rested s (s.downDone d) ∧ (s.downDone d).dom d = .retention ∧ d ∉ (s.downDone d).pwr.pdown ∧
      (s.stcPh ≠ 5 → s.stcPh ≠ 10 → (s.downDone d).core = s.core) := by
  let down := s.domDown d
  let t : State := { down with pwr := { down.pwr with pdown := down.pwr.pdown.filter fun x => decide (x ≠ d) } }
  have ht : Rested s t := ((Rested.refl s).domDown d).pwr rfl
  have hdom : t.dom d = .retention := domDown_dom s hd
  have hout : d ∉ t.pwr.pdown := by simp [t]
  have hcore : s.stcPh ≠ 5 → s.stcPh ≠ 10 → t.core = s.core := fun h5 h10 => domDown_core h5 h10 d
  rcases downDone_eq h with hdone | hdone
  · rw [hdone]
    exact ⟨ht, hdom, hout, hcore⟩
  · have hrest := ht.powerUp d
    rw [hdone]
    rw [powerUp_eq] at hrest ⊢
    exact ⟨hrest, hdom, hout, hcore⟩

/-! ## Levels -/

theorem Apart.cmpSee {s t : State} (h : Apart s t) : Apart s t.cmpSee := by
  unfold State.cmpSee
  split
  · exact h.hrv rfl
  · exact h.hrv rfl

theorem Apart.wdSync {s t : State} (h : Apart s t) (old : State) : Apart s (t.wdSync old) := by
  have hopened : Apart s (t.setF Reg.BRT_CFG 8 4 0) := h.wr (by decide) _
  unfold State.wdSync
  split
  · exact hopened.tmb _
  · split
    · exact h.tmb _
    · exact h

/-- Beside the level, what another level changes lies apart from the sequencer. -/
theorem setLevel_apart (s : State) (l : Level) : Apart { s with pwr := { s.pwr with level := l } } (s.setLevel l) := by
  unfold State.setLevel
  extract_lets _ _ entered forgot _ tracked _ sampled
  have hentered : Apart entered entered := .refl entered
  have hforgot : Apart entered forgot := hentered.tmb _
  have htracked : Apart entered tracked := (hforgot.tmb _).ite (hforgot.ite hentered)
  have hsampled : Apart entered sampled := htracked.ite (htracked.hrv (x := { tracked.hrv with strobe := 0 }) rfl).cmpSee
  exact hsampled.wdSync _

theorem setLevel_pwr (s : State) (l : Level) : (s.setLevel l).pwr = { s.pwr with level := l } := (setLevel_apart s l).pwr

theorem Rested.setLevel {s t : State} (h : Rested s t) (l : Level) : Rested s (t.setLevel l) :=
  (h.pwr (p := { t.pwr with level := l }) rfl).trans (setLevel_apart t l).toRested

/-! ## A domain that becomes usable (R109) -/

/-- A record of the sequencer's is made before what lies apart from it, or after. -/
theorem Apart.setPwr {s t : State} (h : Apart s t) (p : Pwr) : Apart { s with pwr := p } { t with pwr := p } :=
  { h with pwr := rfl, boot := rfl }

theorem Apart.tenSecUsable {s t : State} (h : Apart s t) (hsec : t.domOn .sec = true) : Apart s t.tenSecUsable := by
  have hfreed : Apart s t.tenDigest := by
    rw [State.tenDigest, if_pos hsec]
    exact (h.dgs _).tenMark
  exact hfreed.ite h

/-- What a domain does as it becomes usable lies apart from the sequencer, of which it moves a record or the level. -/
theorem domUp_apart {s : State} {d : Domain} (hd : s.domOn d = true) :
    ∃ p : Pwr, p.boot = s.pwr.boot ∧ Apart { s with pwr := p } (s.domUp d) := by
  have hs : Apart s s := .refl s
  cases d
  case sys =>
    let u := s.hfoRestart.dmaResumeAll.gpioLoad
    have hu : Apart s u := hs.hfoRestart.dmaResumeAll.gpioLoad
    exact ⟨{ u.pwr with sysPowered := true }, hu.boot, hu.setPwr _⟩
  case core =>
    by_cases hboot : s.pwr.boot = true
    · exact ⟨s.pwr, rfl, by rw [State.domUp, if_pos hboot]; exact hs⟩
    · refine ⟨{ s.pwr with level := .run }, rfl, ?_⟩
      rw [State.domUp, if_neg hboot]
      exact (setLevel_apart s .run).core rfl
  case meas =>
    have hon : Reported s s.msrOn := ⟨hs.msr rfl, id⟩
    exact ⟨s.pwr, rfl, (hon.safRestart.ite hon).toApart⟩
  case hmi =>
    by_cases htouch : s.bit Reg.TCH_CTL 0 = true
    · refine ⟨{ s.pwr with wkScans := [], wkFalls := 0 }, rfl, ?_⟩
      rw [State.domUp, State.touchReturn, if_pos htouch]
      exact (Apart.refl _).tch _
    · refine ⟨s.pwr, rfl, ?_⟩
      rw [State.domUp, State.touchReturn, if_neg htouch]
      exact hs.tch _
  case sec => exact ⟨s.pwr, rfl, hs.tenSecUsable hd⟩
  case store => exact ⟨s.pwr, rfl, hs.stc _⟩
  case link => exact ⟨s.pwr, rfl, hs⟩
  case saddle => exact ⟨s.pwr, rfl, hs⟩

theorem domResetEnds_dom (s : State) (d e : Domain) : (s.domResetEnds d).dom e = s.dom e := by
  unfold State.domResetEnds
  split
  · refine dom_congr ?_ e
    rw [State.rd_setBit, if_neg (by decide), State.rd_setBit, if_neg (by decide), State.rd_clrBit, if_neg (by decide)]
  · rfl

/-- A domain that is wanted is wanted once its reset has ended (R122). -/
theorem domResetEnds_domctl {s : State} {d : Domain} (h : s.domctl d = true) : (s.domResetEnds d).domctl d = true := by
  have hbit : domBit d < 32 := by cases d <;> decide
  unfold State.domResetEnds
  split
  · rw [State.domctl, State.bit, State.rd_setBit, if_pos rfl, wbit_wputBit_self _ _ _ hbit]
  · exact h

theorem staggerEnds_dom (s : State) (d : Domain) : s.staggerEnds.dom d = s.dom d := by
  unfold State.staggerEnds
  split <;> rfl

/-- Where no request waits, none is served. -/
theorem serveHeld_empty {s : State} (h : s.bus.held = []) : s.serveHeld = s := by
  simp [State.serveHeld, h, State.serveWaits]

/-- A domain that PWR_DOMCTL wants, or that it does not hold, stays up. -/
theorem downAgain_wanted {s : State} {d : Domain} (h : s.domctl d = true ∨ 4 ≤ domBit d) : s.downAgain d = s := by
  refine if_neg ?_
  rcases h with h | h
  · simp [h]
  · simp [h]

/-- DOMAIN_USABLE where no request waits for the domain. -/
theorem domUsable_shows {s : State} {d : Domain} (hmay : s.mayUse d = true) (hheld : s.bus.held = [])
    (hwanted : s.domctl d = true ∨ 4 ≤ domBit d) : Rested s (s.domUsable d) ∧ (s.domUsable d).dom d = .on := by
  let on := s.setDom d .on
  let up := (on.domUp d).domResetEnds d
  have hd : d ≠ .saddle := by
    rintro rfl
    simp [State.mayUse, State.dom] at hmay
  have hon : on.dom d = .on := dom_setDom_self s hd _
  obtain ⟨p, hp, hup⟩ := domUp_apart (s := on) (d := d) (decide_eq_true hon)
  have hrested : Rested s up := ((((Rested.refl s).setDom d .on).pwr hp).trans hup.toRested).domResetEnds d
  have hdom : up.dom d = .on := (domResetEnds_dom _ d d).trans ((hup.dom d).trans hon)
  have hctl (h : s.domctl d = true) : up.domctl d = true :=
    domResetEnds_domctl ((hup.domctl d).trans ((congrArg (wbit · _) (setDom_rd_ne s d _ (by decide))).trans h))
  have husable : s.domUsable d = up.staggerEnds := by
    have hdone : s.domUsable d = (up.serveHeld.downAgain d).staggerEnds := if_pos hmay
    rw [hdone, serveHeld_empty (hrested.held.trans hheld), downAgain_wanted (hwanted.imp hctl id)]
  rw [husable, staggerEnds_dom]
  exact ⟨hrested.staggerEnds, hdom⟩

/-! ## The frames held, as a deep entry ends (R399) -/

/-- `t` differs from `s` in Saddle RAM and apart from the sequencer. -/
def Published (s t : State) : Prop := ∃ m, Apart { s with saddle := m } t

namespace Published

variable {s t u : State}

theorem refl (s : State) : Published s s := ⟨s.saddle, .refl s⟩

theorem apart (h : Published s t) (k : Apart t u) : Published s u :=
  let ⟨m, hm⟩ := h
  ⟨m, hm.trans k⟩

theorem putSaddle (h : Published s t) (m : Mem) : Published s { t with saddle := m } :=
  let ⟨_, hm⟩ := h
  ⟨m, { hm with saddle := rfl }⟩

theorem trans (h : Published s t) (k : Published t u) : Published s u :=
  let ⟨m, hm⟩ := k
  let ⟨n, hn⟩ := h.putSaddle m
  ⟨n, hn.trans hm⟩

theorem frames (h : Published s t) : t.msr.held = s.msr.held :=
  let ⟨_, hm⟩ := h
  hm.frames

end Published

theorem Apart.frameLost {s t : State} (h : Apart s t) (saddle : Bool) : Apart s (t.frameLost saddle) := by
  unfold State.frameLost
  split
  · exact (h.wr (a := Reg.MSR_HRINGCNT) (by decide) _).msr rfl
  · exact (h.wr (a := Reg.MSR_RINGSTAT) (by decide) _).msr rfl

theorem Apart.msrIrq {s t : State} (h : Apart s t) (m : Word) : Apart s (t.msrIrq m) := h.wr (by decide) _

theorem Apart.ringTake {s t u : State} (h : Apart s t) (hu : t.ringTake t.saddleRing = some u) : Apart s u := by
  have hcnt : ¬sequencerReg Reg.MSR_HRINGCNT := by decide
  have hidx : ¬sequencerReg Reg.MSR_HRINGIDX := by decide
  unfold State.ringTake at hu
  extract_lets c counted at hu
  split at hu
  · exact Option.some.inj hu ▸ h
  · split at hu
    · cases hu
    · exact Option.some.inj hu ▸ ((h.wr hcnt _).wr hidx _).wr hcnt _

theorem saddleWriteWord_published (s : State) (w aid : Nat) (bs : List (Option Byte)) :
    Published s (s.saddleWriteWord w aid bs) := by
  have hread : Apart s (s.saddleWord w aid).s := by
    unfold State.saddleWord
    extract_lets
    split
    · exact .refl s
    · exact .refl s
    · exact ((Reported.refl s).safReport _ _).toApart
  unfold State.saddleWriteWord
  extract_lets
  split
  · exact (Published.refl s).putSaddle _
  · split
    · exact .refl s
    · split
      · exact (Published.refl s).apart hread
      · exact ((Published.refl s).apart hread).putSaddle _

theorem saddleWrite_published (s : State) (a aid : Nat) (bs : List Byte) : Published s (s.saddleWrite a aid bs) := by
  have hwords (ws : List Nat) (t : State) :
      Published t (ws.foldl (fun u w => u.saddleWriteWord w aid (lanes w a bs)) t) := by
    induction ws generalizing t with
    | nil => exact .refl t
    | cons w ws ih => exact (saddleWriteWord_published t w aid _).trans (ih _)
  exact hwords _ s

theorem publishSaddle_published (s : State) (f : List Word) : Published s (s.publishSaddle f) := by
  have hs : Apart s s := .refl s
  have hcnt : ¬sequencerReg Reg.MSR_HRINGCNT := by decide
  have hidx : ¬sequencerReg Reg.MSR_HRINGIDX := by decide
  unfold State.publishSaddle
  split
  · exact (Published.refl s).apart ((hs.frameLost _).msrIrq _)
  · split
    · exact (Published.refl s).apart ((hs.frameLost _).msrIrq _)
    · next t ht =>
      extract_lets g off written _ cleared
      have hwritten : Published s (t.saddleWrite off 0x401 (frameBytes g)) :=
        ((Published.refl s).apart (hs.ringTake ht)).trans (saddleWrite_published ..)
      refine hwritten.apart ?_
      have hcleared : Apart (t.saddleWrite off 0x401 (frameBytes g)) cleared := (((Apart.refl _).wr hidx _).wr hcnt _).msr rfl
      exact ((hcleared.msrIrq _).msrIrq _).ite (hcleared.msrIrq _)

/-- Where no frame is held, none is written. -/
theorem publishHeld_none {s : State} (h : s.msr.held = []) : s.publishHeld = s := by rw [State.publishHeld, h, List.foldl_nil]

/-- Every frame held is written or lost: none is held then. -/
theorem publishHeld_empties (s : State) :
    (∃ x : Msr, Published { s with msr := x } s.publishHeld) ∧ s.publishHeld.msr.held = [] := by
  have hall (l : List (List Word)) (t : State) (ht : t.msr.held = l) (hst : ∃ x : Msr, Published { s with msr := x } t) :
      let u := l.foldl (fun u f => u.dropHeld.publishSaddle f) t
      (∃ x : Msr, Published { s with msr := x } u) ∧ u.msr.held = [] := by
    induction l generalizing t with
    | nil => exact ⟨hst, ht⟩
    | cons f l ih =>
      have hnext : Published t.dropHeld (t.dropHeld.publishSaddle f) := publishSaddle_published t.dropHeld f
      refine ih (t.dropHeld.publishSaddle f) ?_ ?_
      · rw [hnext.frames]
        simp [State.dropHeld, ht]
      · obtain ⟨x, m, hx⟩ := hst
        have hdrop : Apart { s with msr := t.dropHeld.msr, saddle := m } t.dropHeld := { hx with frames := rfl }
        exact ⟨t.dropHeld.msr, Published.trans ⟨m, hdrop⟩ hnext⟩
  exact hall s.msr.held s rfl ⟨s.msr, .refl s⟩

/-! ## A deep entry whose transactions have ended (R96) -/

theorem Rested.retainAll {s t : State} (h : Rested s t) (l : Level) : Rested s (t.retainAll l) := by
  have hall (ds : List Domain) (u : State) (hu : Rested s u) :
      Rested s (ds.foldl (fun u d => if d = .meas ∧ u.keepsMeas l = true then u else u.domDown d) u) := by
    induction ds generalizing u with
    | nil => exact hu
    | cons d ds ih => exact ih _ (hu.ite (hu.domDown d))
  exact hall _ t h

theorem Rested.measStays {s t : State} (h : Rested s t) : Rested s t.measStays := by
  unfold State.measStays
  extract_lets steps down
  split
  · exact (h.domDown .meas).pwr rfl
  · exact h.pwr rfl

/-- Steps 4 and 5 of a deep entry: the domains are down, and the level is the target. -/
def State.entryDown (s : State) (l : Level) : State :=
  let retained := s.retainAll l
  let kept := if s.keepsMeas l then retained.measStays else { retained with pwr := { retained.pwr with stagger := [] } }
  { kept with
    lnk := { kept.lnk with latched := s.heartbeatTail }
    stc := { kept.stc with storeMoved := true }
    pwr := { kept.pwr with entry := none, pdown := [], waking := false } }

theorem entryDown_rested (s : State) (l : Level) : Rested s (s.entryDown l) := by
  unfold State.entryDown
  extract_lets retained _ kept
  have hretained : Rested s retained := (Rested.refl s).retainAll l
  have hkept : Rested s kept := hretained.measStays.ite (hretained.pwr (p := { retained.pwr with stagger := [] }) rfl)
  exact { hkept with }

/-- DEEP_ENTRY_COMMIT with nothing outstanding: what follows the frames held lies apart from the sequencer. -/
theorem deepCommit_apart {s : State} {l : Level} (hentry : s.pwr.entry = some l) (hbuf : s.core.buf = [])
    (hquiet : s.entryQuiet = true) (h5 : s.stcPh ≠ 5) (h10 : s.stcPh ≠ 10) :
    Apart ((s.entryDown l).setLevel l).publishHeld s.deepCommit := by
  have hcommit : s.deepCommit =
      if s.drainAll.entryQuiet then
        let held := ((s.drainAll.flipNow.entryDown l).setLevel l).publishHeld
        let shelved := if l = .shelf then held.sentinelStart else held
        shelved.setOwner shelved.ownerDue
      else s.drainAll := by
    rw [State.deepCommit, hentry]
    rfl
  rw [hcommit, drainAll_empty hbuf, if_pos hquiet, flipNow_idle h5 h10]
  exact ((Apart.refl _).sentinelStart.ite (.refl _)).setOwner _

theorem deepCommit_shows {s : State} {l : Level} (hs : s.calm) (hentry : s.pwr.entry = some l) (hbuf : s.core.buf = [])
    (hquiet : s.entryQuiet = true) (h5 : s.stcPh ≠ 5) (h10 : s.stcPh ≠ 10) :
    let t := s.deepCommit
    t.calm ∧ t.pwr.level = l ∧ t.pwr.entry = none ∧ t.store = s.store ∧ t.msr.held = [] ∧
      (s.msr.held = [] → t.saddle = s.saddle) := by
  intro t
  let u := (s.entryDown l).setLevel l
  have hu : Rested s u := (entryDown_rested s l).setLevel l
  have hpwr : u.pwr = { (s.entryDown l).pwr with level := l } := setLevel_pwr _ l
  have ht : Apart u.publishHeld t := deepCommit_apart hentry hbuf hquiet h5 h10
  obtain ⟨⟨x, m, hx⟩, hempty⟩ := publishHeld_empties u
  have hpub : Apart { u with msr := x, saddle := m } t := hx.trans ht
  have hcalm : ({ u with msr := x, saddle := m } : State).calm := hu.calm hs
  refine ⟨hpub.calm hcalm, ?_, ?_, hpub.store.trans hu.store, ht.frames.trans hempty, fun hheld => ?_⟩
  · rw [hpub.pwr, hpwr]
  · rw [hpub.pwr, hpwr]
    rfl
  · rw [ht.saddle, publishHeld_none (hu.frames.trans hheld), hu.saddle]

theorem deepEntryCommit_shows {s : State} {l : Level} (hs : s.calm) (hentry : s.pwr.entry = some l) (hbuf : s.core.buf = [])
    (hnvm : s.bus.nvmQ = []) (hheld : s.bus.held = []) (hlcs : s.lcsBusy = false) (hkey : s.lcs.keyLoad = none)
    (h5 : s.stcPh ≠ 5) (h10 : s.stcPh ≠ 10) :
    ∃ t, exec .deepEntryCommit s = .next t ∧ t.pwr.level = l ∧ t.pwr.entry = none ∧ t.store = s.store ∧
      t.msr.held = [] ∧ (s.msr.held = [] → t.saddle = s.saddle) := by
  have hquiet : s.entryQuiet = true := by simp [State.entryQuiet, hbuf, hnvm, hheld, hlcs, hkey]
  obtain ⟨hcalm, hshows⟩ := deepCommit_shows hs hentry hbuf hquiet h5 h10
  refine ⟨s.deepCommit.settle, ?_, ?_⟩
  · have hexec : exec .deepEntryCommit s = .next (s.cmd State.deepCommit) := rfl
    rw [hexec, cmd_calm hs hcalm]
  · simpa only [settle_pwr, settle_store, settle_msr, settle_saddle] using hshows

/-! ## PWR_DOMCTL (R108, R110) -/

theorem leaves_rested {c : Instr} {s t : State} {f : State → State} (hexec : exec c s = .next (s.cmd f)) (hs : s.calm)
    (hf : f s = t) (ht : Rested s t) : Leaves c s t := exec_rested hexec hs hf ht

theorem writeReg_domctl (s : State) (v : Word) (wr : Writer) : s.writeReg Reg.PWR_DOMCTL v wr = s.writeDomctl v := rfl

/-- Where no output of the safety block is on, a write is taken. -/
theorem writeDomctl_taken {s : State} (h : s.outputsOn = 0) (v : Word) :
    let new := s.written Reg.PWR_DOMCTL v
    s.writeDomctl v = softDomains.foldl (fun u e => u.domctlBit (s.rd Reg.PWR_DOMCTL) new e) (s.wr Reg.PWR_DOMCTL new) :=
  if_neg (by simp [h])

/-- A domain of which the bit stays is left alone. -/
theorem domctlBit_same (u : State) {old new : Word} {e : Domain} (h : wbit new (domBit e) = wbit old (domBit e)) :
    u.domctlBit old new e = u := by
  simp [State.domctlBit, h]

/-- Of the steps over a list without repetition, of which one alone moves the state, that one is left. -/
theorem foldl_eq_single {α : Type} {f : State → α → State} {l : List α} {x : α} (hl : l.Nodup) (hx : x ∈ l)
    (hf : ∀ y ∈ l, y ≠ x → ∀ u, f u y = u) (t : State) : l.foldl f t = f t x := by
  obtain ⟨before, after, rfl⟩ := List.append_of_mem hx
  have hidle (ys : List α) (hys : ∀ y ∈ ys, ∀ u, f u y = u) (u : State) : ys.foldl f u = u := by
    induction ys generalizing u with
    | nil => rfl
    | cons y ys ih =>
      rw [List.foldl_cons, hys y List.mem_cons_self]
      exact ih (fun z hz => hys z (List.mem_cons_of_mem y hz)) u
  have hne : ∀ y, y ∈ before ∨ y ∈ after → y ≠ x := by
    rw [List.nodup_middle, List.nodup_cons, List.mem_append] at hl
    rintro y hy rfl
    exact hl.1 hy
  have hbefore : ∀ y ∈ before, ∀ u, f u y = u := fun y hy => hf y (by simp [hy]) (hne y (.inl hy))
  have hafter : ∀ y ∈ after, ∀ u, f u y = u := fun y hy => hf y (by simp [hy]) (hne y (.inr hy))
  rw [List.foldl_append, List.foldl_cons, hidle before hbefore, hidle after hafter]

/-- A write that changes the bit of one domain alone. -/
theorem writeDomctl_single {s : State} (hout : s.outputsOn = 0) {d : Domain} (hd : d ∈ softDomains) (v : Word) :
    let new := s.written Reg.PWR_DOMCTL v
    (∀ e ∈ softDomains, e ≠ d → new.getLsbD (domBit e) = s.bit Reg.PWR_DOMCTL (domBit e)) →
      s.writeDomctl v = (s.wr Reg.PWR_DOMCTL new).domctlBit (s.rd Reg.PWR_DOMCTL) new d := by
  intro new hsame
  rw [writeDomctl_taken hout]
  exact foldl_eq_single (by decide) hd (fun e he hne u => domctlBit_same u (hsame e he hne)) _

theorem dom_wr (s : State) {a : Nat} (ha : Reg.PWR_DOMSTAT ≠ a) (v : Word) (d : Domain) : (s.wr a v).dom d = s.dom d :=
  dom_congr (State.rd_wr_ne s v ha) d

theorem domctlBit_down {u : State} {old new : Word} {d : Domain} (hold : wbit old (domBit d) = true)
    (hnew : wbit new (domBit d) = false) (hon : u.dom d = .on) : u.domctlBit old new d = u.powerDown d := by
  simp [State.domctlBit, hold, hnew, State.domOn, hon]

theorem domctlBit_up {u : State} {old new : Word} {d : Domain} (hold : wbit old (domBit d) = false)
    (hnew : wbit new (domBit d) = true) (hret : u.dom d = .retention) (hpdown : d ∉ u.pwr.pdown)
    (hreset : u.bit Reg.RST_STAT (domBit d) = false) : u.domctlBit old new d = u.powerUp d := by
  simp [State.domctlBit, hold, hnew, hret, hpdown, State.inDomReset, hreset]

theorem powerDownStart_leaves {s : State} (hs : s.calm) {d : Domain} {v : Word} {wr : Writer} (hsys : s.domOn .sys = true)
    (hwrite : s.writeDomctl v =
      (s.wr Reg.PWR_DOMCTL (s.written Reg.PWR_DOMCTL v)).domctlBit (s.rd Reg.PWR_DOMCTL) (s.written Reg.PWR_DOMCTL v) d)
    (hnew : (s.written Reg.PWR_DOMCTL v).getLsbD (domBit d) = false) (hold : s.bit Reg.PWR_DOMCTL (domBit d) = true)
    (hon : s.domOn d = true) :
    let u := (s.wr Reg.PWR_DOMCTL (s.written Reg.PWR_DOMCTL v)).setDom d .transition
    Leaves (.powerDownStart v wr) s { u with pwr := { s.pwr with pdown := s.pwr.pdown ++ [d] } } := by
  intro u
  have hpwr : u.pwr = s.pwr := setDom_pwr _ d _
  have hdom : (s.wr Reg.PWR_DOMCTL (s.written Reg.PWR_DOMCTL v)).dom d = .on :=
    (dom_wr s (by decide) _ d).trans (of_decide_eq_true hon)
  have heffect : s.regRow Reg.PWR_DOMCTL v wr = { u with pwr := { s.pwr with pdown := s.pwr.pdown ++ [d] } } := by
    rw [regRow_up ((regUp_domctl s).trans hsys), writeReg_domctl, hwrite, domctlBit_down hold hnew hdom, ← hpwr]
    rfl
  have hu : Rested s u := ((Rested.refl s).wr (by decide) _).setDom d .transition
  exact leaves_rested rfl hs heffect (hu.pwr (congrArg Pwr.boot hpwr).symm)

theorem pwrDomctlSet_leaves {s : State} (hs : s.calm) {d : Domain} {v : Word} {wr : Writer} (hsys : s.domOn .sys = true)
    (hwrite : s.writeDomctl v =
      (s.wr Reg.PWR_DOMCTL (s.written Reg.PWR_DOMCTL v)).domctlBit (s.rd Reg.PWR_DOMCTL) (s.written Reg.PWR_DOMCTL v) d)
    (hnew : (s.written Reg.PWR_DOMCTL v).getLsbD (domBit d) = true) (hold : s.bit Reg.PWR_DOMCTL (domBit d) = false)
    (hret : s.dom d = .retention) (hpdown : d ∉ s.pwr.pdown) (hreset : s.bit Reg.RST_STAT (domBit d) = false)
    (hsteps : s.stepsLeft d = false) :
    Leaves (.pwrDomctlSet v wr) s { s.wr Reg.PWR_DOMCTL (s.written Reg.PWR_DOMCTL v) with
      pwr := { s.pwr with stagger := s.pwr.stagger ++ domSteps d } } := by
  let u := s.wr Reg.PWR_DOMCTL (s.written Reg.PWR_DOMCTL v)
  have hdom : u.dom d = .retention := (dom_wr s (by decide) _ d).trans hret
  have hclear : u.bit Reg.RST_STAT (domBit d) = false := (congrArg (wbit · _) (State.rd_wr_ne s _ (by decide))).trans hreset
  have hup : u.powerUp d = { u with pwr := { s.pwr with stagger := s.pwr.stagger ++ domSteps d } } :=
    if_neg (ne_true_of_eq_false hsteps)
  have heffect : s.regRow Reg.PWR_DOMCTL v wr = u.powerUp d := by
    rw [regRow_up ((regUp_domctl s).trans hsys), writeReg_domctl, hwrite, domctlBit_up hold hnew hdom hpdown hclear]
  exact leaves_rested rfl hs (heffect.trans hup) (((Rested.refl s).wr (by decide) _).pwr rfl)

theorem powerDownDone_shows {s : State} (hs : s.calm) {d : Domain} (hdown : d ∈ s.pwr.pdown) (hd : d ∈ softDomains) :
    ∃ t, exec (.powerDownDone d) s = .next t ∧ t.dom d = .retention ∧ d ∉ t.pwr.pdown ∧
      (s.stcPh ≠ 5 → s.stcPh ≠ 10 → t.core = s.core) ∧ t.store = s.store := by
  have hne : d ≠ .saddle := by rintro rfl; exact absurd hd (by decide)
  obtain ⟨hrested, hdom, hout, hcore⟩ := downDone_shows hdown hne
  refine ⟨_, exec_rested rfl hs rfl hrested, (settle_dom _ d).trans hdom, ?_, ?_, ?_⟩
  · rwa [settle_pwr]
  · rwa [settle_core]
  · rw [settle_store, hrested.store]

/-! ## Wake pins and the wake key (R100, R101) -/

theorem gpioTake_steady (s : State) (n : Nat) :
    Steady s (s.gpioTake n) ∧ (s.gpioTake n).pins = s.pins ∧ (s.gpioTake n).core = s.core := by
  unfold State.gpioTake
  split
  · have hboot : (s.gpioShow n (wbit s.gpioBalls n)).rd Reg.LCS_BOOT = s.rd Reg.LCS_BOOT :=
      (gpioShow_rd s n _ (by decide)).trans (if_neg (by decide))
    rw [gpioShow_eq] at hboot ⊢
    exact ⟨{ Steady.refl s with boot := hboot }, rfl, rfl⟩
  · exact ⟨.refl s, rfl, rfl⟩

/-- The board drives a ball low or high: its pins move alone. -/
theorem boardDrives_level (s : State) (n : Nat) (high : Bool) :
    s.boardDrives n (if high then .high else .low) =
      { s with pins := { s.pins with gpioExt := wputBit s.pins.gpioExt n high, gpioOpen := wputBit s.pins.gpioOpen n false } } := by
  cases high <;> rfl

/-- A part that is awake records the edge of a wake pin alone. -/
theorem gpioWakeEdge_awake {s : State} (hs : s.awake) (pin : Fin 4) (high : Bool) :
    let drive : BoardDrive := if high then .high else .low
    s.gpioWakeEdge pin drive = (s.boardDrives pin.val drive).gpioTake pin.val := by
  intro drive
  have hdriven : Steady s (s.boardDrives pin.val drive) := by
    rw [boardDrives_level]
    exact { Steady.refl s with }
  have htaken := hdriven.trans (gpioTake_steady (s.boardDrives pin.val drive) pin.val).1
  have hwake := State.wakeEvent_awake (htaken.awake hs) (.gpio pin)
  unfold State.gpioWakeEdge
  simp only
  rw [hwake, ite_self]

theorem gpioWakeEdge_shows {s : State} (hs : s.awake) (pin : Fin 4) (high : Bool) :
    ∃ t, exec (.gpioWakeEdge pin (if high then .high else .low)) s = .next t ∧
      t.pins = { s.pins with gpioExt := wputBit s.pins.gpioExt pin.val high, gpioOpen := wputBit s.pins.gpioOpen pin.val false } ∧
      t.pwr = s.pwr ∧ t.core = s.core := by
  let driven : State :=
    { s with pins := { s.pins with
        gpioExt := wputBit s.pins.gpioExt pin.val high, gpioOpen := wputBit s.pins.gpioOpen pin.val false } }
  have heffect : s.gpioWakeEdge pin (if high then .high else .low) = driven.gpioTake pin.val := by
    rw [gpioWakeEdge_awake hs, boardDrives_level]
  have hdriven : Steady s driven := { Steady.refl s with }
  obtain ⟨htaken, hpins, hcore⟩ := gpioTake_steady driven pin.val
  refine ⟨_, leaves_of_effect rfl hs.1 heffect (hdriven.trans htaken), ?_, ?_, ?_⟩
  · rw [settle_pins, hpins]
  · rw [settle_pwr, htaken.pwr]
  · rw [settle_core, hcore]

/-- The slot timing of a part that is awake while the touch engine does not scan (R454). -/
theorem slotTiming_awake {s : State} (hs : s.awake) (htouch : s.bit Reg.TCH_CTL 0 = false) :
    s.slotTiming = true ↔ s.domOn .hmi = true ∧ (s.bit Reg.PNL_CTL 0 = true ∨ s.bit Reg.PNL_STAT 0 = true) := by
  obtain ⟨⟨hpowered, -⟩, hlevel, -⟩ := hs
  simp [State.slotTiming, hpowered, State.deep, hlevel, htouch, State.pnlRun]

/-- A scan of the wake key that the touch engine leaves to its scanner. -/
theorem wakeKeyScan_eq {s : State} (hpowered : s.powered = true) (hkey : s.bit Reg.SDL_WKEY 7 = true)
    (htouch : s.bit Reg.TCH_CTL 0 = false) (count : Nat) :
    s.wakeKeyScan count =
      if s.slotTiming then if s.pnl.quiet.isSome then s.wakeKeyWindow.wakeKeyCount count else s else s.wakeKeyCount count := by
  simp [State.wakeKeyScan, hpowered, hkey, htouch]

/-- One of the counts that make the baseline. -/
theorem wakeKeyCount_baseline {s : State} (h : s.pwr.wkScans.length < 4) (count : Nat) :
    s.wakeKeyCount count = { s with pwr := { s.pwr with wkScans := s.pwr.wkScans ++ [count], wkFalls := 0 } } := if_pos h

theorem wakeKeyScan_leaves {s : State} (hs : s.awake) (count : Nat) (hkey : s.bit Reg.SDL_WKEY 7 = true)
    (htouch : s.bit Reg.TCH_CTL 0 = false) (hscans : s.pwr.wkScans.length < 4) :
    let timing := s.domOn .hmi = true ∧ (s.bit Reg.PNL_CTL 0 = true ∨ s.bit Reg.PNL_STAT 0 = true)
    let counted := { s with pwr := { s.pwr with wkScans := s.pwr.wkScans ++ [count], wkFalls := 0 } }
    (¬timing → Leaves (.wakeKeyScan count) s counted) ∧
      (timing → s.pnl.quiet = none → Leaves (.wakeKeyScan count) s s) ∧
      (timing → s.pnl.quiet ≠ none → Leaves (.wakeKeyScan count) s { counted with pnl := { s.pnl with window := 173 } }) := by
  intro timing counted
  have hcalm : s.calm := hs.1
  have heq := wakeKeyScan_eq hcalm.1 hkey htouch count
  have hiff := slotTiming_awake hs htouch
  have hcounted : Rested s counted := (Rested.refl s).pwr rfl
  refine ⟨fun htiming => ?_, fun htiming hquiet => ?_, fun htiming hquiet => ?_⟩
  · refine leaves_rested rfl hcalm ?_ hcounted
    rw [heq, if_neg (mt hiff.1 htiming), wakeKeyCount_baseline hscans]
  · refine leaves_rested rfl hcalm ?_ (.refl s)
    rw [heq, if_pos (hiff.2 htiming), hquiet]
    rfl
  · refine leaves_rested rfl hcalm ?_ { hcounted with }
    rw [heq, if_pos (hiff.2 htiming), if_pos (Option.isSome_iff_ne_none.2 hquiet)]
    exact wakeKeyCount_baseline (s := s.wakeKeyWindow) hscans count

/-! ## The staggered start (R103, R109, R409) -/

theorem staggerStep_eq {s : State} {k : Nat} {rest : List Nat} (hreset : s.lcs.nresetLow = false)
    (hsteps : s.pwr.stagger = k :: rest) (hskips : s.skips k = false) :
    let begun := { s with pwr := { s.pwr with stagger := rest } }
    let t := if s.dom (stepDom k) = .transition then begun else begun.setDom (stepDom k) .transition
    s.staggerStep = if t.safReady && !s.safReady then t.safRestart else t := by
  have hdue : s.stepsDue = k :: rest := by
    rw [State.stepsDue, hsteps, List.dropWhile_cons_of_neg (ne_true_of_eq_false hskips)]
  rw [State.staggerStep, if_neg (ne_true_of_eq_false hreset), hdue]

/-- The safety block is not up before step 8 has begun (log 47). -/
theorem safReady_waits {s : State} (hmeas : s.dom .meas = .transition) (h8 : 8 ∈ s.pwr.stagger) : s.safReady = false := by
  simp [State.safReady, State.measFirst, State.domOn, hmeas, h8]

/-- The step of another domain leaves the safety block as it is. -/
theorem safReady_otherStep {s : State} {k : Nat} {rest : List Nat} (hsteps : s.pwr.stagger = k :: rest)
    (hk : stepDom k ≠ .meas) :
    (({ s with pwr := { s.pwr with stagger := rest } } : State).setDom (stepDom k) .transition).safReady = s.safReady := by
  let begun : State := { s with pwr := { s.pwr with stagger := rest } }
  let t := begun.setDom (stepDom k) .transition
  have hpowered : t.powered = s.powered := ((Rested.refl begun).setDom (stepDom k) .transition).powered
  have hdom : t.dom .meas = s.dom .meas := dom_setDom_ne begun hk.symm _
  have hreset : t.bit Reg.RST_STAT (domBit .meas) = s.bit Reg.RST_STAT (domBit .meas) :=
    congrArg (wbit · _) (setDom_rd_ne begun _ _ (by decide))
  have hpwr : t.pwr = { s.pwr with stagger := rest } := setDom_pwr begun _ _
  have hother (n : Nat) (hn : stepDom n = .meas) : t.pwr.stagger.contains n = s.pwr.stagger.contains n := by
    have hne : n ≠ k := by
      rintro rfl
      exact hk hn
    simp [hpwr, hsteps, hne]
  change t.safReady = s.safReady
  simp only [State.safReady, State.measFirst, State.domOn, hpowered, hdom, hreset, hother 7 rfl, hother 8 rfl]

theorem stepDom_ne_saddle (k : Nat) : stepDom k ≠ .saddle := by
  unfold stepDom
  split_ifs <;> decide

theorem staggerStep_leaves {s : State} {k : Nat} {rest : List Nat} (hs : s.calm) (hreset : s.lcs.nresetLow = false)
    (hsteps : s.pwr.stagger = k :: rest) (hskips : s.skips k = false) (hdom : s.dom (stepDom k) ≠ .transition)
    (hmeas : stepDom k = .meas → 8 ∈ rest) :
    Leaves .staggerStep s (({ s with pwr := { s.pwr with stagger := rest } } : State).setDom (stepDom k) .transition) := by
  let begun : State := { s with pwr := { s.pwr with stagger := rest } }
  let t := begun.setDom (stepDom k) .transition
  have hbegun : Rested s begun := (Rested.refl s).pwr rfl
  have hready : (t.safReady && !s.safReady) = false := by
    by_cases hk : stepDom k = .meas
    · have hdown : t.dom .meas = .transition := hk ▸ dom_setDom_self begun (stepDom_ne_saddle k) _
      have h8 : 8 ∈ t.pwr.stagger := by
        rw [setDom_pwr]
        exact hmeas hk
      rw [safReady_waits hdown h8, Bool.false_and]
    · rw [safReady_otherStep hsteps hk, Bool.and_not_self]
  have heffect : s.staggerStep = t := by
    rw [staggerStep_eq hreset hsteps hskips, if_neg hdom, if_neg (ne_true_of_eq_false hready)]
  exact leaves_rested rfl hs heffect (hbegun.setDom (stepDom k) .transition)

theorem settle_safReady (s : State) : s.settle.safReady = s.safReady := by
  have hreset : s.settle.bit Reg.RST_STAT (domBit .meas) = s.bit Reg.RST_STAT (domBit .meas) := settle_bit s _ _ (by decide)
  simp only [State.safReady, State.measFirst, State.domOn, settle_powered, settle_dom, settle_pwr, hreset]

/-- The safety block comes up as step 8 begins (log 47). -/
theorem staggerStep_safety {s : State} {rest : List Nat} (hs : s.calm) (hreset : s.lcs.nresetLow = false)
    (hsteps : s.pwr.stagger = 8 :: rest) (h7 : 7 ∉ rest) (h8 : 8 ∉ rest) (hmeas : s.dom .meas = .transition)
    (hrst : s.bit Reg.RST_STAT 1 = false) :
    ∃ t, exec .staggerStep s = .next t ∧ t.safReady = true ∧ t.pwr.stagger = rest ∧ t.dom .meas = .transition ∧
      (s.safeConds ≠ [] → t.bit Reg.SAF_STAT 0 = true) := by
  let begun : State := { s with pwr := { s.pwr with stagger := rest } }
  have hbegun : Rested s begun := (Rested.refl s).pwr rfl
  have hdom : begun.dom .meas = .transition := hmeas
  have hclear : begun.bit Reg.RST_STAT (domBit .meas) = false := hrst
  have hready : begun.safReady = true := by
    simp [State.safReady, State.measFirst, hbegun.powered.trans hs.1, hdom, hclear, begun, h7, h8]
  have hwaits : s.safReady = false := safReady_waits hmeas (hsteps ▸ List.mem_cons_self)
  have hskips : s.skips 8 = false := by
    have h : s.dom (stepDom 8) = .transition := hmeas
    simp [State.skips, State.domOn, h]
  have heffect : s.staggerStep = begun.safRestart := by
    rw [staggerStep_eq hreset hsteps hskips, if_pos (show s.dom (stepDom 8) = .transition from hmeas),
      if_pos (show (begun.safReady && !s.safReady) = true by rw [hready, hwaits]; rfl)]
  have hup : Reported begun begun.safRestart := (Reported.refl begun).safRestart
  refine ⟨_, exec_rested rfl hs heffect (hbegun.trans hup.toRested), ?_, ?_, ?_, fun hconds => ?_⟩
  · rw [settle_safReady, hup.safReady, hready]
  · rw [settle_pwr, hup.pwr]
  · rw [settle_dom, hup.dom, hdom]
  · rw [settle_bit _ _ _ (by decide)]
    exact safRestart_latches hready hconds

theorem domainUsable_shows {s : State} {d : Domain} (hs : s.calm) (hmay : s.mayUse d = true) (hheld : s.bus.held = [])
    (hwanted : s.domctl d = true ∨ d = .sys ∨ d = .store ∨ d = .core) :
    ∃ t, exec (.domainUsable d) s = .next t ∧ t.dom d = .on := by
  have hfixed : d = .sys ∨ d = .store ∨ d = .core → 4 ≤ domBit d := by rintro (rfl | rfl | rfl) <;> decide
  obtain ⟨hrested, hdom⟩ := domUsable_shows hmay hheld (hwanted.imp_right hfixed)
  exact ⟨_, exec_rested rfl hs rfl hrested, (settle_dom _ d).trans hdom⟩

/-! ## A wake event in a deep sleep (R97, R99) -/

theorem wakeBit_lt {s : State} {src : WakeSource} {l : Level} (h : s.wakeEnabled src l = true) : wakeBit src < 16 := by
  cases src
  case interrupt => cases h
  case gpio pin =>
    have hpin := pin.isLt
    simp only [wakeBit]
    omega
  all_goals decide

theorem wakeEvent_hibernate {s : State} (hpowered : s.powered = true) (hlevel : s.pwr.level = .hibernate)
    (hentry : s.pwr.entry = none) (hwaking : s.pwr.waking = false) {src : WakeSource}
    (henabled : s.wakeEnabled src .hibernate = true) : s.wakeEvent src = (s.setBit Reg.SDL_WCAUSE (wakeBit src)).beginWake := by
  have hcolumn : s.wakeColumn = some .hibernate := by simp [State.wakeColumn, hentry, hwaking, State.deep, hlevel]
  simp [State.wakeEvent, hpowered, hcolumn, henabled, hentry, hwaking]

/-- SDL_WCAUSE names the level that the wake ends. -/
theorem beginWake_wcause (s : State) : s.beginWake.rd Reg.SDL_WCAUSE = setFld (s.rd Reg.SDL_WCAUSE) 16 3 (levelCode s.pwr.level) :=
  (State.rd_wr_ne _ _ (by decide)).trans (State.rd_wr_self ..)

theorem wakeEvent_shows {s : State} {src : WakeSource} (hs : s.calm) (hlevel : s.pwr.level = .hibernate)
    (hentry : s.pwr.entry = none) (hwaking : s.pwr.waking = false) (henabled : s.wakeEnabled src .hibernate = true) :
    ∃ t, exec (.wakeEvent src) s = .next t ∧ t.pwr.waking = true ∧ t.pwr.stagger = staggerSteps ∧
      t.bit Reg.SDL_WCAUSE (wakeBit src) = true ∧ t.f Reg.SDL_WCAUSE 16 3 = 3 ∧ t.core = s.core := by
  have ⟨hpowered, _, _, _, hboot, _⟩ := hs
  let caused := s.setBit Reg.SDL_WCAUSE (wakeBit src)
  have hbit : wakeBit src < 16 := wakeBit_lt henabled
  have hwcause : caused.beginWake.rd Reg.SDL_WCAUSE = setFld (wputBit (s.rd Reg.SDL_WCAUSE) (wakeBit src) true) 16 3 3 := by
    have hcode : levelCode caused.pwr.level = 3 := congrArg levelCode hlevel
    rw [beginWake_wcause, hcode, State.rd_setBit, if_pos rfl]
  have hwoken : Rested s caused.beginWake :=
    ((((Rested.refl s).wr (by decide) _).wr (a := Reg.SDL_WCAUSE) (by decide) _).wr (by decide) _).pwr hboot.symm
  refine ⟨_, exec_rested rfl hs (wakeEvent_hibernate hpowered hlevel hentry hwaking henabled) hwoken, ?_, ?_, ?_, ?_, ?_⟩
  · rw [settle_pwr]
    rfl
  · rw [settle_pwr]
    rfl
  · rw [settle_bit _ _ _ (by decide), State.bit, hwcause, wbit_setFld_ne _ _ _ _ _ (.inl hbit),
      wbit_wputBit_self _ _ _ (hbit.trans (by decide))]
  · rw [settle_f _ _ _ _ (by decide), State.f, hwcause, fld_setFld_self _ _ _ _ (by decide)]
    rfl
  · rw [settle_core]
    rfl

/-- Settles O22: each command is read off its rule for the sequencer, and what else it moves lies apart from that (`Apart`,
`Rested`). That a wake event has no effect in RUN is the model's choice (log 4, log 21), and so is that the safety block is up as
step 8 begins (log 47). -/
theorem sleepAndDomains : Obligations.SleepAndDomains := by
  unfold Obligations.SleepAndDomains
  intro s d v wr src l pin high count k rest
  refine ⟨fun hs => ⟨fun hd hsys hout hsame => ?_, powerDownDone_shows hs.1, ?_, gpioWakeEdge_shows hs pin high,
    wakeKeyScan_leaves hs count⟩, staggerStep_leaves, staggerStep_safety, domainUsable_shows, deepEntryCommit_shows,
    wakeEvent_shows⟩
  · have hwrite := writeDomctl_single hout hd v hsame
    exact ⟨powerDownStart_leaves hs.1 hsys hwrite, pwrDomctlSet_leaves hs.1 hsys hwrite⟩
  · exact leaves_of_effect rfl hs.1 (State.wakeEvent_awake hs src) (.refl s)
end Sys2Proof.Machine

/-!
The resets family. A request that waits is served as the cold MATS+ ends, which refutes the clause that the Store is zero then.
-/
namespace Sys2Proof.Machine

/-! ## The cold MATS+ with a request that waits -/

/-- What a march leaves in an array does not move the gates. -/
theorem setArray_arrDenied (s : State) (arr : Nat) (m : Mem) (aid a : Nat) :
    (s.setArray arr m).arrDenied aid a = s.arrDenied aid a := rfl

theorem ArrDenied.writes_of_clean {d : ArrDenied} (h : d.clean = true) : d.writes = [] :=
  List.isEmpty_iff.1 (Bool.and_eq_true_iff.1 h).2

/-- Where gate G1 denies nothing, the cold MATS+ leaves an array all zero. -/
theorem coldLeave_clean {s : State} {arr : Nat} (h : (s.arrDenied 0x401 arr).clean = true) :
    s.coldLeave arr = s.setArray arr (.blank .zeros) := by
  rw [State.coldLeave, State.keepDenied, ArrDenied.writes_of_clean h, List.foldl_nil]

theorem coldLeaves_clean (l : List Nat) {s : State} (h : ∀ a ∈ l, (s.arrDenied 0x401 a).clean = true) :
    l.foldl State.coldLeave s = l.foldl (fun u a => u.setArray a (.blank .zeros)) s := by
  induction l generalizing s with
  | nil => rw [List.foldl_nil, List.foldl_nil]
  | cons a l ih =>
    rw [List.foldl_cons, List.foldl_cons, coldLeave_clean (h a List.mem_cons_self)]
    exact ih fun b hb => by rw [setArray_arrDenied]; exact h b (List.mem_cons_of_mem a hb)

/-- The cold MATS+ where gate G1 denies nothing and the silicon fails nowhere. -/
theorem coldMarch_clean {s : State} {r : MarchResult} (h : ∀ a, a < 17 → (s.arrDenied 0x401 a).clean = true) (hr : r.fails = []) :
    s.coldMarch r = ⟨(List.range 17).foldl (fun u a => u.setArray a (.blank .zeros)) s, some []⟩ := by
  have hall : ∀ a ∈ List.range 17, (s.arrDenied 0x401 a).clean = true := fun a ha => h a (List.mem_range.1 ha)
  have hdenials : s.marchDenials 0x401 (List.range 17) (preset 1) false = [] := by
    have hclean : ((List.range 17).map (s.arrDenied 0x401)).all ArrDenied.clean = true := by
      simpa only [List.all_map, List.all_eq_true, Function.comp_apply] using hall
    simp only [State.marchDenials, hclean, if_true]
  have hheld : ∀ a ∈ List.range 17, s.heldFails 0x401 a (preset 1) 0 = [] := by
    intro a ha
    have hprog : progClean none (preset 1) = true := by decide
    simp only [State.heldFails, ArrDenied.writes_of_clean (hall a ha), hprog, List.isEmpty_nil, Bool.and_true, if_true]
  have hfound : s.marchFound 0x401 (List.range 17) (preset 1) 0 r = ⟨0, []⟩ := by
    have hnone : (((List.range 17).map fun a => (a, s.heldFails 0x401 a (preset 1) 0)).all fun p => p.2.isEmpty) = true := by
      rw [List.all_map, List.all_eq_true]
      intro a ha
      rw [Function.comp_apply, hheld a ha, List.isEmpty_nil]
    simp only [State.marchFound, hnone, hr, List.filter_nil, List.isEmpty_nil, Bool.and_true, if_true]
  have hmarch : s.coldMarch r = ⟨((List.range 17).foldl State.coldLeave s).stcLog 0 [], some []⟩ := by
    simp only [State.coldMarch, hdenials, hfound]
    rfl
  rw [hmarch, coldLeaves_clean _ hall]
  rfl

/-- Where no row fails and the repair table has not run over, nothing is repaired. -/
theorem coldRepairs_none {s : State} (h : (s.rd Reg.STC_RTNEXT).toNat ≤ 512) : s.coldRepairs [] = (s, []) := by
  have hplan (arr : Nat) : ∃ l, s.coldPlan [] arr = some (List.zip l []) := by
    have hrows : (List.range 512).filter (fun row => ([] : List (Nat × Nat)).contains (arr, row)) = [] := by
      rw [List.filter_eq_nil_iff]
      intro row _
      simp
    simp only [State.coldPlan, hrows, List.length_nil, Nat.not_lt_zero, Nat.add_zero, Nat.not_lt.2 h, or_self, if_false]
    exact ⟨_, rfl⟩
  rw [State.coldRepairs]
  generalize List.range 17 = l
  induction l with
  | nil => rfl
  | cons arr l ih =>
    obtain ⟨_, hc⟩ := hplan arr
    simpa only [List.foldl_cons, hc, List.zip_nil_right, List.foldl_nil] using ih

theorem coldResult_none {s : State} (h : (s.rd Reg.STC_RTNEXT).toNat ≤ 512) : s.coldResult [] = s.bootRest := by
  unfold State.coldResult
  rw [coldRepairs_none h]
  rfl

/-- A store of the debug port's through AP1 to the first word of the Store. -/
def portStore : Req :=
  { mid := 10, aid := 0x40F, tid := 0, cls := 1, kind := .write, addr := 0x10000000, size := 4, data := 0x55, rom := false }

/-- The boot ROM at the cold MATS+, which runs, with a store through AP1 that still waits. -/
def coldWithStore : State :=
  { State.reset.setF Reg.STC_STAT 28 4 1 with
    pwr := { Pwr.reset with boot := true, stage := .mats }
    hdp := { Hdp.reset with aps := Hdp.reset.aps.set 1 { Ap.reset with busy := some (true, 0x10000000, 0x55) } }
    bus := { Bus.reset with held := [⟨portStore, 0x10000000, .ap1, .store, false⟩] } }

/-- A march that the silicon adds nothing to. -/
def noFails : MarchResult := { failReads := 0, fails := [], sigP := 0, sigA := 0, ces := 0, ues := [] }

/-- Entries of gate G1 that name no master deny nothing (R277). -/
theorem arrDenied_unruled {s : State} (h : ∀ m, m < 16 → s.rd (Reg.GATE_RULE_CTL (16 + m)) = 0) (aid arr : Nat) :
    (s.arrDenied aid arr).clean = true := by
  have hdenier (a mid p : Nat) : s.denier 1 a mid aid p = none := by
    have hfind : (List.range 16).find? (fun m => s.ruleMatches 1 m a mid aid p) = none := by
      rw [List.find?_eq_none]
      intro m hm
      simp [State.ruleMatches, h m (List.mem_range.1 hm), wbit]
    rw [State.denier, hfind]
  have hdenied (slot : Nat) (write : Bool) : s.deniedAt slot aid write = [] := by
    simp only [State.deniedAt, hdenier, Option.isSome_none, List.filter_false]
  simp only [State.arrDenied, ArrDenied.clean, hdenied, List.isEmpty_nil, Bool.and_self]

/-- The part as the run has ended, with the Store all zero. -/
def coldZeroed : State :=
  let zeroed := (List.range 17).foldl (fun u a => u.setArray a (.blank .zeros)) (coldWithStore.setF Reg.STC_STAT 16 5 16)
  zeroed.stcIdle.setBit Reg.LCS_BOOT 3

/-- No BCFG is valid in it, at which the boot ROM stops (R140). -/
theorem coldMats_coldWithStore : coldWithStore.coldMats noFails = coldZeroed.bootFails 1 := by
  have hmarch := coldMarch_clean (s := coldWithStore.setF Reg.STC_STAT 16 5 16) (r := noFails)
    (fun a _ => arrDenied_unruled (by decide) 0x401 a) rfl
  have hresult : coldWithStore.coldMats noFails = coldZeroed.coldResult [] := by
    rw [State.coldMats, if_pos (by decide)]
    simp only [hmarch]
    rfl
  have hnext : coldZeroed.rd Reg.STC_RTNEXT = 0 := by decide
  have hbcfg : coldZeroed.bcfgValid = false := by decide
  rw [hresult, coldResult_none (by rw [hnext]; exact Nat.zero_le _), State.bootRest, hbcfg]
  rfl

/-- The store is served then, and lands in the Store. -/
theorem coldZeroed_finish_store : (coldZeroed.bootFails 1).finish.store[0]? ≠ some (.blank .zeros) := by
  rw [State.finish, settle_store]
  decide

/-- Refutes O23: the clause on the cold MATS+ does not ask, as `State.calm` does, that no request waits. One that does is served
as the run ends (R109), and here it is a store to the Store. That the boot comes to such a state is not claimed, but the statement's
premises admit it; where no request waits, the run leaves the arrays zero (`coldMarch_clean`). -/
theorem not_resets : ¬ Obligations.Resets := by
  unfold Obligations.Resets
  intro h
  obtain ⟨-, hcold⟩ := h coldWithStore 0 0 ⟨0, 0⟩ .sys .software noFails
  obtain ⟨t, ht, hstore, -⟩ := hcold (by decide) rfl rfl rfl (by decide) rfl rfl rfl (by decide) rfl (by decide) rfl
    (fun a _ => arrDenied_unruled (by decide) 0x401 a) rfl
  have hexec : exec (.bootColdMats noFails) coldWithStore = .next (coldZeroed.bootFails 1).finish := by
    rw [← coldMats_coldWithStore]
    exact congrArg Host.Outcome.next (if_pos (by decide))
  obtain rfl : (coldZeroed.bootFails 1).finish = t := Host.Outcome.next.inj (hexec.symm.trans ht)
  exact coldZeroed_finish_store (congrArg (·[0]?) hstore)

end Sys2Proof.Machine

/-!
The life-cycle family: requests, challenges and responses, the journal and the key loads. What each leaves is read off its rule for
the life-cycle block; the NVM words that it writes are read back.
-/
namespace Sys2Proof.Machine

/-! ## The life cycle's words in the NVM (R148, R150) -/

theorem numLE_bytesLE (n v : Nat) : numLE (bytesLE n v) = v % 2 ^ (8 * n) := by
  induction n generalizing v with
  | zero => simp [bytesLE, numLE, Nat.mod_one]
  | succ n ih =>
    have hbytes : bytesLE (n + 1) v = BitVec.ofNat 8 v :: bytesLE n (v / 2 ^ 8) := by
      simp only [bytesLE, List.range_succ_eq_map, List.map_cons, List.map_map, Nat.mul_zero, Function.comp_def,
        Nat.shiftRight_eq_div_pow, pow_zero, Nat.div_one, Nat.div_div_eq_div_mul, ← pow_add, Nat.mul_succ, Nat.add_comm]
    rw [hbytes, numLE, ih, Nat.mul_succ, Nat.add_comm (8 * n), pow_add, Nat.mod_mul]
    rfl

theorem Mem.bytes_setBytes_self (m : Mem) (id a : Nat) (bs : List Byte) : (m.setBytes a bs).bytes id a bs.length = bs := by
  refine List.ext_getElem (by simp [Mem.bytes]) fun i _ hi => ?_
  simp [Mem.bytes, Mem.byte, Mem.get?_setBytes_in m a bs hi, hi]

theorem Mem.bytes_setBytes_out (m : Mem) (id a : Nat) (bs : List Byte) {c n : Nat} (h : c + n ≤ a ∨ a + bs.length ≤ c) :
    (m.setBytes a bs).bytes id c n = m.bytes id c n := by
  refine List.map_congr_left fun i hi => ?_
  have hi : i < n := List.mem_range.1 hi
  have hseed : (m.setBytes a bs).seed = m.seed := by rw [Mem.seed, Mem.setBytes_base, Mem.seed]
  rw [Mem.byte, Mem.get?_setBytes_out m a bs (by omega), hseed, Mem.byte]

/-- A word of the NVM that was written is read back. -/
theorem nvm64_setNvm64_self (s : State) (a v : Nat) : (s.setNvm64 a v).nvm64 a = v % 2 ^ 64 := by
  have hlen : (bytesLE 8 v).length = 8 := by simp [bytesLE]
  have hbytes : (s.nvm.setBytes a (bytesLE 8 v)).bytes memNvm a 8 = bytesLE 8 v :=
    hlen ▸ Mem.bytes_setBytes_self s.nvm memNvm a (bytesLE 8 v)
  exact (congrArg numLE hbytes).trans (numLE_bytesLE 8 v)

/-- Every other word keeps. -/
theorem nvm64_setNvm64_ne (s : State) {a b : Nat} (v : Nat) (h : b + 8 ≤ a ∨ a + 8 ≤ b) :
    (s.setNvm64 a v).nvm64 b = s.nvm64 b :=
  congrArg numLE (Mem.bytes_setBytes_out s.nvm memNvm a _ (by simpa [bytesLE] using h))

theorem setNvm64_lcs (s : State) (a v : Nat) : (s.setNvm64 a v).lcs = s.lcs := by rfl

theorem settle_nvm64 (s : State) (a : Nat) : s.settle.nvm64 a = s.nvm64 a := by rw [State.nvm64, settle_nvm, State.nvm64]

theorem Rested.setNvm64 {s t : State} (h : Rested s t) (a v : Nat) : Rested s (t.setNvm64 a v) := { h with }

theorem Rested.lcs {s t : State} (h : Rested s t) (x : Lcs) : Rested s { t with lcs := x } := { h with }

/-! ## Requests (R143, R145, R146) -/

/-- The key of a keyed register. -/
theorem fld_key (v : Word) : fld v 16 16 = v.toNat / 2 ^ 16 := by
  rw [fld, Nat.shiftRight_eq_div_pow]
  exact Nat.mod_eq_of_lt (by omega)

theorem deep_awake {s : State} (hs : s.awake) : s.deep = false := by
  obtain ⟨-, hlevel, -⟩ := hs
  simp [State.deep, hlevel]

/-- A write of a register of the life-cycle block leaves what the write at the block leaves. -/
theorem leaves_of_lcsWrite {c : Instr} {s t : State} {a : Nat} {v : Word} {wr : Writer}
    (hexec : exec c s = .next (s.cmd fun s => s.regRow a v wr)) (hs : s.calm) (hregion : regionOf a = .block .saddle 2)
    (hlke : a / 0x1000 ≠ 0x30004) (hwrite : s.writeReg a v wr = t) (ht : Rested s t) : Leaves c s t :=
  leaves_rested hexec hs ((regRow_up (regUp_saddle hregion hlke s) v wr).trans hwrite) ht

theorem writeReg_lcsReq (s : State) (v : Word) (wr : Writer) : s.writeReg Reg.LCS_REQ v wr = s.writeLcsReq v wr := by rfl

theorem writeReg_lcsResp7 (s : State) (v : Word) (wr : Writer) : s.writeReg (Reg.LCS_RESP 7) v wr = s.writeLcsResp 7 v wr := by rfl

theorem writeReg_lcsKeyctl (s : State) (v : Word) (wr : Writer) : s.writeReg Reg.LCS_KEYCTL v wr = s.writeKeyctl v wr := by rfl

section
variable {s t : State} {v : Word} {wr : Writer} (hs : s.calm) (ht : Rested s t)
include hs ht

theorem lifecycleRequest_leaves (h : s.writeLcsReq v wr = t) : Leaves (.lifecycleRequest v wr) s t :=
  leaves_of_lcsWrite rfl hs rfl (by decide) ((writeReg_lcsReq ..).trans h) ht

theorem lcsResponseWrite_leaves (h : s.writeLcsResp 7 v wr = t) : Leaves (.lcsResponseWrite v wr) s t :=
  leaves_of_lcsWrite rfl hs rfl (by decide) ((writeReg_lcsResp7 ..).trans h) ht

theorem keyLoad_leaves (h : s.writeKeyctl v wr = t) : Leaves (.keyLoad v wr) s t :=
  leaves_of_lcsWrite rfl hs rfl (by decide) ((writeReg_lcsKeyctl ..).trans h) ht

end

theorem lcsWriter_warden {s : State} {wr : Writer} (h : wr.mid = 0 ∧ wr.aid = 0x400) : s.lcsWriter wr = true := by
  simp [State.lcsWriter, h]

theorem writeLcsReq_refused {s : State} {v : Word} (wr : Writer)
    (h : v.toNat / 2 ^ 16 ≠ 0x1C5E ∨ s.lcsBusy = true ∨ s.bit Reg.LCS_STAT 7 = true) :
    s.writeLcsReq v wr = s.setBit Reg.LCS_STAT 4 := by
  refine if_pos ?_
  rw [fld_key]
  rcases h with h | h | h
  · simp [-Nat.reducePow, h]
  · simp [h]
  · simp [h]

/-- The requests that nothing stands against: a transition without authentication starts its journal, one with it the count of its
challenge. -/
theorem writeLcsReq_taken {s : State} {v : Word} {wr : Writer} (hs : s.awake) (hwarden : wr.mid = 0 ∧ wr.aid = 0x400)
    (hkey : v.toNat / 2 ^ 16 = 0x1C5E) (hbusy : s.lcsBusy = false) (hlock : s.bit Reg.LCS_STAT 7 = false)
    (hout : s.outputsOn = 0) (hready : s.transitionReady (v.toNat % 8) = true) (hkind : transitionKind s.lcState (v.toNat % 8) ≠ 0) :
    s.writeLcsReq v wr = { s.dropChallenge with
      hdp := { s.hdp with unlocking := false }
      lcs := if transitionKind s.lcState (v.toNat % 8) = 1 then
          { s.lcs with target := v.toNat % 8, journal := true, journalDone := 0 }
        else { s.lcs with target := v.toNat % 8, chalWrite := true } } := by
  have htgt : fld v 0 3 = v.toNat % 8 := rfl
  simp only [State.writeLcsReq, htgt, fld_key, lcsWriter_warden hwarden, deep_awake hs, hkey, hbusy, hlock, hout, hready, hkind]
  by_cases h : transitionKind s.lcState (v.toNat % 8) = 1
  · simp only [h]
    rfl
  · simp only [h]
    rfl

theorem transitionKind_plain : ∀ p ∈ [(0, 1), (1, 2), (0, 4)], transitionKind p.1 p.2 = 1 := by decide

theorem transitionKind_authenticated : ∀ p ∈ [(2, 3), (3, 2), (1, 4), (2, 4), (3, 4)], transitionKind p.1 p.2 = 2 := by decide

theorem Rested.dropChallenge {s t : State} (h : Rested s t) : Rested s t.dropChallenge := (h.wr (by decide) _).wr (by decide) _

/-- A request that is taken ends one of the debug port's. -/
theorem Rested.request {s t : State} (h : Rested s t) (x : Lcs) :
    Rested s { t.dropChallenge with hdp := { t.hdp with unlocking := false }, lcs := x } := { h.dropChallenge with }

/-! ## Challenges and responses (R146 to R148) -/

/-- The challenge is loaded from the UID and the new count. -/
theorem challengeReady_eq {s : State} (hwrite : s.lcs.chalWrite = true) (hport : s.hdp.unlocking = false) :
    let cnt := (s.nvm64 0x3F0120 + 1) % 2 ^ 64
    let counted : State := { s.setNvm64 0x3F0120 cnt with lcs := { s.lcs with chalWrite := false } }
    s.challengeReady = ((((counted.wr (Reg.LCS_CHAL 0) (Config.uid 0)).wr (Reg.LCS_CHAL 1) (Config.uid 1)).wr (Reg.LCS_CHAL 2)
      (BitVec.ofNat 32 cnt)).wr (Reg.LCS_CHAL 3) (BitVec.ofNat 32 (cnt / 2 ^ 32))).setBit Reg.LCS_STAT 3 := by
  simp only [State.challengeReady, hwrite, if_true]
  exact if_neg (ne_true_of_eq_false hport)

theorem challengeReady_shows {s : State} (hs : s.calm) (hwrite : s.lcs.chalWrite = true) (hport : s.hdp.unlocking = false) :
    let cnt := (s.nvm64 0x3F0120 + 1) % 2 ^ 64
    ∃ t, exec .challengeReady s = .next t ∧ t.lcs.chalWrite = false ∧ t.bit Reg.LCS_STAT 3 = true ∧
      t.rd (Reg.LCS_CHAL 0) = Config.uid 0 ∧ t.rd (Reg.LCS_CHAL 1) = Config.uid 1 ∧
      t.rd (Reg.LCS_CHAL 2) = BitVec.ofNat 32 cnt ∧ t.rd (Reg.LCS_CHAL 3) = BitVec.ofNat 32 (cnt / 2 ^ 32) ∧
      t.nvm64 0x3F0120 = cnt := by
  intro cnt
  have heq := challengeReady_eq hwrite hport
  have hrested : Rested s s.challengeReady := by
    rw [heq]
    exact (((((((Rested.refl s).setNvm64 _ _).lcs _).wr (by decide) _).wr (by decide) _).wr (by decide) _).wr (by decide) _).wr
      (by decide) _
  refine ⟨_, exec_rested rfl hs rfl hrested, ?_⟩
  rw [settle_lcs, settle_bit _ _ _ (by decide), settle_rd _ _ (by decide), settle_rd _ _ (by decide), settle_rd _ _ (by decide),
    settle_rd _ _ (by decide), settle_nvm64, heq]
  refine ⟨rfl, ?_, ?_, ?_, ?_, ?_, ?_⟩
  · rw [State.bit, State.rd_setBit, if_pos rfl, wbit_wputBit_self _ _ _ (by decide)]
  · simp [State.rd_setBit, State.rd_wr, Reg.LCS_STAT, Reg.LCS_CHAL]
  · simp [State.rd_setBit, State.rd_wr, Reg.LCS_STAT, Reg.LCS_CHAL]
  · simp [State.rd_setBit, State.rd_wr, Reg.LCS_STAT, Reg.LCS_CHAL, cnt]
  · simp [State.rd_setBit, Reg.LCS_STAT, Reg.LCS_CHAL, cnt]
  · exact (nvm64_setNvm64_self s _ cnt).trans (Nat.mod_mod _ _)

theorem writeLcsResp_refused {s : State} (h : s.bit Reg.LCS_STAT 3 = false) (i : Nat) (v : Word) (wr : Writer) :
    s.writeLcsResp i v wr = s.setBit Reg.LCS_STAT 4 := if_pos (by simp [h])

theorem writeLcsResp_taken {s : State} {wr : Writer} (hs : s.awake) (hwarden : wr.mid = 0 ∧ wr.aid = 0x400)
    (h : s.bit Reg.LCS_STAT 3 = true) (v : Word) :
    s.writeLcsResp 7 v wr =
      { (s.wr (Reg.LCS_RESP 7) v).dropChallenge with lcs := { s.lcs with checking := true, checkBlocks := 4 } } :=
  if_neg (by simp [h, lcsWriter_warden hwarden, deep_awake hs])

/-- The challenge, the state asked for and the state in force: what a response signs (R146). -/
def State.responseMessage (s : State) : List Byte :=
  s.regBytes Reg.LCS_CHAL 4 ++ [BitVec.ofNat 8 (codeOfState s.lcs.target), BitVec.ofNat 8 (s.f Reg.LCS_STATE 0 5)]

/-- The response is the HMAC of its message under KS7, where that key may be used (R146). -/
def State.responseFits (s : State) : Bool :=
  match s.usableKey 7 with
  | some k => decide (hmacSha256 k s.responseMessage = s.regBytes Reg.LCS_RESP 8)
  | none => false

theorem responseFits_iff (s : State) :
    s.responseFits = true ↔ ∃ k, s.usableKey 7 = some k ∧ hmacSha256 k s.responseMessage = s.regBytes Reg.LCS_RESP 8 := by
  unfold State.responseFits
  cases s.usableKey 7 with
  | none => simp
  | some k => simp

/-- The check has ended. -/
def State.checkEnded (s : State) : State := { s with lcs := { s.lcs with checking := false } }

/-- A journal begins. -/
def State.journalBegun (s : State) : State := { s with lcs := { s.lcs with journal := true, journalDone := 0 } }

theorem journalBegun_failCnt (s : State) : s.journalBegun.failCnt = s.failCnt := rfl

theorem journalBegun_checking (s : State) : s.journalBegun.lcs.checking = s.lcs.checking := rfl

theorem Rested.journalBegun {s t : State} (h : Rested s t) : Rested s t.journalBegun := h.lcs _

theorem lcsCheckDone_eq (s : State) : s.lcsCheckDone =
    if s.lcs.checking && !s.hdp.unlocking then
      if s.responseFits then s.checkEnded.checkPassed.journalBegun else s.checkEnded.checkFailed.setBit Reg.LCS_STAT 5
    else s := by
  unfold State.lcsCheckDone State.responseFits State.responseMessage
  generalize State.checkPassed = passed
  generalize State.checkFailed = failed
  generalize hmacSha256 = mac
  rfl

/-- A passed check moves FAILCNT alone. -/
theorem checkPassed_shows (s : State) :
    Rested s s.checkPassed ∧ s.checkPassed.lcs = s.lcs ∧ s.checkPassed.failCnt = 0 := by
  unfold State.checkPassed
  split
  · next h => exact ⟨.refl s, rfl, h⟩
  · exact ⟨(Rested.refl s).setNvm64 _ _, rfl, nvm64_setNvm64_self s _ 0⟩

theorem checkFailed_failCnt (s : State) : s.checkFailed.failCnt = min (2 ^ 64 - 1) (s.failCnt + 1) :=
  (nvm64_setNvm64_self s _ _).trans (Nat.mod_eq_of_lt (by omega))

theorem settle_failCnt (s : State) : s.settle.failCnt = s.failCnt := settle_nvm64 s _

theorem challengeCheckDone_passes {s : State} (hs : s.calm) (hcheck : s.lcs.checking = true) (hport : s.hdp.unlocking = false)
    (h : s.responseFits = true) :
    ∃ t, exec .challengeCheckDone s = .next t ∧ t.lcs.checking = false ∧ t.lcs.journal = true ∧ t.failCnt = 0 := by
  obtain ⟨hpassed, hlcs, hcnt⟩ := checkPassed_shows s.checkEnded
  have heffect : s.lcsCheckDone = s.checkEnded.checkPassed.journalBegun := by
    rw [lcsCheckDone_eq, hcheck, hport, h]
    rfl
  have hrested : Rested s s.checkEnded.checkPassed := ((Rested.refl s).lcs _).trans hpassed
  refine ⟨_, exec_rested rfl hs heffect hrested.journalBegun, ?_⟩
  rw [settle_lcs, settle_failCnt, journalBegun_failCnt, journalBegun_checking, hlcs]
  exact ⟨rfl, rfl, hcnt⟩

theorem challengeCheckDone_fails {s : State} (hs : s.calm) (hcheck : s.lcs.checking = true) (hport : s.hdp.unlocking = false)
    (h : s.responseFits = false) :
    ∃ t, exec .challengeCheckDone s = .next t ∧ t.lcs.checking = false ∧ t.lcs.journal = s.lcs.journal ∧
      t.bit Reg.LCS_STAT 7 = true ∧ t.bit Reg.LCS_STAT 5 = true ∧ t.failCnt = min (2 ^ 64 - 1) (s.failCnt + 1) := by
  have heffect : s.lcsCheckDone = s.checkEnded.checkFailed.setBit Reg.LCS_STAT 5 := by
    rw [lcsCheckDone_eq, hcheck, hport, h]
    rfl
  have hrested : Rested s (s.checkEnded.checkFailed.setBit Reg.LCS_STAT 5) :=
    ((((Rested.refl s).lcs _).setNvm64 _ _).wr (by decide) _).wr (by decide) _
  refine ⟨_, exec_rested rfl hs heffect hrested, ?_⟩
  rw [settle_lcs, settle_bit _ _ _ (by decide), settle_bit _ _ _ (by decide), settle_failCnt]
  refine ⟨rfl, rfl, ?_, ?_, checkFailed_failCnt s.checkEnded⟩
  · rw [State.bit, State.rd_setBit, if_pos rfl, wbit_wputBit_ne _ _ _ _ (by decide), State.checkFailed, State.rd_setBit, if_pos rfl,
      wbit_wputBit_self _ _ _ (by decide)]
  · rw [State.bit, State.rd_setBit, if_pos rfl, wbit_wputBit_self _ _ _ (by decide)]

/-! ## The journal (R150) -/

theorem codeOfState_eq (n : Nat) : codeOfState n = [0, 1, 3, 7].getD n 31 := by
  match n with
  | 0 | 1 | 2 | 3 => rfl
  | n + 4 => rfl

theorem codeOfState_le (n : Nat) : codeOfState n ≤ 31 := by
  unfold codeOfState
  split <;> decide

/-- A step of the journal moves the NVM and the keys alone. -/
theorem journalStep_eq (s : State) (i : Nat) :
    ∃ m k, s.journalStep i = { s with nvm := m, lcs := { s.lcs with keys := k } } := by
  unfold State.journalStep
  extract_lets
  split
  case h_4 =>
    split
    · exact ⟨_, _, rfl⟩
    · exact ⟨_, _, rfl⟩
  all_goals exact ⟨_, _, rfl⟩

/-- The six steps of the journal. -/
def State.journalled (s : State) : State := [1, 2, 3, 4, 5, 6].foldl State.journalStep s

theorem journalled_eq (s : State) : ∃ m k, s.journalled = { s with nvm := m, lcs := { s.lcs with keys := k } } := by
  have hall (l : List Nat) (u : State) (hu : ∃ m k, u = { s with nvm := m, lcs := { s.lcs with keys := k } }) :
      ∃ m k, l.foldl State.journalStep u = { s with nvm := m, lcs := { s.lcs with keys := k } } := by
    induction l generalizing u with
    | nil => exact hu
    | cons i l ih =>
      obtain ⟨m, k, rfl⟩ := hu
      exact ih _ (journalStep_eq _ i)
  exact hall _ s ⟨s.nvm, s.lcs.keys, rfl⟩

theorem Rested.journalled {s t : State} (h : Rested s t) : Rested s t.journalled := by
  obtain ⟨_, _, heq⟩ := journalled_eq t
  rw [heq]
  exact { h with }

/-- A journal at its beginning makes all six steps. -/
theorem journalTo_all {s : State} (h : s.lcs.journalDone = 0) :
    s.journalTo 6 = { s.journalled with lcs := { s.journalled.lcs with journalDone := 6 } } := by
  have hkeeps (u : State) (i : Nat) : (u.journalStep i).lcs.journalDone = u.lcs.journalDone := by
    obtain ⟨_, _, heq⟩ := journalStep_eq u i
    rw [heq]
  simp [State.journalTo, State.journalled, hkeeps, h]

theorem journalStep4_nvm64 (s : State) (a : Nat) : (s.journalStep 4).nvm64 a = s.nvm64 a := by
  change (if s.lcs.target = 4 then s.destroyKeys else s).nvm64 a = s.nvm64 a
  split <;> rfl

theorem destroyKeys_keys (s : State) : s.destroyKeys.lcs.keys = List.replicate 8 [] := rfl

/-- What the journal leaves: the new state, INTENT and COMMIT cleared, and for RETIRED no key (R150, R152). -/
theorem journalled_shows (s : State) :
    s.journalled.nvm64 0x3F0100 = notWord (codeOfState s.lcs.target) % 2 ^ 64 ∧ s.journalled.nvm64 0x3F0108 = 0 ∧
      s.journalled.nvm64 0x3F0110 = 0 ∧ (s.lcs.target = 4 → s.journalled.lcs.keys = List.replicate 8 []) := by
  let intent := s.journalStep 1
  let stated := intent.journalStep 2
  let committed := stated.journalStep 3
  let destroyed := committed.journalStep 4
  let cleared := destroyed.journalStep 5
  have hsteps : s.journalled = cleared.setNvm64 0x3F0110 0 := rfl
  have hcleared : cleared = destroyed.setNvm64 0x3F0108 0 := rfl
  rw [hsteps]
  refine ⟨?_, ?_, nvm64_setNvm64_self _ _ _, fun hretired => ?_⟩
  · calc (cleared.setNvm64 0x3F0110 0).nvm64 0x3F0100
        = cleared.nvm64 0x3F0100 := nvm64_setNvm64_ne _ _ (by decide)
      _ = destroyed.nvm64 0x3F0100 := nvm64_setNvm64_ne _ _ (by decide)
      _ = committed.nvm64 0x3F0100 := journalStep4_nvm64 _ _
      _ = stated.nvm64 0x3F0100 := nvm64_setNvm64_ne _ _ (by decide)
      _ = notWord (codeOfState s.lcs.target) % 2 ^ 64 := nvm64_setNvm64_self _ _ _
  · rw [nvm64_setNvm64_ne _ _ (by decide), hcleared]
    exact nvm64_setNvm64_self _ _ _
  · have hdestroyed : destroyed = committed.destroyKeys := if_pos hretired
    rw [setNvm64_lcs, hcleared, setNvm64_lcs, hdestroyed, destroyKeys_keys]

theorem trigger_first {s : State} (h : s.lcs.pendingResets = []) (c : ResetCause) :
    s.trigger c = { s with lcs := { s.lcs with pendingResets := [c] } } := by
  simp [State.trigger, h]

/-- A journal that has ended raises its SYSTEM trigger. -/
def State.journalRaised (s : State) : State :=
  let u := (s.setBit Reg.LCS_STAT 6).trigger .lifecycle
  { u with lcs := { u.lcs with newState := u.lcs.target } }

theorem journalRaised_eq {s : State} (h : s.lcs.pendingResets = []) : s.journalRaised =
    { s.setBit Reg.LCS_STAT 6 with lcs := { s.lcs with pendingResets := [.lifecycle], newState := s.lcs.target } } := by
  rw [State.journalRaised, trigger_first (s := s.setBit Reg.LCS_STAT 6) h]
  rfl

/-- A journal that no SYSTEM trigger cuts. -/
theorem journalWrite_eq {s : State} (hjournal : s.lcs.journal = true) (hpending : s.lcs.pendingResets = []) :
    s.journalWrite = (s.journalTo 6).journalRaised := by
  rw [State.journalWrite, if_pos hjournal, if_pos (List.isEmpty_iff.2 hpending)]
  generalize s.journalTo 6 = u
  rfl

theorem journalWrite_shows {s : State} (hs : s.calm) (hjournal : s.lcs.journal = true) (hdone : s.lcs.journalDone = 0)
    (hpending : s.lcs.pendingResets = []) :
    ∃ t, exec .journalWrite s = .next t ∧ t.lcsBusy = true ∧ t.nvm64 0x3F0100 = notWord (codeOfState s.lcs.target) % 2 ^ 64 ∧
      t.nvm64 0x3F0108 = 0 ∧ t.nvm64 0x3F0110 = 0 ∧ t.lcs.pendingResets = [.lifecycle] ∧ t.bit Reg.LCS_STAT 6 = true ∧
      (s.lcs.target = 4 → t.lcs.keys = List.replicate 8 []) := by
  have hshows := journalled_shows s
  have hframe := journalled_eq s
  have hrested := (Rested.refl s).journalled
  have heffect := journalWrite_eq hjournal hpending
  rw [journalTo_all hdone] at heffect
  generalize s.journalled = u at hshows hframe hrested heffect
  obtain ⟨hstate, hintent, hcommit, hkeys⟩ := hshows
  have hbusy : u.lcs.journal = true := by
    obtain ⟨_, _, rfl⟩ := hframe
    exact hjournal
  have hnone : u.lcs.pendingResets = [] := by
    obtain ⟨_, _, rfl⟩ := hframe
    exact hpending
  have hraised := journalRaised_eq (s := { u with lcs := { u.lcs with journalDone := 6 } }) hnone
  refine ⟨_, exec_rested rfl hs (heffect.trans hraised) ((hrested.wr (by decide) _).lcs _), ?_⟩
  rw [State.lcsBusy, settle_lcs, settle_nvm64, settle_nvm64, settle_nvm64, settle_bit _ _ _ (by decide)]
  refine ⟨?_, hstate, hintent, hcommit, rfl, ?_, hkeys⟩
  · simp [hbusy]
  · change (u.setBit Reg.LCS_STAT 6).bit Reg.LCS_STAT 6 = true
    rw [State.bit, State.rd_setBit, if_pos rfl, wbit_wputBit_self _ _ _ (by decide)]

/-- A STATE word is its code with the code's NOT above it. -/
theorem notWord_codeOfState (n : Nat) : notWord (codeOfState n) % 2 ^ 64 =
    [0, 1, 3, 7].getD n 31 + (2 ^ 32 - 1 - [0, 1, 3, 7].getD n 31) * 2 ^ 32 := by
  have hle := codeOfState_le n
  rw [← codeOfState_eq, notWord, Nat.mod_eq_of_lt (by omega : codeOfState n < 4294967296)]
  exact Nat.mod_eq_of_lt (by omega)

/-! ## Key loads (R155) -/

theorem writeKeyctl_refused {s : State} {v : Word} (wr : Writer) (h : v.toNat / 2 ^ 16 ≠ 0x4B59) :
    s.writeKeyctl v wr = s.setBit Reg.LCS_KEYSTAT 9 := by
  refine if_pos ?_
  rw [fld_key]
  simp [-Nat.reducePow, h]

theorem writeKeyctl_taken {s : State} {v : Word} {wr : Writer} (hs : s.awake) (hwarden : wr.mid = 0 ∧ wr.aid = 0x400)
    (hkey : v.toNat / 2 ^ 16 = 0x4B59) (hidle : s.lcs.keyLoad = none) (hmay : s.mayLoad (v.toNat % 8) = true)
    (hpos : 0 < v.toNat / 2 ^ 8 % 128) (hlen : v.toNat / 2 ^ 8 % 128 ≤ 64) :
    s.writeKeyctl v wr = { s with lcs := { s.lcs with keyLoad := some (v.toNat % 8, v.toNat / 2 ^ 8 % 128) } } := by
  have hslot : fld v 0 3 = v.toNat % 8 := rfl
  have hfield : fld v 8 7 = v.toNat / 2 ^ 8 % 128 := congrArg (· % 2 ^ 7) (Nat.shiftRight_eq_div_pow ..)
  simp only [State.writeKeyctl, hslot, hfield, fld_key]
  exact if_neg (by simp [-Nat.reducePow, lcsWriter_warden hwarden, deep_awake hs, hkey, hidle, hmay, hpos.ne', Nat.not_lt.2 hlen])

/-- The words of LCS_KEYBUF of a list are cleared. -/
def State.clearKeybuf (s : State) (l : List Nat) : State := l.foldl (fun u i => u.wr (Reg.LCS_KEYBUF i) 0) s

theorem clearKeybuf_lcs (s : State) (l : List Nat) : (s.clearKeybuf l).lcs = s.lcs := by
  induction l generalizing s with
  | nil => rfl
  | cons i l ih => exact ih (s.wr (Reg.LCS_KEYBUF i) 0)

theorem Rested.clearKeybuf {s t : State} (h : Rested s t) {l : List Nat} (hl : ∀ i ∈ l, i < 16) : Rested s (t.clearKeybuf l) := by
  induction l generalizing t with
  | nil => exact h
  | cons i l ih =>
    have hi : i < 16 := hl i List.mem_cons_self
    have hne : Reg.LCS_BOOT ≠ Reg.LCS_KEYBUF i := by
      simp only [Reg.LCS_BOOT, Reg.LCS_KEYBUF]
      omega
    exact ih (h.wr hne 0) fun j hj => hl j (List.mem_cons_of_mem i hj)

theorem clearKeybuf_rd (s : State) (l : List Nat) (i : Nat) :
    (s.clearKeybuf l).rd (Reg.LCS_KEYBUF i) = if i ∈ l then 0 else s.rd (Reg.LCS_KEYBUF i) := by
  induction l generalizing s with
  | nil => rfl
  | cons j l ih =>
    have hstep : s.clearKeybuf (j :: l) = (s.wr (Reg.LCS_KEYBUF j) 0).clearKeybuf l := rfl
    have hinj : Reg.LCS_KEYBUF i = Reg.LCS_KEYBUF j ↔ i = j := by
      simp only [Reg.LCS_KEYBUF]
      omega
    rw [hstep, ih, State.rd_wr]
    by_cases hj : i = j <;> simp [hinj, hj]

theorem keyLoadDone_eq {s : State} {slot len : Nat} (h : s.lcs.keyLoad = some (slot, len)) :
    s.keyLoadDone = State.clearKeybuf
      { s with lcs := { s.lcs with keyLoad := none, keys := s.lcs.keys.set slot ((s.regBytes Reg.LCS_KEYBUF 16).take len) } }
      (List.range 16) := by
  rw [State.keyLoadDone, h]
  rfl

theorem keyLoadDone_shows {s : State} {slot len : Nat} (hs : s.calm) (h : s.lcs.keyLoad = some (slot, len)) :
    ∃ t, exec .keyLoadDone s = .next t ∧ t.lcs.keyLoad = none ∧
      t.lcs.keys = s.lcs.keys.set slot ((s.regBytes Reg.LCS_KEYBUF 16).take len) ∧ ∀ i, i < 16 → t.rd (Reg.LCS_KEYBUF i) = 0 := by
  have hrested := ((Rested.refl s).lcs
    { s.lcs with keyLoad := none, keys := s.lcs.keys.set slot ((s.regBytes Reg.LCS_KEYBUF 16).take len) }).clearKeybuf
      (l := List.range 16) fun i hi => List.mem_range.1 hi
  refine ⟨_, exec_rested rfl hs (keyLoadDone_eq h) hrested, ?_⟩
  rw [settle_lcs, clearKeybuf_lcs]
  refine ⟨rfl, rfl, fun i hi => ?_⟩
  have hlevel : levelReg (Reg.LCS_KEYBUF i) = false := by
    have habove : 0x30003080 ≤ Reg.LCS_KEYBUF i := by simp only [Reg.LCS_KEYBUF]; omega
    simp only [levelReg, Bool.or_eq_false_iff, Bool.and_eq_false_iff, decide_eq_false_iff_not]
    simp only [Reg.SAF_OUT, Reg.GPIO_IRQ, Reg.VIR_DB]
    omega
  rw [settle_rd _ _ hlevel, clearKeybuf_rd, if_pos (List.mem_range.2 hi)]

/-- Settles O24: each command is read off its rule for the life-cycle block. That a check takes four blocks (R149) and that the key
is the buffer as it stands at the end of the load (R155) are the model's choices (log 58). -/
theorem lifeCycle : Obligations.LifeCycle := by
  unfold Obligations.LifeCycle
  intro s v wr hs tgt warden dropped cnt code message passes
  have hcalm : s.calm := hs.1
  have hrested : Rested s s := .refl s
  refine ⟨fun hwarden hkey hbusy hlock hout hready => ⟨fun hkind => ?_, fun hkind => ?_⟩, fun hrefused => ?_,
    challengeReady_shows hcalm, fun hwarden hchal => ?_, fun hchal => ?_, fun hcheck hport => ⟨fun hpass => ?_, fun hfail => ?_⟩,
    ?_, ?_, fun hjournal hdone hpending => ?_, fun hwarden hkey hidle hmay hpos hlen => ?_, fun hkey => ?_,
    fun slot len => keyLoadDone_shows hcalm⟩
  · have hk : transitionKind s.lcState tgt = 1 := transitionKind_plain _ hkind
    have htaken := writeLcsReq_taken hs hwarden hkey hbusy hlock hout hready (by rw [hk]; decide)
    rw [if_pos hk] at htaken
    exact lifecycleRequest_leaves hcalm (hrested.request _) htaken
  · have hk : transitionKind s.lcState tgt = 2 := transitionKind_authenticated _ hkind
    have htaken := writeLcsReq_taken hs hwarden hkey hbusy hlock hout hready (by rw [hk]; decide)
    rw [if_neg (by rw [hk]; decide)] at htaken
    exact lifecycleRequest_leaves hcalm (hrested.request _) htaken
  · exact lifecycleRequest_leaves hcalm (hrested.wr (by decide) _) (writeLcsReq_refused wr hrefused)
  · exact lcsResponseWrite_leaves hcalm ((hrested.wr (by decide) _).dropChallenge.lcs _) (writeLcsResp_taken hs hwarden hchal v)
  · exact lcsResponseWrite_leaves hcalm (hrested.wr (by decide) _) (writeLcsResp_refused hchal 7 v wr)
  · exact challengeCheckDone_passes hcalm hcheck hport ((responseFits_iff s).2 hpass)
  · exact challengeCheckDone_fails hcalm hcheck hport (Bool.eq_false_iff.2 (mt (responseFits_iff s).1 hfail))
  · exact leaves_rested rfl hcalm rfl hrested.dropChallenge
  · exact leaves_rested rfl hcalm rfl (hrested.wr (by decide) _)
  · rw [← notWord_codeOfState]
    exact journalWrite_shows hcalm hjournal hdone hpending
  · exact keyLoad_leaves hcalm (hrested.lcs _) (writeKeyctl_taken hs hwarden hkey hidle hmay hpos hlen)
  · exact keyLoad_leaves hcalm (hrested.wr (by decide) _) (writeKeyctl_refused wr hkey)

end Sys2Proof.Machine

/-!
The core family: atomics, CSR accesses, calls, returns, the entry of a synchronous exception, and the entries from outside the
instructions. An instruction that is executed has its effect on the state after its fetch, which has the core's registers of the
state before; each proof reads that effect off the rule of its instruction.
-/
namespace Sys2Proof.Machine

/-! ## How an instruction that is executed ends -/

section
variable {s : State} {i : Instr} {body : State → State}

/-- An instruction that is executed answers its effect on the state after its fetch. -/
theorem exec_of_executes (hs : s.executes) (hi : i.wf = true) (he : exec i s = .next (s.runInstr i body)) :
    exec i s = .next (body s.fetch.s).settle := by
  rw [he, runInstr_executes hs hi]

/-- An instruction that is executed, and whose effect leaves the core as `c`, completes. -/
theorem completes_core {c : Core} (hs : s.executes) (hi : i.wf = true) (he : exec i s = .next (s.runInstr i body))
    (hb : body s.fetch.s = { s.fetch.s with
      core := { c with icache := s.fetch.s.core.icache, nmi := s.fetch.s.core.nmi } }) : Completes i s c := by
  refine ⟨_, exec_of_executes hs hi he, ?_⟩
  rw [hb]
  exact executed_core s (fun _ => { c with icache := s.fetch.s.core.icache, nmi := s.fetch.s.core.nmi }) c rfl

/-- The state after the fetch, with the core of the state before. -/
theorem fetch_with_core (s : State) :
    ({ s.fetch.s with core := { s.core with icache := s.fetch.s.core.icache, nmi := s.fetch.s.core.nmi } } : State) = s.fetch.s := by
  rw [← fetch_core]

/-- An instruction that is executed, and whose effect is an exception where it stands, traps. -/
theorem traps_here {num sub : Nat} {eval : Word} (hs : s.executes) (hi : i.wf = true)
    (he : exec i s = .next (s.runInstr i body)) (hb : body s.fetch.s = s.fetch.s.raise num sub eval) :
    Traps i s s.core num sub eval := by
  rw [Traps, exec_of_executes hs hi he, hb, fetch_with_core]

end

/-- An instruction that retires with the flags as they are. -/
theorem retire_keepCC (s : State) (rd : Fin 16) (v : Word) : s.retire rd v s.core.cc = (s.setG rd v).advance := rfl

/-! ## Atomics (R168, R212, R213) -/

theorem misaligned_iff (a : Word) : misaligned a = true ↔ a.toNat % 4 ≠ 0 := decide_eq_true_iff

theorem storeSpace_iff (a : Word) : storeSpace a = true ↔ regionOf a.toNat = .store ∨ regionOf a.toNat = .window := by
  simp [storeSpace]

theorem privateSpace_iff (a : Word) : privateSpace a = true ↔ coreSpace a := by simp [privateSpace, coreSpace]

/-- LRSV and SCND need an aligned word of the Store (R168). -/
theorem storeWordAt_iff (a : Word) : (misaligned a || !(storeSpace a)) = true ↔
    a.toNat % 4 ≠ 0 ∨ ¬(regionOf a.toNat = .store ∨ regionOf a.toNat = .window) := by
  rw [Bool.or_eq_true, misaligned_iff, Bool.not_eq_true', ← storeSpace_iff, Bool.not_eq_true]

/-- LRSV reserves the granule of the word under the agent ID, whatever guard it arms (R212, R240). -/
theorem reserve_resv {s : State} {a : Word} {e : Nat} (h : s.storeEff (s.coreReq .read a 4 0) = some e) :
    (s.reserve a).core.resv = some (e - e % 32, s.coreAid) := by
  simp only [State.reserve, h]
  split <;> rfl

theorem reserve_cc (s : State) (a : Word) : (s.reserve a).core.cc = s.core.cc := by
  unfold State.reserve
  split
  · simp only
    split <;> rfl
  · rfl

/-- A refused SCND writes 1 with the reservation cleared, and no byte of the Store has changed (R213). -/
theorem scndRefused_eq (s : State) (rd : Fin 16) (a : Word) :
    ∃ w : State, s.scndRefused rd a = ((w.setG rd 1).advance).watch a true ∧ w.core.resv = none ∧ w.store = s.store := by
  unfold State.scndRefused
  extract_lets w
  refine ⟨w.dropResv, rfl, rfl, ?_⟩
  change w.store = s.store
  simp only [w]
  split <;> rfl

section
variable {u : State} {rd rb ra : Fin 16} {a b : Word} {v : Nat} (ha : u.g ra = a)
include ha

theorem opLrsv_raises (h : a.toNat % 4 ≠ 0 ∨ ¬(regionOf a.toNat = .store ∨ regionOf a.toNat = .window)) :
    opLrsv rd ra u = u.raise 4 0 a := by
  rw [opLrsv, ha]
  exact if_pos ((storeWordAt_iff a).2 h)

theorem opScnd_raises (h : a.toNat % 4 ≠ 0 ∨ ¬(regionOf a.toNat = .store ∨ regionOf a.toNat = .window)) :
    opScnd rd rb ra u = u.raise 4 0 a := by
  rw [opScnd, ha]
  exact if_pos ((storeWordAt_iff a).2 h)

theorem opLrsv_answered (h : ¬(misaligned a || !(storeSpace a)) = true) (hresp : (u.coreRead a 4).resp = .ok v) :
    opLrsv rd ra u = ((((u.coreRead a 4).s.reserve a).setG rd (word v)).advance).watch a false := by
  rw [opLrsv, ha]
  simp only [if_neg h, Ans.load, hresp]
  rw [← reserve_cc _ a, retire_keepCC]

/-- AMOADD and AMOSWP need an aligned word (R168). -/
theorem opAmo_raises (h : a.toNat % 4 ≠ 0) :
    opAmoadd rd rb ra u = u.raise 4 0 a ∧ opAmoswp rd rb ra u = u.raise 4 0 a := by
  rw [opAmoadd, opAmoswp, ha]
  exact ⟨if_pos ((misaligned_iff a).2 h), if_pos ((misaligned_iff a).2 h)⟩

variable (hb : u.g rb = b)
include hb

section
variable (h : ¬(misaligned a || !(storeSpace a)) = true)
include h

theorem opScnd_answered (hresp : (u.coreAtomic .scnd a b).resp = .ok v) :
    opScnd rd rb ra u = (((u.coreAtomic .scnd a b).s.setG rd (word v)).advance).watch a true := by
  rw [opScnd, ha, hb]
  simp only [if_neg h, hresp]
  rw [retire_keepCC]

theorem opScnd_refused (hresp : (u.coreAtomic .scnd a b).resp = .denied ∨ ∃ k, (u.coreAtomic .scnd a b).resp = .abort k) :
    opScnd rd rb ra u = (u.coreAtomic .scnd a b).s.scndRefused rd a := by
  rw [opScnd, ha, hb]
  rcases hresp with hresp | ⟨k, hresp⟩ <;> simp only [if_neg h, hresp]

end

section
variable (h : a.toNat % 4 = 0) (hspace : ¬(u.tenantMode = true ∧ coreSpace a))
include h hspace

theorem opAmoadd_answered (hresp : (u.coreAtomic .amoAdd a b).resp = .ok v) :
    opAmoadd rd rb ra u = ((((u.coreAtomic .amoAdd a b).s.setG rd (word v)).advance).watch a false).watch a true := by
  rw [← privateSpace_iff, ← Bool.and_eq_true] at hspace
  rw [opAmoadd, ha, hb]
  simp only [misaligned, h, if_neg hspace, Ans.load, hresp]
  rfl

theorem opAmoswp_answered (hresp : (u.coreAtomic .amoSwap a b).resp = .ok v) :
    opAmoswp rd rb ra u = ((((u.coreAtomic .amoSwap a b).s.setG rd (word v)).advance).watch a false).watch a true := by
  rw [← privateSpace_iff, ← Bool.and_eq_true] at hspace
  rw [opAmoswp, ha, hb]
  simp only [misaligned, h, if_neg hspace, Ans.load, hresp]
  rfl

end

end

/-- A word goes to the Store whatever the core is. -/
theorem storePut_withCore (s : State) (c : Core) (slot off : Nat) (bs : List Byte) :
    ({ s with core := c } : State).storePut slot off bs = { s.storePut slot off bs with core := c } := by
  have hmirror : ({ s with core := c } : State).mirrorOf slot = s.mirrorOf slot := rfl
  simp only [State.storePut, hmirror]
  cases s.mirrorOf slot <;> rfl

/-- An SCND at its bank under the reservation of its granule and agent (R212). -/
theorem scndAt_hit {s : State} {a : Nat} {r : Req} (h : s.core.resv = some (a - a % 32, r.aid)) :
    s.scndAt a r = ⟨{ s.storePut (bankOf a) (a % 0x10000) (bytesLE 4 r.data) with
      core := { s.core with resv := none, guard := [] } }, .ok 0⟩ := by
  simp only [State.scndAt, h, decide_true, if_true, storePut_withCore]

/-- Any other (R212, R240). -/
theorem scndAt_miss {s : State} {a : Nat} {r : Req} (h : s.core.resv ≠ some (a - a % 32, r.aid)) :
    s.scndAt a r = ⟨({ s with core := { s.core with resv := none, guard := [] } } : State).scndFails (bankOf a), .ok 1⟩ := by
  simp only [State.scndAt, h, decide_false, Bool.false_eq_true, if_false]

/-- Settles O12: the fetch leaves the registers and the mode as they were; each instruction then takes one of its ways, said by
its lemma above. -/
theorem atomics : Obligations.Atomics := by
  unfold Obligations.Atomics
  refine ⟨fun s rd rb ra hs => ?_, fun s a r => ?_⟩
  case refine_2 =>
    by_cases hit : s.core.resv = some (a - a % 32, r.aid)
    · rw [scndAt_hit hit]
      exact ⟨rfl, fun _ => ⟨rfl, rfl⟩, absurd hit⟩
    · rw [scndAt_miss hit]
      exact ⟨rfl, fun h => absurd h hit, fun _ => ⟨rfl, rfl⟩⟩
  intro u a inStore ends amo
  have ha : u.g ra = a := fetch_g s ra
  have hb : u.g rb = s.g rb := fetch_g s rb
  have hmode : u.tenantMode = s.tenantMode := fetch_tenantMode s
  have hscnd : exec (.scnd rd rb ra) s = .next (opScnd rd rb ra u).settle := exec_of_executes hs rfl rfl
  have hkind : decide (Instr.scnd rd rb ra ≠ .lrsv rd ra) = true := decide_eq_true nofun
  refine ⟨fun haligned hstore => ?_, fun haligned hspace => ?_, fun hbad => ⟨?_, ?_⟩, fun hbad => ⟨?_, ?_⟩⟩
  · have htaken : ¬(misaligned a || !(storeSpace a)) = true :=
      fun hbad => ((storeWordAt_iff a).1 hbad).elim (absurd haligned) (absurd hstore)
    refine ⟨fun v e hresp heff => ?_, fun v hresp => ?_, fun hresp => ?_⟩
    · refine ⟨(u.coreRead a 4).s.reserve a, ?_, reserve_resv heff⟩
      simp only [ends, ne_eq, not_true_eq_false, decide_false]
      rw [exec_of_executes (body := opLrsv rd ra) hs rfl rfl, opLrsv_answered ha htaken hresp]
    · simp only [ends, hkind]
      rw [hscnd, opScnd_answered ha hb htaken hresp]
    · obtain ⟨w, hw, hresv, hkept⟩ := scndRefused_eq (u.coreAtomic .scnd a (s.g rb)).s rd a
      refine ⟨w, ?_, hresv, hkept⟩
      simp only [ends, hkind]
      rw [hscnd, opScnd_refused ha hb htaken hresp, hw]
      rfl
  · rw [← hmode] at hspace
    refine ⟨fun v hresp => ?_, fun v hresp => ?_⟩
    · rw [exec_of_executes (body := opAmoadd rd rb ra) hs rfl rfl, opAmoadd_answered ha hb haligned hspace hresp]
    · rw [exec_of_executes (body := opAmoswp rd rb ra) hs rfl rfl, opAmoswp_answered ha hb haligned hspace hresp]
  · exact traps_here hs rfl rfl (opLrsv_raises ha hbad)
  · exact traps_here hs rfl rfl (opScnd_raises ha hbad)
  · exact traps_here hs rfl rfl (opAmo_raises (rb := rb) ha hbad).1
  · exact traps_here hs rfl rfl (opAmo_raises (rb := rb) ha hbad).2

/-! ## CSRs (R160, R217, R218) -/

/-- A CSR that exists, and that the mode may name, has its access (R160). -/
theorem csrInstr_allowed {s : State} {n : Nat} (hknown : csrKnown n = true) (hmay : s.tenantMode = true → csrWarden n = false)
    (i : Instr) (k : State → State) : s.csrInstr i n k = k s := by
  have hmay : ¬(s.tenantMode && csrWarden n) = true := by
    rw [Bool.and_eq_true, not_and, Bool.not_eq_true]
    exact hmay
  rw [State.csrInstr, if_neg (by simp [hknown]), if_neg hmay]

theorem csrInstr_illegal {s : State} {n : Nat} (h : csrKnown n = false) (i : Instr) (k : State → State) :
    s.csrInstr i n k = s.raise 2 0 (encodeWord i) := if_pos (by rw [h]; rfl)

/-- A Warden CSR is refused to Tenant mode (R160). -/
theorem csrInstr_warden {s : State} {n : Nat} (hmode : s.tenantMode = true) (h : csrWarden n = true) (i : Instr)
    (k : State → State) : s.csrInstr i n k = s.raise 3 2 (encodeWord i) := by
  have hknown : csrKnown n = true := by
    simp only [csrWarden, csrKnown, List.contains_iff_mem, List.mem_cons, List.not_mem_nil, or_false] at h ⊢
    omega
  rw [State.csrInstr, if_neg (by simp [hknown]), if_pos (by rw [hmode, h]; rfl)]

/-- A CSR that is RW in both modes is written whatever the mode. -/
theorem csrWrite_rw {n : Nat} (h : csrTenantRO n = false) (s : State) (v : Word) : s.csrWrite n v = s.csrPut n v := by
  rw [State.csrWrite, h, Bool.and_false]
  rfl

theorem csrWrite_tenantRO {n : Nat} (h : csrTenantRO n = true) (s : State) (v : Word) :
    s.csrWrite n v = if s.tenantMode then s else s.csrPut n v := by
  rw [State.csrWrite, h, Bool.and_true]

theorem word_ccNum (f : CC) : word (ccNum f) = BitVec.ofNat 32 (8 * bit01 f.n + 4 * bit01 f.z + 2 * bit01 f.c + bit01 f.v) := by
  simp only [ccNum, b2n_eq]

/-- The flags that a field of four bits holds, N the highest. -/
theorem ccOf_fld (w : Word) (lo : Nat) : ccOf (fld w lo 4) =
    { n := w.getLsbD (lo + 3), z := w.getLsbD (lo + 2), c := w.getLsbD (lo + 1), v := w.getLsbD lo } := by
  have hbit (i : Nat) (hi : i < 4) : decide (fld w lo 4 / 2 ^ i % 2 = 1) = w.getLsbD (lo + i) := by
    rw [← Nat.testBit_eq_decide_div_mod_eq, testBit_fld, decide_eq_true hi, Bool.true_and, wbit]
  simp only [ccOf, CC.mk.injEq]
  exact ⟨hbit 3 (by decide), hbit 2 (by decide), hbit 1 (by decide), by simpa using hbit 0 (by decide)⟩

/-- A PLVL above 8 acts as 8. -/
theorem statusPlvl_eq (w : Word) :
    statusPlvl w = if 8 < w.toNat / 16 % 16 then (w &&& 0xFFFFFF0F) ||| 0x80 else w := by
  rw [statusPlvl, fld_eq_div_mod]
  rfl

/-- What an access of CSR `n` is to the core that `s` fetches on: it reads `old`, and a write of `v` leaves the core as `put v`,
but for what the fetch has changed. -/
structure CsrRow (s : State) (n : Nat) (old : Word) (put : Word → Core) : Prop where
  known : csrKnown n = true
  read : s.fetch.s.csrGet n = old
  write : ∀ v, s.fetch.s.csrWrite n v = { s.fetch.s with
    core := { put v with icache := s.fetch.s.core.icache, nmi := s.fetch.s.core.nmi } }

namespace CsrRow

variable {s : State} {n : BitVec 12} {old : Word} {put : Word → Core}

theorem completes_csrr (h : CsrRow s n.toNat old put) (hs : s.executes)
    (hmay : s.tenantMode = true → csrWarden n.toNat = false) (rd : Fin 16) :
    Completes (.csrr rd n) s (s.core.result rd old s.core.cc) := by
  refine completes_core (body := opCsrr rd n) hs rfl rfl ?_
  rw [opCsrr, csrInstr_allowed h.known (by rwa [fetch_tenantMode]), h.read, retire_keepCC, State.setG, State.advance,
    State.setPc, Core.result, Core.next]
  simp only
  rw [fetch_core]

/-- What CSRW, CSRS and CSRC write, each its own value. -/
theorem completes_write (h : CsrRow s n.toNat old put) (hs : s.executes)
    (hmay : s.tenantMode = true → csrWarden n.toNat = false) {i : Instr} {v : Word} {k : State → State}
    (hi : i.wf = true) (he : exec i s = .next (s.runInstr i fun u => u.csrInstr i n.toNat k))
    (hk : k s.fetch.s = (s.fetch.s.csrWrite n.toNat v).advance) : Completes i s (put v).next := by
  refine completes_core hs hi he ?_
  rw [csrInstr_allowed h.known (by rwa [fetch_tenantMode]), hk, h.write]
  rfl

end CsrRow

/-- A CSR that is RW in both modes. -/
theorem CsrRow.of_rw {s : State} {n : Nat} {old : Word} {put : Word → Core} (hknown : csrKnown n = true)
    (hrw : csrTenantRO n = false) (hread : s.fetch.s.csrGet n = old)
    (hwrite : ∀ v, s.fetch.s.csrPut n v = { s.fetch.s with
      core := { put v with icache := s.fetch.s.core.icache, nmi := s.fetch.s.core.nmi } }) : CsrRow s n old put :=
  ⟨hknown, hread, fun v => (csrWrite_rw hrw _ v).trans (hwrite v)⟩

/-- A CSR that is RO in Tenant mode. -/
theorem CsrRow.of_tenantRO {s : State} {n : Nat} {old : Word} {put : Word → Core} (hknown : csrKnown n = true)
    (hro : csrTenantRO n = true) (hread : s.fetch.s.csrGet n = old)
    (hwrite : ∀ v, s.fetch.s.csrPut n v = { s.fetch.s with
      core := { put v with icache := s.fetch.s.core.icache, nmi := s.fetch.s.core.nmi } }) :
    CsrRow s n old fun v => if s.tenantMode then s.core else put v := by
  refine ⟨hknown, hread, fun v => ?_⟩
  rw [csrWrite_tenantRO hro, fetch_tenantMode, hwrite]
  cases s.tenantMode
  · rfl
  · exact (fetch_with_core s).symm

/-- Settles O14: each row of Table 06.2 reads and writes one register of the core, which the fetch has left as it was; the four
instructions are the row's read and its write. -/
theorem csrInstructions : Obligations.CsrInstructions := by
  unfold Obligations.CsrInstructions
  intro s rd ra n hs c f warden hmay old put hrow
  have row : CsrRow s n.toNat old put := by
    rcases hrow with ⟨hn, rfl, rfl⟩ | ⟨hn, rfl, rfl⟩ | ⟨hn, rfl, rfl⟩ | ⟨hn, rfl, rfl⟩ | ⟨hn, rfl, rfl⟩ | ⟨hn, rfl, rfl⟩ |
      ⟨hn, rfl, rfl⟩ | ⟨hn, rfl, rfl⟩ | ⟨hn, rfl, rfl⟩ | ⟨hn, rfl, rfl⟩ | ⟨hn, rfl, rfl⟩ | ⟨hn, rfl, rfl⟩ | ⟨hn, rfl, rfl⟩ |
      ⟨hn, rfl, rfl⟩ | ⟨hn, rfl, rfl⟩ | ⟨hn, rfl, rfl⟩ | ⟨hn, rfl, rfl⟩ | ⟨hn, rfl, rfl⟩
    all_goals rw [hn]
    · refine .of_rw rfl rfl ?_ fun v => ?_
      · rw [State.csrGet, word_ccNum, fetch_cc]
      · rw [State.csrPut, ccOf_fld, State.setCC, fetch_core]
    · exact .of_rw rfl rfl (fetch_astat s) fun v => by rw [State.csrPut, fetch_core]; rfl
    · exact .of_tenantRO rfl rfl (fetch_tid s) fun v => by rw [State.csrPut, fetch_core]
    iterate 8 exact .of_rw rfl rfl (by rw [State.csrGet, fetch_core]) fun v => by rw [State.csrPut, fetch_core]
    · exact .of_tenantRO rfl rfl (by rw [State.csrGet, fetch_core]) fun v => by rw [State.csrPut, fetch_core]
    iterate 5 exact .of_rw rfl rfl (by rw [State.csrGet, fetch_core]) fun v => by rw [State.csrPut, fetch_core]
    · refine .of_rw rfl rfl (fetch_status s) fun v => ?_
      rw [State.csrPut, statusWritten, statusPlvl_eq, fetch_core]
  have hg : s.fetch.s.g ra = s.g ra := fetch_g s ra
  refine ⟨row.completes_csrr hs hmay rd, row.completes_write hs hmay rfl rfl ?_, row.completes_write hs hmay rfl rfl ?_,
    row.completes_write hs hmay rfl rfl ?_⟩
  · rw [hg]
  · rw [row.read, hg]
  · rw [row.read, hg]

/-! ## Calls (R164, R173, R565) -/

theorem encodeWord_csrr (rd : Fin 16) (n : BitVec 12) :
    encodeWord (.csrr rd n) = BitVec.ofNat 32 (0x08 * 2 ^ 24 + rd.val * 2 ^ 20 + n.toNat) := by
  have henc : encode (.csrr rd n) = some (rri 0x08 rd 0 n.toNat) := rfl
  rw [encodeWord, henc, Option.getD_some, rri]
  exact congrArg (BitVec.ofNat 32) (by omega)

theorem encodeWord_brk (k : BitVec 20) : encodeWord (.brk k) = BitVec.ofNat 32 (0x05 * 2 ^ 24 + k.toNat) := by
  have henc : encode (.brk k) = some (ri20 0x05 0 k.toNat) := rfl
  rw [encodeWord, henc, Option.getD_some, ri20]
  exact congrArg (BitVec.ofNat 32) (by omega)

/-- Settles O15: the fetch leaves the mode as it was and brings no exception of its own; each instruction then raises its
exception, BRK where the debug port has not asked for a halt, the CSR access by `State.csrInstr`. -/
theorem calls : Obligations.Calls := by
  unfold Obligations.Calls
  intro s rd k n hs word
  refine ⟨?_, fun hport => ?_, fun hport => ?_, fun hknown => ?_, fun hmode hwarden => ?_⟩
  · rw [Traps, exec_of_executes (body := opWcall k) hs rfl rfl, opWcall, State.advance, State.setPc, Core.next]
    simp only
    rw [fetch_core]
    rfl
  · refine traps_here (body := opBrk k) hs rfl rfl ?_
    rw [opBrk, hport, ← encodeWord_brk]
    rfl
  · rw [exec_of_executes (body := opBrk k) hs rfl rfl, opBrk, hport]
    rfl
  · refine traps_here (body := opCsrr rd n) hs rfl rfl ?_
    rw [opCsrr, csrInstr_illegal hknown, encodeWord_csrr]
  · refine traps_here (body := opCsrr rd n) hs rfl rfl ?_
    rw [opCsrr, csrInstr_warden ((fetch_tenantMode s).trans hmode) hwarden, encodeWord_csrr]

/-! ## Returns (R164, R165, R178, R186) -/

/-- The number of the current tenant. -/
theorem tidNum_eq (s : State) : s.tidNum = s.core.tid.toNat % 1024 := by
  rw [State.tidNum, fld_eq_div_mod, pow_zero, Nat.div_one]
  rfl

/-- The STATUS that a WRET of the Warden's code restores: NSTATUS while NMI is 1, else ESTATUS. -/
def Core.savedForReturn (c : Core) : Word := if c.status.getLsbD 2 then c.nstatus else c.estatus

/-- A return of the Warden's code that would enter a tenant that is not READY is refused (R165). -/
theorem wretWarden_refused {s : State} (h : s.core.savedForReturn.getLsbD 8 = true) (hten : s.tenState s.tidNum ≠ 1) :
    s.wretWarden = s.refuseTenant := by
  have hrefuse : (wbit s.core.savedForReturn 8 && decide (s.tenState s.tidNum ≠ 1)) = true := by
    rw [Bool.and_eq_true, decide_eq_true_iff]
    exact ⟨h, hten⟩
  exact if_pos hrefuse

/-- A return of the Warden's code restores STATUS, CC and PC (R178). -/
theorem wretWarden_returns {s : State} (h : s.core.savedForReturn.getLsbD 8 = true → s.tenState s.tidNum = 1) :
    s.wretWarden = { s with core := { s.core with
      status := statusPlvl (s.core.savedForReturn &&& 0x1FF), cc := ccOf (fld s.core.savedForReturn 12 4)
      pc := (if s.core.status.getLsbD 2 then s.core.nepc else s.core.epc) &&& 0xFFFFFFFC, resv := none, guard := [] } } := by
  have hmay : ¬(wbit s.core.savedForReturn 8 && decide (s.tenState s.tidNum ≠ 1)) = true := by
    rw [Bool.and_eq_true, decide_eq_true_iff]
    exact fun ⟨hmode, hten⟩ => hten (h hmode)
  exact if_neg hmay

theorem fetch_savedForReturn (s : State) : s.fetch.s.core.savedForReturn = s.core.savedForReturn := by rw [fetch_core]; rfl

theorem fetch_tidNum (s : State) : s.fetch.s.tidNum = s.core.tid.toNat % 1024 := by rw [tidNum_eq, fetch_tid]

/-- Settles O16: the fetch leaves the mode and what was saved as they were; WRET then takes one of its four ways, each said by its
lemma above. -/
theorem returns : Obligations.Returns := by
  unfold Obligations.Returns
  intro s hs c cc nmi saved st
  have hmode : s.fetch.s.tenantMode = c.status.getLsbD 8 := fetch_tenantMode s
  have htexl : wbit s.fetch.s.core.tstatus 1 = c.tstatus.getLsbD 1 := by rw [fetch_core]; rfl
  have hsaved : s.fetch.s.core.savedForReturn = saved := fetch_savedForReturn s
  refine ⟨fun hwarden hready => ?_, fun htenant hreturn => ?_, fun htenant hnone => ?_, fun hwarden hto hten => ?_⟩
  · refine completes_core (body := opWret) hs rfl rfl ?_
    rw [opWret, hmode, hwarden, if_neg Bool.false_ne_true, wretWarden_returns (by rwa [hsaved, fetch_tidNum]), hsaved,
      statusPlvl_eq, ccOf_fld, fetch_core]
  · refine completes_core (body := opWret) hs rfl rfl ?_
    rw [opWret, hmode, htenant, htexl, hreturn, if_pos rfl, if_pos rfl, State.wretTenant, ccOf_fld, State.setPc, State.setCC,
      State.dropResv]
    simp only
    rw [fetch_core]
  · refine traps_here (body := opWret) hs rfl rfl ?_
    rw [opWret, hmode, htenant, htexl, hnone]
    rfl
  · rw [exec_of_executes (body := opWret) hs rfl rfl, opWret, hmode, hwarden, if_neg Bool.false_ne_true,
      wretWarden_refused (by rwa [hsaved]) (by rwa [fetch_tidNum])]

/-! ## A read of plain memory that is answered with data -/

/-- Where `x` is an answer with data, the core, the memories and every block are as in `s`. -/
def Ans.Keeps (x : Ans) (s : State) : Prop := ∀ v, x.resp = .ok v → x.s.corest = s.corest

theorem abortAns_keeps (s : State) (k : Nat) (r : Req) : (s.abortAns k r).Keeps s := fun _ h => nomatch h

/-- A word that is read without an uncorrectable error (R299). -/
theorem storeWord_corest {s : State} {slot off src code mid aid : Nat}
    (h : (s.storeWord slot off src code mid aid).ue = none) :
    (s.storeWord slot off src code mid aid).s.corest = s.corest := by
  unfold State.storeWord at h ⊢
  extract_lets at h ⊢
  split at h
  · rfl
  · rfl
  · cases h

theorem saddleWord_corest {s : State} {a aid : Nat} (h : (s.saddleWord a aid).ue = none) :
    (s.saddleWord a aid).s.corest = s.corest := by
  unfold State.saddleWord at h ⊢
  extract_lets at h ⊢
  split at h
  · rfl
  · rfl
  · cases h

/-- Words that are read in turn, the first that fails kept: where none has failed, each has kept the core. -/
theorem foldl_corest {β : Type} (l : List β) (f : BytesRead × Nat → β → BytesRead × Nat)
    (hf : ∀ x b, (f x b).1.ue = none → x.1.ue = none ∧ (f x b).1.s.corest = x.1.s.corest) (x : BytesRead × Nat) :
    (l.foldl f x).1.ue = none → x.1.ue = none ∧ (l.foldl f x).1.s.corest = x.1.s.corest := by
  induction l generalizing x with
  | nil => exact fun h => ⟨h, rfl⟩
  | cons b l ih =>
    intro h
    obtain ⟨hue, hrest⟩ := ih (f x b) h
    obtain ⟨hue, hfirst⟩ := hf x b hue
    exact ⟨hue, hrest.trans hfirst⟩

theorem storeRead_corest {s : State} {slot off n mid aid : Nat} (h : (s.storeRead slot off n mid aid).ue = none) :
    (s.storeRead slot off n mid aid).s.corest = s.corest := by
  refine (foldl_corest (wordsOf off n) _ (fun x w hx => ?_) (⟨s, 0, none⟩, 0) h).2
  simp only [Option.orElse_eq_orElse, Option.orElse_eq_or, Option.or_eq_none_iff, Option.map_eq_none_iff] at hx
  exact ⟨hx.1, storeWord_corest hx.2⟩

theorem saddleRead_corest {s : State} {a n aid : Nat} (h : (s.saddleRead a n aid).ue = none) :
    (s.saddleRead a n aid).s.corest = s.corest := by
  refine (foldl_corest (wordsOf a n) _ (fun x w hx => ?_) (⟨s, 0, none⟩, 0) h).2
  simp only [Option.orElse_eq_orElse, Option.orElse_eq_or, Option.or_eq_none_iff, Option.map_eq_none_iff] at hx
  exact ⟨hx.1, saddleWord_corest hx.2⟩

theorem readAns_ue {x : BytesRead} {f : Nat → Nat} {v : Nat} (h : (readAns x f).resp = .ok v) : x.ue = none := by
  unfold readAns at h
  split at h
  · cases h
  · assumption

/-- Two beats answer with data where both do (R225). -/
theorem mergeResp_ok {x y : Resp} {k v : Nat} (h : mergeResp x y k = .ok v) : (∃ w, x = .ok w) ∧ ∃ w, y = .ok w := by
  cases x with
  | ok v =>
    cases y with
    | ok w => exact ⟨⟨v, rfl⟩, w, rfl⟩
    | _ => cases h
  | _ => cases h

section
variable {s : State} {r : Req} (hr : r.kind = .read)
include hr

theorem storeAt_keeps (a n data at_ : Nat) : (s.storeAt a n data at_ r).Keeps s := by
  intro v h
  unfold State.storeAt at h ⊢
  simp only [hr] at h ⊢
  rw [readAns_s]
  exact storeRead_corest (readAns_ue h)

/-- One beat of a read. -/
theorem beatAt_keeps (g : Region) (a n data at_ : Nat) : (s.beatAt g a n data at_ r).Keeps s := by
  have hread : ¬r.kind.writes = true := by simp [hr, ReqKind.writes]
  unfold State.beatAt
  extract_lets rb
  split
  · rw [if_neg hread]
    exact fun _ _ => rfl
  · rw [if_neg hread]
    intro v h
    rw [readAns_s]
    exact saddleRead_corest (readAns_ue h)
  · exact fun _ _ => rfl
  · split
    · exact abortAns_keeps _ _ _
    · exact storeAt_keeps hr _ _ _ _
  · split
    · exact abortAns_keeps _ _ _
    · exact storeAt_keeps hr _ _ _ _
  · exact abortAns_keeps _ _ _

theorem beats_keeps (g : Region) (a : Nat) : (s.beats g a r).Keeps s := by
  unfold State.beats
  split
  · exact beatAt_keeps hr _ _ _ _ _
  · intro v h
    obtain ⟨⟨w0, h0⟩, w1, h1⟩ := mergeResp_ok h
    exact (beatAt_keeps hr _ _ _ _ _ w1 h1).trans (beatAt_keeps hr _ _ _ _ _ w0 h0)
  · exact fun _ _ => rfl

/-- The effect of a read of plain memory. -/
theorem perform_keeps {g : Region} (hg : plainRegion g) (a : Nat) : (s.perform g a r).Keeps s := by
  unfold State.perform
  rcases hg with rfl | rfl | rfl | rfl | rfl <;> exact beats_keeps hr _ a

end

/-- A domain that is not ON answers no data (R109 to R111). -/
theorem policyAns_keeps {s : State} {d : Domain} {who : Waiter} {a : Nat} {r : Req} {x : Ans}
    (h : s.policyAns d who a r = some x) : x.Keeps s := by
  intro v hv
  unfold State.policyAns at h
  split_ifs at h <;> cases h <;> cases hv

theorem atTarget_keeps {s : State} {r : Req} {g : Region} (hr : r.kind = .read) (hg : plainRegion g) (a : Nat) (who : Waiter) :
    (s.atTarget g a r who).Keeps s := by
  unfold State.atTarget
  split
  · exact abortAns_keeps _ _ _
  · split
    · exact abortAns_keeps _ _ _
    · split
      · next x hx => exact policyAns_keeps hx
      · split
        · exact fun _ h => nomatch h
        · exact perform_keeps hr hg a

/-- A gate that lets a request pass changes nothing (R280). -/
theorem gateCheck_ok {s : State} {n a path : Nat} {r : Req} (h : (s.gateCheck n a path r).ok = true) :
    (s.gateCheck n a path r).s = s := by
  unfold State.gateCheck at h ⊢
  split at h
  · rfl
  · cases h

theorem issue_keeps {s : State} {r : Req} (hr : r.kind = .read) (hg : plainRegion (regionOf r.addr)) (who : Waiter) :
    (s.issue r who).Keeps s := by
  unfold State.issue
  split
  · exact abortAns_keeps _ _ _
  · split
    · split
      · extract_lets x
        split
        · next hok =>
          rw [show x.s = s from gateCheck_ok hok]
          exact atTarget_keeps hr hg _ who
        · exact fun _ h => nomatch h
      · exact atTarget_keeps hr hg _ who
    · exact atTarget_keeps hr hg _ who

/-- A read that waited goes on. -/
theorem goesOn_keeps {s : State} {h : Held} (hr : h.req.kind = .read) (hg : plainRegion (regionOf h.req.addr)) :
    (s.goesOn h).Keeps s := by
  unfold State.goesOn
  split
  · exact abortAns_keeps _ _ _
  · split
    · extract_lets u
      split
      · exact abortAns_keeps _ _ _
      · exact perform_keeps (s := s.unhold h) hr hg _
    · exact fun _ _ => rfl

/-- A read of plain memory that is answered with data leaves the core, the memories and every block as they were. -/
theorem access_keeps {s : State} {r : Req} (hr : r.kind = .read) (hg : plainRegion (regionOf r.addr)) (who : Waiter) :
    (s.access r who).Keeps s := by
  unfold State.access
  split
  · next h hfound =>
    have hsame := List.find?_some hfound
    simp only [Held.isFor, Bool.and_eq_true, decide_eq_true_eq] at hsame
    exact goesOn_keeps (hsame.1.1.1.2.trans hr) (hsame.1.1.2 ▸ hg)
  · exact issue_keeps hr hg who

/-! ## The entry of a synchronous exception (R174) -/

/-- With no store waiting, the read of a vector in plain memory leaves the core, the memories and every block as they were. -/
theorem vectorRead_keeps {s : State} {vec : Nat} (hbuf : s.core.buf = [])
    (hplain : plainRegion (regionOf (s.vectorAddr vec).toNat)) : (s.vectorRead vec).Keeps s := by
  have hdrain : s.drainTo (s.vectorAddr vec) 4 = s := by simp [State.drainTo, State.drainFor, hbuf]
  have hbefore : s.storesBefore (s.vectorAddr vec) 4 = false := by rw [State.storesBefore, hbuf]; rfl
  have hwhole : ({ s.coreReq .read (s.vectorAddr vec) 4 0 with rom := false } : Req).splits = false := rfl
  rw [State.vectorRead, hdrain, hbefore, if_neg Bool.false_ne_true, State.read, hwhole, if_neg Bool.false_ne_true]
  exact access_keeps rfl hplain _

/-- An entry whose vector has been read continues at it (R174 step 6, R175). -/
theorem toVector_answered {s : State} {vec v : Nat} (h : (s.vectorRead vec).resp = .ok v) :
    s.toVector vec = (s.vectorRead vec).s.setPc (word v) := by
  simp only [State.toVector, Ans.vector13, h, ite_self]

theorem savedStatus_eq (s : State) : s.savedStatus = (s.core.status &&& 0x1FF) ||| BitVec.ofNat 32
    (2 ^ 15 * bit01 s.core.cc.n + 2 ^ 14 * bit01 s.core.cc.z + 2 ^ 13 * bit01 s.core.cc.c + 2 ^ 12 * bit01 s.core.cc.v) := by
  rw [State.savedStatus, ccNum, b2n_eq, b2n_eq, b2n_eq, b2n_eq]
  congr 2
  omega

/-- Settles O18: the entry is taken at once, since EXL and DBL are 0; steps 1 to 5 load the core's registers, and the read of the
vector leaves them. -/
theorem exceptionEntry : Obligations.ExceptionEntry := by
  unfold Obligations.ExceptionEntry
  intro s num sub eval v hexl hdbl hbuf hplain hread t f
  let entered := s.enterWarden s.pc (causeWord num sub) eval s.core.status
  have hraise : t = (entered.vectorRead num).s.setPc (word v) := by
    rw [← toVector_answered (s := entered) hread]
    exact (if_neg (Bool.eq_false_iff.1 hdbl)).trans (if_neg (Bool.eq_false_iff.1 hexl))
  have hkept : (entered.vectorRead num).s.corest = entered.corest := vectorRead_keeps hbuf hplain v hread
  have hcore : (entered.vectorRead num).s.core = entered.core := congrArg Prod.fst hkept
  have hrest : (entered.vectorRead num).s.rest = entered.rest := congrArg Prod.snd hkept
  rw [hraise]
  refine ⟨?_, congrArg State.Rest.store hrest, congrArg State.Rest.saddle hrest, congrArg State.Rest.nvm hrest⟩
  rw [State.setPc, hcore, ← savedStatus_eq]
  rfl

/-! ## A lockstep mismatch in the clock of another fault (R158, R419) -/

/-- A running part that has just reported a fault of the core supply, DOMAIN 1, in the clock that goes on. -/
def powerFaultFirst : State := State.reset.safReport (faultWord 1 1 0) 0x7FF

theorem powerFaultFirst_awake : powerFaultFirst.awake := by decide

/-- The command ends with the levels that follow the mismatch. -/
theorem exec_lockstep_powerFaultFirst : exec .lockstepMismatch powerFaultFirst = .next powerFaultFirst.lockstep.settle :=
  congrArg Host.Outcome.next (cmd_calm powerFaultFirst_awake.1 (by decide))

/-- CORE 0x001 does not reach SAF_LASTFW, since DOMAIN 1 comes before DOMAIN 4 (log 20). -/
theorem lastfw_powerFaultFirst : powerFaultFirst.lockstep.rd Reg.SAF_LASTFW = 0x10010000 := by decide

/-- Refutes O27: the clause on the lockstep mismatch does not ask that no fault of lower DOMAIN has been reported in the same
clock. Where one has, SAF_LASTFW keeps it and does not show the mismatch (R419, log 20). The model forgets such a fault as its
command ends (`State.clockEnds`), but the statement's premises admit a state that holds one. -/
theorem not_coreEntries : ¬ Obligations.CoreEntries := by
  unfold Obligations.CoreEntries
  intro h
  obtain ⟨-, -, -, -, -, -, hlockstep⟩ := h powerFaultFirst 0 0 0 powerFaultFirst_awake (by decide)
  obtain ⟨t, ht, -, -, -, -, -, hlast, -⟩ := hlockstep (by decide)
  obtain rfl : powerFaultFirst.lockstep.settle = t := Host.Outcome.next.inj (exec_lockstep_powerFaultFirst.symm.trans ht)
  rw [settle_rd _ _ (by decide), lastfw_powerFaultFirst] at hlast
  exact absurd hlast (by decide)

end Sys2Proof.Machine

/-!
The instruction set family: the decoder and the encoder are inverse; what the arithmetic, logic, shift, move, branch, load, store
and barrier instructions do. An instruction that is executed has its effect on the state after its fetch, which has the core's
registers of the state before.
-/
namespace Sys2Proof.Machine

/-! ## The words of each form (Table 07.1)

`d`, `a`, `b` and `c` in a name are the register fields that an instruction's word has, `i` its immediate; every other field is 0. -/

section
variable {w : Word} {op : Nat} (hop : op < 256)
include hop

theorem rrr_dabc_iff (rd ra rb rc : Fin 16) : rrr op rd ra rb rc = w ↔
    fld w 24 8 = op ∧ regField w 20 = rd ∧ regField w 16 = ra ∧ regField w 12 = rb ∧ regField w 8 = rc ∧ fld w 0 8 = 0 := by
  simp only [rrr, word, regField, fld_eq_div_mod, Fin.ext_iff, Fin.val_ofNat, ← BitVec.toNat_inj, BitVec.toNat_ofNat]
  omega

theorem rrr_dab_iff (rd ra rb : Fin 16) : rrr op rd ra rb 0 = w ↔
    fld w 24 8 = op ∧ regField w 20 = rd ∧ regField w 16 = ra ∧ regField w 12 = rb ∧ fld w 0 12 = 0 := by
  simp only [rrr, word, regField, fld_eq_div_mod, Fin.ext_iff, Fin.val_ofNat, ← BitVec.toNat_inj, BitVec.toNat_ofNat]
  omega

theorem rrr_da_iff (rd ra : Fin 16) : rrr op rd ra 0 0 = w ↔
    fld w 24 8 = op ∧ regField w 20 = rd ∧ regField w 16 = ra ∧ fld w 0 16 = 0 := by
  simp only [rrr, word, regField, fld_eq_div_mod, Fin.ext_iff, Fin.val_ofNat, ← BitVec.toNat_inj, BitVec.toNat_ofNat]
  omega

theorem rrr_ab_iff (ra rb : Fin 16) : rrr op 0 ra rb 0 = w ↔
    fld w 24 8 = op ∧ regField w 16 = ra ∧ regField w 12 = rb ∧ fld w 0 12 = 0 ∧ fld w 20 4 = 0 := by
  simp only [rrr, word, regField, fld_eq_div_mod, Fin.ext_iff, Fin.val_ofNat, ← BitVec.toNat_inj, BitVec.toNat_ofNat]
  omega

theorem rrr_a_iff (ra : Fin 16) : rrr op 0 ra 0 0 = w ↔
    fld w 24 8 = op ∧ regField w 16 = ra ∧ fld w 0 16 = 0 ∧ fld w 20 4 = 0 := by
  simp only [rrr, word, regField, fld_eq_div_mod, Fin.ext_iff, Fin.val_ofNat, ← BitVec.toNat_inj, BitVec.toNat_ofNat]
  omega

theorem rrr_zero_iff : rrr op 0 0 0 0 = w ↔ fld w 24 8 = op ∧ fld w 0 24 = 0 := by
  simp only [rrr, word, fld_eq_div_mod, ← BitVec.toNat_inj, BitVec.toNat_ofNat]
  omega

theorem rri_dai_iff (rd ra : Fin 16) (imm : BitVec 16) : rri op rd ra imm.toNat = w ↔
    fld w 24 8 = op ∧ regField w 20 = rd ∧ regField w 16 = ra ∧ BitVec.ofNat 16 (fld w 0 16) = imm := by
  simp only [rri, word, regField, fld_eq_div_mod, Fin.ext_iff, Fin.val_ofNat, ← BitVec.toNat_inj, BitVec.toNat_ofNat]
  omega

theorem rri_ai_iff (ra : Fin 16) (imm : BitVec 16) : rri op 0 ra imm.toNat = w ↔
    fld w 24 8 = op ∧ regField w 16 = ra ∧ BitVec.ofNat 16 (fld w 0 16) = imm ∧ fld w 20 4 = 0 := by
  simp only [rri, word, regField, fld_eq_div_mod, Fin.ext_iff, Fin.val_ofNat, ← BitVec.toNat_inj, BitVec.toNat_ofNat]
  omega

/-- A number of a CSR, to be read. -/
theorem rri_dcsr_iff (rd : Fin 16) (n : BitVec 12) : rri op rd 0 n.toNat = w ↔
    fld w 24 8 = op ∧ regField w 20 = rd ∧ BitVec.ofNat 12 (fld w 0 12) = n ∧ fld w 16 4 = 0 ∧ fld w 12 4 = 0 := by
  simp only [rri, word, regField, fld_eq_div_mod, Fin.ext_iff, Fin.val_ofNat, ← BitVec.toNat_inj, BitVec.toNat_ofNat]
  omega

/-- A number of a CSR, to be written. -/
theorem rri_acsr_iff (ra : Fin 16) (n : BitVec 12) : rri op 0 ra n.toNat = w ↔
    fld w 24 8 = op ∧ regField w 16 = ra ∧ BitVec.ofNat 12 (fld w 0 12) = n ∧ fld w 20 4 = 0 ∧ fld w 12 4 = 0 := by
  simp only [rri, word, regField, fld_eq_div_mod, Fin.ext_iff, Fin.val_ofNat, ← BitVec.toNat_inj, BitVec.toNat_ofNat]
  omega

/-- A number of places, or of a bit. -/
theorem rri_dan_iff (rd ra : Fin 16) (n : BitVec 5) : rri op rd ra n.toNat = w ↔
    fld w 24 8 = op ∧ regField w 20 = rd ∧ regField w 16 = ra ∧ BitVec.ofNat 5 (fld w 0 5) = n ∧ fld w 5 11 = 0 := by
  simp only [rri, word, regField, fld_eq_div_mod, Fin.ext_iff, Fin.val_ofNat, ← BitVec.toNat_inj, BitVec.toNat_ofNat]
  omega

theorem rri_an_iff (ra : Fin 16) (n : BitVec 5) : rri op 0 ra n.toNat = w ↔
    fld w 24 8 = op ∧ regField w 16 = ra ∧ BitVec.ofNat 5 (fld w 0 5) = n ∧ fld w 5 11 = 0 ∧ fld w 20 4 = 0 := by
  simp only [rri, word, regField, fld_eq_div_mod, Fin.ext_iff, Fin.val_ofNat, ← BitVec.toNat_inj, BitVec.toNat_ofNat]
  omega

theorem rri_bins_iff (rd ra : Fin 16) (pos n : BitVec 5) : rri op rd ra (n.toNat * 0x20 + pos.toNat) = w ↔
    fld w 24 8 = op ∧ regField w 20 = rd ∧ regField w 16 = ra ∧ BitVec.ofNat 5 (fld w 0 5) = pos ∧
      BitVec.ofNat 5 (fld w 5 5) = n ∧ fld w 10 6 = 0 := by
  simp only [rri, word, regField, fld_eq_div_mod, Fin.ext_iff, Fin.val_ofNat, ← BitVec.toNat_inj, BitVec.toNat_ofNat]
  omega

theorem rri_bext_iff (rd ra : Fin 16) (pos n : BitVec 5) (sgn : Bool) :
    rri op rd ra (b2n sgn * 0x400 + n.toNat * 0x20 + pos.toNat) = w ↔
      fld w 24 8 = op ∧ regField w 20 = rd ∧ regField w 16 = ra ∧ BitVec.ofNat 5 (fld w 0 5) = pos ∧
        BitVec.ofNat 5 (fld w 5 5) = n ∧ wbit w 10 = sgn ∧ fld w 11 5 = 0 := by
  have hbit : wbit w 10 = decide (w.toNat / 2 ^ 10 % 2 = 1) := Nat.testBit_eq_decide_div_mod_eq
  simp only [rri, word, regField, fld_eq_div_mod, Fin.ext_iff, Fin.val_ofNat, ← BitVec.toNat_inj, BitVec.toNat_ofNat, hbit]
  cases sgn <;> simp [b2n, -Nat.reducePow] <;> omega

theorem ri20_di_iff (rd : Fin 16) (imm : BitVec 20) : ri20 op rd imm.toNat = w ↔
    fld w 24 8 = op ∧ regField w 20 = rd ∧ BitVec.ofNat 20 (fld w 0 20) = imm := by
  simp only [ri20, word, regField, fld_eq_div_mod, Fin.ext_iff, Fin.val_ofNat, ← BitVec.toNat_inj, BitVec.toNat_ofNat]
  omega

theorem ri20_i_iff (imm : BitVec 20) : ri20 op 0 imm.toNat = w ↔
    fld w 24 8 = op ∧ BitVec.ofNat 20 (fld w 0 20) = imm ∧ fld w 20 4 = 0 := by
  simp only [ri20, word, fld_eq_div_mod, ← BitVec.toNat_inj, BitVec.toNat_ofNat]
  omega

/-- An immediate of 16 bits in the field of 20. -/
theorem ri20_dh_iff (rd : Fin 16) (imm : BitVec 16) : ri20 op rd imm.toNat = w ↔
    fld w 24 8 = op ∧ regField w 20 = rd ∧ BitVec.ofNat 16 (fld w 0 16) = imm ∧ fld w 16 4 = 0 := by
  simp only [ri20, word, regField, fld_eq_div_mod, Fin.ext_iff, Fin.val_ofNat, ← BitVec.toNat_inj, BitVec.toNat_ofNat]
  omega

theorem ri20_mask_iff (mask : BitVec 16) : ri20 op 0 mask.toNat = w ↔
    fld w 24 8 = op ∧ BitVec.ofNat 16 (fld w 0 16) = mask ∧ fld w 16 8 = 0 := by
  simp only [ri20, word, fld_eq_div_mod, ← BitVec.toNat_inj, BitVec.toNat_ofNat]
  omega

end

/-! ## From a word to its instruction -/

/-- Every instruction of `o` is well formed, and `w` is its word. -/
def Spells (w : Word) (o : Option Instr) : Prop := ∀ i ∈ o, i.wf = true ∧ encode i = some w

namespace Spells

variable {w x : Word} {i : Instr}

theorem illegal : Spells w none := fun _ h => nomatch h

theorem word (henc : encode i = some x) (hwf : i.wf = true) (hx : x = w) : Spells w (some i) := by
  rintro _ ⟨⟩
  exact ⟨hwf, hx ▸ henc⟩

/-- A row of a table of opcodes, and the rows after it. -/
theorem row {c : Prop} [Decidable c] {o p : Option Instr} (ho : c → Spells w o) (hp : Spells w p) :
    Spells w (if c then o else p) := by
  split
  · next h => exact ho h
  · exact hp

/-- An instruction whose word has fields to check. -/
theorem checked {c : Prop} [Decidable c] (henc : encode i = some x) (hwf : c → i.wf = true) (hx : c → x = w) :
    Spells w (if c then some i else none) :=
  row (fun h => word henc (hwf h) (hx h)) illegal

section
variable {op : Nat} (henc : encode i = some x) (hwf : i.wf = true) (hop : op < 256) (h : fld w 24 8 = op)
include henc hwf hop h

theorem dab (hx : rrr op (regField w 20) (regField w 16) (regField w 12) 0 = x) :
    Spells w (if decide (fld w 0 12 = 0) then some i else none) :=
  checked henc (fun _ => hwf) fun h0 => hx ▸ (rrr_dab_iff hop ..).2 ⟨h, rfl, rfl, rfl, of_decide_eq_true h0⟩

theorem da (hx : rrr op (regField w 20) (regField w 16) 0 0 = x) :
    Spells w (if decide (fld w 0 16 = 0) then some i else none) :=
  checked henc (fun _ => hwf) fun h0 => hx ▸ (rrr_da_iff hop ..).2 ⟨h, rfl, rfl, of_decide_eq_true h0⟩

theorem dai (hx : rri op (regField w 20) (regField w 16) (BitVec.ofNat 16 (fld w 0 16)).toNat = x) : Spells w (some i) :=
  word henc hwf (hx ▸ (rri_dai_iff hop ..).2 ⟨h, rfl, rfl, rfl⟩)

end

end Spells

/-- A mask without g15 (R194): bit 15 of the word is 0, as the field above it. -/
theorem popm_fields_iff (w : Word) :
    fld w 15 9 = 0 ↔ fld w 16 8 = 0 ∧ (BitVec.ofNat 16 (fld w 0 16)).getLsbD 15 = false := by
  have hbit : (BitVec.ofNat 16 (fld w 0 16)).getLsbD 15 = decide (w.toNat / 2 ^ 15 % 2 = 1) := by
    rw [BitVec.getLsbD_ofNat, testBit_fld, wbit, BitVec.getLsbD, Nat.testBit_eq_decide_div_mod_eq]
    rfl
  rw [hbit, decide_eq_false_iff_not, fld_eq_div_mod, fld_eq_div_mod]
  omega

theorem regField_val (w : Word) (lo : Nat) : (regField w lo).val = fld w lo 4 := Nat.mod_eq_of_lt (fld_lt w lo 4)

/-- Tables 07.4, 07.5 and 07.11. -/
theorem decodeLow_spells (w : Word) : Spells w (decodeLow w) := by
  unfold decodeLow
  extract_lets op rd ra rb rc imm imm20 csr r3 r2
  refine .row (fun h => .checked rfl (fun _ => rfl) fun h0 => (rrr_zero_iff (by decide)).2 ⟨h, h0⟩) ?_
  refine .row (fun h => .checked rfl (fun _ => rfl) fun h0 => (ri20_i_iff (by decide) _).2 ⟨h, rfl, h0⟩) ?_
  iterate 2 refine .row (fun h => .checked rfl (fun _ => rfl) fun h0 => (rrr_zero_iff (by decide)).2 ⟨h, h0⟩) ?_
  refine .row (fun h => .checked rfl (fun _ => rfl) fun h0 => (ri20_i_iff (by decide) _).2 ⟨h, rfl, h0⟩) ?_
  refine .row (fun h => .checked rfl (fun _ => rfl) fun h0 => (rri_dcsr_iff (by decide) ..).2 ⟨h, rfl, rfl, h0⟩) ?_
  iterate 3 refine .row (fun h => .checked rfl (fun _ => rfl) fun h0 => (rri_acsr_iff (by decide) ..).2 ⟨h, rfl, rfl, h0⟩) ?_
  iterate 4 refine .row (.dab rfl rfl (by decide) · rfl) ?_
  refine .row (.da rfl rfl (by decide) · rfl) ?_
  iterate 5 refine .row (.dab rfl rfl (by decide) · rfl) ?_
  iterate 2 refine .row (fun h => .checked rfl (fun _ => rfl) fun h0 =>
      (rrr_dabc_iff (by decide) ..).2 ⟨h, rfl, rfl, rfl, rfl, h0⟩) ?_
  refine .row (.da rfl rfl (by decide) · rfl) ?_
  iterate 4 refine .row (.dab rfl rfl (by decide) · rfl) ?_
  iterate 2 refine .row (.dai rfl rfl (by decide) · rfl) ?_
  iterate 4 refine .row (.dab rfl rfl (by decide) · rfl) ?_
  refine .row (.da rfl rfl (by decide) · rfl) ?_
  iterate 3 refine .row (.dai rfl rfl (by decide) · rfl) ?_
  exact .illegal

/-- Tables 07.5 to 07.7. -/
theorem decodeMid_spells (w : Word) : Spells w (decodeMid w) := by
  unfold decodeMid
  extract_lets op rd ra rb imm imm20 n5 w5 r3 r2 s5
  iterate 4 refine .row (.dab rfl rfl (by decide) · rfl) ?_
  iterate 6 refine .row (fun h => .checked rfl (fun _ => rfl) fun h0 =>
      (rri_dan_iff (by decide) ..).2 ⟨h, rfl, rfl, rfl, of_decide_eq_true h0⟩) ?_
  refine .row (fun h => .checked rfl (fun _ => rfl) fun h0 =>
    (rri_an_iff (by decide) ..).2 ⟨h, rfl, rfl, of_decide_eq_true h0.1, h0.2⟩) ?_
  refine .row (fun h => .checked rfl And.right fun h0 =>
    (rri_bext_iff (by decide) ..).2 ⟨h, rfl, rfl, rfl, rfl, rfl, h0.1⟩) ?_
  refine .row (fun h => .checked rfl And.right fun h0 => (rri_bins_iff (by decide) ..).2 ⟨h, rfl, rfl, rfl, rfl, h0.1⟩) ?_
  iterate 3 refine .row (fun h => .checked rfl (fun _ => rfl) fun h0 =>
      (rrr_ab_iff (by decide) ..).2 ⟨h, rfl, rfl, of_decide_eq_true h0.1, h0.2⟩) ?_
  refine .row (.da rfl rfl (by decide) · rfl) ?_
  refine .row (fun h => .checked rfl (fun _ => rfl) fun h0 => (rri_ai_iff (by decide) ..).2 ⟨h, rfl, rfl, h0⟩) ?_
  refine .row (fun h => .word rfl rfl ((ri20_di_iff (by decide) ..).2 ⟨h, rfl, rfl⟩)) ?_
  refine .row (fun h => .checked rfl (fun _ => rfl) fun h0 => (ri20_dh_iff (by decide) ..).2 ⟨h, rfl, rfl, h0⟩) ?_
  refine .row (fun h => .word rfl rfl ((ri20_di_iff (by decide) ..).2 ⟨h, rfl, rfl⟩)) ?_
  exact .illegal

/-- Tables 07.8 to 07.10. -/
theorem decodeHigh_spells (w : Word) : Spells w (decodeHigh w) := by
  unfold decodeHigh
  extract_lets op rd ra rb imm imm20 r3 r2 all0
  iterate 5 refine .row (.dai rfl rfl (by decide) · rfl) ?_
  refine .row (fun h => .checked rfl id fun _ => (rri_dai_iff (by decide) ..).2 ⟨h, rfl, rfl, rfl⟩) ?_
  iterate 3 refine .row (.dai rfl rfl (by decide) · rfl) ?_
  refine .row (fun h => .checked rfl id fun _ => (rri_dai_iff (by decide) ..).2 ⟨h, rfl, rfl, rfl⟩) ?_
  refine .row (fun h => .checked rfl (fun _ => rfl) fun h0 => (ri20_mask_iff (by decide) _).2 ⟨h, rfl, h0⟩) ?_
  refine .row (fun h => .checked rfl (fun h0 => ?_) fun h0 => ?_) ?_
  · exact congrArg not ((popm_fields_iff w).1 h0).2
  · exact (ri20_mask_iff (by decide) _).2 ⟨h, rfl, ((popm_fields_iff w).1 h0).1⟩
  refine .row (.da rfl rfl (by decide) · rfl) ?_
  iterate 3 refine .row (.dab rfl rfl (by decide) · rfl) ?_
  iterate 4 refine .row (fun h => .checked rfl (fun _ => rfl) fun h0 =>
      (rrr_zero_iff (by decide)).2 ⟨h, of_decide_eq_true h0⟩) ?_
  refine .row (fun h => ?_) ?_
  · split
    · exact .illegal
    · next h0 =>
      refine .word rfl (decide_eq_true ?_) ((ri20_di_iff (by decide) ..).2 ⟨h, rfl, rfl⟩)
      rwa [regField_val]
  iterate 2 refine .row (fun h => .word rfl rfl ((ri20_di_iff (by decide) ..).2 ⟨h, rfl, rfl⟩)) ?_
  refine .row (fun h => .checked rfl (fun _ => rfl) fun h0 => (ri20_i_iff (by decide) _).2 ⟨h, rfl, h0⟩) ?_
  iterate 2 refine .row (fun h => .checked rfl (fun _ => rfl) fun h0 =>
      (rrr_a_iff (by decide) _).2 ⟨h, rfl, of_decide_eq_true h0.1, h0.2⟩) ?_
  exact .illegal

theorem decodeWord_spells (w : Word) : Spells w (decodeWord w) :=
  .row (fun _ => decodeLow_spells w) (.row (fun _ => decodeMid_spells w) (decodeHigh_spells w))

/-! ## From an instruction to its word -/

theorem decodeWord_of_encode {w : Word} {i : Instr} (hwf : i.wf = true) (henc : encode i = some w) : decodeWord w = some i := by
  unfold decodeWord decodeLow decodeMid decodeHigh
  cases i
  case nop | wret | wfi | barW | barRw | barIo | barSync =>
    obtain ⟨hop, h0⟩ := (rrr_zero_iff (by decide)).1 (Option.some.inj henc)
    rw [hop, h0]
    rfl
  case wcall svc | brk code | bl off =>
    obtain ⟨hop, himm, h0⟩ := (ri20_i_iff (by decide) _).1 (Option.some.inj henc)
    rw [hop, himm, h0]
    rfl
  case csrr rd csr =>
    obtain ⟨hop, hrd, hcsr, h0, h1⟩ := (rri_dcsr_iff (by decide) ..).1 (Option.some.inj henc)
    rw [hop, hrd, hcsr, h0, h1]
    rfl
  case csrw csr ra | csrs csr ra | csrc csr ra =>
    obtain ⟨hop, hra, hcsr, h0, h1⟩ := (rri_acsr_iff (by decide) ..).1 (Option.some.inj henc)
    rw [hop, hra, hcsr, h0, h1]
    rfl
  case add rd ra rb | adc rd ra rb | sub rd ra rb | sbc rd ra rb | addsat rd ra rb | subsat rd ra rb | mul rd ra rb |
      mulhs rd ra rb | mulhu rd ra rb | mins rd ra rb | maxs rd ra rb | minu rd ra rb | maxu rd ra rb | and rd ra rb |
      or rd ra rb | xor rd ra rb | andn rd ra rb | lsl rd ra rb | lsr rd ra rb | asr rd ra rb | ror rd ra rb | scnd rd rb ra |
      amoadd rd rb ra | amoswp rd rb ra =>
    obtain ⟨hop, hrd, hra, hrb, h0⟩ := (rrr_dab_iff (by decide) ..).1 (Option.some.inj henc)
    rw [hop, hrd, hra, hrb, h0]
    rfl
  case neg rd ra | clz rd ra | not rd ra | mov rd ra | lrsv rd ra =>
    obtain ⟨hop, hrd, hra, h0⟩ := (rrr_da_iff (by decide) ..).1 (Option.some.inj henc)
    rw [hop, hrd, hra, h0]
    rfl
  case divs rd ra rb rc | divu rd ra rb rc =>
    obtain ⟨hop, hrd, hra, hrb, hrc, h0⟩ := (rrr_dabc_iff (by decide) ..).1 (Option.some.inj henc)
    rw [hop, hrd, hra, hrb, hrc, h0]
    rfl
  case addi rd ra imm | rsbi rd ra imm | andi rd ra imm | ori rd ra imm | xori rd ra imm | ldw rd ra off | ldh rd ra off |
      ldhu rd ra off | ldb rd ra off | ldbu rd ra off | stw rd ra off | sth rd ra off | stb rd ra off =>
    obtain ⟨hop, hrd, hra, himm⟩ := (rri_dai_iff (by decide) ..).1 (Option.some.inj henc)
    rw [hop, hrd, hra, himm]
    rfl
  case lsli rd ra n | lsri rd ra n | asri rd ra n | rori rd ra n | bset rd ra b | bclr rd ra b =>
    obtain ⟨hop, hrd, hra, hn, h0⟩ := (rri_dan_iff (by decide) ..).1 (Option.some.inj henc)
    rw [hop, hrd, hra, hn, h0]
    rfl
  case btst ra b =>
    obtain ⟨hop, hra, hn, h0, h1⟩ := (rri_an_iff (by decide) ..).1 (Option.some.inj henc)
    rw [hop, hra, hn, h0, h1]
    rfl
  case bext rd ra pos n sgn =>
    obtain ⟨hop, hrd, hra, hpos, hn, hsgn, h0⟩ := (rri_bext_iff (by decide) ..).1 (Option.some.inj henc)
    rw [hop, hrd, hra, hpos, hn, hsgn, h0]
    have hfits : 0 = 0 ∧ fieldFits pos n = true := ⟨rfl, hwf⟩
    exact if_pos hfits
  case bins rd ra pos n =>
    obtain ⟨hop, hrd, hra, hpos, hn, h0⟩ := (rri_bins_iff (by decide) ..).1 (Option.some.inj henc)
    rw [hop, hrd, hra, hpos, hn, h0]
    have hfits : 0 = 0 ∧ fieldFits pos n = true := ⟨rfl, hwf⟩
    exact if_pos hfits
  case cmp ra rb | cmn ra rb | tst ra rb =>
    obtain ⟨hop, hra, hrb, h0, h1⟩ := (rrr_ab_iff (by decide) ..).1 (Option.some.inj henc)
    rw [hop, hra, hrb, h0, h1]
    rfl
  case cmpi ra imm =>
    obtain ⟨hop, hra, himm, h0⟩ := (rri_ai_iff (by decide) ..).1 (Option.some.inj henc)
    rw [hop, hra, himm, h0]
    rfl
  case movi rd imm | adr rd off | cbz rt off | cbnz rt off =>
    obtain ⟨hop, hrd, himm⟩ := (ri20_di_iff (by decide) ..).1 (Option.some.inj henc)
    rw [hop, hrd, himm]
    rfl
  case movhi rd imm =>
    obtain ⟨hop, hrd, himm, h0⟩ := (ri20_dh_iff (by decide) ..).1 (Option.some.inj henc)
    rw [hop, hrd, himm, h0]
    rfl
  case ldd rd ra off | std rd ra off =>
    obtain ⟨hop, hrd, hra, himm⟩ := (rri_dai_iff (by decide) ..).1 (Option.some.inj henc)
    rw [hop, hrd, hra, himm]
    exact if_pos hwf
  case pushm mask =>
    obtain ⟨hop, hmask, h0⟩ := (ri20_mask_iff (by decide) _).1 (Option.some.inj henc)
    rw [hop, hmask, h0]
    rfl
  case popm mask =>
    obtain ⟨hop, hmask, h0⟩ := (ri20_mask_iff (by decide) _).1 (Option.some.inj henc)
    have hfields : fld w 15 9 = 0 := (popm_fields_iff w).2 ⟨h0, hmask ▸ Bool.eq_false_of_not_eq_true' hwf⟩
    rw [hop, hmask, hfields]
    rfl
  case bcc cond off =>
    obtain ⟨hop, hrd, himm⟩ := (ri20_di_iff (by decide) ..).1 (Option.some.inj henc)
    rw [hop, ← regField_val, hrd, himm]
    exact if_neg (of_decide_eq_true hwf)
  case blr ra | jr ra =>
    obtain ⟨hop, hra, h0, h1⟩ := (rrr_a_iff (by decide) _).1 (Option.some.inj henc)
    rw [hop, hra, h0, h1]
    rfl
  all_goals exact nomatch henc

/-- Settles O60: the two directions, each row by row of the tables of opcodes. -/
theorem decodeInvertsEncode : Obligations.DecodeInvertsEncode := by
  unfold Obligations.DecodeInvertsEncode
  exact fun w i => ⟨decodeWord_spells w i, fun h => decodeWord_of_encode h.1 h.2⟩

end Sys2Proof.Machine

namespace Sys2Proof.Machine

/-! ## Additions, subtractions, compares and tests (R195 to R197, R200, R206) -/

theorem addcResult_false (x y : Word) : addcResult x y false = x + y :=
  (addcResult_eq x y false).trans (BitVec.add_zero _)

theorem subbResult_false (x y : Word) : subbResult x y false = x - y :=
  (subbResult_eq x y false).trans (BitVec.sub_zero _)

/-- Bit `k` of a word is 0. -/
theorem not_wbit_eq_decide (w : Word) (k : Nat) : (!(wbit w k)) = decide (w.toNat / 2 ^ k % 2 = 0) := by
  rw [wbit, BitVec.getLsbD, Nat.testBit_eq_decide_div_mod_eq, ← decide_not, decide_eq_decide, Nat.mod_two_not_eq_one]

/-- Settles O1: each instruction retires with the model's sum or difference and its flags, which are those in numbers. -/
theorem addSubtractCompare : Obligations.AddSubtractCompare := by
  unfold Obligations.AddSubtractCompare
  refine ⟨fun s rd ra rb imm hs => ?_, fun s ra rb imm k hs => ?_⟩
  · intro a b i cin
    refine ⟨completes_result hs rfl rfl fun u hu => ?_, completes_result hs rfl rfl fun u hu => ?_,
      completes_result hs rfl rfl fun u hu => ?_, completes_result hs rfl rfl fun u hu => ?_,
      completes_result hs rfl rfl fun u hu => ?_, completes_result hs rfl rfl fun u hu => ?_⟩
    · rw [opAdd, g_of hu, g_of hu, addcResult_false, ccAdd_eq]
    · rw [opAdc, g_of hu, g_of hu, cc_of hu, addcResult_eq, ccAdd_eq]
    · rw [opAddi, g_of hu, addcResult_false, ccAdd_eq, sx16]
    · rw [opSub, g_of hu, g_of hu, subbResult_false, ccSub_eq]
    · rw [opSbc, g_of hu, g_of hu, cc_of hu, subbResult_eq, ccSub_eq]
    · rw [opRsbi, g_of hu, subbResult_false, ccSub_eq, sx16]
  · intro a b f
    refine ⟨completes_flags hs rfl rfl fun u hu => ?_, completes_flags hs rfl rfl fun u hu => ?_,
      completes_flags hs rfl rfl fun u hu => ?_, completes_flags hs rfl rfl fun u hu => ?_,
      completes_flags hs rfl rfl fun u hu => ?_⟩
    · rw [opCmp, g_of hu, g_of hu, ccSub_eq]
    · rw [opCmn, g_of hu, g_of hu, ccAdd_eq]
    · rw [opCmpi, g_of hu, ccSub_eq, sx16]
    · rw [opTst, g_of hu, g_of hu, cc_of hu, ccNZ_eq]
    · rw [opBtst, g_of hu, cc_of hu, not_wbit_eq_decide]

/-! ## Products, leading zeros, minimum and maximum (R196, R200) -/

/-- The highest 1 of a word stands below its leading zeros. -/
theorem leadingZeros_spec (a : Word) : if a = 0 then leadingZeros a = 32 else
    leadingZeros a < 32 ∧ 2 ^ (31 - leadingZeros a) ≤ a.toNat ∧ a.toNat < 2 ^ (32 - leadingZeros a) := by
  unfold leadingZeros
  split
  · rfl
  · next h =>
    have hpos : a.toNat ≠ 0 := by simpa [← BitVec.toNat_inj] using h
    have hlog : Nat.log2 a.toNat < 32 := (Nat.log2_lt hpos).2 a.isLt
    have hlow : 31 - (31 - Nat.log2 a.toNat) = Nat.log2 a.toNat := by omega
    have hhigh : 32 - (31 - Nat.log2 a.toNat) = Nat.log2 a.toNat + 1 := by omega
    rw [hlow, hhigh]
    exact ⟨by omega, Nat.log2_self_le hpos, Nat.lt_log2_self⟩

/-- Of equal words it does not matter which is taken. -/
theorem lesser_eq {α : Type} [LinearOrder α] {f : Word → α} (hf : Function.Injective f) (x y : Word) :
    (if f x < f y then x else y) = if f x ≤ f y then x else y := by
  rcases lt_trichotomy (f x) (f y) with h | h | h
  · rw [if_pos h, if_pos h.le]
  · rw [hf h, ite_self, ite_self]
  · rw [if_neg h.not_gt, if_neg h.not_ge]

theorem lesser_signed (x y : Word) : (if x.slt y then x else y) = if x.toInt ≤ y.toInt then x else y := by
  simp only [BitVec.slt, decide_eq_true_eq]
  exact lesser_eq (fun _ _ => BitVec.eq_of_toInt_eq) x y

theorem lesser_unsigned (x y : Word) : (if x.ult y then x else y) = if x.toNat ≤ y.toNat then x else y := by
  simp only [BitVec.ult, decide_eq_true_eq]
  exact lesser_eq (fun _ _ => BitVec.eq_of_toNat_eq) x y

theorem greater_signed (x y : Word) : (if y.slt x then x else y) = if x.toInt ≤ y.toInt then y else x := by
  simp only [BitVec.slt, decide_eq_true_eq, ← not_le, ite_not]

theorem greater_unsigned (x y : Word) : (if y.ult x then x else y) = if x.toNat ≤ y.toNat then y else x := by
  simp only [BitVec.ult, decide_eq_true_eq, ← not_le, ite_not]

/-- Settles O2: each instruction retires with its result; the selections choose between equal operands alike. -/
theorem multiplyAndSelect : Obligations.MultiplyAndSelect := by
  unfold Obligations.MultiplyAndSelect
  intro s rd ra rb hs a b f
  refine ⟨fun r hr => completes_result hs rfl rfl fun u hu => ?_, fun r hr => completes_result hs rfl rfl fun u hu => ?_,
    fun r hr => completes_result hs rfl rfl fun u hu => ?_, ⟨leadingZeros a, leadingZeros_spec a, ?_⟩,
    completes_result hs rfl rfl fun u hu => ?_, completes_result hs rfl rfl fun u hu => ?_,
    completes_result hs rfl rfl fun u hu => ?_, completes_result hs rfl rfl fun u hu => ?_⟩
  · have hmul : a * b = r := hr ▸ BitVec.mul_def
    rw [opMul, g_of hu, g_of hu, cc_of hu, ccNZ_eq, hmul]
  · rw [opMulhs, g_of hu, g_of hu, cc_of hu, ccNZ_eq, hr]
  · rw [opMulhu, g_of hu, g_of hu, cc_of hu, ccNZ_eq, hr]
  · exact completes_result hs rfl rfl fun u hu => by rw [opClz, g_of hu, cc_of hu]
  · rw [opMins, g_of hu, g_of hu, cc_of hu, lesser_signed]
  · rw [opMaxs, g_of hu, g_of hu, cc_of hu, greater_signed]
  · rw [opMinu, g_of hu, g_of hu, cc_of hu, lesser_unsigned]
  · rw [opMaxu, g_of hu, g_of hu, cc_of hu, greater_unsigned]

end Sys2Proof.Machine

namespace Sys2Proof.Machine

/-! ## What an instruction leaves of the core -/

/-- The state `u` with the core `c`, but for the cache and a raised NMI, which stay as the fetch has left them. -/
def State.left (u : State) (c : Core) : State :=
  { u with core := { c with icache := u.core.icache, nmi := u.core.nmi } }

theorem fetch_eq_left (s : State) : s.fetch.s = s.fetch.s.left s.core := (fetch_with_core s).symm

theorem left_g (u : State) (c : Core) (r : Fin 16) : (u.left c).g r = c.g[r] := by rfl

theorem left_retire (u : State) (c : Core) (rd : Fin 16) (v : Word) (f : CC) :
    (u.left c).retire rd v f = u.left (c.result rd v f) := by rfl

section
variable {s : State} {i : Instr} {body : State → State} {c : Core} (hs : s.executes) (hi : i.wf = true)
  (he : exec i s = .next (s.runInstr i body))
include hs hi he

theorem completes_left (hb : ∀ u : State, body (u.left s.core) = u.left c) : Completes i s c := by
  refine completes_core hs hi he ?_
  rw [fetch_eq_left, hb, ← fetch_eq_left]
  rfl

theorem traps_left {num sub : Nat} {eval : Word} (hb : ∀ u : State, body (u.left s.core) = (u.left c).raise num sub eval) :
    Traps i s c num sub eval := by
  rw [Traps, exec_of_executes hs hi he, fetch_eq_left, hb, ← fetch_eq_left]
  rfl

end

/-! ## The sticky bits and their traps (R172, R198) -/

/-- A sticky bit that is set does not move the bit that enables its trap. -/
theorem sticky_enable {w m : Word} {k : Nat} (hm : m.getLsbD k = false) : wbit (w ||| m) k = w.getLsbD k := by
  rw [wbit, BitVec.getLsbD_or, hm, Bool.or_false]

section
variable {u : State} {c : Core} {v : Word}

theorem left_signalOv_quiet {out : Bool} (h : c.astat.getLsbD 9 = false ∨ out = false) :
    (u.left c).signalOv out v = u.left (c.sticky 2 out) := by
  cases out with
  | false => rfl
  | true =>
    have hquiet : c.astat.getLsbD 9 = false := by simpa using h
    rw [signalOv_quiet (u.left c) true v hquiet]
    rfl

theorem left_signalOv_trap (h : c.astat.getLsbD 9 = true) :
    (u.left c).signalOv true v = (u.left (c.sticky 2 true)).raise 10 0 v :=
  if_pos ((sticky_enable (m := 2) rfl).trans h)

theorem left_signalDz_quiet (h : c.astat.getLsbD 8 = false) : (u.left c).signalDz true v = u.left (c.sticky 1 true) :=
  signalDz_quiet (u.left c) true v h

theorem left_signalDz_trap (h : c.astat.getLsbD 8 = true) :
    (u.left c).signalDz true v = (u.left (c.sticky 1 true)).raise 9 0 v :=
  if_pos ((sticky_enable (m := 1) rfl).trans h)

end

/-! ## Saturating arithmetic (R201) -/

/-- An exact value held between MIN and MAX. -/
theorem satWord_eq (e : Int) : satWord e = BitVec.ofInt 32 (max (-(2 ^ 31)) (min (2 ^ 31 - 1) e)) := by
  unfold satWord
  split
  · rw [max_eq_left (by omega)]
    rfl
  · split
    · rw [min_eq_left (by omega), max_eq_right (by omega)]
      rfl
    · rw [min_eq_right (by omega), max_eq_right (by omega)]

theorem satOut_eq (e : Int) : satOut e = (decide (e < -(2 ^ 31)) || decide (2 ^ 31 - 1 < e)) := by
  rw [satOut, decide_eq_decide.2 (show (2 : Int) ^ 31 ≤ e ↔ 2 ^ 31 - 1 < e by omega)]

/-- The negative of MIN is MIN. -/
theorem neg_result (a : Word) : 0 - a = if decide (a = 0x80000000) then 0x80000000 else 0 - a := by
  by_cases h : a = 0x80000000
  · subst h
    rfl
  · rw [decide_eq_false h, if_neg Bool.false_ne_true]

theorem neg_flags (a : Word) (f : CC) :
    diffCC 0 a false = { signCC f (0 - a) with v := decide (a = 0x80000000), c := decide (a = 0) } := by
  have hsub : 0 - a - BitVec.ofNat 32 (bit01 false) = 0 - a := BitVec.sub_zero _
  have hv : (0 : Word).toInt - a.toInt - bit01 false ≠ (0 - a).toInt ↔ a = 0x80000000 := by
    have ha := BitVec.toInt_eq_toNat_cond a
    have hr := BitVec.toInt_eq_toNat_cond (0 - a)
    have hsum := BitVec.toNat_sub 0 a
    have hlt := a.isLt
    have hmin : a = 0x80000000 ↔ a.toNat = 0x80000000 := BitVec.toNat_inj.symm
    rw [hmin, show (0 : Word).toInt = 0 from rfl, show (bit01 false : Int) = 0 from rfl]
    rw [show (0 : Word).toNat = 0 from rfl] at hsum
    split_ifs at ha hr <;> omega
  have hc : a.toNat + bit01 false ≤ (0 : Word).toNat ↔ a = 0 := by
    rw [← BitVec.toNat_inj]
    exact Nat.le_zero
  simp only [diffCC, signCC, hsub, hv, hc]
/-- An instruction that retires and signals overflow completes where its trap does not come, and traps where it does. -/
theorem ends_signalOv {s : State} {i : Instr} {body : State → State} {c : Core} {v : Word} {out : Bool} (hs : s.executes)
    (hi : i.wf = true) (he : exec i s = .next (s.runInstr i body))
    (hb : ∀ u : State, body (u.left s.core) = (u.left c).signalOv out v) :
    (c.astat.getLsbD 9 = false ∨ out = false → Completes i s (c.sticky 2 out)) ∧
      (c.astat.getLsbD 9 = true → out = true → Traps i s (c.sticky 2 out) 10 0 v) := by
  refine ⟨fun h => completes_left hs hi he fun u => (hb u).trans (left_signalOv_quiet h), ?_⟩
  rintro h rfl
  exact traps_left hs hi he fun u => (hb u).trans (left_signalOv_trap h)

/-- Settles O3: each instruction retires with its result and flags, and signals overflow. -/
theorem saturatingArithmetic : Obligations.SaturatingArithmetic := by
  unfold Obligations.SaturatingArithmetic
  intro s rd ra rb hs a b f ends
  refine ⟨fun e i hi => ?_, ?_⟩
  · rw [← satWord_eq, ← satOut_eq]
    intro out r
    rcases hi with ⟨rfl, rfl⟩ | ⟨rfl, rfl⟩
    · refine ends_signalOv (c := s.core.result rd r _) (body := opAddsat rd ra rb) hs rfl rfl fun u => ?_
      rw [opAddsat, left_g, left_g, ccNZ_eq]
      rfl
    · refine ends_signalOv (c := s.core.result rd r _) (body := opSubsat rd ra rb) hs rfl rfl fun u => ?_
      rw [opSubsat, left_g, left_g, ccNZ_eq]
      rfl
  · simp only [← neg_result]
    refine ends_signalOv (c := s.core.result rd _ _) (body := opNeg rd ra) hs rfl rfl fun u => ?_
    rw [opNeg, left_g, subbResult_false, ccSub_eq, neg_flags]
    rfl
end Sys2Proof.Machine

namespace Sys2Proof.Machine

/-! ## Division (R202) -/

/-- The core once a division has written its quotient, and its remainder where that has a register of its own. -/
def Core.divided (c : Core) (rd rc : Fin 16) (q r : Word) (v : Bool) : Core :=
  { c with g := (if rc = rd then c.g else c.g.set rc r).set rd q, cc := { signCC c.cc q with v := v } }.next

theorem opDivs_left (u : State) (c : Core) (rd ra rb rc : Fin 16) : opDivs rd ra rb rc (u.left c) =
    let a := c.g[ra]
    let b := c.g[rb]
    let q := (divsResult a b).1
    let left := u.left (c.divided rd rc q (divsResult a b).2 (divsOverflow a b))
    (left.signalDz (decide (b = 0)) a).signalOv (divsOverflow a b) q := by
  unfold opDivs Core.divided
  by_cases h : rc = rd
  · simp only [if_pos h, ccNZ_eq, left_g]
    rfl
  · simp only [if_neg h, ccNZ_eq, left_g]
    rfl

theorem opDivu_left (u : State) (c : Core) (rd ra rb rc : Fin 16) : opDivu rd ra rb rc (u.left c) =
    let a := c.g[ra]
    let b := c.g[rb]
    (u.left (c.divided rd rc (divuResult a b).1 (divuResult a b).2 false)).signalDz (decide (b = 0)) a := by
  unfold opDivu Core.divided
  by_cases h : rc = rd
  · simp only [if_pos h, ccNZ_eq, left_g]
    rfl
  · simp only [if_neg h, ccNZ_eq, left_g]
    rfl

theorem signalOv_false (s : State) (v : Word) : s.signalOv false v = s := rfl

theorem signalDz_false (s : State) (v : Word) : s.signalDz false v = s := rfl

theorem divsOverflow_eq (a b : Word) : divsOverflow a b = decide (a = 0x80000000 ∧ b = 0xFFFFFFFF) :=
  (Bool.decide_and _ _).symm

section
variable {c : Core} {ra rb : Fin 16} (u : State) (rd rc : Fin 16)

theorem opDivs_zero (h : c.g[rb] = 0) : opDivs rd ra rb rc (u.left c) =
    (u.left (c.divided rd rc 0xFFFFFFFF c.g[ra] false)).signalDz true c.g[ra] := by
  have hno : divsOverflow c.g[ra] 0 = false := (divsOverflow_eq ..).trans (decide_eq_false fun h => absurd h.2 (by decide))
  simp only [opDivs_left, h, hno, divsResult, if_true, decide_true, signalOv_false]

theorem opDivu_zero (h : c.g[rb] = 0) : opDivu rd ra rb rc (u.left c) =
    (u.left (c.divided rd rc 0xFFFFFFFF c.g[ra] false)).signalDz true c.g[ra] := by
  simp only [opDivu_left, h, divuResult, if_true, decide_true]

theorem opDivs_overflow (ha : c.g[ra] = 0x80000000) (hb : c.g[rb] = 0xFFFFFFFF) : opDivs rd ra rb rc (u.left c) =
    (u.left (c.divided rd rc 0x80000000 0 true)).signalOv true 0x80000000 := by
  rw [opDivs_left, ha, hb]
  rfl

theorem opDivs_exact (hb : c.g[rb] ≠ 0) (h : ¬(c.g[ra] = 0x80000000 ∧ c.g[rb] = 0xFFFFFFFF)) :
    opDivs rd ra rb rc (u.left c) =
      u.left (c.divided rd rc (divsResult c.g[ra] c.g[rb]).1 (divsResult c.g[ra] c.g[rb]).2 false) := by
  simp only [opDivs_left, divsOverflow_eq, h, hb, decide_false, signalDz_false, signalOv_false]

theorem opDivu_exact (hb : c.g[rb] ≠ 0) : opDivu rd ra rb rc (u.left c) =
    u.left (c.divided rd rc (divuResult c.g[ra] c.g[rb]).1 (divuResult c.g[ra] c.g[rb]).2 false) := by
  simp only [opDivu_left, hb, decide_false, signalDz_false]

end

theorem divsResult_exact {a b : Word} (hb : b ≠ 0) (h : ¬(a = 0x80000000 ∧ b = 0xFFFFFFFF)) :
    divsResult a b = (BitVec.ofInt 32 (a.toInt.tdiv b.toInt), BitVec.ofInt 32 (a.toInt.tmod b.toInt)) :=
  (if_neg hb).trans (if_neg h)

/-- A number in the range of a word is the word's value. -/
theorem toInt_ofInt_word {x : Int} (hlow : -2 ^ 31 ≤ x) (hhigh : x < 2 ^ 31) : (BitVec.ofInt 32 x).toInt = x := by
  rw [BitVec.toInt_ofInt, Int.bmod_eq_of_le_mul_two] <;> omega

theorem toInt_ne_zero {b : Word} (hb : b ≠ 0) : b.toInt ≠ 0 := fun h => hb (BitVec.eq_of_toInt_eq h)

/-- The remainder is smaller than the divisor. -/
theorem tmod_fits (a : Word) {b : Word} (hb : b ≠ 0) :
    (BitVec.ofInt 32 (a.toInt.tmod b.toInt)).toInt = a.toInt.tmod b.toInt ∧
      (a.toInt.tmod b.toInt).natAbs < b.toInt.natAbs := by
  have hlt : (a.toInt.tmod b.toInt).natAbs < b.toInt.natAbs := by
    rw [Int.natAbs_tmod]
    exact Nat.mod_lt _ (Int.natAbs_pos.2 (toInt_ne_zero hb))
  have hlow := b.le_toInt
  have hhigh := b.toInt_lt
  exact ⟨toInt_ofInt_word (by omega) (by omega), hlt⟩

/-- Only MIN divided by −1 leaves the range of a word. -/
theorem tdiv_fits {a b : Word} (hb : b ≠ 0) (h : ¬(a = 0x80000000 ∧ b = 0xFFFFFFFF)) :
    (BitVec.ofInt 32 (a.toInt.tdiv b.toInt)).toInt = a.toInt.tdiv b.toInt := by
  have hlow := a.le_toInt
  have hhigh := a.toInt_lt
  have habs : (a.toInt.tdiv b.toInt).natAbs = a.toInt.natAbs / b.toInt.natAbs := Int.natAbs_tdiv ..
  have hle : a.toInt.natAbs / b.toInt.natAbs ≤ a.toInt.natAbs := Nat.div_le_self _ _
  refine toInt_ofInt_word (by omega) (lt_of_not_ge fun hge => h ?_)
  have hmin : a.toInt = -2 ^ 31 := by omega
  have hone : b.toInt.natAbs = 1 := by
    by_contra hne
    have hpos := Int.natAbs_pos.2 (toInt_ne_zero hb)
    have : a.toInt.natAbs / b.toInt.natAbs ≤ a.toInt.natAbs / 2 := Nat.div_le_div_left (by omega) (by omega)
    omega
  have hb1 : b.toInt = -1 := by
    rcases Int.natAbs_eq_iff.1 hone with h1 | h1
    · rw [h1] at hge
      simp at hge
      omega
    · exact h1
  exact ⟨BitVec.eq_of_toInt_eq hmin, BitVec.eq_of_toInt_eq hb1⟩

/-- DIVS of two words that leaves the range nowhere: quotient and remainder of a division that truncates toward zero. -/
theorem divs_spec {a b : Word} (hb : b ≠ 0) (h : ¬(a = 0x80000000 ∧ b = 0xFFFFFFFF)) :
    let q := (divsResult a b).1
    let r := (divsResult a b).2
    a.toInt = q.toInt * b.toInt + r.toInt ∧ r.toInt.natAbs < b.toInt.natAbs ∧ (r = 0 ∨ (0 < r.toInt ↔ 0 < a.toInt)) := by
  obtain ⟨hr, hlt⟩ := tmod_fits a hb
  simp only [divsResult_exact hb h, hr, tdiv_fits hb h]
  refine ⟨(Int.tdiv_mul_add_tmod ..).symm, hlt, ?_⟩
  rcases lt_or_ge 0 a.toInt with ha | ha
  · rcases (Int.tmod_nonneg b.toInt ha.le).eq_or_lt with h0 | hpos
    · exact .inl (by rw [← h0]; rfl)
    · exact .inr ⟨fun _ => ha, fun _ => hpos⟩
  · have hneg : 0 ≤ -(a.toInt.tmod b.toInt) := Int.neg_tmod .. ▸ Int.tmod_nonneg b.toInt (neg_nonneg.2 ha)
    exact .inr ⟨fun hpos => absurd hpos (neg_nonneg.1 hneg).not_gt, fun hpos => absurd hpos ha.not_gt⟩

theorem divu_spec (a : Word) {b : Word} (hb : b ≠ 0) :
    let q := (divuResult a b).1
    let r := (divuResult a b).2
    a.toNat = q.toNat * b.toNat + r.toNat ∧ r.toNat < b.toNat := by
  have hpos : 0 < b.toNat := Nat.pos_of_ne_zero fun h => hb (BitVec.eq_of_toNat_eq h)
  have hmod : a.toNat % b.toNat < b.toNat := Nat.mod_lt _ hpos
  have hq : (word (a.toNat / b.toNat)).toNat = a.toNat / b.toNat :=
    Nat.mod_eq_of_lt (lt_of_le_of_lt (Nat.div_le_self _ _) a.isLt)
  have hr : (word (a.toNat % b.toNat)).toNat = a.toNat % b.toNat := Nat.mod_eq_of_lt (hmod.trans b.isLt)
  have hresult : divuResult a b = (word (a.toNat / b.toNat), word (a.toNat % b.toNat)) := if_neg hb
  simp only [hresult, hq, hr]
  exact ⟨(Nat.div_add_mod' _ _).symm, hmod⟩

/-- Settles O4: each division writes its results and signals a divisor 0, then an overflow; at most one of the two is there. -/
theorem division : Obligations.Division := by
  unfold Obligations.Division
  intro s rd ra rb rc hs a b f dzt ovt out zero overflow
  have hdivs {c : Core} (hb : ∀ u : State, opDivs rd ra rb rc (u.left s.core) = u.left c) :
      Completes (.divs rd ra rb rc) s c := completes_left (body := opDivs rd ra rb rc) hs rfl rfl hb
  have hdivu {c : Core} (hb : ∀ u : State, opDivu rd ra rb rc (u.left s.core) = u.left c) :
      Completes (.divu rd ra rb rc) s c := completes_left (body := opDivu rd ra rb rc) hs rfl rfl hb
  refine ⟨fun hb hquiet => ⟨hdivs fun u => ?_, hdivu fun u => ?_⟩,
    fun hb htrap => ⟨traps_left (body := opDivs rd ra rb rc) hs rfl rfl fun u => ?_,
      traps_left (body := opDivu rd ra rb rc) hs rfl rfl fun u => ?_⟩,
    fun ha hb hquiet => hdivs fun u => ?_,
    fun ha hb htrap => traps_left (body := opDivs rd ra rb rc) hs rfl rfl fun u => ?_, fun hb hexact => ?_, fun hb => ?_⟩
  · exact (opDivs_zero u rd rc hb).trans (left_signalDz_quiet hquiet)
  · exact (opDivu_zero u rd rc hb).trans (left_signalDz_quiet hquiet)
  · exact (opDivs_zero u rd rc hb).trans (left_signalDz_trap htrap)
  · exact (opDivu_zero u rd rc hb).trans (left_signalDz_trap htrap)
  · exact (opDivs_overflow u rd rc ha hb).trans (left_signalOv_quiet (.inl hquiet))
  · exact (opDivs_overflow u rd rc ha hb).trans (left_signalOv_trap htrap)
  · obtain ⟨heq, hlt, hsign⟩ := divs_spec hb hexact
    exact ⟨_, _, heq, hlt, hsign, hdivs fun u => opDivs_exact u rd rc hb hexact⟩
  · obtain ⟨heq, hlt⟩ := divu_spec a hb
    exact ⟨_, _, heq, hlt, hdivu fun u => opDivu_exact u rd rc hb⟩

end Sys2Proof.Machine

namespace Sys2Proof.Machine

/-! ## Logic, bit fields and moves (R195, R196, R203, R206) -/

/-- An instruction that retires with N and Z from its result. -/
theorem completes_retireNZ {s : State} {i : Instr} {body : State → State} {rd : Fin 16} {v : Word} (hs : s.executes)
    (hi : i.wf = true) (he : exec i s = .next (s.runInstr i body))
    (hb : ∀ u : State, u.core = s.fetch.s.core → body u = u.retireNZ rd v) :
    Completes i s (s.core.result rd v (signCC s.core.cc v)) :=
  completes_result hs hi he fun u hu => by rw [hb u hu, State.retireNZ, ccNZ_eq, cc_of hu]

/-- A word with a single 1. -/
theorem getElem_word_two_pow (k : Nat) (j : Fin 32) : (word (2 ^ k))[j] = decide (j.val = k) := by
  rw [Fin.getElem_fin, ← BitVec.getLsbD_eq_getElem, word, BitVec.getLsbD_ofNat, decide_eq_true j.isLt, Bool.true_and,
    Nat.testBit_two_pow, decide_eq_decide, eq_comm]

theorem bset_bit (a : Word) (k : Nat) (j : Fin 32) : (a ||| word (2 ^ k))[j] = (decide (j.val = k) || a[j]) := by
  have hbit := getElem_word_two_pow k j
  simp only [Fin.getElem_fin, BitVec.getElem_or] at hbit ⊢
  rw [hbit, Bool.or_comm]

theorem bclr_bit (a : Word) (k : Nat) (j : Fin 32) : (a &&& ~~~(word (2 ^ k)))[j] = (decide (j.val ≠ k) && a[j]) := by
  have hbit := getElem_word_two_pow k j
  simp only [Fin.getElem_fin, BitVec.getElem_and, BitVec.getElem_not] at hbit ⊢
  rw [hbit, Bool.and_comm, decide_not]

theorem bitField_unsigned (a : Word) (pos n : Nat) :
    bitField a pos n false = BitVec.ofNat 32 (a.toNat / 2 ^ pos % 2 ^ n) := by
  rw [bitField, fld_eq_div_mod]
  rfl

theorem bitField_signed (a : Word) (pos n : Nat) : bitField a pos n true =
    BitVec.ofInt 32 (if 2 ^ (n - 1) ≤ a.toNat / 2 ^ pos % 2 ^ n then ((a.toNat / 2 ^ pos % 2 ^ n : Nat) : Int) - 2 ^ n
      else (a.toNat / 2 ^ pos % 2 ^ n : Nat)) := by
  have hmod : a.toNat / 2 ^ pos % 2 ^ n % 2 ^ n = a.toNat / 2 ^ pos % 2 ^ n := Nat.mod_mod _ _
  rw [bitField, if_pos rfl, fld_eq_div_mod, signed, hmod, ← ite_not]
  simp only [not_lt, Nat.cast_pow, Nat.cast_ofNat]

theorem setFld_bit (w : Word) (pos n : Nat) (v : Word) (j : Fin 32) : (setFld w pos n v.toNat)[j] =
    if pos ≤ j.val ∧ j.val < pos + n then v.getLsbD (j.val - pos) else w[j] := by
  have hbit := wbit_setFld w pos n v.toNat j.val j.isLt
  simp only [wbit, BitVec.getLsbD_eq_getElem j.isLt] at hbit
  exact hbit

theorem movhi_eq (w : Word) (imm : BitVec 16) :
    setFld w 16 16 imm.toNat = BitVec.ofNat 32 (imm.toNat * 2 ^ 16 + w.toNat % 2 ^ 16) := by
  refine BitVec.eq_of_getLsbD_eq fun j hj => ?_
  have hbit := wbit_setFld w 16 16 imm.toNat j hj
  rw [wbit] at hbit
  rw [hbit, BitVec.getLsbD_ofNat, decide_eq_true hj, Bool.true_and, Nat.mul_comm,
    Nat.testBit_two_pow_mul_add _ (Nat.mod_lt _ (by decide)), Nat.testBit_mod_two_pow]
  by_cases h : j < 16
  · simp [h, wbit, BitVec.getLsbD]
  · simp [h, hj, Nat.le_of_not_lt h]

/-- A branch target in numbers (R195). -/
theorem target_eq (s : State) (off : BitVec 20) : s.target off = BitVec.ofInt 32 (s.pc.toNat + 4 * off.toInt) := by
  rw [BitVec.ofInt_add, BitVec.ofInt_mul, BitVec.ofInt_natCast, BitVec.ofNat_toNat, BitVec.setWidth_eq]
  rfl

/-- Settles O5: each instruction retires with its function of the operands, which is said bit by bit, as a field in numbers, or as
a number. -/
theorem logicFieldsMoves : Obligations.LogicFieldsMoves := by
  unfold Obligations.LogicFieldsMoves
  refine ⟨fun s rd ra rb imm k hs => ?_, fun s rd ra pos w hs hfits => ?_, fun s rd ra i16 i20 hs => ?_⟩
  · intro a b z nz
    refine ⟨completes_retireNZ hs rfl rfl fun u hu => ?_, completes_retireNZ hs rfl rfl fun u hu => ?_,
      completes_retireNZ hs rfl rfl fun u hu => ?_, completes_retireNZ hs rfl rfl fun u hu => ?_,
      completes_retireNZ hs rfl rfl fun u hu => ?_, completes_retireNZ hs rfl rfl fun u hu => ?_,
      completes_retireNZ hs rfl rfl fun u hu => ?_, completes_retireNZ hs rfl rfl fun u hu => ?_,
      ⟨_, bset_bit a k.toNat, completes_retireNZ hs rfl rfl fun u hu => ?_⟩,
      ⟨_, bclr_bit a k.toNat, completes_retireNZ hs rfl rfl fun u hu => ?_⟩⟩
    · rw [opAnd, g_of hu, g_of hu]
    · rw [opOr, g_of hu, g_of hu]
    · rw [opXor, g_of hu, g_of hu]
    · rw [opAndn, g_of hu, g_of hu]
    · rw [opNot, g_of hu]
    · rw [opAndi, g_of hu, zx16]
    · rw [opOri, g_of hu, zx16]
    · rw [opXori, g_of hu, zx16]
    · rw [opBset, g_of hu]
    · rw [opBclr, g_of hu]
  · intro a n x nz
    have hwf : fieldFits pos w = true := decide_eq_true hfits
    refine ⟨completes_retireNZ hs hwf rfl fun u hu => ?_, completes_retireNZ hs hwf rfl fun u hu => ?_,
      ⟨_, setFld_bit (s.g rd) pos.toNat n a, completes_retireNZ hs hwf rfl fun u hu => ?_⟩⟩
    · rw [opBext, g_of hu, bitField_unsigned]
    · rw [opBext, g_of hu, bitField_signed]
    · rw [opBins, g_of hu, g_of hu]
  · intro f
    refine ⟨completes_result hs rfl rfl fun u hu => ?_, completes_result hs rfl rfl fun u hu => ?_,
      completes_result hs rfl rfl fun u hu => ?_, completes_result hs rfl rfl fun u hu => ?_⟩
    · rw [opMov, g_of hu, cc_of hu]
    · rw [opMovi, cc_of hu]
      rfl
    · rw [opMovhi, g_of hu, cc_of hu, movhi_eq]
    · rw [opAdr, target_eq, pc_of hu, cc_of hu]

end Sys2Proof.Machine

namespace Sys2Proof.Machine

/-! ## Shifts and rotates (R204, R205, Table 07.6) -/

theorem ofNat_mul_two_pow (a : Word) (n : Nat) : BitVec.ofNat 32 (a.toNat * 2 ^ n) = a <<< n :=
  BitVec.eq_of_toNat_eq (by rw [BitVec.toNat_ofNat, BitVec.toNat_shiftLeft, Nat.shiftLeft_eq])

theorem ofNat_div_two_pow (a : Word) (n : Nat) : BitVec.ofNat 32 (a.toNat / 2 ^ n) = a >>> n := by
  refine BitVec.eq_of_toNat_eq ?_
  rw [BitVec.toNat_ofNat, BitVec.toNat_ushiftRight, Nat.shiftRight_eq_div_pow]
  exact Nat.mod_eq_of_lt (lt_of_le_of_lt (Nat.div_le_self _ _) a.isLt)

theorem ofInt_div_two_pow (a : Word) (n : Nat) : BitVec.ofInt 32 (a.toInt / 2 ^ n) = a.sshiftRight n := by
  rw [BitVec.sshiftRight, Int.shiftRight_eq_div_pow, Nat.cast_pow, Nat.cast_ofNat]

theorem lslResult_eq (a : Word) (n : Nat) (c : Bool) : lslResult a n c =
    (BitVec.ofNat 32 (a.toNat * 2 ^ n), if n = 0 then c else (a.toNat * 2 ^ n).testBit 32) := by
  rw [ofNat_mul_two_pow, lslResult, Nat.testBit_mul_two_pow]
  split_ifs with h0 hlt h32
  · rw [h0, BitVec.shiftLeft_zero]
  · rw [decide_eq_true hlt.le]
    rfl
  · rw [h32]
    simp [wbit, BitVec.getLsbD]
  · rw [BitVec.shiftLeft_eq_zero (by omega), decide_eq_false (by omega)]
    rfl

theorem lsrResult_eq (a : Word) (n : Nat) (c : Bool) : lsrResult a n c =
    (BitVec.ofNat 32 (a.toNat / 2 ^ n), if n = 0 then c else a.toNat.testBit (n - 1)) := by
  rw [ofNat_div_two_pow, lsrResult]
  split_ifs with h0 hlt h32
  · rw [h0, BitVec.ushiftRight_zero]
  · rfl
  · rw [h32, BitVec.ushiftRight_eq_zero (by omega)]
    rfl
  · have hbit : a.toNat.testBit (n - 1) = false := BitVec.getLsbD_of_ge a (n - 1) (by omega)
    rw [BitVec.ushiftRight_eq_zero (by omega), hbit]
    rfl

/-- The last bit that a shift to the right by `n + 1` places with the sign takes out. -/
theorem sshiftRight_last (a : Word) (n : Nat) :
    decide (a.toInt / 2 ^ n % 2 = 1) = if n < 32 then wbit a n else a.msb := by
  have hparity (x : Word) : decide (x.toInt % 2 = 1) = x.getLsbD 0 := by
    rw [BitVec.getLsbD, Nat.testBit_zero, decide_eq_decide, BitVec.toInt_eq_toNat_cond]
    split_ifs <;> omega
  have hshift : a.toInt / 2 ^ n = (a.sshiftRight n).toInt := by
    rw [BitVec.toInt_sshiftRight, Int.shiftRight_eq_div_pow, Nat.cast_pow, Nat.cast_ofNat]
  rw [hshift, hparity, BitVec.getLsbD_sshiftRight]
  simp [wbit]

/-- Beyond 31 places the sign alone is left. -/
theorem sshiftRight_sign (a : Word) {n : Nat} (h : 32 ≤ n) : a.sshiftRight n = if a.msb then 0xFFFFFFFF else 0 := by
  refine BitVec.eq_of_getLsbD_eq fun j hj => ?_
  rw [BitVec.getLsbD_sshiftRight, if_neg (by omega), decide_eq_false (by omega)]
  cases a.msb
  · exact (BitVec.getLsbD_zero).symm
  · have hones : (0xFFFFFFFF : Word) = BitVec.allOnes 32 := rfl
    rw [if_pos rfl, hones, BitVec.getLsbD_allOnes, decide_eq_true hj]
    rfl

theorem asrResult_eq (a : Word) (n : Nat) (c : Bool) : asrResult a n c =
    (BitVec.ofInt 32 (a.toInt / 2 ^ n), if n = 0 then c else decide (a.toInt / 2 ^ (n - 1) % 2 = 1)) := by
  rw [ofInt_div_two_pow, sshiftRight_last, asrResult]
  by_cases h0 : n = 0
  · rw [if_pos h0, if_pos h0, h0, BitVec.sshiftRight_zero]
  · by_cases hlt : n < 32
    · rw [if_neg h0, if_neg h0, if_pos hlt, if_pos (by omega)]
    · have hlast : (if n - 1 < 32 then wbit a (n - 1) else a.msb) = a.msb := by
        by_cases h32 : n = 32
        · rw [h32, if_pos (by decide), BitVec.msb_eq_getLsbD_last, wbit]
        · rw [if_neg (by omega)]
      rw [if_neg h0, if_neg h0, if_neg hlt, hlast, sshiftRight_sign a (Nat.le_of_not_lt hlt)]

theorem fld_low8 (w : Word) : fld w 0 8 = w.toNat % 256 := by
  rw [fld_eq_div_mod, pow_zero, Nat.div_one]
  rfl

/-- An instruction that retires with a shift's result and carry. -/
theorem completes_retireShift {s : State} {i : Instr} {body : State → State} {rd : Fin 16} {r : Word} {c : Bool}
    (hs : s.executes) (hi : i.wf = true) (he : exec i s = .next (s.runInstr i body))
    (hb : ∀ u : State, u.core = s.fetch.s.core → body u = u.retireShift rd (r, c)) :
    Completes i s (s.core.result rd r { signCC s.core.cc r with c := c }) :=
  completes_result hs hi he fun u hu => by rw [hb u hu, State.retireShift, ccNZ_eq, cc_of hu]

/-- Settles O6: each shift retires with its result and carry, which are those in numbers. -/
theorem shifts : Obligations.Shifts := by
  unfold Obligations.Shifts
  intro s rd ra rb m hs a ends keep n left right arith
  refine ⟨fun hn => ⟨completes_retireShift hs rfl rfl fun u hu => ?_, completes_retireShift hs rfl rfl fun u hu => ?_,
      completes_retireShift hs rfl rfl fun u hu => ?_⟩,
    fun hn => ⟨completes_retireShift hs rfl rfl fun u hu => ?_, completes_retireShift hs rfl rfl fun u hu => ?_,
      completes_retireShift hs rfl rfl fun u hu => ?_⟩⟩
  · rw [opLsl, g_of hu, g_of hu, cc_of hu, fld_low8, ← hn, lslResult_eq]
  · rw [opLsr, g_of hu, g_of hu, cc_of hu, fld_low8, ← hn, lsrResult_eq]
  · rw [opAsr, g_of hu, g_of hu, cc_of hu, fld_low8, ← hn, asrResult_eq]
  · rw [opLsli, g_of hu, cc_of hu, ← hn, lslResult_eq]
  · rw [opLsri, g_of hu, cc_of hu, ← hn, lsrResult_eq]
  · rw [opAsri, g_of hu, cc_of hu, ← hn, asrResult_eq]

theorem rorResult_eq {a r : Word} {n : Nat} (h : ∀ j : Fin 32, r[j] = a.getLsbD ((j.val + n) % 32)) (c : Bool) :
    rorResult a n c = (r, if n = 0 then c else r.msb) := by
  have hr : a.rotateRight (n % 32) = r := by
    refine BitVec.eq_of_getLsbD_eq fun j hj => ?_
    have hbit : r.getLsbD j = a.getLsbD ((j + n) % 32) := (BitVec.getLsbD_eq_getElem hj).trans (h ⟨j, hj⟩)
    rw [hbit, BitVec.getLsbD_rotateRight, Nat.mod_mod, decide_eq_true hj, Bool.true_and]
    by_cases hcarried : j < 32 - n % 32
    · rw [decide_eq_true hcarried, cond_true, show n % 32 + j = (j + n) % 32 by omega]
    · rw [decide_eq_false hcarried, cond_false, show j - (32 - n % 32) = (j + n) % 32 by omega]
  rw [rorResult, hr]
  by_cases h0 : n = 0
  · have hzero : a.rotateRight 0 = a := by simp [BitVec.rotateRight, BitVec.rotateRightAux]
    rw [if_pos h0, if_pos h0, ← hr, h0, Nat.zero_mod, hzero]
  · rw [if_neg h0, if_neg h0]

/-- Settles O7: each rotate retires with the operand's bits carried round. -/
theorem rotates : Obligations.Rotates := by
  unfold Obligations.Rotates
  intro s rd ra rb m r n hs hr f
  refine ⟨fun hn => completes_retireShift hs rfl rfl fun u hu => ?_, fun hn => completes_retireShift hs rfl rfl fun u hu => ?_⟩
  · rw [opRor, g_of hu, g_of hu, cc_of hu, fld_low8, ← hn, rorResult_eq hr]
  · rw [opRori, g_of hu, cc_of hu, ← hn, rorResult_eq hr]

/-! ## Branches (R199, R216, Table 07.3) -/

/-- The conditions of the table, each on the flags that it names. -/
theorem condHolds_table (f : CC) : ∀ p ∈ [(0, f.z), (1, f.c), (2, f.n), (3, f.v), (4, f.c && !f.z), (5, f.n == f.v),
    (6, !f.z && (f.n == f.v)), (7, true), (8, !f.z), (9, !f.c), (10, !f.n), (11, !f.v), (12, !f.c || f.z), (13, f.n != f.v),
    (14, f.z || (f.n != f.v))], ∀ cond : Fin 16, cond.val = p.1 → cond.val ≠ 15 ∧ condHolds f cond = p.2 := by
  obtain ⟨n, z, c, v⟩ := f
  revert n z c v
  decide

section
variable {s : State} {i : Instr} {body : State → State} (hs : s.executes) (hi : i.wf = true)
  (he : exec i s = .next (s.runInstr i body))
include hs hi he

/-- An instruction that only goes on. -/
theorem completes_next (hb : ∀ u : State, u.core = s.fetch.s.core → body u = u.advance) : Completes i s s.core.next :=
  completes_pc hs hi he fun u hu => by rw [hb u hu, State.advance, show u.core.pc = s.core.pc from pc_of hu]

/-- An instruction that goes to its target where `p` holds. -/
theorem completes_branch {p : Prop} [Decidable p] {off : BitVec 20}
    (hb : ∀ u : State, u.core = s.fetch.s.core → body u = if p then u.setPc (u.target off) else u.advance) :
    Completes i s (if p then
      { s.core with pc := BitVec.ofInt 32 (s.pc.toNat + 4 * off.toInt) &&& 0xFFFFFFFC } else s.core.next) := by
  by_cases h : p
  · rw [if_pos h]
    exact completes_pc hs hi he fun u hu => by rw [hb u hu, if_pos h, target_eq, pc_of hu]
  · rw [if_neg h]
    exact completes_next hs hi he fun u hu => by rw [hb u hu, if_neg h]

end

/-- Settles O8: each branch moves PC alone, a call g14 too; the conditions are those of the table. -/
theorem branches : Obligations.Branches := by
  unfold Obligations.Branches
  intro s rt off hs f go target link
  refine ⟨fun cond holds hcond => ?_, completes_branch hs rfl rfl fun u hu => ?_, completes_branch hs rfl rfl fun u hu => ?_,
    completes_left (body := opBl off) hs rfl rfl fun u => ?_, completes_left (body := opBlr rt) hs rfl rfl fun u => ?_,
    completes_pc hs rfl rfl fun u hu => ?_⟩
  · obtain ⟨hreal, hholds⟩ := condHolds_table f _ hcond cond rfl
    exact completes_branch (i := .bcc cond off) hs (decide_eq_true hreal) rfl fun u hu => by rw [opBcc, cc_of hu, hholds]
  · simp only [opCbz, g_of hu, ← BitVec.toNat_inj]
    rfl
  · simp only [opCbnz, g_of hu, ← BitVec.toNat_inj, ite_not]
    rfl
  · rw [opBl, target_eq]
    rfl
  · rfl
  · rw [opJr, g_of hu]

end Sys2Proof.Machine

namespace Sys2Proof.Machine

/-! ## A read of plain memory, answered or refused (R208, R253, R299) -/

/-- `t` has the core of `s` but for a raised NMI, its memories, and every block beside the records of errors. -/
structure ReadOnly (s t : State) : Prop where
  core : t.core = { s.core with nmi := t.core.nmi }
  rest : t.rest = s.rest
  freeCtr : t.freeCtr = s.freeCtr

namespace ReadOnly

variable {s t u : State}

theorem refl (s : State) : ReadOnly s s := ⟨rfl, rfl, rfl⟩

theorem trans (h : ReadOnly s t) (k : ReadOnly t u) : ReadOnly s u := by
  refine ⟨?_, k.rest.trans h.rest, k.freeCtr.trans h.freeCtr⟩
  rw [k.core, h.core]

theorem ite (h : ReadOnly s t) (k : ReadOnly s u) {c : Prop} [Decidable c] : ReadOnly s (if c then t else u) := by
  split
  · exact h
  · exact k

theorem wr (h : ReadOnly s t) (a : Nat) (v : Word) : ReadOnly s (t.wr a v) := { h with }
theorem saf (h : ReadOnly s t) (x : Saf) : ReadOnly s { t with saf := x } := { h with }
theorem lcs (h : ReadOnly s t) (x : Lcs) : ReadOnly s { t with lcs := x } := { h with }
theorem lnk (h : ReadOnly s t) (x : Lnk) : ReadOnly s { t with lnk := x } := { h with }
theorem bus (h : ReadOnly s t) (x : Bus) : ReadOnly s { t with bus := x } := { h with }
theorem pwr (h : ReadOnly s t) (x : Pwr) : ReadOnly s { t with pwr := x } := { h with }

theorem nmi (h : ReadOnly s t) : ReadOnly s { t with core := { t.core with nmi := true } } :=
  ⟨by rw [h.core], h.rest, h.freeCtr⟩

/-! Reports of the safety function (R418, R419). -/

theorem clearReq (h : ReadOnly s t) (m : Word) : ReadOnly s (t.clearReq m) := ((h.wr _ _).wr _ _).saf _

theorem trigger (h : ReadOnly s t) (c : ResetCause) : ReadOnly s (t.trigger c) := h.ite (h.lcs _)

theorem safCond (h : ReadOnly s t) : ReadOnly s t.safCond := h.wr _ _

theorem queueHeartbeat (h : ReadOnly s t) (extra : Bool) : ReadOnly s (t.queueHeartbeat extra) := (h.lnk _).ite h

theorem safNote (h : ReadOnly s t) (fw : Word) : ReadOnly s (t.safNote fw) := (h.wr _ _).wr _ _

theorem safGroup (h : ReadOnly s t) (g : Nat) (fw : Word) : ReadOnly s (t.safGroup g fw) :=
  (((h.ite (h.wr _ _)).wr _ _).wr _ _).clearReq _

theorem safCapture (h : ReadOnly s t) (fw : Word) (aid : Nat) : ReadOnly s (t.safCapture fw aid) :=
  have hcaptured := h.ite (((((h.wr _ _).wr _ _).wr _ _).wr _ _).saf _)
  ((hcaptured.wr _ _).saf _).ite hcaptured

theorem safSafe (h : ReadOnly s t) (fw : Word) (aid : Nat) (nmi : Bool) : ReadOnly s (t.safSafe fw aid nmi) := by
  unfold State.safSafe
  extract_lets entry latched acked captured _ raised _ _ timed
  have hlatched : ReadOnly s latched := (h.wr _ _).wr _ _
  have hcaptured : ReadOnly s captured := ((((hlatched.wr _ _).ite hlatched).safCapture fw aid).wr _ _).clearReq _
  have hraised : ReadOnly s raised := hcaptured.nmi.ite hcaptured
  have htimed : ReadOnly s timed := hraised.ite ((hraised.wr _ _).saf _)
  exact (htimed.safCond.queueHeartbeat true).ite htimed.safCond

theorem safReport (h : ReadOnly s t) (fw : Word) (aid : Nat) : ReadOnly s (t.safReport fw aid) := by
  unfold State.safReport State.safReportIn
  split
  · exact h
  · split
    · have hsafe := h.safSafe fw aid false
      exact (hsafe.trigger _).ite ((hsafe.trigger _).lcs _)
    · split
      · exact h.safSafe fw aid true
      · split
        · exact h.safGroup _ fw
        · exact h.safNote fw
      · exact h.safNote fw

/-! Words of the Store and of Saddle RAM (R299). -/

theorem storeUE (h : ReadOnly s t) (src code mid aid slot off syn : Nat) :
    ReadOnly s (t.storeUE src code mid aid slot off syn) := by
  unfold State.storeUE
  extract_lets counted captured
  have hcounted : ReadOnly s counted := (h.wr _ _).wr _ _
  have hcaptured : ReadOnly s captured := hcounted.ite ((hcounted.wr _ _).wr _ _)
  exact hcaptured.safReport _ _

theorem storeWord (h : ReadOnly s t) (slot off src code mid aid : Nat) :
    ReadOnly s (t.storeWord slot off src code mid aid).s := by
  unfold State.storeWord
  extract_lets
  split
  · exact h
  · exact (h.wr _ _).wr _ _
  · exact h.storeUE _ _ _ _ _ _ _

theorem saddleWord (h : ReadOnly s t) (a aid : Nat) : ReadOnly s (t.saddleWord a aid).s := by
  unfold State.saddleWord
  extract_lets
  split
  · exact h
  · exact h
  · exact h.safReport _ _

/-- Words that are read in turn. -/
theorem foldl {β : Type} {f : BytesRead × Nat → β → BytesRead × Nat} (l : List β) {x : BytesRead × Nat}
    (h : ReadOnly s x.1.s) (hf : ∀ x b, ReadOnly s x.1.s → ReadOnly s (f x b).1.s) : ReadOnly s (l.foldl f x).1.s := by
  induction l generalizing x with
  | nil => exact h
  | cons b l ih => exact ih (hf x b h)

theorem storeRead (h : ReadOnly s t) (slot off n mid aid : Nat) : ReadOnly s (t.storeRead slot off n mid aid).s :=
  foldl (wordsOf off n) (x := (⟨t, 0, none⟩, 0)) h fun _ w hx => hx.storeWord slot w 0 1 mid aid

theorem saddleRead (h : ReadOnly s t) (a n aid : Nat) : ReadOnly s (t.saddleRead a n aid).s :=
  foldl (wordsOf a n) (x := (⟨t, 0, none⟩, 0)) h fun _ w hx => hx.saddleWord w aid

/-! The interconnect. -/

theorem errRecord (h : ReadOnly s t) (k : Nat) (r : Req) : ReadOnly s (t.errRecord k r) := (h.wr _ _).ite (h.bus _)

theorem abortAns (h : ReadOnly s t) (k : Nat) (r : Req) : ReadOnly s (t.abortAns k r).s := h.errRecord k r

theorem gateDeny (h : ReadOnly s t) (n m a path : Nat) (r : Req) : ReadOnly s (t.gateDeny n m a path r) := by
  unfold State.gateDeny
  extract_lets counted captured
  have hcounted : ReadOnly s counted := h.wr _ _
  have hcaptured : ReadOnly s captured := hcounted.ite (((hcounted.wr _ _).wr _ _).wr _ _)
  exact (hcaptured.wr _ _).ite hcaptured

theorem gateCheck (h : ReadOnly s t) (n a path : Nat) (r : Req) : ReadOnly s (t.gateCheck n a path r).s := by
  unfold State.gateCheck
  split
  · exact h
  · exact h.gateDeny _ _ _ _ _

theorem hold (h : ReadOnly s t) (d : Domain) (who : Waiter) (a : Nat) (r : Req) : ReadOnly s (t.hold d who a r) := h.bus _

theorem bounce (h : ReadOnly s t) (k : Nat) (r : Req) : ReadOnly s (t.bounce k r).s :=
  ((h.wr _ _).ite h).abortAns k r

theorem wakeDomain (h : ReadOnly s t) (d : Domain) : ReadOnly s (t.wakeDomain d) := by
  have hasked := h.wr Reg.PWR_DOMCTL (wputBit (t.rd Reg.PWR_DOMCTL) (domBit d) true)
  exact hasked.ite (hasked.ite (hasked.pwr _))

theorem policyAns (h : ReadOnly s t) {d : Domain} {who : Waiter} {a : Nat} {r : Req} {x : Ans}
    (hx : t.policyAns d who a r = some x) : ReadOnly s x.s := by
  unfold State.policyAns at hx
  split_ifs at hx <;> cases hx
  · exact h.hold _ _ _ _
  · exact h.bounce _ _
  · exact h.hold _ _ _ _
  · exact h.bounce _ _
  · exact (h.wakeDomain _).hold _ _ _ _

section
variable {r : Req} (hr : r.kind = .read)
include hr

theorem storeAt (h : ReadOnly s t) (a n data at_ : Nat) : ReadOnly s (t.storeAt a n data at_ r).s := by
  unfold State.storeAt
  simp only [hr, readAns_s]
  exact h.storeRead _ _ _ _ _

/-- One beat of a read. -/
theorem beatAt (h : ReadOnly s t) (g : Region) (a n data at_ : Nat) : ReadOnly s (t.beatAt g a n data at_ r).s := by
  have hread : ¬r.kind.writes = true := by simp [hr, ReqKind.writes]
  unfold State.beatAt
  extract_lets rb
  split
  · rw [if_neg hread]
    exact h
  · rw [if_neg hread, readAns_s]
    exact h.saddleRead _ _ _
  · exact h
  · split
    · exact h.abortAns _ _
    · exact h.storeAt hr _ _ _ _
  · split
    · exact h.abortAns _ _
    · exact h.storeAt hr _ _ _ _
  · exact h.abortAns _ _

theorem perform (h : ReadOnly s t) {g : Region} (hg : plainRegion g) (a : Nat) : ReadOnly s (t.perform g a r).s := by
  have hbeats : ReadOnly s (t.beats g a r).s := by
    unfold State.beats
    split
    · exact h.beatAt hr _ _ _ _ _
    · exact (h.beatAt hr _ _ _ _ _).beatAt hr _ _ _ _ _
    · exact h
  unfold State.perform
  rcases hg with rfl | rfl | rfl | rfl | rfl <;> exact hbeats

theorem atTarget (h : ReadOnly s t) {g : Region} (hg : plainRegion g) (a : Nat) (who : Waiter) :
    ReadOnly s (t.atTarget g a r who).s := by
  unfold State.atTarget
  split
  · exact h.abortAns _ _
  · split
    · exact h.abortAns _ _
    · split
      · next x hx => exact h.policyAns hx
      · split
        · exact h.hold _ _ _ _
        · exact perform hr (h.bus _) hg a

theorem issue (h : ReadOnly s t) (hg : plainRegion (regionOf r.addr)) (who : Waiter) : ReadOnly s (t.issue r who).s := by
  unfold State.issue
  split
  · exact h.abortAns _ _
  · split
    · split
      · extract_lets x
        split
        · exact (h.gateCheck _ _ _ _).atTarget hr hg _ who
        · exact h.gateCheck _ _ _ _
      · exact h.atTarget hr hg _ who
    · exact h.atTarget hr hg _ who

end

/-- A read that waited goes on, or waits on. -/
theorem goesOn (k : ReadOnly s t) {h : Held} (hr : h.req.kind = .read) (hg : plainRegion (regionOf h.req.addr)) :
    ReadOnly s (t.goesOn h).s := by
  have hfree : ReadOnly s (t.unhold h) := k.bus _
  unfold State.goesOn
  split
  · exact hfree.abortAns _ _
  · split
    · extract_lets u
      split
      · exact hfree.abortAns _ _
      · exact hfree.perform hr hg _
    · exact k

theorem access {r : Req} (hr : r.kind = .read) (hg : plainRegion (regionOf r.addr)) (s : State) (who : Waiter) :
    ReadOnly s (s.access r who).s := by
  unfold State.access
  split
  · next h hfound =>
    have hsame := List.find?_some hfound
    simp only [Held.isFor, Bool.and_eq_true, decide_eq_true_eq] at hsame
    obtain ⟨⟨⟨⟨-, hkind⟩, haddr⟩, -⟩, -⟩ := hsame
    exact (refl s).goesOn (hkind.trans hr) (haddr ▸ hg)
  · exact (refl s).issue hr hg who

end ReadOnly

end Sys2Proof.Machine

namespace Sys2Proof.Machine

/-! ## Barriers (R211, R214, Table 07.11) -/

/-- Where no store waits, a barrier retires at once. -/
theorem barrier_empty {s : State} (h : s.core.buf = []) (i : Instr) (k : State → State) : s.barrier i k = k s := by
  have hdrain : s.drainAll = s := by simp [State.drainAll, State.drainFor, h]
  rw [State.barrier, hdrain, h]
  rfl

theorem buf_of {s u : State} (hu : u.core = s.fetch.s.core) : u.core.buf = s.core.buf := by rw [hu, fetch_buf]

/-- Settles O13: with nothing to wait for, each goes on; what it changes first is said by its definition. -/
theorem barriers : Obligations.Barriers := by
  unfold Obligations.Barriers
  intro s hs
  refine ⟨completes_next hs rfl rfl fun u hu => rfl, completes_left (body := opBarW) hs rfl rfl fun u => rfl,
    fun hbuf => ⟨completes_next hs rfl rfl fun u hu => ?_, completes_next hs rfl rfl fun u hu => ?_, fun hnvm => ?_⟩⟩
  · rw [opBarRw, barrier_empty ((buf_of hu).trans hbuf)]
  · rw [opBarIo, barrier_empty ((buf_of hu).trans hbuf)]
  · have hwritten : (s.fetch.s.bus.nvmQ.all fun w => decide (w.mid ≠ 0)) = true := by simpa using hnvm
    refine ⟨_, exec_of_executes (body := opBarSync) hs rfl rfl, ?_⟩
    rw [opBarSync, barrier_empty ((fetch_buf s).trans hbuf), if_pos hwritten, settle_rest, settle_core]
    refine ⟨fetch_rest s, ?_⟩
    rw [State.advance, State.setPc, fetch_core]
    rfl

/-! ## Loads (R166, R167, R169, R170, R207 to R209) -/

theorem lowestByte_eq (a : Word) (n : Nat) : lowestByte a n = if a.toNat + n ≤ 2 ^ 32 then a else 0 := by
  simp only [lowestByte, ← not_le, ite_not]

theorem stackBad_iff (s : State) (ra : Fin 16) (a : Word) (n : Nat) : s.stackBad ra a n = true ↔ ¬s.stackOk ra a n := by
  have hlow : (lowestByte a n).toNat = if a.toNat + n ≤ 2 ^ 32 then a.toNat else 0 := by
    rw [lowestByte_eq, apply_ite BitVec.toNat]
    rfl
  simp only [State.stackBad, State.stackOk, hlow, Bool.and_eq_true, decide_eq_true_eq, Classical.not_imp, not_or, not_le, and_assoc]

theorem fetch_stackOk (s : State) (ra : Fin 16) (a : Word) (n : Nat) : s.fetch.s.stackOk ra a n ↔ s.stackOk ra a n := by
  unfold State.stackOk
  rw [fetch_core]

section
variable {s : State} {ra : Fin 16} {a : Word} {n : Nat} (i : Instr) (k : State → Nat → State)

theorem loadInstr_stack (h : ¬s.stackOk ra a n) :
    s.loadInstr i ra a n k = s.raise 8 0 (if a.toNat + n ≤ 2 ^ 32 then a else 0) := by
  rw [State.loadInstr, if_pos ((stackBad_iff s ra a n).2 h), lowestByte_eq]

theorem loadInstr_coreSpace (hstack : s.stackOk ra a n) (h : s.tenantMode = true ∧ coreSpace a) :
    s.loadInstr i ra a n k = s.raise 7 3 a := by
  rw [← privateSpace_iff, ← Bool.and_eq_true] at h
  rw [State.loadInstr, if_neg (mt (stackBad_iff s ra a n).1 (not_not.2 hstack)), if_pos h]

theorem loadInstr_reads (hstack : s.stackOk ra a n) (h : ¬(s.tenantMode = true ∧ coreSpace a)) :
    s.loadInstr i ra a n k = (s.coreRead a n).load i a k := by
  rw [← privateSpace_iff, ← Bool.and_eq_true] at h
  rw [State.loadInstr, if_neg (mt (stackBad_iff s ra a n).1 (not_not.2 hstack)), if_neg h]

end

theorem load_ok {x : Ans} {v : Nat} (h : x.resp = .ok v) (i : Instr) (a : Word) (k : State → Nat → State) :
    x.load i a k = k x.s v := by
  rw [Ans.load, h]

/-- Sign extension of the bytes of a loaded value. -/
theorem sxBytes_eq (n v : Nat) (hn : 0 < n) : sxBytes n v = (BitVec.ofNat (8 * n) v).signExtend 32 := by
  have hpow : 2 ^ (8 * n) = 2 * 2 ^ (8 * n - 1) := by
    rw [← pow_succ']
    congr 1
    omega
  rw [sxBytes, BitVec.signExtend, BitVec.toInt_eq_toNat_cond, BitVec.toNat_ofNat, signed, Nat.mod_mod]
  generalize v % 2 ^ (8 * n) = x
  exact congrArg _ (if_congr (by omega) rfl rfl)

theorem loaded_eq (s : State) (rd : Fin 16) (a v : Word) : s.loaded rd a v = ((s.setG rd v).advance).watch a false := by
  rw [State.loaded, retire_keepCC]

/-- A load whose checks pass and that is answered with data. -/
theorem exec_load {s : State} {i : Instr} {body : State → State} {ra : Fin 16} {a : Word} {n v : Nat} {k : State → Nat → State}
    (hs : s.executes) (hi : i.wf = true) (he : exec i s = .next (s.runInstr i body))
    (hb : body s.fetch.s = s.fetch.s.loadInstr i ra a n k) (hstack : s.stackOk ra a n)
    (hspace : ¬(s.tenantMode = true ∧ coreSpace a)) (hv : (s.fetch.s.coreRead a n).resp = .ok v) :
    exec i s = .next (k (s.fetch.s.coreRead a n).s v).settle := by
  rw [exec_of_executes hs hi he, hb, loadInstr_reads i k ((fetch_stackOk s ra a n).2 hstack) (by rwa [fetch_tenantMode]),
    load_ok hv]

/-- Settles O9: a load takes one of its ways, each said by its lemma above; what a read of plain memory leaves is `ReadOnly`. -/
theorem loads : Obligations.Loads := by
  unfold Obligations.Loads
  refine ⟨fun s rd ra off hs => ?_, fun s rd ra off hs => ?_, fun s r who hr hg => ?_⟩
  · intro u a loads
    have hea : u.ea ra off = a := congrArg (· + sx16 off) (fetch_g s ra)
    have answered {i : Instr} {body : State → State} {n : Nat} {w : Nat → Word} (hi : i.wf = true)
        (he : exec i s = .next (s.runInstr i body))
        (hb : body u = u.loadInstr i ra a n fun t v => t.loaded rd a (w v)) : loads i n w := by
      intro hstack hspace v hv
      rw [exec_load hs hi he hb hstack hspace hv, loaded_eq]
    refine ⟨answered (body := opLdw rd ra off) rfl rfl ?_, answered (body := opLdhu rd ra off) rfl rfl ?_,
      answered (body := opLdbu rd ra off) rfl rfl ?_, answered (body := opLdh rd ra off) rfl rfl ?_,
      answered (body := opLdb rd ra off) rfl rfl ?_, fun heven hstack hspace v hv => ?_⟩
    · rw [opLdw, hea]
    · rw [opLdhu, hea]
    · rw [opLdbu, hea]
    · simp only [opLdh, hea, sxBytes_eq 2 _ (by decide)]
    · simp only [opLdb, hea, sxBytes_eq 1 _ (by decide)]
    · have hwf : (Instr.ldd rd ra off).wf = true := decide_eq_true heven
      rw [exec_of_executes (body := opLdd rd ra off) hs hwf rfl, opLdd, hea,
        loadInstr_reads _ _ ((fetch_stackOk s ra a 8).2 hstack) (by rwa [fetch_tenantMode]), load_ok hv]
      generalize (u.coreRead a 8).s = t
      rfl
  · intro u a low x
    have hea : u.ea ra off = a := congrArg (· + sx16 off) (fetch_g s ra)
    have hexec : exec (.ldw rd ra off) s = .next (opLdw rd ra off u).settle := exec_of_executes hs rfl rfl
    rw [hexec, opLdw, hea]
    refine ⟨fun hstack => ?_, fun hstack htenant hcore => ?_, fun hstack hspace => ?_⟩
    · rw [loadInstr_stack _ _ (mt (fetch_stackOk s ra a 4).1 hstack)]
    · rw [loadInstr_coreSpace _ _ ((fetch_stackOk s ra a 4).2 hstack) ⟨(fetch_tenantMode s).trans htenant, hcore⟩]
    · rw [loadInstr_reads _ _ ((fetch_stackOk s ra a 4).2 hstack) (by rwa [fetch_tenantMode])]
      exact ⟨fun h => by rw [Ans.load, h], fun k h => by rw [Ans.load, h], fun e syn h => by rw [Ans.load, h]⟩
  · obtain ⟨hcore, hrest, hfree⟩ := ReadOnly.access hr hg s who
    exact ⟨hcore, hrest, hfree⟩

end Sys2Proof.Machine

namespace Sys2Proof.Machine

/-! ## Stores (R207 to R209, R212, R230) -/

/-- `t` is `s` with the entries `ps` in its write buffer; of the core a reservation may be cleared beside. -/
structure Posts (s t : State) (ps : List Posted) : Prop where
  core : t.core = { s.core with buf := s.core.buf ++ ps, resv := t.core.resv, guard := t.core.guard }
  resv : t.core.resv = s.core.resv ∨ t.core.resv = none
  rest : t.rest = s.rest

namespace Posts

variable {s t u : State} {ps qs : List Posted}

theorem refl (s : State) : Posts s s [] := ⟨by rw [List.append_nil], .inl rfl, rfl⟩

theorem trans (h : Posts s t ps) (k : Posts t u qs) : Posts s u (ps ++ qs) := by
  refine ⟨?_, k.resv.elim (fun e => by rw [e]; exact h.resv) .inr, k.rest.trans h.rest⟩
  rw [k.core, h.core, List.append_assoc]

theorem g (h : Posts s t ps) (r : Fin 16) : t.g r = s.g r := by
  unfold State.g
  rw [h.core]

theorem pc (h : Posts s t ps) : t.pc = s.pc := by
  unfold State.pc
  rw [h.core]

theorem cc (h : Posts s t ps) : t.core.cc = s.core.cc := by rw [h.core]

theorem buf (h : Posts s t ps) : t.core.buf = s.core.buf ++ ps := by rw [h.core]

end Posts

/-- The entry of the buffer that a store makes. -/
def State.newEntry (s : State) (r : Req) : Posted := { req := r, epoch := s.core.epoch }

theorem posts_ownStore (s : State) (a n : Nat) : Posts s (s.ownStore a n) [] := by
  unfold State.ownStore
  split
  · split
    · exact ⟨by rw [List.append_nil], .inr rfl, rfl⟩
    · exact Posts.refl s
  · exact Posts.refl s

theorem posts_noteOwnStore (s : State) (r : Req) : Posts s (s.noteOwnStore r) [] := by
  unfold State.noteOwnStore
  split
  · exact posts_ownStore s _ _
  · exact Posts.refl s

theorem posts_post (s : State) (r : Req) : Posts s (s.post r) [s.newEntry r] := by
  have hput : Posts s (s.setBuf (s.core.buf ++ [s.newEntry r])) [s.newEntry r] := ⟨rfl, .inl rfl, rfl⟩
  exact hput.trans (posts_noteOwnStore _ r)

section
variable {s : State} {a : Word}

/-- A store outside core space is posted where the buffer has room. -/
theorem coreWrite_room (hbuf : s.core.buf.length < 4) (ha : ¬coreSpace a) (n data : Nat) :
    s.coreWrite a n data = ⟨s.post (s.coreReq .write a n data), .gone⟩ := by
  have hroom : s.makeRoom = s := if_pos hbuf
  rw [State.coreWrite, if_neg (mt (privateSpace_iff a).1 ha), hroom, if_pos hbuf]

theorem storeInstr_room {ra : Fin 16} {n : Nat} (hstack : s.stackOk ra a n) (hbuf : s.core.buf.length < 4)
    (ha : ¬coreSpace a) (i : Instr) (data : Nat) (k : State → State) :
    s.storeInstr i ra a n data k = k (s.post (s.coreReq .write a n data)) := by
  rw [State.storeInstr, if_neg (mt (stackBad_iff s ra a n).1 (not_not.2 hstack)), coreWrite_room hbuf ha]

end

/-- `t` is `s` but for the watchpoint that was hit and the registers of the debug port (R566). -/
structure Watches (s t : State) : Prop where
  core : t.core = s.core
  rest : t.rest = { s.rest with hdp := { s.hdp with wpHit := t.hdp.wpHit } }

theorem Watches.trans {s t u : State} (h : Watches s t) (k : Watches t u) : Watches s u := by
  have hhdp : t.hdp = { s.hdp with wpHit := t.hdp.wpHit } := congrArg State.Rest.hdp h.rest
  refine ⟨k.core.trans h.core, ?_⟩
  rw [k.rest, h.rest, hhdp]

theorem watches_watch (s : State) (a : Word) (write : Bool) : Watches s (s.watch a write) := by
  unfold State.watch
  split
  · exact ⟨rfl, rfl⟩
  · split
    · exact ⟨rfl, rfl⟩
    · exact ⟨rfl, rfl⟩

/-- The agent of the core's accesses, read off its registers (R163). -/
theorem coreAid_eq (s : State) : s.coreAid = if s.core.status.getLsbD 8 then s.core.tid.toNat % 1024 else 0x400 := by
  rw [State.coreAid, fld_eq_div_mod, pow_zero, Nat.div_one]
  rfl

theorem fetch_coreAid (s : State) : s.fetch.s.coreAid = s.coreAid := by rw [coreAid_eq, coreAid_eq, fetch_core]

/-- Settles O10: a store that passes its checks is posted, and what is left is to go on and to show it to the watchpoints. -/
theorem storesArePosted : Obligations.StoresArePosted := by
  unfold Obligations.StoresArePosted
  intro s rd ra off hs hbuf a v posts
  have hea : s.fetch.s.ea ra off = a := congrArg (· + sx16 off) (fetch_g s ra)
  have posted {i : Instr} {n data : Nat} {body k : State → State} (hi : i.wf = true) (he : exec i s = .next (s.runInstr i body))
      (hb : body s.fetch.s = s.fetch.s.storeInstr i ra a n data k) (hk : ∀ u, Watches u.advance (k u)) : posts i n data := by
    intro hstack ha
    rw [exec_of_executes hs hi he, hb,
      storeInstr_room ((fetch_stackOk s ra a n).2 hstack) (by rwa [fetch_buf]) ha]
    obtain ⟨hcore, hresv, hrest⟩ := posts_post s.fetch.s (s.fetch.s.coreReq .write a n data)
    generalize s.fetch.s.post _ = u at hcore hresv hrest
    have hnew (r : Req) : s.fetch.s.newEntry r = { req := r, epoch := s.core.epoch } := by rw [State.newEntry, fetch_core]
    have hleft : (k u).settle.core = u.core.next := (settle_core _).trans (hk u).core
    refine ⟨_, s.fetch.s.coreReq .write a n data, rfl, rfl, rfl, rfl, rfl, rfl, ?_, ?_, ?_, ?_⟩
    · exact (fetch_coreAid s).trans (coreAid_eq s)
    · rw [hleft, Core.next, hcore, hnew, fetch_core]
      rfl
    · rw [hleft]
      rw [fetch_core] at hresv
      exact hresv
    · have hadvance : u.advance.rest = s.rest := hrest.trans (fetch_rest s)
      have hhdp : u.advance.hdp = s.hdp := congrArg State.Rest.hdp hadvance
      rw [settle_rest, settle_hdp, (hk u).rest, hadvance, hhdp]
  have hone (u : State) : Watches u.advance (u.advance.watch a true) := watches_watch _ a true
  refine ⟨posted (body := opStw rd ra off) rfl rfl ?_ hone, posted (body := opSth rd ra off) rfl rfl ?_ hone,
    posted (body := opStb rd ra off) rfl rfl ?_ hone, fun heven => posted (body := opStd rd ra off)
      (k := fun u => (u.advance.watch a true).watch (a + 4) true) (decide_eq_true heven) rfl ?_
      fun u => (hone u).trans (watches_watch _ _ _)⟩
  · rw [opStw, hea, fetch_g]
  · rw [opSth, hea, fetch_g]
  · rw [opStb, hea, fetch_g]
  · simp only [opStd, hea, fetch_g]
    rfl
end Sys2Proof.Machine

namespace Sys2Proof.Machine

/-! ## The registers of a mask, and their places (R210) -/

theorem maskRegs_val (mask : BitVec 16) : (maskRegs mask).map Fin.val = (List.range 16).filter fun j => mask.getLsbD j := by
  rw [← List.map_coe_finRange_eq_range, List.filter_map]
  rfl

theorem maskRegs_length (mask : BitVec 16) :
    (maskRegs mask).length = ((List.range 16).filter fun j => mask.getLsbD j).length := by
  rw [← maskRegs_val, List.length_map]

theorem mem_maskRegs {mask : BitVec 16} {r : Fin 16} : r ∈ maskRegs mask ↔ mask.getLsbD r.val = true := by simp [maskRegs]

theorem maskRegs_nodup (mask : BitVec 16) : (maskRegs mask).Nodup := (List.nodup_finRange 16).filter _

theorem maskRegs_zero : maskRegs 0 = [] := by simp [maskRegs]

theorem maskRegs_ne_nil {mask : BitVec 16} (h : mask ≠ 0) : (maskRegs mask).length ≠ 0 := by
  rw [Ne, List.length_eq_zero_iff]
  refine fun hnil => h (BitVec.eq_of_getLsbD_eq fun j hj => ?_)
  have hmem : (⟨j, hj⟩ : Fin 16) ∉ maskRegs mask := by simp [hnil]
  rw [mem_maskRegs] at hmem
  simpa using hmem

/-- The place of a register of the mask is the number of registers of the mask below it. -/
theorem maskRegs_getElem {mask : BitVec 16} {r : Fin 16} (h : mask.getLsbD r.val = true) :
    (maskRegs mask)[((List.range r.val).filter fun j => mask.getLsbD j).length]? = some r := by
  have hsplit : List.range 16 = List.range r.val ++ r.val :: List.range' (r.val + 1) (15 - r.val) := by
    have happend := List.range'_append_1 (s := 0) (m := r.val) (n := 15 - r.val + 1)
    rw [Nat.zero_add, List.range'_succ, show r.val + (15 - r.val + 1) = 16 by omega] at happend
    rw [List.range_eq_range', List.range_eq_range', happend]
  have hval : ((maskRegs mask).map Fin.val)[((List.range r.val).filter fun j => mask.getLsbD j).length]? = some r.val := by
    rw [maskRegs_val, hsplit, List.filter_append, List.filter_cons_of_pos h, List.getElem?_append_right le_rfl, Nat.sub_self]
    rfl
  rw [List.getElem?_map, Option.map_eq_some_iff] at hval
  obtain ⟨q, hq, hqr⟩ := hval
  rw [hq, Fin.ext hqr]

/-! ## PUSHM -/

/-- An entry of the buffer stores the word `v` at `a`. -/
def StoresWord (p : Posted) (a v : Word) : Prop :=
  p.req.kind = .write ∧ p.req.addr = a.toNat ∧ p.req.size = 4 ∧ p.req.data = v.toNat

/-- Where the buffer has room for them all, the words are posted at rising addresses. -/
theorem pushWords_posts {a : Word} {vs : List Word} {s : State} (hbuf : s.core.buf.length + vs.length ≤ 4)
    (ha : ∀ j < vs.length, ¬coreSpace (a + BitVec.ofNat 32 (4 * j))) :
    ∃ ps, (s.pushWords a vs).left = 0 ∧ Posts s (s.pushWords a vs).s ps ∧ ps.length = vs.length ∧
      ∀ j v, vs[j]? = some v → ∃ p, ps[j]? = some p ∧ StoresWord p (a + BitVec.ofNat 32 (4 * j)) v := by
  induction vs generalizing s a with
  | nil => exact ⟨[], rfl, Posts.refl s, rfl, by simp⟩
  | cons v vs ih =>
    rw [List.length_cons] at hbuf ha
    have hzero : a + BitVec.ofNat 32 (4 * 0) = a := BitVec.add_zero a
    have hnext (j : Nat) : a + 4 + BitVec.ofNat 32 (4 * j) = a + BitVec.ofNat 32 (4 * (j + 1)) := by
      rw [BitVec.add_assoc, Nat.mul_succ, Nat.add_comm, BitVec.ofNat_add]
      rfl
    have hroom : s.coreWrite a 4 v.toNat = ⟨s.post (s.coreReq .write a 4 v.toNat), .gone⟩ :=
      coreWrite_room (by omega) (hzero ▸ ha 0 (Nat.succ_pos _)) 4 v.toNat
    have hp := posts_post s (s.coreReq .write a 4 v.toNat)
    generalize hu : s.post (s.coreReq .write a 4 v.toNat) = u at hroom hp
    have hpush : s.pushWords a (v :: vs) = u.pushWords (a + 4) vs := by simp only [State.pushWords, hroom]
    obtain ⟨ps, hleft, hposts, hlen, hps⟩ := ih (s := u) (a := a + 4)
      (by rw [hp.buf, List.length_append, List.length_singleton]; omega)
      (fun j hj => by rw [hnext]; exact ha (j + 1) (Nat.succ_lt_succ hj))
    rw [hpush]
    refine ⟨_, hleft, hp.trans hposts, by simp [hlen], fun j w hw => ?_⟩
    cases j with
    | zero =>
      cases hw
      exact ⟨_, rfl, rfl, by rw [hzero]; rfl, rfl, rfl⟩
    | succ j =>
      rw [← hnext]
      exact hps j w hw

theorem watchWords_core (s : State) (a : Word) (n : Nat) (write : Bool) : (s.watchWords a n write).core = s.core := by
  unfold State.watchWords
  generalize List.range n = js
  induction js generalizing s with
  | nil => rfl
  | cons j js ih => rw [List.foldl_cons, ih, (watches_watch s _ write).core]

/-! ## POPM -/

section
variable {r : Fin 16} {rs : List (Fin 16)}

/-- The registers that no word comes to keep their contents, and the rest of the core stays. -/
theorem popRegs_g_of_notMem (s : State) (v : Nat) (h : r ∉ rs) : (s.popRegs rs v).g r = s.g r := by
  induction rs generalizing s v with
  | nil => rfl
  | cons q qs ih =>
    rw [List.mem_cons, not_or] at h
    rw [State.popRegs, ih _ _ h.2, State.setG_g_ne s _ h.1]

theorem popRegs_g_of_getElem {j : Nat} (hnodup : rs.Nodup) (h : rs[j]? = some r) (s : State) (v : Nat) :
    (s.popRegs rs v).g r = BitVec.ofNat 32 (v / 2 ^ (32 * j)) := by
  induction rs generalizing s v j with
  | nil => simp at h
  | cons q qs ih =>
    obtain ⟨hq, hqs⟩ := List.nodup_cons.1 hnodup
    cases j with
    | zero =>
      cases h
      rw [State.popRegs, popRegs_g_of_notMem _ _ hq, State.setG_g_self, Nat.mul_zero, pow_zero, Nat.div_one]
    | succ j => rw [State.popRegs, ih hqs h, Nat.div_div_eq_div_mul, ← pow_add, Nat.mul_succ, Nat.add_comm]

end

theorem popRegs_cc (s : State) (rs : List (Fin 16)) (v : Nat) : (s.popRegs rs v).core.cc = s.core.cc := by
  induction rs generalizing s v with
  | nil => rfl
  | cons r rs ih => rw [State.popRegs, ih, State.setG_cc]

theorem opPushm_empty (s : State) : opPushm 0 s = s.advance := by
  rw [opPushm, opPushmFrom, maskRegs_zero]
  rfl

theorem opPopm_empty (s : State) : opPopm 0 s = s.advance := by
  rw [opPopm, maskRegs_zero]
  rfl

/-- PUSHM whose words fit in the empty buffer. -/
theorem opPushm_posts {mask : BitVec 16} {s : State} {base : Word} (hmask : mask ≠ 0)
    (hbase : base = s.g 15 - word (4 * (maskRegs mask).length)) (hbuf : s.core.buf = [])
    (hk : (maskRegs mask).length ≤ 4) (hstack : s.stackOk 15 base (4 * (maskRegs mask).length))
    (hspace : ∀ j < (maskRegs mask).length, ¬coreSpace (base + BitVec.ofNat 32 (4 * j))) :
    ∃ t ps, (opPushm mask s).core = ((t.setG 15 base).advance).core ∧ Posts s t ps ∧ ps.length = (maskRegs mask).length ∧
      ∀ j r, (maskRegs mask)[j]? = some r →
        ∃ p, ps[j]? = some p ∧ StoresWord p (base + BitVec.ofNat 32 (4 * j)) (s.g r) := by
  have hlen : ((maskRegs mask).map s.g).length = (maskRegs mask).length := List.length_map ..
  obtain ⟨ps, hleft, hposts, hpslen, hps⟩ := pushWords_posts (s := s) (a := base) (vs := (maskRegs mask).map s.g)
    (by rw [hbuf, hlen]; simpa using hk) (by rwa [hlen])
  refine ⟨_, ps, ?_, hposts, hpslen.trans hlen, fun j r hr => hps j _ (by rw [List.getElem?_map, hr]; rfl)⟩
  have hzero : base + word (4 * 0) = base := BitVec.add_zero base
  simp only [opPushm, opPushmFrom, ← hbase]
  rw [if_neg (maskRegs_ne_nil hmask), if_neg (mt (stackBad_iff s 15 base _).1 (not_not.2 hstack)), hzero, List.drop_zero,
    if_pos hleft, watchWords_core]

/-- POPM whose words have all returned. -/
theorem opPopm_loads {mask : BitVec 16} {s : State} {v : Nat} (hmask : mask ≠ 0)
    (hstack : s.stackOk 15 (s.g 15) (4 * (maskRegs mask).length))
    (hpriv : (s.popWords (s.g 15) (maskRegs mask).length).priv = false)
    (hv : (s.popWords (s.g 15) (maskRegs mask).length).resp = .ok v) :
    (opPopm mask s).core = ((((s.popWords (s.g 15) (maskRegs mask).length).s.popRegs (maskRegs mask) v).setG 15
      (s.g 15 + word (4 * (maskRegs mask).length))).advance).core := by
  simp only [opPopm]
  rw [if_neg (maskRegs_ne_nil hmask), if_neg (mt (stackBad_iff s 15 _ _).1 (not_not.2 hstack)), hpriv,
    if_neg Bool.false_ne_true, load_ok hv, watchWords_core]

/-- The registers where a state has gone on, up to the levels that follow. -/
theorem settle_g_of_advance {s t : State} (h : s.core = t.advance.core) (r : Fin 16) : s.settle.g r = t.g r := by
  rw [settle_g, State.g, h]
  rfl

/-- Settles O11: the words are posted or taken one by one, lowest register first; then g15 moves. -/
theorem pushAndPop : Obligations.PushAndPop := by
  unfold Obligations.PushAndPop
  intro s mask hs u k rank base
  have hlen : (maskRegs mask).length = k := maskRegs_length mask
  refine ⟨?_, fun hmask hbuf hk hstack hspace => ?_, fun hmask h15 hstack v hpriv hv => ?_⟩
  · rintro rfl
    exact ⟨completes_next hs rfl rfl fun u hu => opPushm_empty u, completes_next hs rfl rfl fun u hu => opPopm_empty u⟩
  · have hbase : base = u.g 15 - word (4 * (maskRegs mask).length) := by rw [hlen, fetch_g]
    obtain ⟨t, ps, hcore, hposts, hpslen, hps⟩ := opPushm_posts hmask hbase ((fetch_buf s).trans hbuf) (hlen.trans_le hk)
      ((fetch_stackOk ..).2 (by rwa [hlen])) (by rwa [hlen])
    have hbufs : (opPushm mask u).settle.core.buf = ps := by
      rw [settle_core, hcore]
      exact hposts.buf.trans (by rw [fetch_buf, hbuf, List.nil_append])
    have hg := settle_g_of_advance hcore
    refine ⟨_, exec_of_executes (body := opPushm mask) hs rfl rfl, ?_, fun r hr => ?_, ?_, ?_, ?_, fun r hr => ?_⟩
    · rw [hg, State.setG_g_self]
    · rw [hg, State.setG_g_ne t base hr, hposts.g, fetch_g]
    · rw [settle_pc, State.pc, hcore, ← fetch_pc s, ← hposts.pc]
      rfl
    · rw [settle_core, hcore, ← fetch_cc s, ← hposts.cc]
      rfl
    · rw [hbufs, hpslen, hlen]
    · obtain ⟨p, hp, hstores⟩ := hps _ r (maskRegs_getElem hr)
      rw [hbufs]
      refine ⟨p, hp, ?_⟩
      rw [← fetch_g]
      exact hstores
  · have hwf : (Instr.popm mask).wf = true := by rw [Instr.wf, h15]; rfl
    rw [← fetch_g] at hpriv hv
    have hcore := opPopm_loads hmask ((fetch_stackOk ..).2 (by rwa [hlen, fetch_g])) (by rwa [hlen]) (by rwa [hlen])
    rw [hlen, fetch_g] at hcore
    have hg := settle_g_of_advance hcore
    have h15n {r : Fin 16} (hr : mask.getLsbD r.val = true) : r ≠ 15 := by
      rintro rfl
      exact absurd (h15.symm.trans hr) Bool.false_ne_true
    refine ⟨_, exec_of_executes (body := opPopm mask) hs hwf rfl, ?_, fun r hr => ?_, fun r hr hne => ?_, ?_⟩
    · rw [hg, State.setG_g_self]
    · rw [hg, State.setG_g_ne _ _ (h15n hr), popRegs_g_of_getElem (maskRegs_nodup mask) (maskRegs_getElem hr)]
    · rw [hg, State.setG_g_ne _ _ hne, popRegs_g_of_notMem]
      rw [mem_maskRegs, hr]
      exact Bool.false_ne_true
    · rw [settle_core, hcore]
      exact popRegs_cc ..
end Sys2Proof.Machine

/-!
The interconnect family: level-sensitive pins, posted stores, NVM words, GPIO, the supply monitors and the general DMA. First the
frame that every command has: its effect, and then the registers that follow levels.
-/
namespace Sys2Proof.Machine

/-! ## The debug port in a part without power -/

theorem hdpCause_hrv (s : State) (ap code : Nat) : (s.hdpCause ap code).hrv = s.hrv := by
  unfold State.hdpCause
  split <;> rfl

theorem unlockRequest_hrv (s : State) : s.unlockRequest.hrv = s.hrv := by
  unfold State.unlockRequest
  split
  · exact hdpCause_hrv s 3 9
  · rfl

theorem writeUnlk_hrv (s : State) (v : Word) : (s.writeUnlk v).hrv = s.hrv := by
  have hrelock : (if wbit v 1 then s.relock else s).hrv = s.hrv := by split <;> rfl
  simp only [State.writeUnlk]
  split
  · split
    · rw [unlockRequest_hrv, hrelock]
    · exact hrelock
  · rfl

theorem writeHdpResp_hrv (s : State) (i : Nat) (v : Word) : (s.writeHdpResp i v).hrv = s.hrv := by
  unfold State.writeHdpResp
  split
  · simp only
    split <;> rfl
  · exact hdpCause_hrv s 3 9

/-- Without power a wake event changes nothing. -/
theorem wakeEvent_off {s : State} (h : s.powered = false) (w : WakeSource) : s.wakeEvent w = s := by
  rw [State.wakeEvent, h, Bool.not_false, if_pos rfl]

theorem writeHdp_hrv {s : State} (h : s.powered = false) (a : Nat) (v : Word) : (s.writeHdp a v).hrv = s.hrv := by
  have hpwr : (s.writeHdpPwr v).hrv = s.hrv := by
    have hoff : (s.stdWrite Reg.HDP_PWR v).powered = false := h
    simp only [State.writeHdpPwr, wakeEvent_off hoff, ite_self]
    rfl
  have hstat : (s.writeHdpStat v).hrv = s.hrv := by
    simp only [State.writeHdpStat]
    split <;> rfl
  unfold State.writeHdp
  split_ifs
  · exact hpwr
  · exact hstat
  · exact writeUnlk_hrv s v
  · exact writeHdpResp_hrv s _ v
  · rfl

theorem apWrite_hrv {s : State} (h : s.powered = false) (ap : Fin 4) (a v : Word) : (s.apWrite ap a v).hrv = s.hrv := by
  unfold State.apWrite
  split
  · exact writeHdp_hrv h _ v
  · rfl

theorem apAccess_hrv {s : State} (h : s.powered = false) (ap : Fin 4) : (s.apAccess ap).hrv = s.hrv := by
  have hreg (write : Bool) (a v : Word) : (s.apRegAccess ap write a v).hrv = s.hrv := by
    simp only [State.apRegAccess]
    split_ifs
    · exact (hdpCause_hrv _ _ _).trans (writeHdp_hrv h _ v)
    · exact writeHdp_hrv h _ v
    · rfl
  unfold State.apAccess
  split
  · rw [h, if_neg Bool.false_ne_true, if_neg Bool.false_ne_true]
    split_ifs
    · rfl
    · rfl
    · exact hreg ..
  · rfl

/-! ## Packets -/

/-- `t` differs from `s` in the debug port and its HDP_STAT alone, as far as pins can tell. -/
structure OnPort (s t : State) : Prop where
  hrv : t.hrv = s.hrv
  pins : t.pins = s.pins
  rd : ∀ a, a ≠ Reg.HDP_STAT → t.rd a = s.rd a

namespace OnPort

variable {s t : State}

theorem refl (s : State) : OnPort s s := ⟨rfl, rfl, fun _ _ => rfl⟩

theorem hdp (h : OnPort s t) (x : Hdp) : OnPort s { t with hdp := x } := { h with }

theorem fault (h : OnPort s t) (ap : Fin 4) (cause : Nat) : OnPort s (t.hdpFault ap cause) := by
  have hcause : OnPort s (t.hdpCause ap.val cause) := by
    unfold State.hdpCause
    split
    · exact { h with rd := fun a ha => (State.rd_wr_ne t _ ha).trans (h.rd a ha) }
    · exact h
  exact hcause.hdp _

theorem startAccess (h : OnPort s t) (ap : Fin 4) (a : Word) (w : Option Word) : OnPort s (t.startAccess ap a w) := by
  unfold State.startAccess
  split
  · exact h.fault ..
  · refine OnPort.hdp ?_ _
    split <;> exact h.hdp _

/-- A packet that goes on to `k`. -/
theorem packet (h : OnPort s t) (ap : Fin 4) (q : PacketCheck) {k : State → State} (hk : OnPort s (k t)) :
    OnPort s (t.packet ap q k) := by
  unfold State.packet
  split
  · exact h.hdp _
  · cases q with
    | header => exact h.hdp _
    | bad => exact h.fault ..
    | good =>
      simp only
      split_ifs
      · exact h.hdp _
      · exact h.hdp _
      · exact hk

end OnPort

/-! ## The frame of a command -/

/-- How a command answers from `s`: a command from outside the core acts in a powered part or in every power state, the supplies
are sampled, the debug port takes an access or a packet, an instruction runs on the core, or the part stops. -/
inductive Framed (s : State) : Host.Outcome State Fault Refusal → Prop
  | cmd (f : State → State) : Framed s (.next (s.cmd f))
  | always (f : State → State) : Framed s (.next (s.always f))
  | sample (x : SupplySample) : Framed s (.next (s.sampleRow x))
  | instr (i : Instr) (body : State → State) : Framed s (.next (s.runInstr i body))
  | port (f : State → State) (h : s.powered = false → (f s).hrv = s.hrv) : Framed s (.next (s.hdpCmd f))
  | packet (t : State) (h : OnPort s t) : Framed s (.next t)
  | fault (r : Fault) : Framed s (.fault r)

/-- Every command has one of the frames. -/
theorem exec_framed (c : Instr) (s : State) : Framed s (exec c s) := by
  cases c
  case vioBankCrossing bank above testen =>
    have hrow : exec (.vioBankCrossing bank above testen) s = execVioBankCrossing bank above testen s := rfl
    rw [hrow, execVioBankCrossing]
    split
    · exact .fault _
    · exact .always _
  case hdpLineReset => exact .port State.lineReset fun _ => rfl
  case hdpRd ap addr q => exact .packet _ ((OnPort.refl s).packet ap q ((OnPort.refl s).startAccess ap addr none))
  case hdpWr ap addr v q => exact .packet _ ((OnPort.refl s).packet ap q ((OnPort.refl s).startAccess ap addr (some v)))
  case hdpRdbuf ap q => exact .packet _ ((OnPort.refl s).packet ap q ((OnPort.refl s).hdp _))
  case hdpAccessDone ap => exact .port _ fun h => apAccess_hrv h ap
  case hdpWake v => exact .port _ fun h => apWrite_hrv h 2 0 v
  case hdpUnlockRequest v => exact .port _ fun h => apWrite_hrv h 3 0x14 v
  case hdpResponseWrite v => exact .port _ fun h => apWrite_hrv h 3 0x5C v
  case hdpRelock v => exact .port _ fun h => apWrite_hrv h 3 0x14 v
  case hdpCauseClr v => exact .port _ fun h => apWrite_hrv h 3 0 v
  all_goals constructor

/-! ## Level-sensitive pins (R267 to R269) -/

/-- A level-sensitive pin at its active level sets its event, where SYS is ON and bank VIO1 is supplied. -/
theorem gpioLevels_irq {s : State} (hsys : s.domOn .sys = true) (hvio : s.pins.vio.getD 1 true = true) {n : Nat} (hn : n < 16)
    (hlvl : s.bit Reg.GPIO_LVL n = true) (hin : s.bit Reg.GPIO_IN n = s.bit Reg.GPIO_LVL (16 + n)) :
    s.gpioLevels.bit Reg.GPIO_IRQ n = true := by
  have hmask : wbit (s.rd Reg.GPIO_LVL &&& 0xFFFF) n = true := by
    have hlow : wbit 0xFFFF n = true := by interval_cases n <;> rfl
    rw [wbit_and, hlow, Bool.and_true]
    exact hlvl
  have hsome : s.rd Reg.GPIO_LVL &&& 0xFFFF ≠ 0 := fun h => by
    rw [h] at hmask
    exact absurd hmask (by simp [wbit])
  have hactive : wbit (~~~(s.rd Reg.GPIO_IN ^^^ (s.rd Reg.GPIO_LVL >>> 16))) n = true := by
    have h32 : n < 32 := by omega
    simp only [State.bit, wbit] at hin
    simp only [wbit, BitVec.getLsbD_not, BitVec.getLsbD_xor, BitVec.getLsbD_ushiftRight, hin, Bool.xor_self, h32]
    rfl
  rw [State.gpioLevels, hsys, hvio, decide_eq_true hsome, Bool.and_self, Bool.and_self, if_pos rfl, State.bit, State.rd_orReg,
    if_pos rfl, wbit_or, wbit_and, Nat.cast_ofNat, hmask, hactive, Bool.and_self, Bool.or_true]

/-- After `settle` every level-sensitive pin at its active level has its event. -/
theorem settle_pinsHeld (s : State) : s.settle.pinsHeld := by
  intro _ hsys hvio n hn hlvl hin
  have hrd {a : Nat} (ha : levelReg a = false) : s.clockEnds.outputsSettle.rd a = s.settle.rd a :=
    (outputsSettle_rd _ a fun h => by rw [h] at ha; exact absurd ha (by decide)).trans (settle_rd s a ha).symm
  have hbit {a : Nat} (ha : levelReg a = false) (i : Nat) : s.clockEnds.outputsSettle.bit a i = s.settle.bit a i :=
    congrArg (wbit · i) (hrd ha)
  have hpins : s.clockEnds.outputsSettle.pins = s.settle.pins := by
    rw [outputsSettle_eq, settle_pins]
    rfl
  have hdom : s.clockEnds.outputsSettle.domOn .sys = s.settle.domOn .sys := by
    rw [State.domOn, State.domOn, dom_congr (hrd (by decide))]
  have hirq : s.settle.rd Reg.GPIO_IRQ = s.clockEnds.outputsSettle.gpioLevels.rd Reg.GPIO_IRQ :=
    doorbells_rd _ _ (by decide)
  rw [State.bit, hirq]
  have hvio' : s.clockEnds.outputsSettle.pins.vio.getD 1 true = true := by rw [hpins]; exact hvio
  exact gpioLevels_irq (hdom.trans hsys) hvio' hn ((hbit (by decide) n).trans hlvl)
    ((hbit (by decide) n).trans (hin.trans (hbit (by decide) (16 + n)).symm))

/-- A part without power answers for no pin. -/
theorem pinsHeld_off {s : State} (h : s.powered = false) : s.pinsHeld := fun hp => absurd (h.symm.trans hp) Bool.false_ne_true

theorem finish_pinsHeld (s : State) : s.finish.pinsHeld := settle_pinsHeld _

theorem OnPort.pinsHeld {s t : State} (h : OnPort s t) (hs : s.pinsHeld) : t.pinsHeld := by
  intro hp hsys hvio n hn hlvl hin
  have hpowered : s.powered = true := by rwa [State.powered, ← h.hrv]
  have hdom : s.domOn .sys = true := by rwa [State.domOn, ← dom_congr (h.rd _ (by decide))]
  have hbit {a : Nat} (ha : a ≠ Reg.HDP_STAT) (i : Nat) : t.bit a i = s.bit a i := congrArg (wbit · i) (h.rd a ha)
  rw [h.pins] at hvio
  rw [hbit (by decide)] at hlvl hin ⊢
  rw [hbit (by decide)] at hin
  exact hs hpowered hdom hvio n hn hlvl hin

/-- In SHUTDOWN a sample of the supplies reaches the comparators alone (R76). -/
theorem sample_pstate (s : State) (x : SupplySample) : ((s.cmpPass x.us).setLevels x.now).hrv.pstate = s.hrv.pstate := by
  have hpass : (s.cmpPass x.us).hrv.pstate = s.hrv.pstate := by
    simp only [State.cmpPass]
    split <;> rfl
  rw [setLevels_hrv]
  exact hpass

/-- Whatever its frame, a command keeps the events of level-sensitive pins. -/
theorem Framed.pinsHeld {s t : State} (h : Framed s (.next t)) (hs : s.pinsHeld) : t.pinsHeld := by
  cases h with
  | cmd f =>
    unfold State.cmd
    split
    · exact finish_pinsHeld _
    · exact hs
  | always f =>
    unfold State.always
    split
    · exact finish_pinsHeld _
    · next h => exact pinsHeld_off (Bool.not_eq_true _ ▸ h)
  | sample x =>
    unfold State.sampleRow
    split
    · next h => exact pinsHeld_off (by rw [State.powered, sample_pstate, h]; rfl)
    · unfold State.cmd
      split
      · exact finish_pinsHeld _
      · exact hs
  | instr i body =>
    unfold State.runInstr
    split
    · exact settle_pinsHeld _
    · exact hs
  | port f hoff =>
    unfold State.hdpCmd
    split_ifs with hoff' hp
    · exact hs
    · exact finish_pinsHeld _
    · have hp' : s.powered = false := Bool.not_eq_true _ ▸ hp
      exact pinsHeld_off (by rw [State.powered, hoff hp']; exact hp')
  | packet t h => exact h.pinsHeld hs

/-- A part that has gone to OFF has no power (Table 03.4). -/
theorem powerOff_powered (s : State) : s.powerOff.powered = false := by
  have hpstate : s.powerOff.hrv.pstate = .off := (Supplied.refl _).cmpSee.pstate
  rw [State.powered, hpstate]
  rfl

/-- What the block does with an empty queue keeps them too. -/
theorem idle_pinsHeld {s : State} (hs : s.pinsHeld) : s.idle.pinsHeld := by
  unfold State.idle
  split
  · exact hs
  · exact pinsHeld_off (powerOff_powered s)
  · exact settle_pinsHeld _

/-- Settles O59: every command closes with `settle`, which sets the events, or leaves the pins as they are. -/
theorem pinLevelsHold : Obligations.PinLevelsHold := by
  unfold Obligations.PinLevelsHold
  intro s t hs hstep
  unfold step at hstep
  split at hstep
  · cases hstep
    exact idle_pinsHeld hs
  · next c rest _ =>
    have hframed := exec_framed c { s with pending := rest }
    rw [hstep] at hframed
    exact hframed.pinsHeld hs

/-- Settles O57: no output is on and no pin is level-sensitive at reset. -/
theorem invariantsAtReset : Obligations.InvariantsAtReset := by
  unfold Obligations.InvariantsAtReset
  refine ⟨by rw [State.outputsShown]; decide, ?_⟩
  intro _ _ _ n _ hlvl
  have hzero : State.reset.rd Reg.GPIO_LVL = 0 := by decide
  rw [State.bit, hzero] at hlvl
  exact absurd hlvl (by simp [wbit])

end Sys2Proof.Machine

namespace Sys2Proof.Machine

/-! ## A request that finds nothing waiting (R274) -/

theorem access_new {s : State} (h : s.bus.held = []) (r : Req) (who : Waiter) : s.access r who = s.issue r who := by
  rw [State.access, h]
  rfl

/-- A request that its gate lets pass reaches its target. -/
theorem issue_passes {s : State} {r : Req} {a path n : Nat} (hresolve : s.resolve r = some (a, path, some n))
    (hsys : s.domOn .sys = true) (hgate : (s.gateCheck n a path r).ok = true) (who : Waiter) :
    s.issue r who = s.atTarget (regionOf r.addr) a r who := by
  simp only [State.issue, hresolve, hsys, hgate, if_true, gateCheck_ok hgate]

/-- A domain that is ON, of a part whose nRESET does not hold the page, answers at once (R109). -/
theorem policyAns_on {s : State} {d : Domain} {a : Nat} (hlke : a / 0x1000 ≠ 0x30004) (hreset : s.inDomReset d = false)
    (hon : s.domOn d = true) (who : Waiter) (r : Req) : s.policyAns d who a r = none := by
  have hheld : s.lkeHeld a = false := by rw [State.lkeHeld, decide_eq_false hlke, Bool.and_false]
  simp [State.policyAns, hheld, hreset, hon]

/-- A request that every check passes has its effect at its target. -/
theorem atTarget_performs {s : State} {g : Region} {a : Nat} {r : Req} {who : Waiter} (hheld : s.bus.held = [])
    (hspare : s.toSpare g a = false) (hkind : refusalKind g r = none) (hdeep : s.deep = false)
    (hpolicy : s.policyAns (regionDom g) who a r = none) (hwaits : s.targetWaits g a r = false) :
    s.atTarget g a r who = (s.granted (portOf r.addr a) r.cls r.mid).perform g a r := by
  have htoo : s.tooDeep g r = false := by rw [State.tooDeep, hdeep, Bool.and_false, Bool.false_and]
  have hqueued : s.queued r = false := by rw [State.queued, hheld]; rfl
  simp [State.atTarget, hspare, hkind, htoo, hpolicy, hwaits, hqueued]

/-! ## Saddle RAM -/

theorem regionOf_ram {a : Nat} (hlo : 0x30008000 ≤ a) (hhi : a < 0x3000C000) : regionOf a = .ram := by
  rw [regionOf, if_neg (by omega), if_neg (by omega), if_neg (by omega), if_neg (by omega), if_neg (by omega),
    if_neg (by omega), if_pos ⟨hlo, hhi⟩]

theorem targetOf_ram {a : Nat} (hlo : 0x30008000 ≤ a) (hhi : a < 0x3000C000) : targetOf a = 2 := by
  rw [targetOf, if_neg (by omega), if_neg (by omega), if_pos (.inr ⟨hlo, hhi⟩)]

/-- A word that lies within the bytes written has every lane filled. -/
theorem lanes_whole {w a : Nat} {bs : List Byte} (hlo : a ≤ w) (hhi : w + 4 ≤ a + bs.length) :
    lanes w a bs = (List.range 4).map fun i => some (bs.getD (w + i - a) 0) := by
  refine List.map_congr_left fun i hi => ?_
  have hlt : w + i - a < bs.length := by have := List.mem_range.1 hi; omega
  rw [if_pos (by omega), List.head?_drop, List.getD_eq_getElem?_getD, List.getElem?_eq_getElem hlt, Option.getD_some]

/-- Such a word is stored as it stands (R620). -/
theorem saddleWriteWord_whole {w a : Nat} {bs : List Byte} (hlo : a ≤ w) (hhi : w + 4 ≤ a + bs.length) (s : State) (aid : Nat) :
    s.saddleWriteWord w aid (lanes w a bs) =
      { s with saddle := s.saddle.putWord w ((List.range 4).map fun i => bs.getD (w + i - a) 0) } := by
  rw [lanes_whole hlo hhi]
  rfl

/-- Whole words written to Saddle RAM change Saddle RAM alone. -/
theorem saddleWrite_whole {a : Nat} {bs : List Byte} (ha : a % 4 = 0) (hlen : bs.length % 4 = 0) (s : State) (aid : Nat) :
    ∃ m, s.saddleWrite a aid bs = { s with saddle := m } := by
  have hwords (l : List Nat) (hl : ∀ w ∈ l, a ≤ w ∧ w + 4 ≤ a + bs.length) (t : State) :
      ∃ m, l.foldl (fun u w => u.saddleWriteWord w aid (lanes w a bs)) t = { t with saddle := m } := by
    induction l generalizing t with
    | nil => exact ⟨t.saddle, rfl⟩
    | cons w l ih =>
      obtain ⟨hlo, hhi⟩ := hl w List.mem_cons_self
      rw [List.foldl_cons, saddleWriteWord_whole hlo hhi]
      exact ih (fun v hv => hl v (List.mem_cons_of_mem w hv)) _
  refine hwords _ (fun w hw => ?_) s
  simp only [wordsOf, List.mem_map, List.mem_range] at hw
  omega

/-- One aligned word. -/
theorem saddleWrite_word {a : Nat} (ha : a % 4 = 0) (s : State) (aid v : Nat) :
    s.saddleWrite a aid (bytesLE 4 v) = { s with saddle := s.saddle.putWord a (bytesLE 4 v) } := by
  have hwords : wordsOf a (bytesLE 4 v).length = [a] := by simp [wordsOf, bytesLE, ha]
  rw [State.saddleWrite, hwords, List.foldl_cons, List.foldl_nil, saddleWriteWord_whole le_rfl (by simp [bytesLE])]
  have hbytes : ((List.range 4).map fun i => (bytesLE 4 v).getD (a + i - a) 0) = bytesLE 4 v := by
    simp [bytesLE, List.range_succ]
  rw [hbytes]

/-- An aligned access of 4 or 8 bytes is one beat (R225). -/
theorem beatsOf_aligned {a n : Nat} (hsize : n = 4 ∨ n = 8) (halign : a % n = 0) : beatsOf a n = [(a, n)] := by
  rw [beatsOf]
  exact if_pos (by rcases hsize with rfl | rfl <;> omega)

/-- The request is an aligned write of 4 or 8 bytes to Saddle RAM, which its gate allows. -/
structure Req.ToRam (r : Req) (s : State) : Prop where
  kind : r.kind = .write
  size : r.size = 4 ∨ r.size = 8
  low : 0x30008000 ≤ r.addr
  high : r.addr + r.size ≤ 0x3000C000
  aligned : r.addr % r.size = 0
  gate : (s.gateCheck 2 r.addr 0 r).ok = true

/-- Such a write lands at once. -/
theorem access_ram {s : State} {r : Req} (h : r.ToRam s) (hheld : s.bus.held = []) (hsys : s.domOn .sys = true)
    (hdeep : s.deep = false) (who : Waiter) :
    s.access r who =
      ⟨(s.granted 2 r.cls r.mid).saddleWrite (r.addr - 0x30008000) r.aid (bytesLE r.size r.data), .ok 0⟩ := by
  obtain ⟨hkind, hsize, hlow, hhigh, haligned, hgate⟩ := h
  have hlt : r.addr < 0x3000C000 := by omega
  have hregion := regionOf_ram hlow hlt
  have hport : portOf r.addr r.addr = 2 := by rw [portOf, targetOf_ram hlow hlt, if_neg (by decide)]
  have hresolve : s.resolve r = some (r.addr, 0, some 2) := by rw [State.resolve, hregion]
  have hrefusal : refusalKind .ram r = none := by
    simp [refusalKind, hkind, ReqKind.isFetch, ReqKind.atomic]
  have hpolicy : s.policyAns .saddle who r.addr r = none := policyAns_on (by omega) rfl (domOn_saddle s) who r
  rw [access_new hheld, issue_passes hresolve hsys hgate, hregion,
    atTarget_performs hheld rfl hrefusal hdeep hpolicy rfl, hport]
  simp [State.perform, State.beats, beatsOf_aligned hsize haligned, State.beatAt, hregion, hkind, ReqKind.writes]

/-! ## Posted stores (R230, R253) -/

/-- The only store in the buffer, once it is answered, leaves it empty. -/
theorem issueEntry_answered {s t : State} {e : Posted} {x : Resp} (hbuf : s.core.buf = [e]) (hsize : e.req.size = 4)
    (haccess : s.access e.req .coreStore = ⟨t, x⟩) (hx : x.waits = false) (ht : t.core = s.core) :
    s.issueEntry 0 = t.setBuf [] := by
  have hsplit : e.req.splits = false := by rw [Req.splits, hsize]; rfl
  have hmay : s.entryMay 0 = true := by simp [State.entryMay, hbuf]
  have hleft : t.core.buf.eraseIdx 0 = [] := by rw [ht, hbuf]; rfl
  simp [State.issueEntry, hbuf, hmay, State.storeOut, hsplit, haccess, hx, hleft]

/-- A write where nothing is mapped gets an ABORT with KIND 1 (R227, R253). -/
theorem access_unmapped {s : State} {r : Req} (hheld : s.bus.held = []) (hkind : r.kind = .write)
    (hregion : regionOf r.addr = .unmapped) (who : Waiter) : s.access r who = s.abortAns 1 r := by
  have hresolve : s.resolve r = some (r.addr, 0, none) := by rw [State.resolve, hregion]
  have hrefusal : refusalKind .unmapped r = some 1 := by simp [refusalKind, hkind, ReqKind.atomic, ReqKind.isWrite]
  have hspare : s.toSpare .unmapped r.addr = false := rfl
  rw [access_new hheld, State.issue, hresolve]
  simp only [hregion, State.atTarget, hspare, Bool.false_and, Bool.false_eq_true, if_false, hrefusal]

/-- The record of a refused write of 4 bytes (R253). -/
theorem errRecord_write {s : State} {r : Req} (hroom : s.bus.errs.length < 8) (hkind : r.kind = .write) (hsize : r.size = 4)
    (k : Nat) : s.errRecord k r = { s with bus := { s.bus with errs := s.bus.errs ++ [(BitVec.ofNat 32 r.addr, BitVec.ofNat 32
      (k * 2 ^ 28 + r.mid % 16 * 2 ^ 24 + r.aid % 2048 * 2 ^ 12 + 2 * 2 ^ 10 + 2 ^ 9 + targetOf r.addr))] } } := by
  rw [State.errRecord, if_neg (by omega)]
  simp [hkind, hsize, sizeCode, ReqKind.writes, b2n, word]

theorem errRecord_full {s : State} (hfull : 8 ≤ s.bus.errs.length) (k : Nat) (r : Req) :
    s.errRecord k r = s.setBit Reg.ICT_ERRSTAT 8 := if_pos hfull

/-! ## NVM words (R247) -/

/-- One byte of a write, if it has it: one turn of `State.nvmCommit`. -/
def NvmWrite.putByte (w : NvmWrite) (m : Mem) (p : Option Byte × Nat) : Mem :=
  match p.1 with
  | some b => m.set (w.addr + p.2) b
  | none => m

theorem nvmCommit_nvm (s : State) (w : NvmWrite) : (s.nvmCommit w).nvm = w.bytes.zipIdx.foldl w.putByte s.nvm := rfl

theorem NvmWrite.putByte_get? (w : NvmWrite) (m : Mem) (x : Option Byte) (k a : Nat) :
    (w.putByte m (x, k)).get? a = if a = w.addr + k then x.or (m.get? a) else m.get? a := by
  cases x with
  | none => simp [NvmWrite.putByte]
  | some b =>
    by_cases h : a = w.addr + k
    · rw [if_pos h, h]
      exact Mem.get?_set_self ..
    · rw [if_neg h]
      exact Mem.get?_set_ne m b h

/-- The bytes `bs` from place `k` on: each that is there is written, every other byte keeps. -/
theorem NvmWrite.putBytes_get? (w : NvmWrite) (bs : List (Option Byte)) (m : Mem) (k a : Nat) :
    ((bs.zipIdx k).foldl w.putByte m).get? a =
      if w.addr + k ≤ a then (bs.getD (a - w.addr - k) none).or (m.get? a) else m.get? a := by
  induction bs generalizing m k with
  | nil => simp
  | cons x bs ih =>
    rw [List.zipIdx_cons, List.foldl_cons, ih, NvmWrite.putByte_get?]
    rcases Nat.lt_trichotomy a (w.addr + k) with hlt | heq | hgt
    · rw [if_neg (by omega), if_neg (by omega), if_neg (by omega)]
    · have hzero : a - w.addr - k = 0 := by omega
      rw [if_neg (by omega), if_pos heq, if_pos (by omega), hzero, List.getD_cons_zero]
    · have hsucc : a - w.addr - k = a - w.addr - (k + 1) + 1 := by omega
      rw [if_pos (by omega), if_neg (by omega), if_pos (by omega), hsucc, List.getD_cons_succ]

/-- A word that is committed fills the bytes it has and keeps the others. -/
theorem nvmCommit_get? (s : State) (w : NvmWrite) (a : Nat) :
    (s.nvmCommit w).nvm.get? a = if w.addr ≤ a then (w.bytes.getD (a - w.addr) none).or (s.nvm.get? a) else s.nvm.get? a :=
  w.putBytes_get? w.bytes s.nvm 0 a

theorem nvmWordDone_cons {s : State} {w : NvmWrite} {rest : List NvmWrite} (h : s.bus.nvmQ = w :: rest) :
    s.nvmWordDone = { s.nvmCommit w with bus := { s.bus with nvmQ := rest } } := by
  rw [State.nvmWordDone, h]

/-! ## The family's commands -/

theorem writeReg_errPop (s : State) (v : Word) (wr : Writer) : s.writeReg Reg.ICT_ERRPOP v wr = s.errPop v := rfl

theorem regUp_errPop (s : State) : s.regUp Reg.ICT_ERRPOP = s.domOn .sys := regUp_block (gate := 3) rfl (by decide) s

theorem errPop_steady (s : State) (v : Word) : Steady s (s.errPop v) := by
  unfold State.errPop
  split
  · exact { Steady.refl s with }
  · exact .refl s

theorem nvmWordDone_steady {s : State} {w : NvmWrite} {rest : List NvmWrite} (h : s.bus.nvmQ = w :: rest) :
    Steady s s.nvmWordDone := by
  rw [nvmWordDone_cons h]
  exact { Steady.refl s with }

/-- Settles O29: a posted store is one access, which Saddle RAM answers at once and an address without a target with a record; the
other clauses are read off the rows. -/
theorem interconnect : Obligations.Interconnect := by
  unfold Obligations.Interconnect
  intro s e v wr w rest hs hsys
  obtain ⟨-, -, hheld, -, -, -⟩ := hs.1
  refine ⟨fun hbuf hkind hsize halign hlow hhigh hgate => ?_, fun hbuf hkind hsize hregion => ?_, ?_, fun hq hlen => ?_, ?_⟩
  · have hram : e.req.ToRam s := ⟨hkind, .inl hsize, hlow, by omega, by rwa [hsize], hgate⟩
    have haccess := access_ram hram hheld hsys (deep_awake hs) .coreStore
    rw [hsize, saddleWrite_word (by omega)] at haccess
    exact leaves_of_effect rfl hs.1 (issueEntry_answered hbuf hsize haccess rfl rfl) { Steady.refl s with }
  · have haccess := access_unmapped hheld hkind hregion .coreStore
    refine ⟨fun hroom => ?_, fun hfull => ?_⟩
    · rw [State.abortAns, errRecord_write hroom hkind hsize] at haccess
      exact leaves_of_effect rfl hs.1 (issueEntry_answered hbuf hsize haccess rfl rfl) { Steady.refl s with }
    · rw [State.abortAns, errRecord_full hfull] at haccess
      exact leaves_of_effect rfl hs.1 (issueEntry_answered hbuf hsize haccess rfl rfl)
        (Steady.wr (t := s.setBuf []) { Steady.refl s with } (a := Reg.ICT_ERRSTAT) (by decide) _)
  · exact leaves_of_write rfl hs.1 ((regUp_errPop s).trans hsys) (writeReg_errPop s v wr) (errPop_steady s v)
  · refine ⟨_, exec_calm (f := State.nvmWordDone) rfl hs.1 (nvmWordDone_steady hq), ?_⟩
    rw [settle_bus, settle_nvm, settle_core, settle_store, nvmWordDone_cons hq]
    refine ⟨rfl, fun i hi => ?_, fun a ha => ?_, rfl, rfl⟩
    · rw [nvmCommit_get?, if_pos (by omega), Nat.add_sub_cancel_left]
    · rw [nvmCommit_get?]
      split
      · rw [List.getD_eq_default _ _ (by omega), Option.none_or]
      · rfl
  · exact leaves_of_effect (f := State.guardExpires) rfl hs.1 rfl { Steady.refl s with }

end Sys2Proof.Machine

namespace Sys2Proof.Machine

/-! ## A fault of bank VIO2 in the clock of a core supply fault (R418, R419) -/

/-- What `monitorFault` does for bank VIO2 in the witness: the report beside the fault of the core supply, CODE 0x001, which comes
before it. -/
theorem lastfw_vio2_powerFaultFirst : (powerFaultFirst.monitorFault (.vio 2)).rd Reg.SAF_LASTFW = 0x10010000 := by decide

/-- The command ends with the levels that follow the report. -/
theorem exec_vio2Fault_powerFaultFirst :
    exec (.supplyMonitorFault (.vio 2)) powerFaultFirst = .next (powerFaultFirst.monitorFault (.vio 2)).settle :=
  congrArg Host.Outcome.next (cmd_calm powerFaultFirst_awake.1 (by decide))

/-- Refutes O30: the clause on the fault of bank VIO2 does not ask that no fault of lower DOMAIN and CODE has been reported in the
same clock. Where one has, here the core supply's, SAF_LASTFW keeps it and does not show HRV 0x002 (R419, log 20). The model
forgets such a fault as its command ends (`State.clockEnds`), but the statement's premises allow a state that holds one. -/
theorem not_gpioAndSupplies : ¬ Obligations.GpioAndSupplies := by
  unfold Obligations.GpioAndSupplies
  intro h
  obtain ⟨-, -, -, -, -, hfaults, -⟩ := h powerFaultFirst 0 .high 0 0 false false powerFaultFirst_awake (by decide)
  obtain ⟨-, t, ht, -, -, hlast, -⟩ := hfaults (by decide)
  obtain rfl : (powerFaultFirst.monitorFault (.vio 2)).settle = t :=
    Host.Outcome.next.inj (exec_vio2Fault_powerFaultFirst.symm.trans ht)
  rw [settle_rd _ _ (by decide), lastfw_vio2_powerFaultFirst] at hlast
  exact absurd hlast (by decide)

end Sys2Proof.Machine

namespace Sys2Proof.Machine

/-! ## The read of POOL_ALLOCc (R334) -/

theorem readReg_poolAlloc (s : State) {c : Nat} (hc : c < 4) (wr : Writer) :
    s.readReg (Reg.POOL_ALLOC c) wr = ((s.poolAlloc c wr.mid wr.aid).s, (s.poolAlloc c wr.mid wr.aid).handle) := by
  interval_cases c <;> rfl

theorem regionOf_poolAlloc {c : Nat} (hc : c < 4) : regionOf (Reg.POOL_ALLOC c) = .block .store 4 := by
  interval_cases c <;> rfl

theorem portOf_poolAlloc {c : Nat} (hc : c < 4) : portOf (Reg.POOL_ALLOC c) (Reg.POOL_ALLOC c) = 8 := by
  interval_cases c <;> rfl

/-- With its gate's leave and the Store ON, the read of POOL_ALLOCc by an engine is an allocation at once. -/
theorem access_poolAlloc {s : State} {r : Req} {c : Nat} (hc : c < 4) (haddr : r.addr = Reg.POOL_ALLOC c) (hkind : r.kind = .read)
    (hsize : r.size = 4) (hheld : s.bus.held = []) (hsys : s.domOn .sys = true) (hdeep : s.deep = false)
    (hstore : s.domOn .store = true) (hgate : (s.gateCheck 4 (Reg.POOL_ALLOC c) 0 r).ok = true) (who : Waiter) :
    let x := (s.granted 8 r.cls r.mid).poolAlloc c r.mid r.aid
    s.access r who = ⟨x.s, .ok x.handle.toNat⟩ := by
  have hregion := regionOf_poolAlloc hc
  have haligned : Reg.POOL_ALLOC c % 4 = 0 := by simp only [Reg.POOL_ALLOC]; omega
  have hpage : Reg.POOL_ALLOC c / 0x1000 ≠ 0x30004 := by simp only [Reg.POOL_ALLOC]; omega
  have hpost : Reg.POOL_ALLOC c ≠ Reg.LNK_TXPOST := by simp only [Reg.POOL_ALLOC, Reg.LNK_TXPOST]; omega
  have hresolve : s.resolve r = some (Reg.POOL_ALLOC c, 0, some 4) := by simp only [State.resolve, haddr, hregion]
  have hrefusal : refusalKind (.block .store 4) r = none := by
    simp [refusalKind, hkind, ReqKind.isFetch, ReqKind.atomic, Req.word32, hsize, haddr, haligned]
  have hpolicy : s.policyAns .store who (Reg.POOL_ALLOC c) r = none := policyAns_on hpage rfl hstore who r
  have hwaits : s.targetWaits (.block .store 4) (Reg.POOL_ALLOC c) r = false := by
    simp [State.targetWaits, hpost]
  rw [access_new hheld, issue_passes hresolve hsys hgate, haddr, hregion,
    atTarget_performs hheld rfl hrefusal hdeep hpolicy hwaits, haddr, portOf_poolAlloc hc, State.perform, hkind]
  simp only [ReqKind.writes, readReg_poolAlloc _ hc]
  rfl

/-- A channel whose request finds nothing waiting takes up the pool's answer at once (R258). -/
theorem dmaAllocate_answered {s : State} {n : Nat} (hheld : s.bus.held = []) (hsys : s.domOn .sys = true) (hdeep : s.deep = false)
    (hstore : s.domOn .store = true) :
    let c := fld (s.dmaWord n 0) 16 2
    let x := (s.granted 8 (s.qosClass 2 (s.dmaAid n)) 2).poolAlloc c 2 (s.dmaAid n)
    (s.gateCheck 4 (Reg.POOL_ALLOC c) 0 (s.dmaReq n .read (Reg.POOL_ALLOC c) 4 0)).ok = true →
      s.dmaAllocate n = x.s.dmaAllocated n x.handle := by
  intro c x hgate
  have hc : c < 4 := Nat.mod_lt _ (by decide)
  have haccess := access_poolAlloc hc rfl rfl rfl hheld hsys hdeep hstore hgate (.dma n)
  have hword : word x.handle.toNat = x.handle := (BitVec.ofNat_toNat 32 _).trans (BitVec.setWidth_eq _)
  rw [State.dmaAllocate, haccess]
  exact congrArg (x.s.dmaAllocated n) hword

/-! ## A channel that waits for the pool with a COPY (R258, R259) -/

/-- A running part with the four buffers of the pool's class 1 free, and DMA channel 0 in WAITPOOL as the Warden's, which has seen
another free count. Its descriptor asks for write-backs and is a COPY. -/
def waitpoolCopy : State :=
  let regs := [(Reg.DMA_CHSTAT 0, 0x30000000), (Reg.DMA_CHCTL 0, 0x04000000), (Reg.POOL_CTL, 1), (Reg.POOL_STAT 1, 4)]
  let copying := { DmaCh.reset with desc := [0x14010000, 0, 0, 0, 0, 0, 0, 0] }
  { regs.foldl (fun s p => s.wr p.1 p.2) State.reset with
    dma := { Dma.reset with ch := copying :: List.replicate 7 DmaCh.reset }
    pool := { Pool.reset with undef := none, cnt := [0, 4, 0, 0] } }

theorem waitpoolCopy_awake : waitpoolCopy.awake := by decide

/-- The part after the allocation, which is granted. -/
def waitpoolCopyServed : State := ((waitpoolCopy.granted 8 2 2).poolAlloc 1 2 0x400).s

/-- The channel asks again and is given the handle 0x01004000. -/
theorem waitpoolCopy_retry : waitpoolCopy.dmaRetry 0 = waitpoolCopyServed.dmaAllocated 0 0x01004000 := by
  have hretry : waitpoolCopy.dmaRetry 0 = waitpoolCopy.dmaAllocate 0 := if_pos (by decide)
  have hhandle : ((waitpoolCopy.granted 8 2 2).poolAlloc 1 2 0x400).handle = 0x01004000 := by decide
  rw [hretry, ← hhandle]
  exact dmaAllocate_answered rfl (by decide) (by decide) (by decide) (by decide)

/-- Its operation has ended. A COPY has no result to write, so that the write of the status comes next. -/
theorem waitpoolCopy_retry_wb : ((waitpoolCopyServed.dmaAllocated 0 0x01004000).dmaCh 0).wb = 2 := by decide

theorem waitpoolCopy_retry_calm : (waitpoolCopyServed.dmaAllocated 0 0x01004000).calm := by decide

theorem exec_retry_waitpoolCopy :
    exec (.dmaWaitpoolRetry 0) waitpoolCopy = .next (waitpoolCopyServed.dmaAllocated 0 0x01004000).settle := by
  rw [← waitpoolCopy_retry]
  exact congrArg Host.Outcome.next (cmd_calm (f := fun s => s.dmaRetry 0) waitpoolCopy_awake.1
    (by rw [waitpoolCopy_retry]; exact waitpoolCopy_retry_calm))

/-- Refutes O32: the clause on the retry of a channel in WAITPOOL does not ask that its descriptor is an ALLOC. It says that the
write of the RESULT comes next (`wb` 1) where the descriptor asks for write-backs. The model goes by the descriptor's OP, and for a
COPY, which has no result, the write of the status comes next (`wb` 2, R259). No step leads a COPY to WAITPOOL, but the statement's
premises allow the state. -/
theorem not_dmaChannels : ¬ Obligations.DmaChannels := by
  unfold Obligations.DmaChannels
  intro h
  obtain ⟨-, -, -, -, -, -, hpool, -⟩ := h waitpoolCopy 0 0 ⟨0, 0⟩ 0 (fun _ => 0) (fun _ => []) 0x01004000 waitpoolCopy_awake
    (by decide) (by decide)
  obtain ⟨-, -, hretry⟩ := hpool (by decide) (by decide) (by decide)
  obtain ⟨hgranted, -⟩ := hretry (by decide) (by decide)
  have hsettled := Host.Outcome.next.inj (exec_retry_waitpoolCopy.symm.trans (hgranted (by decide) (by decide) (by decide)))
  have hdma := congrArg State.dma hsettled
  rw [settle_dma, settle_dma] at hdma
  have hwb : ((waitpoolCopyServed.dmaAllocated 0 0x01004000).dmaCh 0).wb = 1 := by
    rw [State.dmaCh, hdma]
    decide
  exact absurd (hwb.symm.trans waitpoolCopy_retry_wb) (by decide)

end Sys2Proof.Machine

namespace Sys2Proof.Machine

/-! ## A fault that comes after another of its clock (R419, log 20) -/

/-- `t` follows `s` in the same clock, with no fault named since as the last: SAF_LASTFW and the first fault of the clock are as
they were. -/
structure LastKept (s t : State) : Prop where
  now : t.saf.now = s.saf.now
  lastfw : t.rd Reg.SAF_LASTFW = s.rd Reg.SAF_LASTFW

namespace LastKept

variable {s t u : State}

theorem refl (s : State) : LastKept s s := ⟨rfl, rfl⟩

theorem ite (h : LastKept s t) (k : LastKept s u) {c : Prop} [Decidable c] : LastKept s (if c then t else u) := by
  split
  · exact h
  · exact k

theorem wr (h : LastKept s t) {a : Nat} (ha : Reg.SAF_LASTFW ≠ a) (v : Word) : LastKept s (t.wr a v) :=
  ⟨h.now, (State.rd_wr_ne t v ha).trans h.lastfw⟩

theorem saf (h : LastKept s t) (x : Saf) (hx : x.now = t.saf.now) : LastKept s { t with saf := x } :=
  ⟨hx.trans h.now, h.lastfw⟩

theorem core (h : LastKept s t) (x : Core) : LastKept s { t with core := x } := { h with }
theorem lcs (h : LastKept s t) (x : Lcs) : LastKept s { t with lcs := x } := { h with }
theorem lnk (h : LastKept s t) (x : Lnk) : LastKept s { t with lnk := x } := { h with }

theorem clearReq (h : LastKept s t) (m : Word) : LastKept s (t.clearReq m) := ((h.wr (by decide) _).wr (by decide) _).saf _ rfl

theorem safNote (h : LastKept s t) (fw : Word) : LastKept s (t.safNote fw) := (h.wr (by decide) _).wr (by decide) _

theorem safGroup (h : LastKept s t) {g : Nat} (hg : g < 16) (fw : Word) : LastKept s (t.safGroup g fw) := by
  have hgfw : Reg.SAF_LASTFW ≠ Reg.SAF_GFW g := by simp only [Reg.SAF_LASTFW, Reg.SAF_GFW]; omega
  exact (((h.ite (h.wr hgfw _)).wr (by decide) _).wr (by decide) _).clearReq _

theorem queueHeartbeat (h : LastKept s t) (extra : Bool) : LastKept s (t.queueHeartbeat extra) := (h.lnk _).ite h

theorem trigger (h : LastKept s t) (c : ResetCause) : LastKept s (t.trigger c) := h.ite (h.lcs _)

section

variable {w fw : Word} (hnow : s.saf.now = some w) (hlater : fld w 16 16 < fld fw 16 16)

include hnow hlater

/-- The capture may take such a fault, but does not name it as the last. -/
theorem safCapture (h : LastKept s t) (aid : Nat) : LastKept s (t.safCapture fw aid) := by
  have hnow' : t.saf.now = some w := h.now.trans hnow
  have hnamed : (t.safBefore fw || decide ((t.saf.now.map fun w => fld w 16 16) = some (fld fw 16 16))) = false := by
    simp [State.safBefore, hnow', hlater.le, hlater.ne]
  unfold State.safCapture
  simp only [hnamed]
  have hcaptured : LastKept s ((((t.wr Reg.SAF_FW fw).wr Reg.SAF_FCYC (t.rd Reg.TMB_CYCCNT)).wr Reg.SAF_FRTC
      (t.rd Reg.RTC_SEC)).wr Reg.SAF_FINFO (word (0x80000000 + aid % 2048))) :=
    (((h.wr (by decide) _).wr (by decide) _).wr (by decide) _).wr (by decide) _
  exact h.ite (hcaptured.saf { t.saf with nowCaptured := true } rfl)

theorem safSafe (h : LastKept s t) (aid : Nat) (nmi : Bool) : LastKept s (t.safSafe fw aid nmi) := by
  unfold State.safSafe
  extract_lets entry latched acked captured _ raised _ _ timed
  have hlatched : LastKept s latched := (h.wr (by decide) _).wr (by decide) _
  have hacked : LastKept s acked := (hlatched.wr (by decide) _).ite hlatched
  have hcaptured : LastKept s captured := ((hacked.safCapture hnow hlater aid).wr (by decide) _).clearReq _
  have hraised : LastKept s raised := (hcaptured.core _).ite hcaptured
  have htimed : LastKept s timed :=
    hraised.ite ((hraised.wr (a := Reg.SAF_STAT) (by decide) _).saf { raised.saf with esc := 0 } rfl)
  have hcond : LastKept s timed.safCond := htimed.wr (by decide) _
  exact (hcond.queueHeartbeat true).ite hcond

/-- The report of a fault of higher DOMAIN and CODE than another of the same clock leaves SAF_LASTFW, whatever its action. -/
theorem safReport (h : LastKept s t) (aid : Nat) : LastKept s (t.safReport fw aid) := by
  unfold State.safReport State.safReportIn
  have hsafe (nmi : Bool) : LastKept s (t.safSafe fw aid nmi) := h.safSafe hnow hlater aid nmi
  split
  · exact h
  · split
    · exact LastKept.ite ((hsafe false).trigger _) (((hsafe false).trigger _).lcs _)
    · split
      · exact hsafe true
      · split
        · next g hg => exact h.safGroup (faultGroup_lt hg) fw
        · exact h.safNote fw
      · exact h.safNote fw

end

end LastKept

/-! ## The end of a computation (R290) -/

/-- The computation has ended with its result in GTC_CRCLAST. -/
def State.crcEnded (s : State) : State :=
  { s with gtc := { s.gtc with crcRuns := false } }.wr Reg.GTC_CRCLAST (word (crc32 s.ruleBytes))

/-- The end of a computation does nothing, gives its result alone, takes it as the reference, or reports GATE 0x001. -/
theorem gateCrcDone_cases (s : State) : s.gateCrcDone = s ∨ s.gateCrcDone = s.crcEnded ∨
    s.gateCrcDone = (s.crcEnded.wr Reg.GTC_CRCREF (word (crc32 s.ruleBytes))).wr Reg.GTC_CRCCTL 1 ∨
    s.gateCrcDone = (s.crcEnded.setBit Reg.GTC_CRCSTAT 1).safReport (faultWord 6 1 (crc32 s.ruleBytes)) 0x7FF := by
  unfold State.gateCrcDone
  split
  · extract_lets crc _ _ ended
    split
    · exact .inr (.inr (.inl rfl))
    · split
      · exact .inr (.inr (.inr rfl))
      · exact .inr (.inl rfl)
  · exact .inl rfl

theorem gateCrcDone_apart (s : State) : Apart s s.gateCrcDone := by
  have hidle : Reported s { s with gtc := { s.gtc with crcRuns := false } } := ⟨{ Apart.refl s with }, id⟩
  have hended : Reported s s.crcEnded := hidle.wr (by decide) _
  rcases gateCrcDone_cases s with h | h | h | h <;> rw [h]
  · exact .refl s
  · exact hended.toApart
  · exact ((hended.wr (by decide) _).wr (by decide) _).toApart
  · exact ((hended.wr (by decide) _).safReport _ _).toApart

theorem fld_gateFault (detail : Nat) : fld (faultWord 6 1 detail) 16 16 = 0x6001 := by
  rw [fld_eq_div_mod, faultWord_toNat]
  omega

/-- Where a fault that comes before GATE 0x001 has been reported, the end of a computation leaves SAF_LASTFW. -/
theorem gateCrcDone_lastKept {s : State} {w : Word} (hnow : s.saf.now = some w) (hlater : fld w 16 16 < 0x6001) :
    LastKept s s.gateCrcDone := by
  have hidle : LastKept s { s with gtc := { s.gtc with crcRuns := false } } := { LastKept.refl s with }
  have hended : LastKept s s.crcEnded := hidle.wr (by decide) _
  rcases gateCrcDone_cases s with h | h | h | h <;> rw [h]
  · exact .refl s
  · exact hended
  · exact (hended.wr (by decide) _).wr (by decide) _
  · exact (hended.wr (by decide) _).safReport hnow (by rwa [fld_gateFault]) _

/-- A write behind the rule registers leaves what the check is computed over. -/
theorem ruleBytes_wr (s : State) {a : Nat} (ha : Reg.GTC_CTL ≤ a) (v : Word) : (s.wr a v).ruleBytes = s.ruleBytes := by
  unfold State.ruleBytes
  refine List.flatMap_congr fun i hi => ?_
  have hi : i < 512 := List.mem_range.1 hi
  have hne : Reg.GATE_RULE_BASE 0 + 4 * i ≠ a := by simp only [Reg.GATE_RULE_BASE, Reg.GTC_CTL] at ha ⊢; omega
  rw [State.rd_wr_ne _ _ hne]

/-! ## A check that fails in the clock of another fault (R290, R419) -/

/-- A running part in the clock of a fault of the core supply, DOMAIN 1, with the check in force and a computation at its end. -/
def checkEnding : State := { powerFaultFirst.wr Reg.GTC_CRCCTL 1 with gtc := { Gtc.reset with crcRuns := true } }

/-- The same part with a reference that is not the CRC of its rules. -/
def gateFaultSecond : State := checkEnding.wr Reg.GTC_CRCREF (word (crc32 checkEnding.ruleBytes) + 1)

theorem gateFaultSecond_awake : gateFaultSecond.awake := ((Steady.refl checkEnding).wr (by decide) _).awake (by decide)

theorem gateFaultSecond_rd {a : Nat} (ha : a ≠ Reg.GTC_CRCREF) : gateFaultSecond.rd a = checkEnding.rd a :=
  State.rd_wr_ne _ _ ha

theorem gateFaultSecond_bit {a : Nat} (ha : a ≠ Reg.GTC_CRCREF) (i : Nat) : gateFaultSecond.bit a i = checkEnding.bit a i :=
  congrArg (wbit · i) (gateFaultSecond_rd ha)

theorem gateFaultSecond_differs : gateFaultSecond.rd Reg.GTC_CRCREF ≠ word (crc32 gateFaultSecond.ruleBytes) := by
  rw [gateFaultSecond, ruleBytes_wr _ (by decide), State.rd_wr_self]
  exact fun h => absurd (add_eq_left.1 h) (by decide)

theorem exec_gateCrcDone_gateFaultSecond :
    exec .gateCrcDone gateFaultSecond = .next gateFaultSecond.gateCrcDone.settle :=
  exec_rested rfl gateFaultSecond_awake.1 rfl (gateCrcDone_apart _).toRested

/-- GATE 0x001 does not reach SAF_LASTFW, since DOMAIN 1 comes before DOMAIN 6. -/
theorem lastfw_gateFaultSecond : gateFaultSecond.gateCrcDone.rd Reg.SAF_LASTFW = 0x10010000 := by
  have hnow : gateFaultSecond.saf.now = some (faultWord 1 1 0) := (by decide : checkEnding.saf.now = some (faultWord 1 1 0))
  rw [(gateCrcDone_lastKept hnow (by decide)).lastfw, gateFaultSecond_rd (by decide)]
  decide

/-- Refutes O31: the clause on a check that finds another result than its reference does not ask that no fault of lower DOMAIN has
been reported in the same clock. Where one has, here the core supply's, SAF_LASTFW keeps it and does not show GATE 0x001 (R419,
log 20). The model forgets such a fault as its command ends (`State.clockEnds`), but the statement's premises allow a state that
holds one. -/
theorem not_gates : ¬ Obligations.Gates := by
  unfold Obligations.Gates
  intro h
  obtain ⟨-, -, -, -, -, hcheck⟩ := h gateFaultSecond 0 0 0 ⟨0, 0⟩ gateFaultSecond_awake
    ((domOn_wr_ne checkEnding _ .sys (by decide)).trans (by decide))
  obtain ⟨-, -, hfails⟩ := hcheck rfl
  obtain ⟨t, ht, -, -, -, hlast⟩ := hfails ((gateFaultSecond_bit (by decide) 1).trans (by decide))
    ((gateFaultSecond_bit (by decide) 0).trans (by decide)) gateFaultSecond_differs
    ((gateFaultSecond_bit (by decide) 1).trans (by decide)) ((domOn_wr_ne checkEnding _ .meas (by decide)).trans (by decide))
  obtain rfl : gateFaultSecond.gateCrcDone.settle = t :=
    Host.Outcome.next.inj (exec_gateCrcDone_gateFaultSecond.symm.trans ht)
  rw [settle_rd _ _ (by decide), lastfw_gateFaultSecond] at hlast
  have hnum : 0x10010000 = _ := (congrArg BitVec.toNat hlast).trans (BitVec.toNat_ofNat ..)
  omega

end Sys2Proof.Machine

/-!
The Store and Stitch family: the runs of the Stitch engine with their repairs, exchanges and scrubbing, and the live bank swap. What
the engine leaves alone, what its registers and the map read as, and what a march finds in an array that no gate denies to it come
first.
-/
namespace Sys2Proof.Machine

/-! ## Fields and bits of a register that was set -/

theorem State.f_setF_self (s : State) (a : Nat) {lo n : Nat} (v : Nat) (h : lo + n ≤ 32) :
    (s.setF a lo n v).f a lo n = v % 2 ^ n := by
  rw [State.f, State.rd_setF, if_pos rfl, fld_setFld_self _ _ _ _ h]

theorem State.f_setF_ne (s : State) (a : Nat) {lo n lo' n' : Nat} (v : Nat) (h : lo' + n' ≤ lo ∨ lo + n ≤ lo') :
    (s.setF a lo n v).f a lo' n' = s.f a lo' n' := by
  rw [State.f, State.rd_setF, if_pos rfl, fld_setFld_ne _ _ _ _ _ _ h, State.f]

/-- A field of another register. -/
theorem State.f_setF_other (s : State) {a b : Nat} {lo n lo' n' : Nat} (v : Nat) (h : b ≠ a) :
    (s.setF a lo n v).f b lo' n' = s.f b lo' n' := by
  rw [State.f, State.rd_setF, if_neg h, State.f]

theorem State.bit_setF_ne (s : State) (a : Nat) {lo n i : Nat} (v : Nat) (h : i < lo ∨ lo + n ≤ i) :
    (s.setF a lo n v).bit a i = s.bit a i := by
  rw [State.bit, State.rd_setF, if_pos rfl, wbit_setFld_ne _ _ _ _ _ h, State.bit]

theorem State.bit_putBit_self (s : State) (a : Nat) {i : Nat} (b : Bool) (h : i < 32) : (s.putBit a i b).bit a i = b := by
  rw [State.bit, State.rd_putBit, if_pos rfl, wbit_wputBit_self _ _ _ h]

theorem State.bit_putBit_ne (s : State) (a : Nat) {i j : Nat} (b : Bool) (h : j ≠ i) :
    (s.putBit a i b).bit a j = s.bit a j := by
  rw [State.bit, State.rd_putBit, if_pos rfl, wbit_wputBit_ne _ _ _ _ h, State.bit]

theorem State.f_putBit_ne (s : State) (a : Nat) {i lo n : Nat} (b : Bool) (h : lo + n ≤ i ∨ i + 1 ≤ lo) :
    (s.putBit a i b).f a lo n = s.f a lo n := by
  rw [State.f, State.rd_putBit, if_pos rfl, fld_wputBit_ne _ _ _ _ _ h, State.f]

/-! ## What the engine leaves alone -/

/-- Registers of the Stitch engine and of the Store's error control (page 0x20007), and those of the bank map among them. -/
abbrev stcReg (a : Nat) : Prop := 0x20007000 ≤ a ∧ a < 0x20008000

/-- STC_MAP0 to STC_MAP3 and STC_MAPU (R294). -/
abbrev mapReg (a : Nat) : Prop := 0x200070C0 ≤ a ∧ a ≤ 0x200070D0

/-- `t` differs from `s` in what is the Stitch engine's alone: its registers, what it holds, the Store, the NVM with the words
queued for it, and the core's reservation. -/
structure Stitched (s t : State) : Prop where
  hrv : t.hrv = s.hrv
  pwr : t.pwr = s.pwr
  hdp : t.hdp = s.hdp
  ten : t.ten = s.ten
  held : t.bus.held = s.bus.held
  stalled : t.core.stalled = s.core.stalled
  rd : ∀ a, ¬stcReg a → t.rd a = s.rd a

namespace Stitched

variable {s t : State}

theorem refl (s : State) : Stitched s s := ⟨rfl, rfl, rfl, rfl, rfl, rfl, fun _ _ => rfl⟩

theorem trans {u : State} (h : Stitched s t) (k : Stitched t u) : Stitched s u :=
  ⟨k.hrv.trans h.hrv, k.pwr.trans h.pwr, k.hdp.trans h.hdp, k.ten.trans h.ten, k.held.trans h.held, k.stalled.trans h.stalled,
    fun a ha => (k.rd a ha).trans (h.rd a ha)⟩

theorem wr (h : Stitched s t) {a : Nat} (ha : stcReg a) (v : Word) : Stitched s (t.wr a v) :=
  { h with rd := fun b hb => (State.rd_wr_ne t v fun e : b = a => hb (e ▸ ha)).trans (h.rd b hb) }

theorem stc (h : Stitched s t) (x : Stc) : Stitched s { t with stc := x } := { h with }

theorem store (h : Stitched s t) (x : List Mem) : Stitched s { t with store := x } := { h with }

theorem calm (h : Stitched s t) (hs : s.calm) : t.calm :=
  calm_of hs h.hrv h.stalled h.held (by rw [h.hdp]) (by rw [h.pwr]) (h.rd _ (by decide))

theorem clearResv (h : Stitched s t) (n : Nat) : Stitched s (t.clearResv n) := by
  unfold State.clearResv
  split
  · split
    · exact { h with }
    · exact h
  · exact h

theorem flip (h : Stitched s t) {n : Nat} (hn : n < 16) : Stitched s (t.flip n) := by
  have hmap : stcReg (Reg.STC_MAP (n / 4)) := by simp only [stcReg, Reg.STC_MAP]; omega
  exact (((h.wr hmap _).wr (by decide) _).wr (by decide) _).clearResv n

/-- A gate decides by its entries and by the tenant records, which the engine leaves alone. -/
theorem denier (h : Stitched s t) {n : Nat} (hn : n < 8) (a mid aid p : Nat) : t.denier n a mid aid p = s.denier n a mid aid p := by
  have hrule {m k : Nat} (hm : m ∈ List.range 16) (hk : k < 16) :
      t.rd (0x20004000 + k + 16 * (16 * n + m)) = s.rd (0x20004000 + k + 16 * (16 * n + m)) :=
    h.rd _ (by have := List.mem_range.1 hm; simp only [stcReg]; omega)
  have hctl {m : Nat} (hm : m ∈ List.range 16) : t.rd (Reg.GATE_RULE_CTL (16 * n + m)) = s.rd (Reg.GATE_RULE_CTL (16 * n + m)) :=
    hrule (k := 8) hm (by decide)
  have hclass : t.clsBit aid = s.clsBit aid := by simp only [State.clsBit, State.trec, h.ten]
  have hmatch : ∀ m ∈ List.range 16, t.ruleMatches n m a mid aid p = s.ruleMatches n m a mid aid p := by
    intro m hm
    have hbase : t.rd (Reg.GATE_RULE_BASE (16 * n + m)) = s.rd (Reg.GATE_RULE_BASE (16 * n + m)) := hrule (k := 0) hm (by decide)
    have hlimit : t.rd (Reg.GATE_RULE_LIMIT (16 * n + m)) = s.rd (Reg.GATE_RULE_LIMIT (16 * n + m)) :=
      hrule (k := 4) hm (by decide)
    have hcls : t.rd (Reg.GATE_RULE_CLS (16 * n + m)) = s.rd (Reg.GATE_RULE_CLS (16 * n + m)) := hrule (k := 12) hm (by decide)
    simp only [State.ruleMatches, hctl hm, hbase, hlimit, hcls, hclass]
  rw [State.denier, State.denier, List.find?_congr hmatch]
  cases hfound : (List.range 16).find? fun m => s.ruleMatches n m a mid aid p with
  | none => rfl
  | some m =>
    have hallow : t.bit (Reg.GATE_RULE_CTL (16 * n + m)) 19 = s.bit (Reg.GATE_RULE_CTL (16 * n + m)) 19 :=
      congrArg (wbit · 19) (hctl (List.mem_of_find?_eq_some hfound))
    simp only [hallow]

/-- A request of the engine's that a gate lets pass is let pass whatever the engine has done, and leaves no record. -/
theorem engineGate_pass (h : Stitched s t) {n addr mid aid size : Nat} {write : Bool} (hn : n < 8)
    (hok : (s.engineGate n addr mid aid size write).ok = true) : t.engineGate n addr mid aid size write = ⟨t, true⟩ := by
  have hsame (p : Nat) : t.denier n addr mid aid p = s.denier n addr mid aid p := h.denier hn ..
  unfold State.engineGate State.gateCheck at hok ⊢
  simp only [State.engineReq, hsame] at hok ⊢
  split at hok
  · rfl
  · cases hok

end Stitched

/-- `t` differs from `s` as the engine's work may make it differ, with the map as it was. -/
structure Unmoved (s t : State) : Prop extends Stitched s t where
  map : ∀ a, mapReg a → t.rd a = s.rd a

namespace Unmoved

variable {s t : State}

theorem refl (s : State) : Unmoved s s := ⟨.refl s, fun _ _ => rfl⟩

theorem trans {u : State} (h : Unmoved s t) (k : Unmoved t u) : Unmoved s u :=
  ⟨h.toStitched.trans k.toStitched, fun a ha => (k.map a ha).trans (h.map a ha)⟩

theorem wr (h : Unmoved s t) {a : Nat} (ha : stcReg a ∧ ¬mapReg a) (v : Word) : Unmoved s (t.wr a v) :=
  ⟨h.toStitched.wr ha.1 v, fun b hb => (State.rd_wr_ne t v fun e : b = a => ha.2 (e ▸ hb)).trans (h.map b hb)⟩

theorem stc (h : Unmoved s t) (x : Stc) : Unmoved s { t with stc := x } := { h with }

theorem store (h : Unmoved s t) (x : List Mem) : Unmoved s { t with store := x } := { h with }

theorem arrayOf (h : Unmoved s t) (slot : Nat) : t.arrayOf slot = s.arrayOf slot := by
  unfold State.arrayOf
  split
  · exact congrArg (fld · _ _) (h.map _ (by simp only [mapReg, Reg.STC_MAP]; omega))
  · exact congrArg (fld · _ _) (h.map _ (by decide))

theorem arrDenied (h : Unmoved s t) (aid arr : Nat) : t.arrDenied aid arr = s.arrDenied aid arr := by
  have hslot : t.slotOf arr = s.slotOf arr := by simp only [State.slotOf, h.arrayOf]
  have hdenied (slot : Nat) (write : Bool) : t.deniedAt slot aid write = s.deniedAt slot aid write := by
    simp only [State.deniedAt, h.denier (n := 1) (by decide)]
  simp only [State.arrDenied, hslot, hdenied]

theorem stcPhase (h : Unmoved s t) (p : Nat) : Unmoved s (t.stcPhase p) := (h.wr (by decide) _).wr (by decide) _

theorem stcErr (h : Unmoved s t) (code : Nat) : Unmoved s (t.stcErr code) := (h.wr (by decide) _).wr (by decide) _

theorem stcIdle (h : Unmoved s t) : Unmoved s t.stcIdle := (h.stcPhase 0).wr (by decide) _

theorem stcHeld (h : Unmoved s t) : Unmoved s t.stcHeld := (h.stcPhase 8).wr (by decide) _

theorem startCopy (h : Unmoved s t) (p arr : Nat) : Unmoved s (t.startCopy p arr) :=
  (((h.stc _).wr (a := Reg.STC_MAPSTAT) (by decide) _).wr (a := Reg.STC_STAT) (by decide) _).stcPhase p

theorem lastGroup (h : Unmoved s t) : Unmoved s t.lastGroup := h.wr (by decide) _

end Unmoved

/-- The command answers its effect, which leaves the part calm. -/
theorem leaves_of_stitched {c : Instr} {s t : State} {f : State → State} (hexec : exec c s = .next (s.cmd f)) (hs : s.calm)
    (hf : f s = t) (ht : Stitched s t) : Leaves c s t := by
  subst hf
  rw [Leaves, hexec, cmd_calm hs (ht.calm hs)]

/-- The engine works in a part that is awake with SEC and STORE ON (R325). -/
theorem stcLive_awake {s : State} (hs : s.awake) (hsec : s.domOn .sec = true) (hstore : s.domOn .store = true) :
    s.stcLive = true := by
  have hdeep := deep_awake hs
  obtain ⟨⟨hpowered, -⟩, -, hentry, -⟩ := hs
  simp [State.stcLive, hpowered, hsec, hstore, hdeep, hentry]

/-! ## Status -/

theorem stcPhase_stcPh (s : State) {p : Nat} (hp : p < 16) : (s.stcPhase p).stcPh = p :=
  (State.f_putBit_ne _ _ _ (by decide)).trans ((State.f_setF_self s _ _ (by decide)).trans (Nat.mod_eq_of_lt hp))

theorem stcPhase_busy (s : State) (p : Nat) : (s.stcPhase p).bit Reg.STC_STAT 0 = decide (p ≠ 0) :=
  State.bit_putBit_self _ _ _ (by decide)

theorem stcPhase_bit (s : State) (p : Nat) {i : Nat} (h : 0 < i ∧ i < 28) :
    (s.stcPhase p).bit Reg.STC_STAT i = s.bit Reg.STC_STAT i :=
  (State.bit_putBit_ne _ _ _ (by omega)).trans (State.bit_setF_ne _ _ _ (by omega))

theorem stcPhase_f (s : State) (p : Nat) {lo n : Nat} (h : 0 < lo ∧ lo + n ≤ 28) :
    (s.stcPhase p).f Reg.STC_STAT lo n = s.f Reg.STC_STAT lo n :=
  (State.f_putBit_ne _ _ _ (by omega)).trans (State.f_setF_ne _ _ _ (by omega))

theorem stcPhase_rd (s : State) (p : Nat) {a : Nat} (h : a ≠ Reg.STC_STAT) : (s.stcPhase p).rd a = s.rd a :=
  (State.rd_wr_ne _ _ h).trans (State.rd_wr_ne _ _ h)

theorem stcIdle_stcPh (s : State) : s.stcIdle.stcPh = 0 :=
  (State.f_putBit_ne _ _ _ (by decide)).trans (stcPhase_stcPh s (by decide))

theorem stcIdle_done (s : State) : s.stcIdle.bit Reg.STC_STAT 1 = true := State.bit_putBit_self _ _ _ (by decide)

theorem stcIdle_bit (s : State) {i : Nat} (h : 1 < i ∧ i < 28) : s.stcIdle.bit Reg.STC_STAT i = s.bit Reg.STC_STAT i :=
  (State.bit_putBit_ne _ _ _ (by omega)).trans (stcPhase_bit s 0 (by omega))

theorem stcIdle_f (s : State) {lo n : Nat} (h : 1 < lo ∧ lo + n ≤ 28) : s.stcIdle.f Reg.STC_STAT lo n = s.f Reg.STC_STAT lo n :=
  (State.f_putBit_ne _ _ _ (by omega)).trans (stcPhase_f s 0 (by omega))

theorem stcIdle_rd (s : State) {a : Nat} (h : a ≠ Reg.STC_STAT) : s.stcIdle.rd a = s.rd a :=
  (State.rd_wr_ne _ _ h).trans (stcPhase_rd s 0 h)

theorem stcIdle_store (s : State) : s.stcIdle.store = s.store := by
  rw [State.stcIdle, State.setBit_store, State.stcPhase, State.putBit_store, State.setF_store]

theorem stcIdle_stc (s : State) : s.stcIdle.stc = s.stc := by
  rw [State.stcIdle, State.setBit_stc, State.stcPhase, State.putBit_stc, State.setF_stc]

theorem stcIdle_nvm (s : State) : s.stcIdle.nvm = s.nvm := by
  rw [State.stcIdle, State.setBit_nvm, State.stcPhase, State.putBit_nvm, State.setF_nvm]

theorem stcHeld_stcPh (s : State) : s.stcHeld.stcPh = 8 :=
  (State.f_putBit_ne _ _ _ (by decide)).trans (stcPhase_stcPh s (by decide))

theorem stcErr_code (s : State) {code : Nat} (h : code < 16) : (s.stcErr code).f Reg.STC_STAT 24 4 = code :=
  (State.f_putBit_ne _ _ _ (by decide)).trans ((State.f_setF_self s _ _ (by decide)).trans (Nat.mod_eq_of_lt h))

theorem stcErr_err (s : State) (code : Nat) : (s.stcErr code).bit Reg.STC_STAT 2 = true := State.bit_putBit_self _ _ _ (by decide)

theorem stcErr_stcPh (s : State) (code : Nat) : (s.stcErr code).stcPh = s.stcPh :=
  (State.f_putBit_ne _ _ _ (by decide)).trans (State.f_setF_ne s _ _ (by decide))

/-! ## Commands (R313) -/

/-- What a command of the engine's leaves is what the write of STC_CMD leaves. -/
theorem regRow_stcCmd {s : State} (hsec : s.domOn .sec = true) (v : Word) (wr : Writer) :
    s.regRow Reg.STC_CMD v wr = s.writeStcCmd v wr :=
  regRow_up ((regUp_block (a := Reg.STC_CMD) (gate := 4) rfl (by decide) s).trans hsec) v wr

/-- `v` is the command `op` with the key of STC_CMD. -/
def StcOrder (v : Word) (op : Nat) : Prop := fld v 16 16 = 0x5717 ∧ fld v 4 4 = op

theorem stcOrder_of {v : Word} {op : Nat} (hkey : v.toNat / 2 ^ 16 = 0x5717) (hop : v.toNat / 2 ^ 4 % 16 = op) : StcOrder v op :=
  ⟨(fld_key v).trans hkey, (fld_eq_div_mod v 4 4).trans hop⟩

theorem writeStcCmd_unkeyed {v : Word} (h : v.toNat / 2 ^ 16 ≠ 0x5717) (s : State) (wr : Writer) :
    s.writeStcCmd v wr = s.stcRej :=
  if_pos (by rwa [fld_key])

section

variable {s : State} {v : Word} {wr : Writer}

theorem writeStcCmd_abort_refused (h : StcOrder v 4) (hph : s.stcPh < 2) : s.writeStcCmd v wr = s.stcRej := by
  simp [State.writeStcCmd, h.1, h.2, hph]

theorem writeStcCmd_abort (h : StcOrder v 4) (hph : 2 < s.stcPh) : s.writeStcCmd v wr = s.stcStop false := by
  simp [State.writeStcCmd, h.1, h.2, show ¬s.stcPh < 2 by omega, show ¬s.stcPh = 2 by omega]

theorem writeStcCmd_return (h : StcOrder v 3) : s.writeStcCmd v wr = s.stcReturn wr.aid := by
  simp [State.writeStcCmd, h.1, h.2]

theorem writeStcCmd_run {p : List Word} (h : StcOrder v 1) (hph : s.stcPh = 0)
    (hp : s.program (s.f Reg.STC_RUNCFG 0 3) (s.f Reg.STC_RUNCFG 4 3) (s.bit Reg.STC_RUNCFG 8) = some p) :
    s.writeStcCmd v wr = s.startRun p (s.bit Reg.STC_RUNCFG 8) (s.bit Reg.STC_RUNCFG 9) wr.aid := by
  simp [State.writeStcCmd, h.1, h.2, hph, hp]

theorem writeStcCmd_run_illegal (h : StcOrder v 1) (hph : s.stcPh = 0)
    (hp : s.program (s.f Reg.STC_RUNCFG 0 3) (s.f Reg.STC_RUNCFG 4 3) (s.bit Reg.STC_RUNCFG 8) = none) :
    s.writeStcCmd v wr = s.stcErr 1 := by
  simp [State.writeStcCmd, h.1, h.2, hph, hp]

theorem writeStcCmd_swap {p : List Word} (h : StcOrder v 2) (hph : s.stcPh = 0) (hpend : s.bit Reg.STC_MAPSTAT 31 = false)
    (hp : s.program (s.f Reg.STC_SWPCFG 0 3) (s.f Reg.STC_SWPCFG 4 3) false = some p) :
    s.writeStcCmd v wr = s.startSwap (fld v 0 4) p wr.aid := by
  simp [State.writeStcCmd, h.1, h.2, hph, hpend, hp]

theorem writeStcCmd_swap_refused (h : StcOrder v 2) (hbusy : s.stcPh ≠ 0 ∨ s.bit Reg.STC_MAPSTAT 31 = true) :
    s.writeStcCmd v wr = s.stcRej := by
  by_cases hph : s.stcPh = 0
  · simp [State.writeStcCmd, h.1, h.2, hph, hbusy.resolve_left (not_not_intro hph)]
  · simp [State.writeStcCmd, h.1, h.2, hph]

theorem writeStcCmd_xchg (h : StcOrder v 5) (hph : s.stcPh = 0) (hmid : wr.mid = 0) (haid : wr.aid = 0x400)
    (hpend : s.bit Reg.STC_MAPSTAT 31 = false) :
    s.writeStcCmd v wr = ((s.flip (fld v 0 4)).setF Reg.STC_STAT 24 4 0).stcIdle := by
  simp [State.writeStcCmd, h.1, h.2, hph, hmid, haid, hpend]

theorem writeStcCmd_xchg_refused (h : StcOrder v 5) (hph : s.stcPh = 0)
    (hdenied : wr.mid ≠ 0 ∨ wr.aid ≠ 0x400 ∨ s.bit Reg.STC_MAPSTAT 31 = true) : s.writeStcCmd v wr = s.stcRej := by
  simp [State.writeStcCmd, h.1, h.2, hph, hdenied]

end

/-- A command that the engine answers with REJ. -/
theorem leaves_rejected {c : Instr} {s : State} {v : Word} {wr : Writer}
    (hexec : exec c s = .next (s.cmd fun s => s.regRow Reg.STC_CMD v wr)) (hs : s.calm) (hsec : s.domOn .sec = true)
    (h : s.writeStcCmd v wr = s.stcRej) : Leaves c s (s.setBit Reg.STC_STAT 8) :=
  leaves_of_stitched hexec hs ((regRow_stcCmd hsec v wr).trans h) ((Stitched.refl s).wr (by decide) _)

/-! ## The log (R307) -/

theorem clearFails_eq (l : List Nat) (s : State) : l.foldl (fun s i => s.wr (Reg.STC_FAIL i) 0) s =
    { s with regs := (l.foldl (fun s i => s.wr (Reg.STC_FAIL i) 0) s).regs } := by
  induction l generalizing s with
  | nil => rfl
  | cons i l ih => rw [List.foldl_cons, ih]; rfl

theorem clearFails_rd {l : List Nat} (s : State) {a : Nat} (h : ∀ i ∈ l, a ≠ Reg.STC_FAIL i) :
    (l.foldl (fun s i => s.wr (Reg.STC_FAIL i) 0) s).rd a = s.rd a := by
  induction l generalizing s with
  | nil => rfl
  | cons i l ih =>
    rw [List.foldl_cons, ih _ fun j hj => h j (List.mem_cons_of_mem i hj), State.rd_wr_ne _ _ (h i List.mem_cons_self)]

/-- The registers of the fail log: STC_FAIL0 to STC_FAIL7 and STC_FAILCNT. -/
abbrev failReg (a : Nat) : Prop := 0x20007080 ≤ a ∧ a < 0x200070A0 ∨ a = Reg.STC_FAILCNT

theorem stcNewLog_eq (s : State) :
    s.stcNewLog = { s with regs := s.stcNewLog.regs, stc := { s.stc with fails := [], todo := [] } } := by
  unfold State.stcNewLog
  simp only
  rw [clearFails_eq]
  rfl

theorem stcNewLog_rd (s : State) {a : Nat} (h : ¬failReg a) : s.stcNewLog.rd a = s.rd a := by
  have hfail : ∀ i ∈ List.range 8, a ≠ Reg.STC_FAIL i := by
    intro i hi
    have := List.mem_range.1 hi
    simp only [failReg, Reg.STC_FAIL] at h ⊢
    omega
  rw [State.stcNewLog, State.rd_wr_ne _ _ fun e => h (.inr e), ← clearFails_rd s hfail]
  exact State.rd_congr (by rfl) a

theorem stcNewLog_failcnt (s : State) : s.stcNewLog.rd Reg.STC_FAILCNT = 0 := State.rd_wr_self _ _ _

theorem stcNewLog_store (s : State) : s.stcNewLog.store = s.store := by rw [stcNewLog_eq]

theorem stcNewLog_core (s : State) : s.stcNewLog.core = s.core := by rw [stcNewLog_eq]

theorem Unmoved.stcNewLog {s t : State} (h : Unmoved s t) : Unmoved s t.stcNewLog := by
  have hfail {a : Nat} (ha : ¬stcReg a ∨ mapReg a) : ¬failReg a := by
    simp only [stcReg, mapReg, failReg, Reg.STC_FAILCNT] at ha ⊢
    omega
  refine h.trans ⟨?_, fun a ha => stcNewLog_rd t (hfail (.inr ha))⟩
  have hrd (a : Nat) (ha : ¬stcReg a) : t.stcNewLog.rd a = t.rd a := stcNewLog_rd t (hfail (.inl ha))
  rw [stcNewLog_eq] at hrd ⊢
  exact { Stitched.refl t with rd := hrd }

/-! ## The map (R303, R314, R318) -/

theorem arrayOf_lt (s : State) (slot : Nat) : s.arrayOf slot < 2 ^ 5 := by
  unfold State.arrayOf
  split <;> exact fld_lt ..

theorem mapReg_ne_mapu {n : Nat} (hn : n < 16) : Reg.STC_MAP (n / 4) ≠ Reg.STC_MAPU := by
  simp only [Reg.STC_MAP, Reg.STC_MAPU]; omega

theorem arrayOf_bank (s : State) {n : Nat} (hn : n < 16) : s.arrayOf n = s.f (Reg.STC_MAP (n / 4)) (8 * (n % 4)) 5 := if_pos hn

theorem exchange_arrayOf_self (s : State) {n : Nat} (hn : n < 16) : (s.exchange n).arrayOf n = s.arrayOf 16 := by
  rw [arrayOf_bank _ hn, State.exchange, State.f_setF_other _ _ (mapReg_ne_mapu hn), State.f_setF_self _ _ _ (by omega),
    Nat.mod_eq_of_lt (arrayOf_lt s 16)]

theorem exchange_arrayOf_unmapped (s : State) (n : Nat) : (s.exchange n).arrayOf 16 = s.arrayOf n :=
  (State.f_setF_self _ _ _ (by decide)).trans (Nat.mod_eq_of_lt (arrayOf_lt s n))

theorem exchange_arrayOf_ne (s : State) {n m : Nat} (hm : m < 16) (hne : m ≠ n) : (s.exchange n).arrayOf m = s.arrayOf m := by
  rw [arrayOf_bank _ hm, arrayOf_bank _ hm, State.exchange, State.f_setF_other _ _ (mapReg_ne_mapu hm)]
  by_cases hreg : m / 4 = n / 4
  · rw [hreg, State.f_setF_ne _ _ _ (by omega)]
  · rw [State.f_setF_other _ _ (by simp only [Reg.STC_MAP]; omega)]

theorem clearResv_eq (s : State) (n : Nat) : s.clearResv n = { s with core := (s.clearResv n).core } := by
  unfold State.clearResv
  split
  · split <;> rfl
  · rfl

theorem clearResv_rd (s : State) (n a : Nat) : (s.clearResv n).rd a = s.rd a := by rw [clearResv_eq]; rfl

theorem clearResv_stc (s : State) (n : Nat) : (s.clearResv n).stc = s.stc := by rw [clearResv_eq]

theorem clearResv_store (s : State) (n : Nat) : (s.clearResv n).store = s.store := by rw [clearResv_eq]

/-- A flip moves the map as the exchange does. -/
theorem flip_unmoved (s : State) (n : Nat) : Unmoved (s.exchange n) (s.flip n) := by
  have hmirror : Unmoved (s.exchange n) ((s.exchange n).clrBit Reg.STC_MAPSTAT 30) := (Unmoved.refl _).wr (by decide) _
  refine ⟨hmirror.toStitched.clearResv n, fun a ha => ?_⟩
  rw [State.flip, clearResv_rd]
  exact hmirror.map a ha

theorem exchange_rd (s : State) {n a : Nat} (hn : n < 16) (ha : ¬mapReg a) : (s.exchange n).rd a = s.rd a := by
  have hmap : a ≠ Reg.STC_MAP (n / 4) := by simp only [mapReg, Reg.STC_MAP] at ha ⊢; omega
  have hmapu : a ≠ Reg.STC_MAPU := by simp only [mapReg, Reg.STC_MAPU] at ha ⊢; omega
  rw [State.exchange, State.rd_setF, if_neg hmapu, State.rd_setF, if_neg hmap]

theorem flip_mapstat (s : State) {n : Nat} (hn : n < 16) :
    (s.flip n).rd Reg.STC_MAPSTAT = wputBit (s.rd Reg.STC_MAPSTAT) 30 false := by
  rw [State.flip, clearResv_rd, State.rd_clrBit, if_pos rfl, exchange_rd s hn (by decide)]

theorem flip_store (s : State) (n : Nat) : (s.flip n).store = s.store := by rw [State.flip, clearResv_store]; rfl

/-! ## A march over one array that no gate denies to the engine (R283, R307, R312) -/

theorem groupsOf_single (a : Nat) : groupsOf [a] = [[a]] := by simp [groupsOf]

section

variable {s : State} {aid a : Nat} {prog : List Word} {custom : Word} {r : MarchResult}

/-- Neither a destructive nor a transparent run meets a denial. -/
theorem marchDenials_clean (hclean : (s.arrDenied aid a).clean = true) (predict : Bool) :
    s.marchDenials aid [a] prog predict = [] := by
  simp [State.marchDenials, hclean]

/-- A program that reads what it has written last finds nothing wrong in what the array holds. -/
theorem heldFails_clean (hclean : (s.arrDenied aid a).clean = true) (hprog : progClean none prog = true) :
    s.heldFails aid a prog custom = [] := by
  simp [State.heldFails, hprog, ArrDenied.writes_of_clean hclean]

theorem marchFound_none (hclean : (s.arrDenied aid a).clean = true) (hprog : progClean none prog = true) (hr : r.fails = []) :
    s.marchFound aid [a] prog custom r = ⟨0, []⟩ := by
  simp [State.marchFound, heldFails_clean hclean hprog, hr]

/-- Of a list without repetition one element alone counts. -/
theorem flatMap_eq_single {α β : Type} {f : α → List β} {l : List α} {x : α} (hl : l.Nodup) (hx : x ∈ l)
    (hf : ∀ y ∈ l, y ≠ x → f y = []) : l.flatMap f = f x := by
  obtain ⟨before, after, rfl⟩ := List.append_of_mem hx
  rw [List.nodup_middle, List.nodup_cons, List.mem_append] at hl
  have hne : ∀ y, y ∈ before ∨ y ∈ after → f y = [] := fun y hy =>
    hf y (by simp only [List.mem_append, List.mem_cons]; tauto) fun e => hl.1 (e ▸ hy)
  have hbefore : before.flatMap f = [] := List.flatMap_eq_nil_iff.2 fun y hy => hne y (.inl hy)
  have hafter : after.flatMap f = [] := List.flatMap_eq_nil_iff.2 fun y hy => hne y (.inr hy)
  rw [List.flatMap_append, List.flatMap_cons, hbefore, hafter, List.nil_append, List.append_nil]

theorem nodup_visitOrder (w : Word) (n : Nat) : (visitOrder w n).Nodup := by
  unfold visitOrder
  split
  · exact List.nodup_reverse.2 List.nodup_range
  · exact List.nodup_range

theorem mem_visitOrder {w : Word} {n i : Nat} : i ∈ visitOrder w n ↔ i < n := by
  unfold visitOrder
  split <;> simp

/-- Of a program of more than one element, element 1 comes once. -/
theorem flatMap_zipIdx_one {β : Type} {prog : List Word} (hlen : 1 < prog.length) (x : β) :
    (prog.zipIdx.flatMap fun e => if e.2 = 1 then [x] else []) = [x] := by
  match prog, hlen with
  | w0 :: w1 :: rest, _ =>
    have hrest : ((rest.zipIdx 2).flatMap fun e => if e.2 = 1 then [x] else []) = [] := by
      refine List.flatMap_eq_nil_iff.2 fun e he => if_neg ?_
      have := List.le_snd_of_mem_zipIdx he
      omega
    simp [List.zipIdx_cons, hrest]

/-- The rows found where the silicon makes one row fail in element 1. -/
theorem marchFound_single {row : Nat} {cols : List Nat} (hclean : (s.arrDenied aid a).clean = true)
    (hprog : progClean none prog = true) (hlen : 1 < prog.length) (hrow : row < 512) (hr : r.fails = [⟨a, row, 1, cols⟩]) :
    (s.marchFound aid [a] prog custom r).rows = [(a, row)] := by
  have htested : s.testedRow a row = true := by simp [State.testedRow, hrow]
  let silicon : MarchResult := { r with fails := [⟨a, row, 1, cols⟩] }
  have hfirst (i : Nat) : firstFail [] silicon (prog.length - 1) a i = if i = row then some 1 else none := by
    have hlast : 1 ≤ prog.length - 1 := by omega
    by_cases h : i = row
    · simp [silicon, firstFail, h, hlast]
    · simp [silicon, firstFail, h, Ne.symm h]
  have hvisits (e : Word × Nat) : ((visitOrder e.1 516).flatMap fun i =>
      ([a].filter fun a => decide (firstFail [] silicon (prog.length - 1) a i = some e.2)).map fun a => (a, i)) =
        if e.2 = 1 then [(a, row)] else [] := by
    rw [flatMap_eq_single (nodup_visitOrder ..) (mem_visitOrder.2 (show row < 516 by omega))]
    · by_cases h : e.2 = 1 <;> simp [hfirst, h, eq_comm]
    · intro i _ hi
      simp [hfirst, hi]
  have hmine : r.fails.filter (fun f => [a].contains f.arr && s.testedRow f.arr f.row) = [⟨a, row, 1, cols⟩] := by
    simp [hr, htested]
  have hheld (b : Nat) : (alGet [(a, ([] : List (Nat × List Nat)))] b).getD [] = [] := by by_cases h : a = b <;> simp [alGet, h]
  simp only [State.marchFound, hmine, List.map_cons, List.map_nil, heldFails_clean hclean hprog, groupsOf_single,
    List.flatMap_singleton, hheld, List.isEmpty_cons, Bool.and_false, Bool.false_eq_true, if_false]
  exact (List.flatMap_congr fun e _ => hvisits e).trans (flatMap_zipIdx_one hlen (a, row))

/-- A march that no gate denies leaves its last write and the log of what it found. -/
theorem march_clean (hclean : (s.arrDenied aid a).clean = true) : s.march aid [a] prog custom r =
    ⟨(s.marchLeave a aid prog custom).stcLog (s.marchFound aid [a] prog custom r).reads (s.marchFound aid [a] prog custom r).rows,
      some (s.marchFound aid [a] prog custom r).rows⟩ := by
  simp [State.march, marchDenials_clean hclean, marchEnds, State.marchCount]

theorem stcLog_nil (s : State) (reads : Nat) : s.stcLog reads [] = s := rfl

/-- Where nothing fails the array holds the last write and nothing is logged. -/
theorem march_passes (hclean : (s.arrDenied aid a).clean = true) (hprog : progClean none prog = true) (hr : r.fails = []) :
    s.march aid [a] prog custom r = ⟨s.marchLeave a aid prog custom, some []⟩ := by
  rw [march_clean hclean, marchFound_none hclean hprog hr, stcLog_nil]

/-- Where the silicon makes one row fail, that row is logged. -/
theorem march_fails {row : Nat} {cols : List Nat} (hclean : (s.arrDenied aid a).clean = true)
    (hprog : progClean none prog = true) (hlen : 1 < prog.length) (hrow : row < 512) (hr : r.fails = [⟨a, row, 1, cols⟩]) :
    ∃ n, s.march aid [a] prog custom r = ⟨(s.marchLeave a aid prog custom).stcLog n [(a, row)], some [(a, row)]⟩ :=
  ⟨_, by rw [march_clean hclean, marchFound_single hclean hprog hlen hrow hr]⟩

/-- An array without a remap holds the last write everywhere. -/
theorem marchLeave_clean {bg v : Nat} (hclean : (s.arrDenied aid a).clean = true) (hremaps : ∀ x ∈ s.stc.remaps, x.1 / 4 ≠ a)
    (hlast : (progWrites prog).getLast? = some (bg, v)) :
    s.marchLeave a aid prog custom = s.setArray a (.blank (.march (decide (v = 1)) bg custom)) := by
  have hmine : s.stc.remaps.filter (fun p => decide (p.1 / 4 = a)) = [] := by
    simpa [List.filter_eq_nil_iff] using hremaps
  simp only [State.marchLeave, hlast, hmine, State.keepDenied, ArrDenied.writes_of_clean hclean, List.foldl_nil]

/-- Of the whole state a march leaves another Store alone. -/
theorem marchLeave_eq (s : State) (a aid : Nat) (prog : List Word) (custom : Word) :
    s.marchLeave a aid prog custom = { s with store := (s.marchLeave a aid prog custom).store } := by
  unfold State.marchLeave
  split <;> rfl

end

/-! ## What follows a command -/

/-- The registers of the engine follow no level. -/
theorem levelReg_stcReg {a : Nat} (h : stcReg a) : levelReg a = false := by
  have hout : a ≠ Reg.SAF_OUT := by simp only [Reg.SAF_OUT]; omega
  have hirq : a ≠ Reg.GPIO_IRQ := by simp only [Reg.GPIO_IRQ]; omega
  have hbell : ¬Reg.VIR_DB 0 ≤ a := by simp only [Reg.VIR_DB]; omega
  simp [levelReg, hout, hirq, hbell]

theorem rd_withStc (s : State) (x : Stc) (a : Nat) : ({ s with stc := x } : State).rd a = s.rd a := rfl

theorem bit_withStc (s : State) (x : Stc) (a i : Nat) : ({ s with stc := x } : State).bit a i = s.bit a i := rfl

theorem stcPh_withStc (s : State) (x : Stc) : ({ s with stc := x } : State).stcPh = s.stcPh := rfl

theorem store_withStc (s : State) (x : Stc) : ({ s with stc := x } : State).store = s.store := rfl

theorem f_withStc (s : State) (x : Stc) (a lo n : Nat) : ({ s with stc := x } : State).f a lo n = s.f a lo n := rfl

@[simp] theorem settle_stcPh (s : State) : s.settle.stcPh = s.stcPh := settle_f _ _ _ _ (by decide)

@[simp] theorem settle_stat_bit (s : State) (i : Nat) : s.settle.bit Reg.STC_STAT i = s.bit Reg.STC_STAT i :=
  settle_bit _ _ _ (by decide)

@[simp] theorem settle_stat_f (s : State) (lo n : Nat) : s.settle.f Reg.STC_STAT lo n = s.f Reg.STC_STAT lo n :=
  settle_f _ _ _ _ (by decide)

@[simp] theorem settle_mapstat_bit (s : State) (i : Nat) : s.settle.bit Reg.STC_MAPSTAT i = s.bit Reg.STC_MAPSTAT i :=
  settle_bit _ _ _ (by decide)

@[simp] theorem settle_swapBank (s : State) : s.settle.swapBank = s.swapBank := settle_f _ _ _ _ (by decide)

@[simp] theorem settle_arrayOf (s : State) (slot : Nat) : s.settle.arrayOf slot = s.arrayOf slot := by
  unfold State.arrayOf
  split
  · exact settle_f _ _ _ _ (levelReg_stcReg (by simp only [stcReg, Reg.STC_MAP]; omega))
  · exact settle_f _ _ _ _ (by decide)

/-! ## Runs (R304, R308, R309, R312) -/

/-- The state in which a run has started, but for its phase. -/
def State.runOpened (s : State) (p : List Word) (transp repair : Bool) (aid : Nat) (arrays : List Nat) (custom : Word) : State :=
  { s.stcNewLog.setF Reg.STC_STAT 24 4 0 with
    stc := { s.stcNewLog.stc with arrays := arrays, prog := p, custom := custom, transp := transp, repair := repair,
                                  aid := aid } }.setF Reg.STC_STAT 16 5 (arrays.headD 0)

theorem startRun_eq (s : State) (p : List Word) (transp repair : Bool) (aid : Nat) :
    ∃ arrays custom, s.startRun p transp repair aid = (s.runOpened p transp repair aid arrays custom).stcPhase 2 := by
  unfold State.startRun
  extract_lets banks unm chosen arrays opened custom
  exact ⟨arrays, custom, rfl⟩

theorem runOpened_unmoved (s : State) (p : List Word) (transp repair : Bool) (aid : Nat) (arrays : List Nat) (custom : Word) :
    Unmoved s (s.runOpened p transp repair aid arrays custom) :=
  (((Unmoved.refl s).stcNewLog.wr (a := Reg.STC_STAT) (by decide) _).stc _).wr (by decide) _

/-- RUN starts a legal program: the engine is busy in its phase with the program and the writer's agent, the log is empty and no
error shows. -/
theorem startRun_shows (s : State) (p : List Word) (transp repair : Bool) (aid : Nat) :
    let t := s.startRun p transp repair aid
    Unmoved s t ∧ t.stcPh = 2 ∧ t.bit Reg.STC_STAT 0 = true ∧ t.f Reg.STC_STAT 24 4 = 0 ∧ t.stc.prog = p ∧ t.stc.aid = aid ∧
      t.stc.transp = transp ∧ t.stc.repair = repair ∧ t.rd Reg.STC_FAILCNT = 0 ∧ t.store = s.store ∧ t.core = s.core := by
  obtain ⟨arrays, custom, hstart⟩ := startRun_eq s p transp repair aid
  simp only [hstart]
  refine ⟨(runOpened_unmoved ..).stcPhase 2, stcPhase_stcPh _ (by decide), stcPhase_busy _ _, ?_, rfl, rfl, rfl, rfl, ?_, ?_, ?_⟩
  · rw [stcPhase_f _ _ (by decide), State.runOpened, State.f_setF_ne _ _ _ (by decide), f_withStc,
      State.f_setF_self _ _ _ (by decide), Nat.zero_mod]
  · rw [stcPhase_rd _ _ (by decide), State.runOpened, State.rd_setF, if_neg (by decide), rd_withStc, State.rd_setF,
      if_neg (by decide), stcNewLog_failcnt]
  · simp only [State.stcPhase, State.putBit_store, State.setF_store, State.runOpened, stcNewLog_store]
  · simp only [State.stcPhase, State.putBit_core, State.setF_core, State.runOpened, stcNewLog_core]

section

variable {s : State} {a : Nat} {r : MarchResult}

theorem lastGroup_single (harrays : s.stc.arrays = [a]) : s.lastGroup = s.setF Reg.STC_STAT 16 5 a := by
  rw [State.lastGroup, harrays, groupsOf_single]; rfl

/-- The end of a destructive run that no denial has ended. -/
theorem stcRunDone_destructive {u : State} {rows : List (Nat × Nat)} (hlive : s.stcLive = true) (hph : s.stcPh = 2)
    (htodo : s.stc.todo = []) (htransp : s.stc.transp = false)
    (hmarch : s.lastGroup.runDoneDestructive r = ⟨u, some rows⟩) : s.stcRunDone r = u.runRepairs := by
  simp [State.stcRunDone, hlive, hph, htodo, htransp, hmarch]

theorem runRepairs_none {u : State} (hrepair : u.stc.repair = false) (htodo : u.stc.todo = []) : u.runRepairs = u.stcIdle := by
  simp [State.runRepairs, hrepair, htodo]

/-- What a march leaves in the one array of a run, as the last group shows. -/
theorem lastGroup_marchLeave {bg v : Nat} (harrays : s.stc.arrays = [a]) (hclean : (s.arrDenied s.stc.aid a).clean = true)
    (hremaps : ∀ x ∈ s.stc.remaps, x.1 / 4 ≠ a) (hlast : (progWrites s.stc.prog).getLast? = some (bg, v)) :
    s.lastGroup.marchLeave a s.stc.aid s.stc.prog s.stc.custom =
      (s.setArray a (.blank (.march (decide (v = 1)) bg s.stc.custom))).setF Reg.STC_STAT 16 5 a := by
  rw [marchLeave_clean ((congrArg ArrDenied.clean ((Unmoved.refl s).lastGroup.arrDenied _ _)).trans hclean) hremaps hlast,
    lastGroup_single harrays]
  rfl

theorem runDoneDestructive_single (harrays : s.stc.arrays = [a]) :
    s.lastGroup.runDoneDestructive r = s.lastGroup.march s.stc.aid [a] s.stc.prog s.stc.custom r := by
  rw [← harrays]; rfl

theorem lastGroup_clean (hclean : (s.arrDenied s.stc.aid a).clean = true) :
    (s.lastGroup.arrDenied s.stc.aid a).clean = true := by
  rwa [(Unmoved.refl s).lastGroup.arrDenied]

/-- Row `row` of array `a` is logged as the one failing row, with the count `w` (R307). -/
def State.rowLogged (s : State) (w : Word) (a row : Nat) : State :=
  let listed := (s.wr Reg.STC_FAILCNT w).wr (Reg.STC_FAIL 0) (word (0x80000000 + a * 0x10000 + row))
  { listed with stc := { listed.stc with fails := [(a, row)] } }.setBit Reg.STC_STAT 3

theorem stcLog_single (s : State) (n row : Nat) : ∃ w, s.stcLog n [(a, row)] = s.rowLogged w a row := by
  unfold State.stcLog
  rw [if_neg (by simp)]
  extract_lets counted listed marked _ logged
  have hlisted : listed = counted.wr (Reg.STC_FAIL 0) (word (0x80000000 + a * 0x10000 + row)) := by
    simp only [listed, List.take_succ_cons, List.take_nil, List.zipIdx_cons, List.zipIdx_nil, List.foldl_cons, List.foldl_nil]
  have hmarked : marked = listed := if_neg (by simp)
  have hlogged : logged = { listed with stc := { listed.stc with fails := [(a, row)] } } := by rw [← hmarked]
  rw [hlogged, hlisted]
  exact ⟨_, rfl⟩

theorem rowLogged_stc (s : State) (w : Word) (a row : Nat) :
    (s.rowLogged w a row).stc = { s.stc with fails := [(a, row)] } := by
  have hkept {u : State} (hu : u.stc = s.stc) :
      ({ u with stc := { u.stc with fails := [(a, row)] } } : State).stc = { s.stc with fails := [(a, row)] } := by rw [hu]
  exact hkept ((State.wr_stc ..).trans (State.wr_stc ..))

theorem rowLogged_store (s : State) (w : Word) (a row : Nat) : (s.rowLogged w a row).store = s.store := by
  rw [State.rowLogged, State.setBit_store, store_withStc, State.wr_store, State.wr_store]

theorem rowLogged_stcPh (s : State) (w : Word) (a row : Nat) : (s.rowLogged w a row).stcPh = s.stcPh := by
  rw [State.rowLogged, State.stcPh]
  refine (State.f_putBit_ne _ _ _ (by decide)).trans (congrArg (fld · 28 4) ?_)
  rw [rd_withStc, State.rd_wr_ne _ _ (by decide), State.rd_wr_ne _ _ (by decide)]

theorem rowLogged_fail (s : State) (w : Word) (a row : Nat) :
    (s.rowLogged w a row).rd (Reg.STC_FAIL 0) = word (0x80000000 + a * 0x10000 + row) := by
  rw [State.rowLogged, State.rd_setBit, if_neg (by decide), rd_withStc, State.rd_wr_self]

theorem rowLogged_failed (s : State) (w : Word) (a row : Nat) : (s.rowLogged w a row).bit Reg.STC_STAT 3 = true :=
  State.bit_putBit_self _ _ _ (by decide)

theorem Unmoved.rowLogged {s t : State} (h : Unmoved s t) (w : Word) (a row : Nat) : Unmoved s (t.rowLogged w a row) :=
  ((((h.wr (a := Reg.STC_FAILCNT) (by decide) _).wr (a := Reg.STC_FAIL 0) (by decide) _).stc _).wr (a := Reg.STC_STAT) (by decide) _)

/-- Of an array without remaps one failing row takes spare row 0 (R304). -/
theorem planRepairs_single {row : Nat} (hfails : s.stc.fails = [(a, row)]) (htodo : s.stc.todo = [])
    (htransp : s.stc.transp = false) (hremaps : ∀ x ∈ s.stc.remaps, x.1 / 4 ≠ a) (hrow : row < 512) :
    s.planRepairs [a] = { s with stc := { s.stc with todo := [(4 * a, row)] } } := by
  have hrows : (List.range 512).filter [row].contains = [row] := by
    have hcontains : [row].contains = fun i => i == row := by
      funext i
      rw [List.contains_cons, List.contains_nil, Bool.or_false]
    rw [hcontains, List.filter_beq, List.count_eq_one_of_mem List.nodup_range (List.mem_range.2 hrow), List.replicate_one]
  have hfailed : ([(a, row)].filter fun p => decide (p.1 = a ∧ p.2 < 512)).map (·.2) = [row] := by simp [hrow]
  have hused (k : Nat) (hk : k < 4) : s.spareUsed a k = false := by
    simp only [State.spareUsed, List.any_eq_false, decide_eq_true_eq]
    intro x hx h
    exact hremaps x hx (by omega)
  have hspares : (List.range 4).filter (fun k =>
      !s.stc.transp && !(s.spareUsed a k) && !([(a, row)].contains (a, 512 + k))) = List.range 4 := by
    rw [List.filter_eq_self]
    intro k hk
    have hk := List.mem_range.1 hk
    simp [htransp, hused k hk]
    omega
  have hrepairs : s.repairsOf a = some [(4 * a, row)] := by
    simp only [State.repairsOf, hfails, hspares, hfailed, hrows]
    rfl
  simp [State.planRepairs, hfails, hrow, hrepairs, htodo]

theorem runRepairs_single {row : Nat} (hrepair : s.stc.repair = true) (harrays : s.stc.arrays = [a])
    (hfails : s.stc.fails = [(a, row)]) (htodo : s.stc.todo = []) (htransp : s.stc.transp = false)
    (hremaps : ∀ x ∈ s.stc.remaps, x.1 / 4 ≠ a) (hrow : row < 512) :
    s.runRepairs = { s with stc := { s.stc with todo := [(4 * a, row)] } } := by
  simp [State.runRepairs, hrepair, harrays, planRepairs_single hfails htodo htransp hremaps hrow]

/-- A destructive run in which nothing fails. -/
theorem stcRunDone_passes {bg v : Nat} (hlive : s.stcLive = true) (hph : s.stcPh = 2) (htodo : s.stc.todo = [])
    (htransp : s.stc.transp = false) (harrays : s.stc.arrays = [a]) (hclean : (s.arrDenied s.stc.aid a).clean = true)
    (hremaps : ∀ x ∈ s.stc.remaps, x.1 / 4 ≠ a) (hprog : progClean none s.stc.prog = true)
    (hlast : (progWrites s.stc.prog).getLast? = some (bg, v)) (hr : r.fails = []) (hrepair : s.stc.repair = false) :
    s.stcRunDone r =
      ((s.setArray a (.blank (.march (decide (v = 1)) bg s.stc.custom))).setF Reg.STC_STAT 16 5 a).stcIdle := by
  have hmarch := (runDoneDestructive_single harrays).trans (march_passes (lastGroup_clean hclean) hprog hr)
  rw [lastGroup_marchLeave harrays hclean hremaps hlast] at hmarch
  exact (stcRunDone_destructive hlive hph htodo htransp hmarch).trans (runRepairs_none hrepair htodo)

/-- A destructive run in which the silicon makes one row fail: the row is logged, and its repair is planned. -/
theorem stcRunDone_fails {bg v row : Nat} {cols : List Nat} (hlive : s.stcLive = true) (hph : s.stcPh = 2)
    (htodo : s.stc.todo = []) (htransp : s.stc.transp = false) (harrays : s.stc.arrays = [a])
    (hclean : (s.arrDenied s.stc.aid a).clean = true) (hremaps : ∀ x ∈ s.stc.remaps, x.1 / 4 ≠ a)
    (hprog : progClean none s.stc.prog = true) (hlast : (progWrites s.stc.prog).getLast? = some (bg, v))
    (hr : r.fails = [⟨a, row, 1, cols⟩]) (hrow : row < 512) (hlen : 1 < s.stc.prog.length) (hrepair : s.stc.repair = true) :
    ∃ w, s.stcRunDone r =
      let u := ((s.setArray a (.blank (.march (decide (v = 1)) bg s.stc.custom))).setF Reg.STC_STAT 16 5 a).rowLogged w a row
      { u with stc := { u.stc with todo := [(4 * a, row)] } } := by
  obtain ⟨n, hn⟩ := march_fails (custom := s.stc.custom) (lastGroup_clean hclean) hprog hlen hrow hr
  have hmarch := (runDoneDestructive_single harrays).trans hn
  obtain ⟨w, hw⟩ := stcLog_single (a := a) (s.lastGroup.marchLeave a s.stc.aid s.stc.prog s.stc.custom) n row
  rw [hw, lastGroup_marchLeave harrays hclean hremaps hlast] at hmarch
  rw [stcRunDone_destructive hlive hph htodo htransp hmarch]
  refine ⟨w, runRepairs_single ?_ ?_ ?_ ?_ ?_ ?_ hrow⟩ <;> rw [rowLogged_stc]
  · exact hrepair
  · exact harrays
  · exact htodo
  · exact htransp
  · exact hremaps

end

/-! ## A transparent run over a sound array (R310, R312) -/

section

variable {s : State} {aid a : Nat} {r : MarchResult}

/-- Every word of an array is without an error. -/
def State.soundArray (s : State) (a : Nat) : Prop := ∀ i, i < 16384 → (s.array a).eccClass a (s.cellOf a (4 * i)) = 0

theorem denies_of_clean {d : ArrDenied} (h : d.clean = true) (off : Nat) : d.denies off true = false := by
  simp [ArrDenied.denies, ArrDenied.writes_of_clean h]

/-- The two passes sign the same words where no write is denied. -/
theorem signature_clean (hclean : (s.arrDenied aid a).clean = true) (prog : List Word) :
    s.signature aid [a] prog true = s.signature aid [a] prog false := by
  simp [State.signature, groupsOf_single, State.signedWords, denies_of_clean hclean]

theorem errorReads_sound (hsound : s.soundArray a) (prog : List Word) (test : Bool) : s.errorReads aid [a] prog test = [] := by
  refine List.flatMap_eq_nil_iff.2 fun e _ => List.flatMap_eq_nil_iff.2 fun i hi => ?_
  obtain ⟨hi, hbad⟩ := List.mem_filter.1 hi
  simp [hsound i (mem_visitOrder.1 hi)] at hbad

theorem eccEvents_sound (hsound : s.soundArray a) (prog : List Word) : s.eccEvents aid [a] prog = [] := by
  simp [State.eccEvents, groupsOf_single, errorReads_sound hsound]

/-- Both passes have been made, and the run passes. -/
theorem runDoneTransparent_sound (harrays : s.stc.arrays = [a]) (hclean : (s.arrDenied s.stc.aid a).clean = true)
    (hsound : s.soundArray a) (hp : r.sigP = 0) (ha : r.sigA = 0) (hces : r.ces = 0) (hues : r.ues = []) :
    ∃ w, s.runDoneTransparent r = (s.wr Reg.STC_SIGP w).wr Reg.STC_SIGA w := by
  refine ⟨word (s.signature s.stc.aid [a] (s.stc.prog.drop 1) false), ?_⟩
  simp [State.runDoneTransparent, harrays, eccEvents_sound hsound, signature_clean hclean, hp, ha, hces, hues]

theorem stcRunDone_sound (hlive : s.stcLive = true) (hph : s.stcPh = 2) (htodo : s.stc.todo = []) (htransp : s.stc.transp = true)
    (hrepair : s.stc.repair = false) (harrays : s.stc.arrays = [a]) (hclean : (s.arrDenied s.stc.aid a).clean = true)
    (hsound : s.soundArray a) (hp : r.sigP = 0) (ha : r.sigA = 0) (hces : r.ces = 0) (hues : r.ues = []) :
    ∃ w, s.stcRunDone r = (((s.setF Reg.STC_STAT 16 5 a).wr Reg.STC_SIGP w).wr Reg.STC_SIGA w).stcIdle := by
  obtain ⟨w, hw⟩ := runDoneTransparent_sound (s := s.lastGroup) harrays (lastGroup_clean hclean) hsound hp ha hces hues
  refine ⟨w, ?_⟩
  have hended : s.stcRunDone r = (s.lastGroup.runDoneTransparent r).runRepairs := by
    simp [State.stcRunDone, hlive, hph, htodo, htransp, harrays, marchDenials_clean hclean, marchEnds, State.marchCount]
  rw [hended, hw, lastGroup_single harrays]
  exact runRepairs_none hrepair htodo

end

/-! ## Records and repairs (R302, R304) -/

/-- The NVM word of the record in slot `n` of the repair table. -/
abbrev repairSlot (n : Nat) : Nat := 0x3F1000 + 8 * n

theorem drainNvm_eq (s : State) : ∃ m, s.drainNvm = { s with nvm := m, bus := { s.bus with nvmQ := [] } } := by
  have hcommits (l : List NvmWrite) (u : State) :
      l.foldl (fun s w => s.nvmCommit w) u = { u with nvm := (l.foldl (fun s w => s.nvmCommit w) u).nvm } := by
    induction l generalizing u with
    | nil => rfl
    | cons w l ih => rw [List.foldl_cons, ih]; rfl
  unfold State.drainNvm
  rw [hcommits]
  exact ⟨_, rfl⟩

section

variable {s : State} (hgate : (s.engineGate 0 (repairSlot (s.f Reg.STC_RTNEXT 0 10)) 7 s.stc.aid 8 true).ok = true)

/-- The state once the record `lo` stands in the next slot, `m` being the NVM. -/
def State.recorded (s : State) (m : Mem) : State :=
  { s with nvm := m, bus := { s.bus with nvmQ := [] } }.wr Reg.STC_RTNEXT (word (s.f Reg.STC_RTNEXT 0 10 + 1))

include hgate in
/-- A record that gate G0 lets pass is written to the next slot, behind the words that were queued. -/
theorem stcRecord_written (hslot : s.f Reg.STC_RTNEXT 0 10 < 512) (lo : Nat) : ∃ m, s.stcRecord lo = ⟨s.recorded m, 0⟩ ∧
    (s.recorded m).nvm64 (repairSlot (s.f Reg.STC_RTNEXT 0 10)) = notWord lo := by
  obtain ⟨m, hm⟩ := drainNvm_eq s
  refine ⟨m.setBytes (repairSlot (s.f Reg.STC_RTNEXT 0 10)) (bytesLE 8 (notWord lo)), ?_, ?_⟩
  · have hpass := (Stitched.refl s).engineGate_pass (by decide) hgate
    rw [State.stcRecord, if_neg (by omega)]
    simp only [hpass, hm, if_true]
    rfl
  · have hsmall : notWord lo < 2 ^ 64 := by unfold notWord; omega
    exact (nvm64_setNvm64_self { s with nvm := m } _ _).trans (Nat.mod_eq_of_lt hsmall)

end

/-- A repair puts the spare row in the place of the row (R301, R303). -/
theorem placeRemap_rowOf (s : State) (arr row : Nat) {spare : Nat} (hspare : spare < 4) :
    (s.placeRemap arr spare row).rowOf arr row = 512 + spare := by
  unfold State.placeRemap State.rowOf
  extract_lets keep
  have hkeep : keep.find? (fun p => decide (p.1 / 4 = arr ∧ p.2 = row)) = none := by
    rw [List.find?_eq_none]
    intro p hp
    have hp := (List.mem_filter.1 hp).2
    simp only [Bool.not_or, Bool.and_eq_true, Bool.not_eq_true'] at hp
    simp [hp.2]
  have hplaced : (4 * arr + spare) / 4 = arr ∧ row = row := ⟨by omega, rfl⟩
  have hspareRow : (4 * arr + spare) % 4 = spare := by omega
  simp only [List.find?_append, hkeep, Option.none_or, List.find?_singleton, hplaced, and_self, decide_true, if_true, hspareRow]

theorem rowOf_congr {s t : State} (h : t.stc.remaps = s.stc.remaps) (arr row : Nat) : t.rowOf arr row = s.rowOf arr row := by
  rw [State.rowOf, h, State.rowOf]

theorem recorded_rd (s : State) (m : Mem) {a : Nat} (h : a ≠ Reg.STC_RTNEXT) : (s.recorded m).rd a = s.rd a :=
  State.rd_wr_ne _ _ h

theorem recorded_next (s : State) (m : Mem) :
    (s.recorded m).rd Reg.STC_RTNEXT = word (s.f Reg.STC_RTNEXT 0 10 + 1) := State.rd_wr_self _ _ _

theorem recorded_unmoved (s : State) (m : Mem) : Unmoved s (s.recorded m) :=
  have hwritten : Unmoved s { s with nvm := m, bus := { s.bus with nvmQ := [] } } := { Unmoved.refl s with }
  hwritten.wr (by decide) _

/-- The repairs of a run end. -/
theorem repairsEnd_run {u : State} (hph : u.stcPh = 2) (ok : Bool) :
    u.repairsEnd ok = { u with stc := { u.stc with todo := [] } }.stcIdle := by
  have hrun : ({ u with stc := { u.stc with todo := [] } } : State).stcPh ≠ 7 := by
    rw [State.stcPh, f_withStc, ← State.stcPh, hph]
    decide
  exact if_neg hrun

section

variable {s : State} {cell row : Nat} (hph : s.stcPh = 2) (htodo : s.stc.todo = [(cell, row)])
include hph htodo

/-- The last repair of a run: its record is written, its remap is in force, and the run has ended (R304). -/
theorem oneRepair_written
    (hgate : (s.engineGate 0 (repairSlot (s.f Reg.STC_RTNEXT 0 10)) 7 s.stc.aid 8 true).ok = true)
    (hslot : s.f Reg.STC_RTNEXT 0 10 < 512) :
    ∃ m, s.oneRepair = (let u := (s.recorded m).placeRemap (cell / 4) (cell % 4) row
      { u with stc := { u.stc with todo := [] } }.stcIdle) ∧
      (s.recorded m).nvm64 (repairSlot (s.f Reg.STC_RTNEXT 0 10)) =
        notWord (0x52000000 + cell / 4 * 0x10000 + cell % 4 * 0x4000 + row) := by
  obtain ⟨m, hrecord, hword⟩ := stcRecord_written hgate hslot (0x52000000 + cell / 4 * 0x10000 + cell % 4 * 0x4000 + row)
  refine ⟨m, ?_, hword⟩
  have hph' : ((s.recorded m).placeRemap (cell / 4) (cell % 4) row).stcPh = 2 :=
    (congrArg (fld · 28 4) (recorded_rd s m (by decide))).trans hph
  simp only [State.oneRepair, htodo, hrecord, if_true, List.isEmpty_nil]
  exact repairsEnd_run hph' true

/-- With the table full the repairs end in TFULL (R304). -/
theorem oneRepair_full (hslot : 512 ≤ s.f Reg.STC_RTNEXT 0 10) :
    s.oneRepair = (let u := s.stcErr 4
      { u with stc := { u.stc with todo := [] } }.stcIdle) := by
  have hrecord (lo : Nat) : s.stcRecord lo = ⟨s, 4⟩ := if_pos hslot
  simp only [State.oneRepair, htodo, hrecord, if_neg (show ¬4 = 0 by decide)]
  exact repairsEnd_run ((stcErr_stcPh s 4).trans hph) false

end

/-! ## Words of an array (R298, R299) -/

theorem array_setArray_self {s : State} {arr : Nat} (h : arr < s.store.length) (m : Mem) : (s.setArray arr m).array arr = m := by
  simp [State.array, State.setArray, h]

theorem array_setArray_ne (s : State) {arr b : Nat} (h : b ≠ arr) (m : Mem) : (s.setArray arr m).array b = s.array b := by
  simp [State.array, State.setArray, List.getD_eq_getElem?_getD, List.getElem?_set_ne h.symm]

/-- A whole word that is written is without an error. -/
theorem Mem.eccClass_putWord_self (m : Mem) (id : Nat) {a : Nat} {bs : List Byte} (halign : a % 4 = 0) (hlen : bs.length = 4) :
    (m.putWord a bs).eccClass id a = 0 := by
  have hdefined : (m.putWord a bs).wordDefined a = true := by
    simp only [Mem.wordDefined, List.all_eq_true, halign, Nat.sub_zero]
    intro i hi
    rw [Mem.putWord_get?, Mem.get?_setBytes_in m a bs (by rw [hlen]; exact List.mem_range.1 hi)]
    rfl
  simp only [Mem.eccClass, halign, Nat.sub_zero, Mem.putWord_ecc, hdefined, if_true]

/-- Every other word keeps its error. -/
theorem Mem.eccClass_putWord_ne (m : Mem) (id : Nat) {a b : Nat} {bs : List Byte} (ha : a % 4 = 0) (hb : b % 4 = 0) (hne : b ≠ a)
    (hlen : bs.length = 4) : (m.putWord a bs).eccClass id b = m.eccClass id b := by
  have hmark : alGet (m.putWord a bs).ecc b = alGet m.ecc b := alGet_alDel_ne _ hne
  have hseed : (m.putWord a bs).seed = m.seed := by simp only [Mem.seed, Mem.putWord, Mem.setBytes_base]
  have hdefined : (m.putWord a bs).wordDefined b = m.wordDefined b := by
    rw [Bool.eq_iff_iff]
    simp only [Mem.wordDefined, hb, Nat.sub_zero, List.all_eq_true]
    refine forall₂_congr fun i hi => ?_
    have hi := List.mem_range.1 hi
    rw [Mem.putWord_get?, Mem.get?_setBytes_out _ _ _ (by omega)]
  simp only [Mem.eccClass, hb, Nat.sub_zero, hmark, hseed, hdefined]

theorem Mem.bytes_putWord_self (m : Mem) (id a : Nat) {bs : List Byte} (hlen : bs.length = 4) :
    (m.putWord a bs).bytes id a 4 = bs := hlen ▸ Mem.bytes_setBytes_self m id a bs

theorem Mem.length_bytes (m : Mem) (id a n : Nat) : (m.bytes id a n).length = n := by simp [Mem.bytes]

/-- Writing back what was read changes no byte. -/
theorem Mem.byte_putWord_bytes (m : Mem) (id a : Nat) {i : Nat} (hi : i < 4) :
    (m.putWord a (m.bytes id a 4)).byte id (a + i) = m.byte id (a + i) := by
  have hsame := congrArg (·[i]?) (Mem.bytes_putWord_self m id a (m.length_bytes id a 4))
  simpa [Mem.bytes, hi] using hsame

theorem cellOf_aligned (s : State) (arr : Nat) {off : Nat} (h : off % 4 = 0) : s.cellOf arr off % 4 = 0 := by
  unfold State.cellOf
  omega

/-- The second word of an aligned pair lies behind the first. -/
theorem cellOf_pair (s : State) (arr : Nat) {off : Nat} (h : off % 8 = 0) : s.cellOf arr (off + 4) = s.cellOf arr off + 4 := by
  have hrow : (off + 4) / 128 = off / 128 := by omega
  unfold State.cellOf
  rw [hrow]
  omega

theorem cellOf_congr {s t : State} (h : t.stc.remaps = s.stc.remaps) (arr off : Nat) : t.cellOf arr off = s.cellOf arr off := by
  rw [State.cellOf, rowOf_congr h, State.cellOf]

/-! ## Scrubbing (R323, R324) -/

theorem satInc_eq {top n : Nat} (h : n ≤ top) : satInc top n = min top (n + 1) := by
  unfold satInc
  split <;> omega

/-- A corrected error is counted, up to the field's largest value. -/
theorem storeCE_count (s : State) : s.storeCE.f Reg.STC_ECCCNT 0 16 = min (2 ^ 16 - 1) (s.f Reg.STC_ECCCNT 0 16 + 1) := by
  have hlt : s.f Reg.STC_ECCCNT 0 16 < 2 ^ 16 := fld_lt ..
  have hcount : s.storeCE.f Reg.STC_ECCCNT 0 16 = (s.incSat Reg.STC_ECCCNT 0 16).f Reg.STC_ECCCNT 0 16 :=
    congrArg (fld · 0 16) (State.rd_wr_ne _ _ (by decide))
  rw [hcount, State.incSat, State.f_setF_self _ _ _ (by decide), satInc_eq (by omega)]
  omega

/-- The scrubber has moved on from its pair. -/
def State.scrubMoved (s : State) : State :=
  let moved := s.wr Reg.STC_SCRPOS (word ((s.scrubPos + 2) % 262144))
  { moved with stc := { moved.stc with scrubOwed := moved.stc.scrubOwed - 1 } }

theorem scrubMoved_eq (s : State) : s.scrubMoved = { s.wr Reg.STC_SCRPOS (word ((s.scrubPos + 2) % 262144)) with
    stc := { s.stc with scrubOwed := s.stc.scrubOwed - 1 } } := by
  have hkept {u : State} (hu : u.stc = s.stc) : ({ u with stc := { u.stc with scrubOwed := u.stc.scrubOwed - 1 } } : State) =
      { u with stc := { s.stc with scrubOwed := s.stc.scrubOwed - 1 } } := by rw [hu]
  exact hkept (State.wr_stc ..)

theorem scrubMoved_unmoved (s : State) : Unmoved s s.scrubMoved := ((Unmoved.refl s).wr (by decide) _).stc _

section

variable {s t : State} {slot off : Nat}

/-- The scrubber reads its pair, where the guard of no SCND loop stands before it and the gate lets it pass. -/
theorem scrubRead_goes (hlive : s.stcLive = true) (hen : s.bit Reg.STC_SCRUB 0 = true) (h1 : s.stcPh ≠ 1) (h2 : s.stcPh ≠ 2)
    (howed : s.stc.scrubOwed ≠ 0) (hguard : s.scrubPos / 16384 ∉ s.core.guard)
    (hgate : (s.engineGate 1 (storeAddr (s.scrubPos / 16384) (s.scrubPos % 16384 * 4)) 7 0x401 8 false).ok = true) :
    s.scrubRead = (s.scrubMoved.scrubWord (s.scrubPos / 16384) (s.scrubPos % 16384 * 4)).scrubWord (s.scrubPos / 16384)
      (s.scrubPos % 16384 * 4 + 4) := by
  have hruns : s.scrubRuns = true := by simp [State.scrubRuns, hlive, hen, State.runActive, h1, h2]
  have hfree (off : Nat) : s.scrubDeferred (s.scrubPos / 16384) off = false := by simp [State.scrubDeferred, hguard]
  have hpass := (scrubMoved_unmoved s).engineGate_pass (by decide) hgate
  unfold State.scrubRead
  rw [if_pos (by simp [hruns, howed, hfree])]
  extract_lets pos _ _ _ slot off gate
  have hgate : gate = ⟨s.scrubMoved, true⟩ := hpass
  rw [hgate, if_pos rfl]

theorem scrubWord_sound {arr : Nat} (harr : t.arrayOf slot = arr) (h : (t.array arr).eccClass arr (t.cellOf arr off) = 0) :
    t.scrubWord slot off = t := by
  simp only [State.scrubWord, harr, h]

/-- The word at `c` of array `arr`, which serves `slot`, is stored corrected, and counted. -/
def State.wordCorrected (s : State) (slot arr c : Nat) : State :=
  ((s.setArray arr ((s.array arr).putWord c ((s.array arr).bytes arr c 4))).storeCE).clearResv slot

theorem wordCorrected_unmoved (s : State) (slot arr c : Nat) : Unmoved s (s.wordCorrected slot arr c) := by
  have hcounted {u : State} (hu : Unmoved s u) : Unmoved s u.storeCE :=
    (hu.wr (a := Reg.STC_ECCCNT) (by decide) _).wr (a := Reg.STC_ECCCTL) (by decide) _
  have hstored := hcounted ((Unmoved.refl s).store (s.store.set arr ((s.array arr).putWord c ((s.array arr).bytes arr c 4))))
  exact ⟨hstored.toStitched.clearResv slot, fun a ha => (clearResv_rd _ _ _).trans (hstored.map a ha)⟩

theorem storeCE_stc (s : State) : s.storeCE.stc = s.stc := by rw [State.storeCE, State.setBit_stc, State.incSat_stc]

theorem storeCE_store (s : State) : s.storeCE.store = s.store := by rw [State.storeCE, State.setBit_store, State.incSat_store]

theorem wordCorrected_stc (s : State) (slot arr c : Nat) : (s.wordCorrected slot arr c).stc = s.stc := by
  rw [State.wordCorrected, clearResv_stc, storeCE_stc]
  rfl

theorem wordCorrected_array {s : State} {arr : Nat} (h : arr < s.store.length) (slot c : Nat) :
    (s.wordCorrected slot arr c).array arr = (s.array arr).putWord c ((s.array arr).bytes arr c 4) := by
  have hstore : (s.wordCorrected slot arr c).store =
      (s.setArray arr ((s.array arr).putWord c ((s.array arr).bytes arr c 4))).store := by
    rw [State.wordCorrected, clearResv_store, storeCE_store]
  rw [State.array, hstore]
  exact array_setArray_self h _

theorem wordCorrected_count (s : State) (slot arr c : Nat) :
    (s.wordCorrected slot arr c).f Reg.STC_ECCCNT 0 16 = min (2 ^ 16 - 1) (s.f Reg.STC_ECCCNT 0 16 + 1) :=
  (congrArg (fld · 0 16) (clearResv_rd _ slot _)).trans (storeCE_count _)

/-- A word with a single-bit error is corrected, where the gate lets the write pass. -/
theorem scrubWord_corrects {arr : Nat} (harr : t.arrayOf slot = arr)
    (h : (t.array arr).eccClass arr (t.cellOf arr off) = 1) (hmirror : t.bit Reg.STC_MAPSTAT 30 = false)
    (hgate : t.engineGate 1 (storeAddr slot off) 7 0x401 4 true = ⟨t, true⟩) :
    t.scrubWord slot off = t.wordCorrected slot arr (t.cellOf arr off) := by
  have hput (bs : List Byte) : t.storePut slot off bs = t.setArray arr ((t.array arr).putWord (t.cellOf arr off) bs) := by
    have hnone : t.mirrorOf slot = none := by simp [State.mirrorOf, hmirror]
    simp only [State.storePut, hnone, harr]
  simp only [State.scrubWord, harr, h, hgate, if_true, hput, State.wordCorrected]

end

/-- A pair of which the first word has a single-bit error: it is corrected, the second stays. -/
theorem scrubPair_corrects {t : State} {slot arr off : Nat} (harr : t.arrayOf slot = arr) (hlen : arr < t.store.length)
    (halign : off % 8 = 0) (h0 : (t.array arr).eccClass arr (t.cellOf arr off) = 1)
    (h4 : (t.array arr).eccClass arr (t.cellOf arr (off + 4)) = 0) (hmirror : t.bit Reg.STC_MAPSTAT 30 = false)
    (hgate : t.engineGate 1 (storeAddr slot off) 7 0x401 4 true = ⟨t, true⟩) :
    (t.scrubWord slot off).scrubWord slot (off + 4) = t.wordCorrected slot arr (t.cellOf arr off) := by
  have hcell : t.cellOf arr off % 4 = 0 := cellOf_aligned _ _ (by omega)
  rw [scrubWord_corrects harr h0 hmirror hgate]
  refine scrubWord_sound (((wordCorrected_unmoved ..).arrayOf _).trans harr) ?_
  rw [cellOf_congr (congrArg Stc.remaps (wordCorrected_stc ..)), wordCorrected_array hlen,
    Mem.eccClass_putWord_ne _ _ hcell (cellOf_aligned _ _ (by omega)) (by rw [cellOf_pair _ _ halign]; omega)
      (Mem.length_bytes ..), h4]

theorem scrubMoved_store (s : State) : s.scrubMoved.store = s.store := by
  rw [scrubMoved_eq, store_withStc, State.wr_store]

theorem scrubMoved_array (s : State) (arr : Nat) : s.scrubMoved.array arr = s.array arr := by
  rw [State.array, scrubMoved_store, State.array]

theorem scrubMoved_cellOf (s : State) (arr off : Nat) : s.scrubMoved.cellOf arr off = s.cellOf arr off :=
  cellOf_congr (by rw [scrubMoved_eq]) arr off

/-! ## The engine's commands -/

/-- What a command of STC_CMD leaves. -/
theorem leaves_ordered {c : Instr} {s t : State} {v : Word} {wr : Writer}
    (hexec : exec c s = .next (s.cmd fun s => s.regRow Reg.STC_CMD v wr)) (hs : s.calm) (hsec : s.domOn .sec = true)
    (h : s.writeStcCmd v wr = t) (ht : Stitched s t) : Leaves c s t :=
  leaves_of_stitched hexec hs ((regRow_stcCmd hsec v wr).trans h) ht

section

variable {s : State} (hs : s.awake) (hsec : s.domOn .sec = true) (hstore : s.domOn .store = true)
include hs hsec

theorem stcRun_starts {v : Word} {wr : Writer} {p : List Word} (h : StcOrder v 1) (hph : s.stcPh = 0)
    (hp : s.program (s.f Reg.STC_RUNCFG 0 3) (s.f Reg.STC_RUNCFG 4 3) (s.bit Reg.STC_RUNCFG 8) = some p) :
    ∃ t, exec (.stcRun v wr) s = .next t ∧ t.stcPh = 2 ∧ t.bit Reg.STC_STAT 0 = true ∧ t.f Reg.STC_STAT 24 4 = 0 ∧
      t.stc.prog = p ∧ t.stc.aid = wr.aid ∧ t.stc.transp = s.bit Reg.STC_RUNCFG 8 ∧ t.stc.repair = s.bit Reg.STC_RUNCFG 9 ∧
      t.rd Reg.STC_FAILCNT = 0 ∧ t.store = s.store ∧ t.core = s.core := by
  obtain ⟨hmoved, hshown⟩ := startRun_shows s p (s.bit Reg.STC_RUNCFG 8) (s.bit Reg.STC_RUNCFG 9) wr.aid
  refine ⟨_, leaves_ordered rfl hs.1 hsec (writeStcCmd_run h hph hp) hmoved.toStitched, ?_⟩
  rw [settle_stcPh, settle_stat_bit, settle_stat_f, settle_stc, settle_rd _ _ (by decide), settle_store, settle_core]
  exact hshown

theorem stcAbort_mirror {v : Word} {wr : Writer} (h : StcOrder v 4) (hph : s.stcPh = 4) :
    ∃ t, exec (.stcAbort v wr) s = .next t ∧ t.stcPh = 0 ∧ t.bit Reg.STC_MAPSTAT 30 = false ∧ t.arrayOf 16 = s.arrayOf 16 := by
  have hmoved : Unmoved s (s.clrBit Reg.STC_MAPSTAT 30).stcIdle := ((Unmoved.refl s).wr (by decide) _).stcIdle
  have hstop : s.stcStop false = (s.clrBit Reg.STC_MAPSTAT 30).stcIdle := by simp [State.stcStop, hph]
  refine ⟨_, leaves_ordered rfl hs.1 hsec ((writeStcCmd_abort h (by omega)).trans hstop) hmoved.toStitched, ?_⟩
  rw [settle_stcPh, settle_mapstat_bit, settle_arrayOf, State.bit, stcIdle_rd _ (by decide)]
  exact ⟨stcIdle_stcPh _, State.bit_putBit_self s _ _ (by decide), hmoved.arrayOf 16⟩

theorem stcXchg_exchanges {v : Word} {wr : Writer} (h : StcOrder v 5) (hph : s.stcPh = 0) (hmid : wr.mid = 0)
    (haid : wr.aid = 0x400) (hpend : s.bit Reg.STC_MAPSTAT 31 = false) :
    ∃ t, exec (.stcXchg v wr) s = .next t ∧ t.arrayOf (v.toNat % 16) = s.arrayOf 16 ∧ t.arrayOf 16 = s.arrayOf (v.toNat % 16) ∧
      (∀ m, m < 16 → m ≠ v.toNat % 16 → t.arrayOf m = s.arrayOf m) ∧ t.bit Reg.STC_STAT 1 = true ∧ t.store = s.store := by
  let n := v.toNat % 16
  have hn : n < 16 := Nat.mod_lt _ (by decide)
  have hfrom : Unmoved (s.exchange n) ((s.flip n).setF Reg.STC_STAT 24 4 0).stcIdle :=
    ((flip_unmoved s n).wr (a := Reg.STC_STAT) (by decide) _).stcIdle
  have hended : Unmoved (s.flip n) ((s.flip n).setF Reg.STC_STAT 24 4 0).stcIdle :=
    ((Unmoved.refl _).wr (a := Reg.STC_STAT) (by decide) _).stcIdle
  have hmoved := ((Stitched.refl s).flip hn).trans hended.toStitched
  refine ⟨_, leaves_ordered rfl hs.1 hsec (writeStcCmd_xchg h hph hmid haid hpend) hmoved, ?_⟩
  simp only [settle_arrayOf, settle_stat_bit, settle_store]
  refine ⟨(hfrom.arrayOf n).trans (exchange_arrayOf_self s hn), (hfrom.arrayOf 16).trans (exchange_arrayOf_unmapped s n),
    fun m hm hne => (hfrom.arrayOf m).trans (exchange_arrayOf_ne s hm hne), stcIdle_done _, ?_⟩
  exact flip_store s n

include hstore

theorem stcRunDone_leaves {a bg : Nat} {inv : Bool} {r : MarchResult} (hph : s.stcPh = 2) (htodo : s.stc.todo = [])
    (htransp : s.stc.transp = false) (harrays : s.stc.arrays = [a]) (hclean : (s.arrDenied s.stc.aid a).clean = true)
    (hremaps : ∀ x ∈ s.stc.remaps, x.1 / 4 ≠ a) (hprog : progClean none s.stc.prog = true)
    (hlast : (progWrites s.stc.prog).getLast? = some (bg, bit01 inv)) (hr : r.fails = []) (hrepair : s.stc.repair = false) :
    Leaves (.stcRunDone r) s
      ((s.setArray a (.blank (.march inv bg s.stc.custom))).setF Reg.STC_STAT 16 5 a).stcIdle := by
  have hdone := stcRunDone_passes (stcLive_awake hs hsec hstore) hph htodo htransp harrays hclean hremaps hprog hlast hr hrepair
  have hinv : decide (bit01 inv = 1) = inv := by cases inv <;> rfl
  rw [hinv] at hdone
  exact leaves_of_stitched rfl hs.1 hdone (((Unmoved.refl s).store _).wr (a := Reg.STC_STAT) (by decide) _).stcIdle.toStitched

theorem stcRunDone_plans {a bg row : Nat} {inv : Bool} {cols : List Nat} {r : MarchResult} (hph : s.stcPh = 2)
    (htodo : s.stc.todo = []) (htransp : s.stc.transp = false) (harrays : s.stc.arrays = [a])
    (hclean : (s.arrDenied s.stc.aid a).clean = true) (hremaps : ∀ x ∈ s.stc.remaps, x.1 / 4 ≠ a)
    (hprog : progClean none s.stc.prog = true) (hlast : (progWrites s.stc.prog).getLast? = some (bg, bit01 inv))
    (hr : r.fails = [⟨a, row, 1, cols⟩]) (hrow : row < 512) (hlen : 1 < s.stc.prog.length) (hrepair : s.stc.repair = true) :
    ∃ t, exec (.stcRunDone r) s = .next t ∧ t.store = (s.setArray a (.blank (.march inv bg s.stc.custom))).store ∧ t.stcPh = 2 ∧
      t.stc.todo = [(4 * a, row)] ∧ t.rd (Reg.STC_FAIL 0) = BitVec.ofNat 32 (2 ^ 31 + a * 2 ^ 16 + row) ∧
      t.bit Reg.STC_STAT 3 = true := by
  obtain ⟨w, hdone⟩ := stcRunDone_fails (stcLive_awake hs hsec hstore) hph htodo htransp harrays hclean hremaps hprog hlast hr hrow
    hlen hrepair
  have hinv : decide (bit01 inv = 1) = inv := by cases inv <;> rfl
  rw [hinv] at hdone
  let left := (s.setArray a (.blank (.march inv bg s.stc.custom))).setF Reg.STC_STAT 16 5 a
  have hleft : Unmoved s left := ((Unmoved.refl s).store _).wr (by decide) _
  refine ⟨_, leaves_of_stitched rfl hs.1 hdone ((hleft.rowLogged w a row).stc _).toStitched, ?_⟩
  rw [settle_store, settle_stcPh, settle_stc, settle_rd _ (Reg.STC_FAIL 0) (by decide), settle_stat_bit, store_withStc,
    stcPh_withStc, rd_withStc, bit_withStc, rowLogged_store, rowLogged_stcPh, rowLogged_fail, rowLogged_failed, State.setF_store]
  exact ⟨rfl, (State.f_setF_ne (s.setArray a _) _ _ (by decide)).trans hph, rfl, rfl, rfl⟩

theorem stcRunDone_keeps {a : Nat} {r : MarchResult} (hph : s.stcPh = 2) (htodo : s.stc.todo = []) (htransp : s.stc.transp = true)
    (hrepair : s.stc.repair = false) (harrays : s.stc.arrays = [a]) (hclean : (s.arrDenied s.stc.aid a).clean = true)
    (hsound : s.soundArray a) (hp : r.sigP = 0) (ha : r.sigA = 0) (hces : r.ces = 0) (hues : r.ues = []) :
    ∃ t, exec (.stcRunDone r) s = .next t ∧ t.store = s.store ∧ t.stcPh = 0 ∧ t.bit Reg.STC_STAT 1 = true ∧
      t.bit Reg.STC_STAT 3 = s.bit Reg.STC_STAT 3 ∧ t.rd Reg.STC_SIGA = t.rd Reg.STC_SIGP := by
  obtain ⟨w, hdone⟩ := stcRunDone_sound (stcLive_awake hs hsec hstore) hph htodo htransp hrepair harrays hclean hsound hp ha hces hues
  let signed := ((s.setF Reg.STC_STAT 16 5 a).wr Reg.STC_SIGP w).wr Reg.STC_SIGA w
  have hsigned : Unmoved s signed := (((Unmoved.refl s).wr (a := Reg.STC_STAT) (by decide) _).wr (by decide) _).wr (by decide) _
  have hstat : signed.rd Reg.STC_STAT = (s.setF Reg.STC_STAT 16 5 a).rd Reg.STC_STAT := by
    rw [State.rd_wr_ne _ _ (by decide), State.rd_wr_ne _ _ (by decide)]
  refine ⟨_, leaves_of_stitched rfl hs.1 hdone hsigned.stcIdle.toStitched, ?_⟩
  rw [settle_store, settle_stcPh, settle_stat_bit, settle_stat_bit, settle_rd _ _ (by decide), settle_rd _ _ (by decide),
    stcIdle_store, stcIdle_stcPh, stcIdle_done, stcIdle_bit (i := 3) _ (by decide), stcIdle_rd _ (by decide),
    stcIdle_rd _ (by decide)]
  refine ⟨?_, rfl, rfl, ?_, ?_⟩
  · rw [State.wr_store, State.wr_store, State.setF_store]
  · exact (congrArg (wbit · 3) hstat).trans (State.bit_setF_ne s _ _ (by decide))
  · rw [State.rd_wr_self, State.rd_wr_ne _ _ (by decide), State.rd_wr_self]

theorem stcRepairDone_eq (hph : s.stcPh = 2) : s.stcRepairDone = s.oneRepair := by
  simp [State.stcRepairDone, stcLive_awake hs hsec hstore, hph]

theorem stcRepairDone_repairs {cell row : Nat} (hph : s.stcPh = 2) (htodo : s.stc.todo = [(cell, row)])
    (hslot : s.f Reg.STC_RTNEXT 0 10 < 512)
    (hgate : (s.engineGate 0 (repairSlot (s.f Reg.STC_RTNEXT 0 10)) 7 s.stc.aid 8 true).ok = true) :
    ∃ t, exec .stcRepairDone s = .next t ∧ t.stc.todo = [] ∧ t.stcPh = 0 ∧ t.bit Reg.STC_STAT 1 = true ∧
      t.rowOf (cell / 4) row = 512 + cell % 4 ∧ t.rd Reg.STC_RTNEXT = BitVec.ofNat 32 (s.f Reg.STC_RTNEXT 0 10 + 1) ∧
      t.nvm64 (repairSlot (s.f Reg.STC_RTNEXT 0 10)) = notWord (0x52000000 + cell / 4 * 0x10000 + cell % 4 * 0x4000 + row) ∧
      t.store = s.store := by
  obtain ⟨m, hrepair, hword⟩ := oneRepair_written hph htodo hgate hslot
  have hdone := (stcRepairDone_eq hs hsec hstore hph).trans hrepair
  have hmoved := (((recorded_unmoved s m).stc (((s.recorded m).placeRemap (cell / 4) (cell % 4) row).stc)).stc
    { ((s.recorded m).placeRemap (cell / 4) (cell % 4) row).stc with todo := [] }).stcIdle
  refine ⟨_, leaves_of_stitched rfl hs.1 hdone hmoved.toStitched, ?_⟩
  have hremaps := placeRemap_rowOf (s.recorded m) (cell / 4) row (Nat.mod_lt cell (by decide))
  rw [rowOf_congr (congrArg Stc.remaps ((settle_stc _).trans (stcIdle_stc _))), settle_stc, settle_stcPh, settle_stat_bit,
    settle_rd _ _ (by decide), settle_nvm64, settle_store, stcIdle_stc, stcIdle_stcPh, stcIdle_done, stcIdle_store,
    stcIdle_rd _ (by decide), rd_withStc]
  refine ⟨rfl, rfl, rfl, hremaps, recorded_next s m, ?_, rfl⟩
  rw [State.nvm64, stcIdle_nvm]
  exact hword

theorem stcRepairDone_full {cell row : Nat} (hph : s.stcPh = 2) (htodo : s.stc.todo = [(cell, row)])
    (hslot : 512 ≤ s.f Reg.STC_RTNEXT 0 10) :
    ∃ t, exec .stcRepairDone s = .next t ∧ t.stc.todo = [] ∧ t.stcPh = 0 ∧ t.f Reg.STC_STAT 24 4 = 4 ∧
      t.bit Reg.STC_STAT 2 = true ∧ t.stc.remaps = s.stc.remaps ∧ t.nvm = s.nvm := by
  have hdone := (stcRepairDone_eq hs hsec hstore hph).trans (oneRepair_full hph htodo hslot)
  refine ⟨_, leaves_of_stitched rfl hs.1 hdone (((Unmoved.refl s).stcErr 4).stc _).stcIdle.toStitched, ?_⟩
  rw [settle_stc, settle_stcPh, settle_stat_bit, settle_stat_f, settle_nvm, stcIdle_stc, stcIdle_stcPh,
    stcIdle_f _ (by decide), f_withStc, stcIdle_bit _ (by decide), bit_withStc, stcIdle_nvm, stcErr_code s (by decide), stcErr_err]
  exact ⟨rfl, rfl, rfl, rfl, rfl, rfl⟩

section

variable (hen : s.bit Reg.STC_SCRUB 0 = true) (h1 : s.stcPh ≠ 1) (h2 : s.stcPh ≠ 2) (howed : s.stc.scrubOwed ≠ 0)
  {bank off arr : Nat} (hbank : s.scrubPos / 16384 = bank) (hoff : s.scrubPos % 16384 * 4 = off) (harr : s.arrayOf bank = arr)
  (hguard : bank ∉ s.core.guard) (hgate : (s.engineGate 1 (storeAddr bank off) 7 0x401 8 false).ok = true)
include hen h1 h2 howed hbank hoff harr hguard hgate

theorem scrubRead_leaves (h0 : (s.array arr).eccClass arr (s.cellOf arr off) = 0)
    (h4 : (s.array arr).eccClass arr (s.cellOf arr (off + 4)) = 0) : Leaves .scrubRead s s.scrubMoved := by
  have hmoved := scrubMoved_unmoved s
  have harr' : s.scrubMoved.arrayOf bank = arr := (hmoved.arrayOf bank).trans harr
  rw [← scrubMoved_array, ← scrubMoved_cellOf] at h0 h4
  subst hbank hoff
  have hread := scrubRead_goes (stcLive_awake hs hsec hstore) hen h1 h2 howed hguard hgate
  rw [scrubWord_sound harr' h0, scrubWord_sound harr' h4] at hread
  exact leaves_of_stitched rfl hs.1 hread hmoved.toStitched

theorem scrubRead_corrects (hlen : arr < s.store.length) (h0 : (s.array arr).eccClass arr (s.cellOf arr off) = 1)
    (h4 : (s.array arr).eccClass arr (s.cellOf arr (off + 4)) = 0) (hmirror : s.bit Reg.STC_MAPSTAT 30 = false)
    (hwrite : (s.engineGate 1 (storeAddr bank off) 7 0x401 4 true).ok = true) :
    ∃ t, exec .scrubRead s = .next t ∧ (t.array arr).eccClass arr (s.cellOf arr off) = 0 ∧
      t.f Reg.STC_ECCCNT 0 16 = min (2 ^ 16 - 1) (s.f Reg.STC_ECCCNT 0 16 + 1) ∧
      ∀ i, i < 4 → (t.array arr).byte arr (s.cellOf arr off + i) = (s.array arr).byte arr (s.cellOf arr off + i) := by
  have hmoved := scrubMoved_unmoved s
  have harr' : s.scrubMoved.arrayOf bank = arr := (hmoved.arrayOf bank).trans harr
  have hmirror' : s.scrubMoved.bit Reg.STC_MAPSTAT 30 = false := by
    rw [scrubMoved_eq, bit_withStc, State.bit, State.rd_wr_ne _ _ (by decide)]
    exact hmirror
  have halign : off % 8 = 0 := by simp only [State.scrubPos] at hoff; omega
  have hlen' : arr < s.scrubMoved.store.length := by rwa [scrubMoved_store]
  rw [← scrubMoved_array, ← scrubMoved_cellOf] at h0 h4
  have hread := scrubRead_goes (stcLive_awake hs hsec hstore) hen h1 h2 howed (hbank.symm ▸ hguard)
    (by rw [hbank, hoff]; exact hgate)
  rw [hbank, hoff, scrubPair_corrects harr' hlen' halign h0 h4 hmirror' (hmoved.engineGate_pass (by decide) hwrite),
    scrubMoved_cellOf] at hread
  refine ⟨_, leaves_of_stitched rfl hs.1 hread (hmoved.trans (wordCorrected_unmoved ..)).toStitched, ?_⟩
  rw [settle_f _ _ _ _ (by decide), State.array, settle_store, ← State.array, wordCorrected_array hlen', wordCorrected_count,
    scrubMoved_array, scrubMoved_eq, f_withStc, State.f, State.rd_wr_ne _ _ (by decide)]
  exact ⟨Mem.eccClass_putWord_self _ _ (cellOf_aligned _ _ (by omega)) (Mem.length_bytes ..), rfl,
    fun i hi => Mem.byte_putWord_bytes _ _ _ hi⟩

end

end

/-- CLR of STC_ECCCTL clears both counts (R299). -/
theorem stcEccClr_leaves {s : State} (hs : s.awake) (hsec : s.domOn .sec = true) {v : Word} (hclr : v.getLsbD 8 = true)
    (wr : Writer) : Leaves (.stcEccClr v wr) s ((s.wr Reg.STC_ECCCTL (s.written Reg.STC_ECCCTL v)).wr Reg.STC_ECCCNT 0) := by
  have hup : s.regUp Reg.STC_ECCCTL = true := (regUp_block (gate := 4) rfl (by decide) s).trans hsec
  have hwrite : s.regRow Reg.STC_ECCCTL v wr = (s.wr Reg.STC_ECCCTL (s.written Reg.STC_ECCCTL v)).wr Reg.STC_ECCCNT 0 :=
    (regRow_up hup v wr).trans (if_pos hclr)
  exact leaves_of_stitched rfl hs.1 hwrite (((Stitched.refl s).wr (by decide) _).wr (by decide) _)

/-- Settles O33: what each command leaves is read off the engine's rules. A march over an array that no gate denies leaves its last
write and finds what the silicon adds alone; the two passes of a transparent run sign the same words. -/
theorem stitchRuns : Obligations.StitchRuns := by
  unfold Obligations.StitchRuns
  intro s v wr r p a bg row cell cols inv hs hsec hstore hlen keyed op n prog rej slot recordAt pos bank off arr ecc
  refine ⟨fun hkey hop hph hp => ?_, fun hkey hop hph hp => ?_, fun hkey => ?_,
    fun hph htodo htransp harrays hclean hremaps hprog hlast => ⟨fun hr hrepair => ?_, fun hr hrow hlong hrepair => ?_⟩,
    fun hph htodo htransp hrepair harrays hclean hsound _ hp ha hces hues => ?_,
    fun hph htodo => ⟨fun hslot hgate => ?_, fun hslot => ?_⟩, fun hkey hop hph => ?_, fun hkey hop hph => ?_,
    fun hkey hop hph hmid haid hpend => ?_, fun hkey hop hph hdenied => ?_, fun hclr => ?_,
    fun hen h1 h2 howed hguard hgate => ⟨fun h0 h4 => ?_, fun h0 h4 hsmall hmirror hwrite => ?_⟩⟩
  · exact stcRun_starts hs hsec (stcOrder_of hkey hop) hph hp
  · exact leaves_ordered rfl hs.1 hsec (writeStcCmd_run_illegal (stcOrder_of hkey hop) hph hp)
      ((Unmoved.refl s).stcErr 1).toStitched
  · exact leaves_rejected rfl hs.1 hsec (writeStcCmd_unkeyed hkey s wr)
  · exact stcRunDone_leaves hs hsec hstore hph htodo htransp harrays hclean hremaps hprog hlast hr hrepair
  · exact stcRunDone_plans hs hsec hstore hph htodo htransp harrays hclean hremaps hprog hlast hr hrow hlong hrepair
  · exact stcRunDone_keeps hs hsec hstore hph htodo htransp hrepair harrays hclean hsound hp ha hces hues
  · exact stcRepairDone_repairs hs hsec hstore hph htodo hslot hgate
  · exact stcRepairDone_full hs hsec hstore hph htodo hslot
  · exact leaves_rejected rfl hs.1 hsec (writeStcCmd_abort_refused (stcOrder_of hkey hop) hph)
  · exact stcAbort_mirror hs hsec (stcOrder_of hkey hop) hph
  · exact stcXchg_exchanges hs hsec (stcOrder_of hkey hop) hph hmid haid hpend
  · exact leaves_rejected rfl hs.1 hsec (writeStcCmd_xchg_refused (stcOrder_of hkey hop) hph hdenied)
  · exact stcEccClr_leaves hs hsec hclr wr
  · have hleaves := scrubRead_leaves hs hsec hstore hen h1 h2 howed rfl rfl rfl hguard hgate h0 h4
    rw [scrubMoved_eq] at hleaves
    exact hleaves
  · exact scrubRead_corrects hs hsec hstore hen h1 h2 howed rfl rfl rfl hguard hgate (hlen ▸ hsmall) h0 h4 hmirror hwrite

/-! ## The steps of a bank swap (R315 to R320) -/

theorem stcPhase_stc (s : State) (p : Nat) : (s.stcPhase p).stc = s.stc := by
  rw [State.stcPhase, State.putBit_stc, State.setF_stc]

theorem stcPhase_store (s : State) (p : Nat) : (s.stcPhase p).store = s.store := by
  rw [State.stcPhase, State.putBit_store, State.setF_store]

theorem stcHeld_rd (s : State) {a : Nat} (h : a ≠ Reg.STC_STAT) : s.stcHeld.rd a = s.rd a :=
  (State.rd_wr_ne _ _ h).trans (stcPhase_rd s 8 h)

theorem stcHeld_stc (s : State) : s.stcHeld.stc = s.stc := by rw [State.stcHeld, State.setBit_stc, stcPhase_stc]

theorem stcNewLog_stc (s : State) : s.stcNewLog.stc = { s.stc with fails := [], todo := [] } := by rw [stcNewLog_eq]

theorem swapBank_lt (s : State) : s.swapBank < 16 := fld_lt ..

/-- The state in which a swap of bank `n` has started, but for its phase. -/
def State.swapOpened (s : State) (n : Nat) (p : List Word) (aid : Nat) (custom : Word) : State :=
  ({ s.stcNewLog.setF Reg.STC_STAT 24 4 0 with
    stc := { s.stcNewLog.stc with prog := p, custom := custom, transp := false, repair := false, aid := aid, u := s.arrayOf 16,
                                  f := s.arrayOf n, arrays := [s.arrayOf 16], fGood := false, copyPos := 0 } }.setF
    Reg.STC_MAPSTAT 16 4 n).setF Reg.STC_STAT 16 5 (s.arrayOf 16)

theorem startSwap_eq (s : State) (n : Nat) (p : List Word) (aid : Nat) :
    ∃ custom, s.startSwap n p aid = (s.swapOpened n p aid custom).stcPhase 3 := by
  unfold State.startSwap
  extract_lets u f opened custom
  exact ⟨custom, rfl⟩

theorem swapOpened_unmoved (s : State) (n : Nat) (p : List Word) (aid : Nat) (custom : Word) :
    Unmoved s (s.swapOpened n p aid custom) :=
  ((((Unmoved.refl s).stcNewLog.wr (a := Reg.STC_STAT) (by decide) _).stc _).wr (a := Reg.STC_MAPSTAT) (by decide) _).wr
    (by decide) _

/-- SWAP starts the pretest of the unmapped array (R315). -/
theorem startSwap_shows (s : State) {n : Nat} (hn : n < 16) (p : List Word) (aid : Nat) :
    let t := s.startSwap n p aid
    Unmoved s t ∧ t.stcPh = 3 ∧ t.bit Reg.STC_STAT 0 = true ∧ t.swapBank = n ∧ t.stc.u = s.arrayOf 16 ∧ t.stc.f = s.arrayOf n ∧
      t.stc.prog = p ∧ t.stc.fGood = false ∧ t.store = s.store := by
  obtain ⟨custom, hstart⟩ := startSwap_eq s n p aid
  simp only [hstart, stcPhase_stc, stcPhase_store]
  refine ⟨(swapOpened_unmoved ..).stcPhase 3, stcPhase_stcPh _ (by decide), stcPhase_busy _ _, ?_, rfl, rfl, rfl, rfl, ?_⟩
  · rw [State.swapBank, State.f, stcPhase_rd _ _ (by decide), ← State.f, State.swapOpened, State.f_setF_other _ _ (by decide),
      State.f_setF_self _ _ _ (by decide)]
    exact Nat.mod_eq_of_lt hn
  · rw [State.swapOpened, State.setF_store, State.setF_store, store_withStc, State.setF_store, stcNewLog_store]

theorem startCopy_stcPh (s : State) {p : Nat} (hp : p < 16) (arr : Nat) : (s.startCopy p arr).stcPh = p := stcPhase_stcPh _ hp

/-- Copying mirrors (R316). -/
theorem startCopy_mirror (s : State) (p arr : Nat) : (s.startCopy p arr).bit Reg.STC_MAPSTAT 30 = true := by
  rw [State.startCopy, State.bit, stcPhase_rd _ _ (by decide), State.rd_setF, if_neg (by decide)]
  exact State.bit_putBit_self _ _ _ (by decide)

theorem startCopy_stc (s : State) (p arr : Nat) : (s.startCopy p arr).stc = { s.stc with copyPos := 0 } := by
  rw [State.startCopy, stcPhase_stc, State.setF_stc, State.setBit_stc]

theorem startCopy_store (s : State) (p arr : Nat) : (s.startCopy p arr).store = s.store := by
  rw [State.startCopy, stcPhase_store, State.setF_store, State.setBit_store, store_withStc]

theorem startCopy_mapstat (s : State) (p arr : Nat) {i : Nat} (hi : i ≠ 30) :
    (s.startCopy p arr).bit Reg.STC_MAPSTAT i = s.bit Reg.STC_MAPSTAT i := by
  rw [State.startCopy, State.bit, stcPhase_rd _ _ (by decide), State.rd_setF, if_neg (by decide)]
  exact State.bit_putBit_ne _ _ _ hi

/-! ## Tests of the two arrays (R315, R319) -/

theorem marchLeave_unmoved (s : State) (a aid : Nat) (prog : List Word) (custom : Word) :
    Unmoved s (s.marchLeave a aid prog custom) := by
  rw [marchLeave_eq]
  exact (Unmoved.refl s).store _

theorem marchLeave_rd (s : State) (a aid : Nat) (prog : List Word) (custom : Word) (b : Nat) :
    (s.marchLeave a aid prog custom).rd b = s.rd b := by
  rw [marchLeave_eq]; rfl

/-- MATS+ reads what it has written last. -/
theorem matsPlus_clean : progClean none (preset 1) = true := by decide

section

variable {s : State} {r : MarchResult} (hlive : s.stcLive = true)
include hlive

/-- A pretest in which nothing fails starts the mirroring. -/
theorem swapPretestDone_passes (hph : s.stcPh = 3) (hclean : (s.arrDenied s.stc.aid s.stc.u).clean = true) (hr : r.fails = []) :
    s.swapPretestDone r = (s.marchLeave s.stc.u s.stc.aid (preset 1) 0).startCopy 4 s.stc.u := by
  simp [State.swapPretestDone, hlive, hph, march_passes hclean matsPlus_clean hr]

/-- A pretest in which a row fails ends the swap with SPAREFAIL. -/
theorem swapPretestDone_fails {row : Nat} {cols : List Nat} (hph : s.stcPh = 3)
    (hclean : (s.arrDenied s.stc.aid s.stc.u).clean = true) (hr : r.fails = [⟨s.stc.u, row, 1, cols⟩]) (hrow : row < 512) :
    ∃ w, s.swapPretestDone r =
      (((s.marchLeave s.stc.u s.stc.aid (preset 1) 0).rowLogged w s.stc.u row).stcErr 2).stcIdle := by
  obtain ⟨n, hmarch⟩ := march_fails (custom := 0) hclean matsPlus_clean (by decide) hrow hr
  obtain ⟨w, hlog⟩ := stcLog_single (a := s.stc.u) (s.marchLeave s.stc.u s.stc.aid (preset 1) 0) n row
  rw [hlog] at hmarch
  exact ⟨w, by simp only [State.swapPretestDone, hlive, hph, hmarch, decide_true, Bool.and_self, if_true]⟩

/-- A test of F in which nothing fails. -/
theorem swapTestDone_passes (hph : s.stcPh = 6) (hclean : (s.arrDenied s.stc.aid s.stc.f).clean = true)
    (hprog : progClean none s.stc.prog = true) (hr : r.fails = []) :
    s.swapTestDone r = (s.marchLeave s.stc.f s.stc.aid s.stc.prog s.stc.custom).afterTest true := by
  simp [State.swapTestDone, hlive, hph, march_passes hclean hprog hr]

end

theorem Unmoved.afterTest {s t : State} (h : Unmoved s t) (ok : Bool) : Unmoved s (t.afterTest ok) := by
  unfold State.afterTest
  extract_lets _ u
  have hu : Unmoved s u := h.stc _
  split
  · exact hu.startCopy 9 _
  · split
    · exact hu.stcHeld
    · exact hu.stcPhase 11

/-- What follows a test that F has passed (Table 10.7): F is held, kept or returned. -/
theorem afterTest_passed (s : State) :
    (s.afterTest true).stcPh =
      (if s.bit Reg.STC_SWPCFG 10 = false then 8 else if s.bit Reg.STC_SWPCFG 9 then 11 else 9) ∧
    (s.afterTest true).stc.fGood = true ∧ (s.afterTest true).bit Reg.STC_MAPSTAT 31 = s.bit Reg.STC_MAPSTAT 31 := by
  unfold State.afterTest
  extract_lets _ u
  have hbit (a i : Nat) : u.bit a i = s.bit a i := rfl
  rw [hbit, hbit]
  by_cases hret : s.bit Reg.STC_SWPCFG 10 = true
  · by_cases hkeep : s.bit Reg.STC_SWPCFG 9 = true
    · simp only [hret, hkeep, Bool.not_true, Bool.and_false, Bool.false_eq_true, Bool.true_eq_false, if_true, if_false, stcPhase_stc]
      exact ⟨stcPhase_stcPh u (by decide), rfl, congrArg (wbit · 31) (stcPhase_rd u 11 (by decide))⟩
    · simp only [hret, hkeep, Bool.not_false, Bool.and_true, Bool.false_eq_true, Bool.true_eq_false, if_true, if_false,
        startCopy_stc]
      exact ⟨startCopy_stcPh u (by decide) _, rfl, startCopy_mapstat u _ _ (by decide)⟩
  · simp only [hret, Bool.not_false, Bool.and_true, Bool.and_false, Bool.false_and, Bool.false_eq_true, if_true, if_false, stcHeld_stc]
    exact ⟨stcHeld_stcPh u, rfl, congrArg (wbit · 31) (stcHeld_rd u (by decide))⟩

/-! ## Copying (R316, R317) -/

/-- Four bytes are those of the number they make. -/
theorem bytesLE_numLE (bs : List Byte) : bytesLE bs.length (numLE bs) = bs := by
  induction bs with
  | nil => rfl
  | cons b bs ih =>
    have hrest (i : Nat) : (b.toNat + 0x100 * numLE bs) >>> (8 * (i + 1)) = numLE bs >>> (8 * i) := by
      rw [Nat.mul_succ, Nat.add_comm (8 * i), Nat.shiftRight_add, Nat.shiftRight_eq_div_pow _ 8]
      have := b.isLt
      congr 1
      omega
    have hfirst : BitVec.ofNat 8 (b.toNat + 0x100 * numLE bs) = b := by
      apply BitVec.eq_of_toNat_eq
      have := b.isLt
      rw [BitVec.toNat_ofNat]
      omega
    simp only [bytesLE, numLE, List.length_cons, List.range_succ_eq_map, List.map_cons, List.map_map, Function.comp_def,
      Nat.succ_eq_add_one, hrest, Nat.mul_zero, Nat.shiftRight_zero, hfirst]
    exact congrArg (b :: ·) ih

/-- A word without an error is copied as it is. -/
theorem copyWord_sound {s : State} {n src dst off : Nat} (hsrc : s.arrayOf n = src) (hdst : s.arrayOf 16 = dst)
    (halign : off % 4 = 0) (h : (s.array src).eccClass src (s.cellOf src off) = 0) :
    s.copyWord n off =
      s.setArray dst ((s.array dst).putWord (s.cellOf dst off) ((s.array src).bytes src (s.cellOf src off) 4)) := by
  have hread : s.storeWord n off 2 3 7 s.stc.aid = ⟨s, numLE ((s.array src).bytes src (s.cellOf src off) 4), none⟩ := by
    simp only [State.storeWord, hsrc, halign, Nat.sub_zero, h]
  have hbytes := bytesLE_numLE ((s.array src).bytes src (s.cellOf src off) 4)
  rw [Mem.length_bytes] at hbytes
  simp only [State.copyWord, hread, hdst, hbytes]

/-- A pair of words without an error is copied to another array. -/
theorem copyPair_sound {s : State} {n src dst off : Nat} (hsrc : s.arrayOf n = src) (hdst : s.arrayOf 16 = dst)
    (hne : src ≠ dst) (hlen : dst < s.store.length) (halign : off % 8 = 0)
    (h0 : (s.array src).eccClass src (s.cellOf src off) = 0) (h4 : (s.array src).eccClass src (s.cellOf src (off + 4)) = 0) :
    (s.copyWord n off).copyWord n (off + 4) = s.setArray dst
      (((s.array dst).putWord (s.cellOf dst off) ((s.array src).bytes src (s.cellOf src off) 4)).putWord
        (s.cellOf dst (off + 4)) ((s.array src).bytes src (s.cellOf src (off + 4)) 4)) := by
  rw [copyWord_sound hsrc hdst (by omega) h0]
  let first := (s.array dst).putWord (s.cellOf dst off) ((s.array src).bytes src (s.cellOf src off) 4)
  have hcell (arr off : Nat) : (s.setArray dst first).cellOf arr off = s.cellOf arr off := cellOf_congr rfl arr off
  have hkept : (s.setArray dst first).array src = s.array src := array_setArray_ne s hne first
  rw [copyWord_sound (s := s.setArray dst first) hsrc hdst (by omega) (by rw [hkept, hcell]; exact h4), hkept, hcell, hcell,
    array_setArray_self hlen]
  simp only [State.setArray, List.set_set, first]

/-- A beat that both gates let pass copies its 64 bits and moves on; behind the last the flip follows. -/
theorem copyBeat_copies {s t : State} (hlive : s.stcLive = true) (hph : s.stcPh = 4)
    (hread : (s.engineGate 1 (storeAddr s.swapBank (8 * s.stc.copyPos)) 7 s.stc.aid 8 false).ok = true)
    (hwrite : (s.engineGate 1 (storeAddr 16 (8 * s.stc.copyPos)) 7 s.stc.aid 8 true).ok = true)
    (hpair : (s.copyWord s.swapBank (8 * s.stc.copyPos)).copyWord s.swapBank (8 * s.stc.copyPos + 4) = t) :
    s.copyBeat = (let u := { t with stc := { t.stc with copyPos := s.stc.copyPos + 1 } }
      if s.stc.copyPos + 1 < 8192 then u else u.stcPhase 5) := by
  have hreads := (Stitched.refl s).engineGate_pass (by decide) hread
  have hwrites := (Stitched.refl s).engineGate_pass (by decide) hwrite
  have hph9 : decide (s.stcPh = 9) = false := by simp [hph]
  simp only [State.copyBeat, hlive, hph, decide_true, Bool.true_or, Bool.and_self, hreads, hwrites, hpair, if_true]

/-! ## Flips (R318, R319) -/

/-- The state once the bank is out and its test has begun. -/
def State.testOpened (s : State) : State :=
  let flipped := s.flipOut.stcNewLog
  (flipped.setF Reg.STC_STAT 16 5 flipped.stc.f).stcPhase 6

theorem swapFlip_out {s : State} (hlive : s.stcLive = true) (hph : s.stcPh = 5) : s.swapFlip = s.testOpened := by
  rw [State.swapFlip, if_pos hlive, State.flipNow, if_pos hph, State.testOpened]

theorem swapFlip_back {s : State} (hlive : s.stcLive = true) (hph : s.stcPh = 10) : s.swapFlip = s.flipBack.stcIdle := by
  rw [State.swapFlip, if_pos hlive, State.flipNow, if_neg (by omega), if_pos hph]

theorem flipOut_unmoved (s : State) : Unmoved (s.flip s.swapBank) s.flipOut := ((Unmoved.refl _).wr (by decide) _).stc _

theorem swapEnds_unmoved (s : State) : Unmoved s s.swapEnds := ((Unmoved.refl s).wr (by decide) _).stc _

/-- PEND shows while the bank is out (R318). -/
theorem flipOut_mapstat (s : State) :
    s.flipOut.bit Reg.STC_MAPSTAT 31 = true ∧ s.flipOut.bit Reg.STC_MAPSTAT 30 = false := by
  refine ⟨State.bit_putBit_self _ _ _ (by decide), (State.bit_putBit_ne _ _ _ (by decide)).trans ?_⟩
  rw [State.bit, flip_mapstat s (swapBank_lt s), wbit_wputBit_self _ _ _ (by decide)]

theorem swapEnds_pend (s : State) : s.swapEnds.bit Reg.STC_MAPSTAT 31 = false := State.bit_putBit_self _ _ _ (by decide)

theorem swapEnds_mapstat (s : State) {i : Nat} (h : i ≠ 31) : s.swapEnds.bit Reg.STC_MAPSTAT i = s.bit Reg.STC_MAPSTAT i :=
  State.bit_putBit_ne _ _ _ h

theorem swapEnds_store (s : State) : s.swapEnds.store = s.store := by rw [State.swapEnds, store_withStc, State.clrBit_store]

theorem flipOut_store (s : State) : s.flipOut.store = s.store := by
  rw [State.flipOut, store_withStc, State.setBit_store, flip_store]

theorem testOpened_unmoved (s : State) : Unmoved (s.flip s.swapBank) s.testOpened :=
  ((flipOut_unmoved s).stcNewLog.wr (a := Reg.STC_STAT) (by decide) _).stcPhase 6

theorem testOpened_mapstat (s : State) (i : Nat) : s.testOpened.bit Reg.STC_MAPSTAT i = s.flipOut.bit Reg.STC_MAPSTAT i := by
  rw [State.testOpened, State.bit, stcPhase_rd _ _ (by decide), State.rd_setF, if_neg (by decide), stcNewLog_rd _ (by decide),
    State.bit]

theorem testOpened_stc (s : State) : s.testOpened.stc = { s.flipOut.stc with fails := [], todo := [] } := by
  rw [State.testOpened, stcPhase_stc, State.setF_stc, stcNewLog_stc]

theorem testOpened_store (s : State) : s.testOpened.store = s.store := by
  rw [State.testOpened, stcPhase_store, State.setF_store, stcNewLog_store, flipOut_store]

/-- What a flip of the swap's bank leaves in the map. -/
theorem exchanged_of_flip {s t : State} (h : Unmoved (s.flip s.swapBank) t) :
    t.arrayOf s.swapBank = s.arrayOf 16 ∧ t.arrayOf 16 = s.arrayOf s.swapBank := by
  have hmap := (flip_unmoved s s.swapBank).trans h
  exact ⟨(hmap.arrayOf _).trans (exchange_arrayOf_self s (swapBank_lt s)),
    (hmap.arrayOf 16).trans (exchange_arrayOf_unmapped s _)⟩

/-! ## The commands and events of a swap -/

section

variable {s : State} (hs : s.awake) (hsec : s.domOn .sec = true) (hstore : s.domOn .store = true)
include hs hsec

theorem stcSwap_starts {v : Word} {wr : Writer} {p : List Word} (h : StcOrder v 2) (hph : s.stcPh = 0)
    (hpend : s.bit Reg.STC_MAPSTAT 31 = false)
    (hp : s.program (s.f Reg.STC_SWPCFG 0 3) (s.f Reg.STC_SWPCFG 4 3) false = some p) :
    ∃ t, exec (.stcSwap v wr) s = .next t ∧ t.stcPh = 3 ∧ t.bit Reg.STC_STAT 0 = true ∧ t.swapBank = v.toNat % 16 ∧
      t.stc.u = s.arrayOf 16 ∧ t.stc.f = s.arrayOf (v.toNat % 16) ∧ t.stc.prog = p ∧ t.stc.fGood = false ∧ t.store = s.store := by
  obtain ⟨hmoved, hshown⟩ := startSwap_shows s (Nat.mod_lt v.toNat (show 0 < 16 by decide)) p wr.aid
  refine ⟨_, leaves_ordered rfl hs.1 hsec (writeStcCmd_swap h hph hpend hp) hmoved.toStitched, ?_⟩
  rw [settle_stcPh, settle_stat_bit, settle_swapBank, settle_stc, settle_store]
  exact hshown

theorem stcReturn_keeps {v : Word} {wr : Writer} (h : StcOrder v 3) (hph : s.stcPh = 8) (hkeep : s.bit Reg.STC_SWPCFG 9 = true) :
    ∃ t, exec (.stcReturn v wr) s = .next t ∧ t.stcPh = 11 ∧ t.stc.aid = wr.aid ∧ t.store = s.store := by
  have hreturn : s.stcReturn wr.aid = ({ s with stc := { s.stc with aid := wr.aid } } : State).stcPhase 11 := by
    simp [State.stcReturn, hph, hkeep]
  refine ⟨_, leaves_ordered rfl hs.1 hsec ((writeStcCmd_return h).trans hreturn)
    (((Unmoved.refl s).stc _).stcPhase 11).toStitched, ?_⟩
  rw [settle_stcPh, settle_stc, settle_store, stcPhase_stc, stcPhase_store, stcPhase_stcPh _ (by decide)]
  exact ⟨rfl, rfl, rfl⟩

theorem stcReturn_copies {v : Word} {wr : Writer} (h : StcOrder v 3) (hph : s.stcPh = 8) (hkeep : s.bit Reg.STC_SWPCFG 9 = false)
    (hgood : s.stc.fGood = true) :
    ∃ t, exec (.stcReturn v wr) s = .next t ∧ t.stcPh = 9 ∧ t.bit Reg.STC_MAPSTAT 30 = true ∧ t.stc.copyPos = 0 ∧
      t.stc.aid = wr.aid ∧ t.store = s.store := by
  have hreturn : s.stcReturn wr.aid = ({ s with stc := { s.stc with aid := wr.aid } } : State).startCopy 9 s.stc.f := by
    simp [State.stcReturn, hph, hkeep, hgood]
  refine ⟨_, leaves_ordered rfl hs.1 hsec ((writeStcCmd_return h).trans hreturn)
    (((Unmoved.refl s).stc _).startCopy 9 _).toStitched, ?_⟩
  rw [settle_stcPh, settle_mapstat_bit, settle_stc, settle_store, startCopy_stcPh _ (by decide), startCopy_mirror, startCopy_stc,
    startCopy_store]
  exact ⟨rfl, rfl, rfl, rfl, rfl⟩

theorem stcReturn_refused {v : Word} {wr : Writer} (h : StcOrder v 3) (hkeep : s.bit Reg.STC_SWPCFG 9 = false)
    (hbad : s.stc.fGood = false) : Leaves (.stcReturn v wr) s (s.setBit Reg.STC_STAT 8) := by
  have hreturn : s.stcReturn wr.aid = s.stcRej := by simp [State.stcReturn, hkeep, hbad]
  exact leaves_rejected rfl hs.1 hsec ((writeStcCmd_return h).trans hreturn)

include hstore

theorem swapPretestDone_mirrors {r : MarchResult} (hph : s.stcPh = 3) (hclean : (s.arrDenied s.stc.aid s.stc.u).clean = true)
    (hr : r.fails = []) :
    ∃ t, exec (.swapPretestDone r) s = .next t ∧ t.stcPh = 4 ∧ t.bit Reg.STC_MAPSTAT 30 = true ∧ t.stc.copyPos = 0 ∧
      t.arrayOf s.swapBank = s.arrayOf s.swapBank ∧ t.arrayOf 16 = s.arrayOf 16 := by
  have hmoved := (marchLeave_unmoved s s.stc.u s.stc.aid (preset 1) 0).startCopy 4 s.stc.u
  refine ⟨_, leaves_of_stitched rfl hs.1 (swapPretestDone_passes (stcLive_awake hs hsec hstore) hph hclean hr)
    hmoved.toStitched, ?_⟩
  rw [settle_stcPh, settle_mapstat_bit, settle_stc, settle_arrayOf, settle_arrayOf, startCopy_stcPh _ (by decide),
    startCopy_mirror, startCopy_stc]
  exact ⟨rfl, rfl, rfl, hmoved.arrayOf _, hmoved.arrayOf _⟩

theorem swapPretestDone_ends {r : MarchResult} {row : Nat} {cols : List Nat} (hph : s.stcPh = 3)
    (hclean : (s.arrDenied s.stc.aid s.stc.u).clean = true) (hr : r.fails = [⟨s.stc.u, row, 1, cols⟩]) (hrow : row < 512) :
    ∃ t, exec (.swapPretestDone r) s = .next t ∧ t.stcPh = 0 ∧ t.f Reg.STC_STAT 24 4 = 2 ∧ t.bit Reg.STC_STAT 2 = true ∧
      t.arrayOf s.swapBank = s.arrayOf s.swapBank ∧ t.arrayOf 16 = s.arrayOf 16 := by
  obtain ⟨w, hdone⟩ := swapPretestDone_fails (stcLive_awake hs hsec hstore) hph hclean hr hrow
  have hmoved := (((marchLeave_unmoved s s.stc.u s.stc.aid (preset 1) 0).rowLogged w s.stc.u row).stcErr 2).stcIdle
  refine ⟨_, leaves_of_stitched rfl hs.1 hdone hmoved.toStitched, ?_⟩
  rw [settle_stcPh, settle_stat_f, settle_stat_bit, settle_arrayOf, settle_arrayOf, stcIdle_stcPh, stcIdle_f _ (by decide),
    stcIdle_bit _ (by decide), stcErr_code _ (by decide), stcErr_err]
  exact ⟨rfl, rfl, rfl, hmoved.arrayOf _, hmoved.arrayOf _⟩

theorem copyBeat_leaves {src dst off : Nat} (hph : s.stcPh = 4) (hsrc : s.arrayOf s.swapBank = src) (hdst : s.arrayOf 16 = dst)
    (hoff : 8 * s.stc.copyPos = off) (hne : src ≠ dst) (hlen : dst < s.store.length) (hpos : s.stc.copyPos < 8192)
    (hread : (s.engineGate 1 (storeAddr s.swapBank off) 7 s.stc.aid 8 false).ok = true)
    (hwrite : (s.engineGate 1 (storeAddr 16 off) 7 s.stc.aid 8 true).ok = true)
    (h0 : (s.array src).eccClass src (s.cellOf src off) = 0) (h4 : (s.array src).eccClass src (s.cellOf src (off + 4)) = 0) :
    ∃ t, exec .copyBeat s = .next t ∧ t.stc.copyPos = s.stc.copyPos + 1 ∧
      t.stcPh = (if s.stc.copyPos = 8191 then 5 else 4) ∧
      t.store = s.store.set dst (((s.array dst).putWord (s.cellOf dst off) ((s.array src).bytes src (s.cellOf src off) 4)).putWord
        (s.cellOf dst (off + 4)) ((s.array src).bytes src (s.cellOf src (off + 4)) 4)) := by
  have hpair := copyPair_sound hsrc hdst hne hlen (by omega) h0 h4
  subst hoff
  have hbeat := copyBeat_copies (stcLive_awake hs hsec hstore) hph hread hwrite hpair
  by_cases hlast : s.stc.copyPos = 8191
  · rw [if_neg (show ¬s.stc.copyPos + 1 < 8192 by omega)] at hbeat
    refine ⟨_, leaves_of_stitched rfl hs.1 hbeat ((((Unmoved.refl s).store _).stc _).stcPhase 5).toStitched, ?_⟩
    rw [if_pos hlast, settle_stc, settle_stcPh, settle_store, stcPhase_stc, stcPhase_store, stcPhase_stcPh _ (by decide)]
    exact ⟨rfl, rfl, rfl⟩
  · rw [if_pos (show s.stc.copyPos + 1 < 8192 by omega)] at hbeat
    refine ⟨_, leaves_of_stitched rfl hs.1 hbeat (((Unmoved.refl s).store _).stc _).toStitched, ?_⟩
    rw [if_neg hlast, settle_stc, settle_stcPh, settle_store]
    exact ⟨rfl, hph, rfl⟩

theorem swapFlip_exchanges (hph : s.stcPh = 5) :
    ∃ t, exec .swapFlip s = .next t ∧ t.stcPh = 6 ∧ (t.arrayOf s.swapBank = s.arrayOf 16 ∧ t.arrayOf 16 = s.arrayOf s.swapBank) ∧
      t.bit Reg.STC_MAPSTAT 31 = true ∧ t.bit Reg.STC_MAPSTAT 30 = false ∧ t.stc.marker = some s.swapBank ∧ t.store = s.store := by
  obtain ⟨hpend, hmirror⟩ := flipOut_mapstat s
  refine ⟨_, leaves_of_stitched rfl hs.1 (swapFlip_out (stcLive_awake hs hsec hstore) hph)
    (((Stitched.refl s).flip (swapBank_lt s)).trans (testOpened_unmoved s).toStitched), ?_⟩
  rw [settle_stcPh, settle_mapstat_bit, settle_mapstat_bit, settle_stc, settle_store, settle_arrayOf, settle_arrayOf,
    testOpened_mapstat, testOpened_mapstat, testOpened_stc, testOpened_store]
  exact ⟨stcPhase_stcPh _ (by decide), exchanged_of_flip (testOpened_unmoved s), hpend, hmirror, rfl, rfl⟩

theorem swapFlip_returns (hph : s.stcPh = 10) :
    ∃ t, exec .swapFlip s = .next t ∧ t.stcPh = 0 ∧ (t.arrayOf s.swapBank = s.arrayOf 16 ∧ t.arrayOf 16 = s.arrayOf s.swapBank) ∧
      t.bit Reg.STC_MAPSTAT 31 = false ∧ t.bit Reg.STC_MAPSTAT 30 = false ∧ t.stc.marker = none ∧ t.store = s.store := by
  have hflipped : Unmoved (s.flip s.swapBank) s.flipBack.stcIdle := (swapEnds_unmoved _).stcIdle
  have hmapstat (i : Nat) : s.flipBack.stcIdle.bit Reg.STC_MAPSTAT i = s.flipBack.bit Reg.STC_MAPSTAT i :=
    congrArg (wbit · i) (stcIdle_rd _ (by decide))
  have hmirror : s.flipBack.bit Reg.STC_MAPSTAT 30 = false := by
    rw [State.flipBack, swapEnds_mapstat _ (by decide), State.bit, flip_mapstat s (swapBank_lt s), wbit_wputBit_self _ _ _ (by decide)]
  refine ⟨_, leaves_of_stitched rfl hs.1 (swapFlip_back (stcLive_awake hs hsec hstore) hph)
    (((Stitched.refl s).flip (swapBank_lt s)).trans hflipped.toStitched), ?_⟩
  rw [settle_stcPh, settle_mapstat_bit, settle_mapstat_bit, settle_stc, settle_store, settle_arrayOf, settle_arrayOf,
    stcIdle_stcPh, stcIdle_stc, stcIdle_store, hmapstat, hmapstat, hmirror, State.flipBack, swapEnds_pend, swapEnds_store,
    flip_store]
  exact ⟨rfl, exchanged_of_flip hflipped, rfl, rfl, rfl, rfl⟩

theorem swapTestDone_goes {r : MarchResult} (hph : s.stcPh = 6) (hclean : (s.arrDenied s.stc.aid s.stc.f).clean = true)
    (hprog : progClean none s.stc.prog = true) (hr : r.fails = []) :
    ∃ t, exec (.swapTestDone r) s = .next t ∧ t.stc.fGood = true ∧
      t.stcPh = (if s.bit Reg.STC_SWPCFG 10 = false then 8 else if s.bit Reg.STC_SWPCFG 9 then 11 else 9) ∧
      t.bit Reg.STC_MAPSTAT 31 = s.bit Reg.STC_MAPSTAT 31 := by
  have hmoved := (marchLeave_unmoved s s.stc.f s.stc.aid s.stc.prog s.stc.custom).afterTest true
  have hkept (a i : Nat) : (s.marchLeave s.stc.f s.stc.aid s.stc.prog s.stc.custom).bit a i = s.bit a i :=
    congrArg (wbit · i) (marchLeave_rd ..)
  obtain ⟨hphase, hgood, hpend⟩ := afterTest_passed (s.marchLeave s.stc.f s.stc.aid s.stc.prog s.stc.custom)
  refine ⟨_, leaves_of_stitched rfl hs.1 (swapTestDone_passes (stcLive_awake hs hsec hstore) hph hclean hprog hr)
    hmoved.toStitched, ?_⟩
  rw [settle_stc, settle_stcPh, settle_mapstat_bit, hphase, hgood, hpend, hkept, hkept, hkept]
  exact ⟨rfl, rfl, rfl⟩

theorem swapKeepDone_records (hph : s.stcPh = 11) (hslot : s.f Reg.STC_RTNEXT 0 10 < 512)
    (hgate : (s.engineGate 0 (repairSlot (s.f Reg.STC_RTNEXT 0 10)) 7 s.stc.aid 8 true).ok = true) :
    ∃ t, exec .swapKeepDone s = .next t ∧ t.stcPh = 0 ∧ t.bit Reg.STC_MAPSTAT 31 = false ∧ t.stc.marker = none ∧
      t.nvm64 (repairSlot (s.f Reg.STC_RTNEXT 0 10)) = notWord (0x58000000 + s.swapBank) ∧
      t.arrayOf s.swapBank = s.arrayOf s.swapBank ∧ t.arrayOf 16 = s.arrayOf 16 := by
  obtain ⟨m, hrecord, hword⟩ := stcRecord_written hgate hslot (0x58000000 + s.swapBank)
  have hdone : s.swapKeepDone = (s.recorded m).swapEnds.stcIdle := by
    simp [State.swapKeepDone, stcLive_awake hs hsec hstore, hph, State.keepRecord, hrecord]
  have hmoved := ((recorded_unmoved s m).trans (swapEnds_unmoved _)).stcIdle
  refine ⟨_, leaves_of_stitched rfl hs.1 hdone hmoved.toStitched, ?_⟩
  rw [settle_stcPh, settle_mapstat_bit, settle_stc, settle_nvm64, settle_arrayOf, settle_arrayOf, stcIdle_stcPh, stcIdle_stc,
    State.bit, stcIdle_rd _ (by decide), State.nvm64, stcIdle_nvm]
  exact ⟨rfl, swapEnds_pend _, rfl, hword, hmoved.arrayOf _, hmoved.arrayOf _⟩

end

/-- Settles O34: every step of a swap is read off the engine's rules; the two flips alone move the map, and a copy beat writes the
unmapped array alone. -/
theorem bankSwap : Obligations.BankSwap := by
  unfold Obligations.BankSwap
  intro s v wr r p row cols hs hsec hstore hlen keyed op n prog bank src dst off slot recordAt keep ret exchanged
  refine ⟨fun hkey hop hph hpend hp => ?_, fun hkey hop hbusy => ?_, fun hph hclean => ⟨fun hr => ?_, fun hr hrow => ?_⟩,
    fun hph hne _ hdst hpos hread hwrite h0 h4 => ?_, fun hph => ?_, fun hph => ?_, fun hph hclean hprog hr => ?_,
    fun hph hslot hgate => ?_, fun hkey hop hph => ⟨fun hkeep => ?_, fun hkeep hgood => ?_, fun hkeep hbad => ?_⟩⟩
  · exact stcSwap_starts hs hsec (stcOrder_of hkey hop) hph hpend hp
  · exact leaves_rejected rfl hs.1 hsec (writeStcCmd_swap_refused (stcOrder_of hkey hop) hbusy)
  · exact swapPretestDone_mirrors hs hsec hstore hph hclean hr
  · exact swapPretestDone_ends hs hsec hstore hph hclean hr hrow
  · exact copyBeat_leaves hs hsec hstore hph rfl rfl rfl hne (hlen ▸ hdst) hpos hread hwrite h0 h4
  · exact swapFlip_exchanges hs hsec hstore hph
  · exact swapFlip_returns hs hsec hstore hph
  · exact swapTestDone_goes hs hsec hstore hph hclean hprog hr
  · exact swapKeepDone_records hs hsec hstore hph hslot hgate
  · exact stcReturn_keeps hs hsec (stcOrder_of hkey hop) hph hkeep
  · exact stcReturn_copies hs hsec (stcOrder_of hkey hop) hph hkeep hgood
  · exact stcReturn_refused hs hsec (stcOrder_of hkey hop) hkeep hbad

end Sys2Proof.Machine

namespace Sys2Proof.Machine

/-! ## A zeroisation beat and the arbiter of its bank (R250, R373) -/

/-- A running part in step 7 of a reset of tenant 5: ZERO is set, and the window of 256 bytes starts 256 bytes into the
Store. No arbiter has granted anything. -/
def zeroising : State :=
  let s := (State.reset.wr Reg.TEN_CTL 1).wr Reg.TEN_STAT 0x5701
  { s with ten := { Ten.reset with table := [(40, 0xB), (41, 0x00010001)] }, store := List.replicate 17 (.blank .zeros) }

theorem zeroising_awake : zeroising.awake := by decide

theorem zeroising_beat_calm : zeroising.zeroiseBeat.calm := by decide

/-- The beat is granted at its bank, the arbiter of which then holds the grant. -/
theorem zeroising_beat_arbs : zeroising.zeroiseBeat.bus.arbs ≠ [] := by decide

theorem exec_zeroiseBeat_zeroising : exec .zeroiseBeat zeroising = .next zeroising.zeroiseBeat.settle :=
  congrArg Host.Outcome.next (cmd_calm (f := State.zeroiseBeat) zeroising_awake.1 zeroising_beat_calm)

/-- Refutes O37: the clause on a zeroisation beat that its gate lets pass says that beyond the reservation, the Store and the
progress of step 7 the beat leaves the state as it was. The beat is a request of the Stitch engine's fill path, which is granted at
its bank before it is carried out, and the bank's arbiter holds the grant (R250): `State.engineGrant`, which the statement leaves
out. -/
theorem not_tenantReset : ¬ Obligations.TenantReset := by
  unfold Obligations.TenantReset
  intro h
  obtain ⟨-, -, -, -, hzeroise, -⟩ := h zeroising zeroising_awake (by decide) (by decide) (by decide)
  obtain ⟨hpassed, -⟩ := hzeroise (by decide) (by decide) (by decide) (by decide)
  obtain ⟨hgoesOn, -⟩ := hpassed (by decide)
  have hsettled := Host.Outcome.next.inj (exec_zeroiseBeat_zeroising.symm.trans (hgoesOn (by decide)))
  have harbs := congrArg (fun t => t.bus.arbs) hsettled
  simp only [settle_bus] at harbs
  exact zeroising_beat_arbs (harbs.trans (by decide))

end Sys2Proof.Machine

namespace Sys2Proof.Machine

/-- Noting a result writes registers alone: what every such write keeps is kept. -/
theorem poolResult_induction {P : State → Prop} {s : State} {op c code mid aid : Nat} {h : Word} (hs : P s)
    (hwr : ∀ {t : State} {a : Nat}, P t →
      a = Reg.POOL_OPRES (mid % 16) ∨ a ∈ [Reg.POOL_ERRSTAT, Reg.POOL_IRQ, Reg.POOL_ERRH, Reg.POOL_ERRINFO] → ∀ v, P (t.wr a v)) :
    P (s.poolResult op c code mid aid h) := by
  unfold State.poolResult
  extract_lets noted counted
  have hnoted : P noted := hwr hs (.inl rfl) _
  have hcounted : P counted := hwr (hwr hnoted (.inr (by decide)) _) (.inr (by decide)) _
  split
  · exact hnoted
  · split
    · exact hcounted
    · exact hwr (hwr (hwr hcounted (.inr (by decide)) _) (.inr (by decide)) _) (.inr (by decide)) _

/-! ## What the pool manager leaves alone -/

/-- Registers of the pool manager (page 0x20006). -/
abbrev poolReg (a : Nat) : Prop := 0x20006000 ≤ a ∧ a < 0x20007000

/-- `t` differs from `s` in what is the pool manager's alone: its registers, what it holds, and the USE fields of the tenants. -/
structure Pooled (s t : State) : Prop where
  hrv : t.hrv = s.hrv
  pwr : t.pwr = s.pwr
  hdp : t.hdp = s.hdp
  bus : t.bus = s.bus
  core : t.core = s.core
  store : t.store = s.store
  rd : ∀ a, ¬poolReg a → t.rd a = s.rd a

namespace Pooled

variable {s t u : State}

theorem refl (s : State) : Pooled s s := ⟨rfl, rfl, rfl, rfl, rfl, rfl, fun _ _ => rfl⟩

theorem steady (h : Pooled s t) : Steady s t where
  hrv := h.hrv
  pwr := h.pwr
  hdp := h.hdp
  held := congrArg Bus.held h.bus
  store := h.store
  g := congrArg Core.g h.core
  stalled := congrArg Core.stalled h.core
  halted := congrArg Core.halted h.core
  boot := h.rd _ (by decide)

theorem ite (h : Pooled s t) (k : Pooled s u) {c : Prop} [Decidable c] : Pooled s (if c then t else u) := by
  split
  · exact h
  · exact k

/-- A write of one of its registers, and with it the setting of a bit or of a field. -/
theorem wr (h : Pooled s t) {a : Nat} (ha : poolReg a) (v : Word) : Pooled s (t.wr a v) :=
  { h with rd := fun b hb => (State.rd_wr_ne t v fun e : b = a => hb (e ▸ ha)).trans (h.rd b hb) }

theorem pool (h : Pooled s t) (x : Pool) : Pooled s { t with pool := x } := { h with }

theorem ten (h : Pooled s t) (x : Ten) : Pooled s { t with ten := x } := { h with }

theorem setMeta (h : Pooled s t) (n : Nat) (v : Word) : Pooled s (t.setMeta n v) := h.pool _

theorem shuse (h : Pooled s t) : Pooled s t.shuse := h.wr (by decide) _

theorem setUsage (h : Pooled s t) {c : Nat} (hc : c < 4) (aid v : Nat) : Pooled s (t.setUsage aid c v) :=
  (h.ten _).ite (h.wr (a := Reg.POOL_WRES c) (by simp only [poolReg, Reg.POOL_WRES]; omega) _)

theorem poolLevels (h : Pooled s t) {c : Nat} (hc : c < 4) : Pooled s (t.poolLevels c) := by
  unfold State.poolLevels
  extract_lets _ _ _ _ _ warn p3 p2 floor levels warned pressed
  have hlevels : Pooled s levels := h.wr (a := Reg.POOL_STAT c) (by simp only [poolReg, Reg.POOL_STAT]; omega) _
  have hwarned : Pooled s warned := (hlevels.wr (by decide) _).ite hlevels
  have hpressed : Pooled s pressed := (hwarned.wr (by decide) _).ite hwarned
  exact (hpressed.wr (by decide) _).ite hpressed

theorem poolEvaluate (h : Pooled s t) : Pooled s t.poolEvaluate :=
  List.foldlRecOn (motive := Pooled s) (List.range 4) State.poolLevels h fun _ hu _ hc => hu.poolLevels (List.mem_range.1 hc)

theorem setFree (h : Pooled s t) {c : Nat} (hc : c < 4) (n : Nat) : Pooled s (t.setFree c n) :=
  (h.wr (a := Reg.POOL_STAT c) (by simp only [poolReg, Reg.POOL_STAT]; omega) _).poolLevels hc

theorem poolResult (h : Pooled s t) (op c code mid aid : Nat) (handle : Word) :
    Pooled s (t.poolResult op c code mid aid handle) := by
  refine poolResult_induction h fun {u a} hu ha v => hu.wr ?_ v
  simp only [List.mem_cons, List.not_mem_nil, or_false, Reg.POOL_OPRES, Reg.POOL_ERRSTAT, Reg.POOL_IRQ, Reg.POOL_ERRH,
    Reg.POOL_ERRINFO] at ha
  simp only [poolReg]
  omega

end Pooled

theorem poolClass_lt (n : Nat) : poolClass n < 4 := by
  unfold poolClass
  split_ifs <;> decide

theorem hClass_lt (h : Word) : hClass h < 4 := fld_lt h 14 2

namespace Pooled

variable {s t : State}

theorem freeBuffer (h : Pooled s t) (n : Nat) : Pooled s (t.freeBuffer n) :=
  ((h.setUsage (poolClass_lt n) _ _).setMeta n _).setFree (poolClass_lt n) _

theorem takeShares (h : Pooled s t) (e k : Nat) : Pooled s (t.takeShares e k) := (h.setMeta e _).shuse

end Pooled

/-! ## The commands and their registers -/

theorem regUp_pool {s : State} {a : Nat} (ha : poolReg a) (hstore : s.domOn .store = true) : s.regUp a = true := by
  obtain ⟨hlow, hhigh⟩ := ha
  have hpage : a / 0x1000 = 0x20006 := by omega
  have hblock : regionOf a = .block .store 4 := by
    have hout : ¬a < 0x400000 ∧ ¬(0x10000000 ≤ a ∧ a < 0x10110000) ∧ ¬(0x12000000 ≤ a ∧ a < 0x12100000) ∧
        ¬(0x14000000 ≤ a ∧ a < 0x14100000) ∧ ¬(0x22000000 ≤ a ∧ a < 0x22020000) ∧ ¬(0x24000000 ≤ a ∧ a < 0x24020000) ∧
        ¬(0x30008000 ≤ a ∧ a < 0x3000C000) ∧ ¬(0x40000000 ≤ a ∧ a < 0x41000000) ∧ ¬(0xE0000000 ≤ a ∧ a < 0xE0003000) ∧
        ¬(0xF0000000 ≤ a ∧ a < 0xF0008000) := by omega
    simp only [regionOf, hout, if_false, hpage]
    rfl
  exact (regUp_block hblock (by omega) s).trans hstore

/-- What a write of one of the pool manager's registers leaves. -/
theorem leaves_pooled {c : Instr} {s t : State} {a : Nat} {v : Word} {wr : Writer}
    (hexec : exec c s = .next (s.cmd fun s => s.regRow a v wr)) (hs : s.awake) (ha : poolReg a) (hstore : s.domOn .store = true)
    (hwrite : s.writeReg a v wr = t) (ht : Pooled s t) : Leaves c s t :=
  leaves_of_write hexec hs.1 (regUp_pool ha hstore) hwrite ht.steady

theorem writeReg_poolCtl (s : State) (v : Word) (wr : Writer) : s.writeReg Reg.POOL_CTL v wr = s.writePoolCtl v := rfl

theorem writeReg_poolFree (s : State) (v : Word) (wr : Writer) :
    s.writeReg Reg.POOL_FREE v wr = s.poolOp 2 v wr.mid wr.aid := rfl

theorem writeReg_poolRelease (s : State) (v : Word) (wr : Writer) :
    s.writeReg Reg.POOL_RELEASE v wr = s.poolOp 3 v wr.mid wr.aid := rfl

theorem writeReg_poolDone (s : State) (v : Word) (wr : Writer) :
    s.writeReg Reg.POOL_DONE v wr = s.poolOp 4 v wr.mid wr.aid := rfl

theorem writeReg_poolShareh (s : State) (v : Word) (wr : Writer) :
    s.writeReg Reg.POOL_SHAREH v wr = s.poolStage v wr.mid wr.aid := rfl

theorem writeReg_poolShare (s : State) (v : Word) (wr : Writer) :
    s.writeReg Reg.POOL_SHARE v wr = s.poolShare v wr.mid wr.aid := rfl

theorem writeReg_poolErrstat (s : State) (v : Word) (wr : Writer) : s.writeReg Reg.POOL_ERRSTAT v wr = s.writePoolErr v := rfl

theorem writeReg_poolThr (s : State) (c : Fin 4) (second : Bool) (v : Word) (wr : Writer) :
    s.writeReg (if second then Reg.POOL_THRB c.val else Reg.POOL_THRA c.val) v wr = s.writePoolThr c.val second v := by
  fin_cases c <;> cases second <;> rfl

/-! ## Metadata -/

theorem metaWord_congr {s t : State} (h : t.pool = s.pool) (n : Nat) : t.metaWord n = s.metaWord n := by
  simp only [State.metaWord, State.metaDefault, h]

theorem entryOf_congr {s t : State} (h : t.pool = s.pool) (n holder : Nat) : t.entryOf n holder = s.entryOf n holder := by
  simp only [State.entryOf, h]

theorem metaWord_setMeta_self {s : State} (hdef : s.pool.undef = none) (n : Nat) (v : Word) : (s.setMeta n v).metaWord n = v := by
  simp only [State.metaWord, State.setMeta, hdef]
  exact alGet_alSet_self ..

theorem metaWord_setMeta_ne (s : State) {n k : Nat} (v : Word) (h : k ≠ n) : (s.setMeta n v).metaWord k = s.metaWord k := by
  simp only [State.metaWord, State.setMeta, alGet_alSet_ne _ _ _ h]
  rfl

theorem setMeta_undef (s : State) (n : Nat) (v : Word) : (s.setMeta n v).pool.undef = s.pool.undef := rfl

theorem setMeta_rd (s : State) (n : Nat) (v : Word) (a : Nat) : (s.setMeta n v).rd a = s.rd a := rfl

theorem setMeta_usage (s : State) (n : Nat) (v : Word) (aid c : Nat) : (s.setMeta n v).usage aid c = s.usage aid c := rfl

theorem shuse_pool (s : State) : s.shuse.pool = s.pool := State.wr_pool ..

theorem shuse_ten (s : State) : s.shuse.ten = s.ten := State.wr_ten ..

/-- What is set under a key that a search passes by does not change what it finds. -/
theorem find?_alSet {α : Type} [DecidableEq α] {f : Nat × α → Bool} {k : Nat} (hf : ∀ v, f (k, v) = false) (d : α)
    (l : List (Nat × α)) (v : α) : (alSet d l k v).find? f = l.find? f := by
  have hdel : (alDel l k).find? f = l.find? f := by
    rw [alDel, List.find?_filter]
    refine List.find?_congr fun p _ => ?_
    by_cases h : p.1 = k
    · simp [← h ▸ hf p.2]
    · simp [h]
  have hinsert (l : List (Nat × α)) : (alInsert l k v).find? f = l.find? f := by
    induction l with
    | nil => simp [alInsert, hf]
    | cons p l ih =>
      rw [alInsert]
      split
      · rw [List.find?_cons, hf]
      · rw [List.find?_cons, List.find?_cons, ih]
  unfold alSet
  split
  · exact hdel
  · rw [hinsert, hdel]

/-- A descriptor is no share entry. -/
theorem entryOf_setMeta (s : State) {n : Nat} (hn : n < 7360) (v : Word) (d holder : Nat) :
    (s.setMeta n v).entryOf d holder = s.entryOf d holder := by
  have hpass (w : Word) : (decide (7360 ≤ n) && metaUsed w && decide (fld w 0 13 = d) && decide (metaAid w = holder)) = false := by
    simp [show ¬7360 ≤ n by omega]
  exact congrArg (Option.map Prod.fst) (find?_alSet hpass (s.metaDefault n) s.pool.words v)

theorem entryOf_ge {s : State} {n holder e : Nat} (h : s.entryOf n holder = some e) : 7360 ≤ e := by
  obtain ⟨p, hp, rfl⟩ := Option.map_eq_some_iff.1 h
  have hfound := List.find?_some hp
  simp only [Bool.and_eq_true, decide_eq_true_eq] at hfound
  omega

theorem freeEntry_ge {s : State} {e : Nat} (h : s.freeEntry = some e) : 7360 ≤ e := by
  obtain ⟨i, -, rfl⟩ := Option.map_eq_some_iff.1 h
  omega

theorem metaShares_setShares {s : State} (hdef : s.pool.undef = none) (n : Nat) {k : Nat} (hk : k < 8) :
    metaShares ((s.setShares n k).metaWord n) = k := by
  rw [State.setShares, metaWord_setMeta_self hdef, metaShares, fld_setFld_self _ _ _ _ (by decide),
    Nat.mod_eq_of_lt (show k < 2 ^ 3 from hk)]

theorem metaAid_setShares {s : State} (hdef : s.pool.undef = none) (n k : Nat) :
    metaAid ((s.setShares n k).metaWord n) = metaAid (s.metaWord n) := by
  rw [State.setShares, metaWord_setMeta_self hdef, metaAid, fld_setFld_ne _ _ _ _ _ _ (by decide), metaAid]

/-! ## Levels (R342) -/

/-- POOL_STAT0 to POOL_STAT3. -/
abbrev statReg (a : Nat) : Prop := 0x20006050 ≤ a ∧ a < 0x20006060

/-- `t` differs from `s` in the levels alone and in their events. -/
structure Leveled (s t : State) : Prop where
  pool : t.pool = s.pool
  ten : t.ten = s.ten
  rd : ∀ a, a ≠ Reg.POOL_IRQ → ¬statReg a → t.rd a = s.rd a
  free : ∀ c, t.poolFreeCount c = s.poolFreeCount c
  err : t.bit Reg.POOL_IRQ 16 = s.bit Reg.POOL_IRQ 16

namespace Leveled

variable {s t u : State}

theorem refl (s : State) : Leveled s s := ⟨rfl, rfl, fun _ _ _ => rfl, fun _ => rfl, rfl⟩

theorem trans (h : Leveled s t) (k : Leveled t u) : Leveled s u :=
  ⟨k.pool.trans h.pool, k.ten.trans h.ten, fun a hirq hstat => (k.rd a hirq hstat).trans (h.rd a hirq hstat),
    fun c => (k.free c).trans (h.free c), k.err.trans h.err⟩

theorem ite (h : Leveled s t) (k : Leveled s u) {c : Prop} [Decidable c] : Leveled s (if c then t else u) := by
  split
  · exact h
  · exact k

theorem levels (s : State) {c : Nat} (hc : c < 4) (v : Nat) : Leveled s (s.setF (Reg.POOL_STAT c) 16 4 v) where
  pool := State.setF_pool ..
  ten := State.setF_ten ..
  rd a _ hstat := State.rd_wr_ne _ _ (by simp only [statReg, Reg.POOL_STAT] at hstat ⊢; omega)
  free k := by
    by_cases h : Reg.POOL_STAT k = Reg.POOL_STAT c
    · rw [State.poolFreeCount, h, State.f_setF_ne _ _ _ (by decide), State.poolFreeCount, h]
    · exact State.f_setF_other _ _ h
  err := congrArg (wbit · 16) (State.rd_wr_ne _ _ (by simp only [Reg.POOL_IRQ, Reg.POOL_STAT]; omega))

theorem event (s : State) {i : Nat} (hi : 16 ≠ i) : Leveled s (s.setBit Reg.POOL_IRQ i) where
  pool := State.setBit_pool ..
  ten := State.setBit_ten ..
  rd _ hirq _ := State.rd_wr_ne _ _ hirq
  free c := congrArg (fld · 0 13) (State.rd_wr_ne _ _ (by simp only [Reg.POOL_IRQ, Reg.POOL_STAT]; omega))
  err := State.bit_putBit_ne _ _ _ hi

theorem poolLevels (h : Leveled s t) {c : Nat} (hc : c < 4) : Leveled s (t.poolLevels c) := by
  unfold State.poolLevels
  extract_lets _ _ _ _ _ warn p3 p2 floor levels warned pressed
  have hlevels : Leveled s levels := h.trans (.levels t hc _)
  have hwarned : Leveled s warned := (hlevels.trans (.event _ (by omega))).ite hlevels
  have hpressed : Leveled s pressed := (hwarned.trans (.event _ (by omega))).ite hwarned
  exact (hpressed.trans (.event _ (by omega))).ite hpressed

end Leveled

theorem poolEvaluate_leveled (s : State) : Leveled s s.poolEvaluate :=
  List.foldlRecOn (motive := Leveled s) (List.range 4) State.poolLevels (.refl s) fun _ hu _ hc =>
    hu.poolLevels (List.mem_range.1 hc)

/-- The free count is set, and the levels of its class follow. -/
theorem setFree_leveled (s : State) {c : Nat} (hc : c < 4) (n : Nat) :
    Leveled (s.setF (Reg.POOL_STAT c) 0 13 n) (s.setFree c n) :=
  (Leveled.refl _).poolLevels hc

theorem setFree_poolFreeCount (s : State) {c : Nat} (hc : c < 4) (n : Nat) : (s.setFree c n).poolFreeCount c = n % 2 ^ 13 :=
  ((setFree_leveled s hc n).free c).trans (State.f_setF_self _ _ _ (by decide))

theorem setFree_pool (s : State) {c : Nat} (hc : c < 4) (n : Nat) : (s.setFree c n).pool = s.pool := by
  rw [(setFree_leveled s hc n).pool, State.setF_pool]

theorem setFree_ten (s : State) {c : Nat} (hc : c < 4) (n : Nat) : (s.setFree c n).ten = s.ten := by
  rw [(setFree_leveled s hc n).ten, State.setF_ten]

theorem setFree_rd (s : State) {c : Nat} (hc : c < 4) (n : Nat) {a : Nat} (hirq : a ≠ Reg.POOL_IRQ) (hstat : ¬statReg a) :
    (s.setFree c n).rd a = s.rd a :=
  ((setFree_leveled s hc n).rd a hirq hstat).trans
    (State.rd_wr_ne _ _ (by simp only [statReg, Reg.POOL_STAT] at hstat ⊢; omega))

/-! ## Usage (R340) -/

theorem usage_congr {s t : State} (hten : t.ten.table = s.ten.table) {c : Nat}
    (hwres : t.rd (Reg.POOL_WRES c) = s.rd (Reg.POOL_WRES c)) (aid : Nat) : t.usage aid c = s.usage aid c := by
  simp only [State.usage, State.trec, State.f, hten, hwres]

theorem usage_le (s : State) (aid c : Nat) : s.usage aid c ≤ if aid < 0x400 then 255 else 8191 := by
  unfold State.usage
  split
  · exact Nat.le_of_lt_succ (fld_lt _ _ 8)
  · exact Nat.le_of_lt_succ (fld_lt _ _ 13)

theorem trec_setRec_self (s : State) (t k : Nat) (v : Word) : (s.setRec t k v).trec t k = v := alGet_alSet_self ..

theorem usage_setUsage (s : State) (aid : Nat) {c : Nat} (hc : c < 4) (v : Nat) :
    (s.setUsage aid c v).usage aid c = min (if aid < 0x400 then 255 else 8191) v := by
  by_cases h : aid < 0x400
  · simp only [State.usage, State.setUsage, if_pos h, trec_setRec_self, fld_setFld_self _ (8 * c) 8 _ (by omega)]
    omega
  · simp only [State.usage, State.setUsage, if_neg h]
    rw [State.f_setF_self _ _ _ (by decide)]
    omega

/-- The usage of a tenant and that of the other agents are charged apart. -/
theorem usage_setUsage_apart (s : State) {aid other : Nat} (h : aid < 0x400) (hother : 0x400 ≤ other) (c v : Nat) :
    (s.setUsage aid c v).usage other c = s.usage other c ∧ (s.setUsage other c v).usage aid c = s.usage aid c := by
  simp only [State.usage, State.setUsage, if_pos h, if_neg (show ¬other < 0x400 by omega)]
  exact ⟨rfl, rfl⟩

theorem setUsage_pool (s : State) (aid c v : Nat) : (s.setUsage aid c v).pool = s.pool := by
  unfold State.setUsage
  split <;> rfl

theorem setUsage_rd (s : State) (aid v : Nat) {a c : Nat} (h : a ≠ Reg.POOL_WRES c) : (s.setUsage aid c v).rd a = s.rd a := by
  unfold State.setUsage
  split
  · rfl
  · exact State.rd_wr_ne _ _ h

/-! ## Results (R347) -/

theorem poolResult_ok (s : State) (op c mid aid : Nat) (h : Word) {code : Nat} (hcode : code < 0x10) :
    s.poolResult op c code mid aid h =
      s.wr (Reg.POOL_OPRES (mid % 16)) (word (op * 0x10000000 + c * 0x1000000 + code * 0x10000)) := if_pos hcode

theorem poolResult_pool (s : State) (op c code mid aid : Nat) (h : Word) : (s.poolResult op c code mid aid h).pool = s.pool :=
  poolResult_induction (P := fun t => t.pool = s.pool) rfl fun ht _ _ => ht

theorem poolResult_ten (s : State) (op c code mid aid : Nat) (h : Word) : (s.poolResult op c code mid aid h).ten = s.ten :=
  poolResult_induction (P := fun t => t.ten = s.ten) rfl fun ht _ _ => ht

/-- Between POOL_STAT0 and POOL_DENY3 the registers tell no result. -/
theorem poolResult_rd (s : State) (op c code mid aid : Nat) (h : Word) {a : Nat} (ha : 0x20006050 ≤ a ∧ a < 0x200060C0) :
    (s.poolResult op c code mid aid h).rd a = s.rd a := by
  refine poolResult_induction (P := fun t => t.rd a = s.rd a) rfl fun {t b} ht hb v => (State.rd_wr_ne t v ?_).trans ht
  simp only [List.mem_cons, List.not_mem_nil, or_false, Reg.POOL_OPRES, Reg.POOL_ERRSTAT, Reg.POOL_IRQ, Reg.POOL_ERRH,
    Reg.POOL_ERRINFO] at hb
  omega

/-- The word of a result, OP, CLASS and CODE at their places. -/
theorem resultWord_eq (op c code : Nat) : word (op * 0x10000000 + c * 0x1000000 + code * 0x10000) =
    BitVec.ofNat 32 (op * 2 ^ 28 + c * 2 ^ 24 + code * 2 ^ 16) := by norm_num [word]

theorem poolResult_opres (s : State) (op c code mid aid : Nat) (h : Word) :
    (s.poolResult op c code mid aid h).rd (Reg.POOL_OPRES (mid % 16)) =
      BitVec.ofNat 32 (op * 2 ^ 28 + c * 2 ^ 24 + code * 2 ^ 16) := by
  have hother {t : State} {a : Nat} (ha : a < 0x200060C0) (v : Word) :
      (t.wr a v).rd (Reg.POOL_OPRES (mid % 16)) = t.rd (Reg.POOL_OPRES (mid % 16)) :=
    State.rd_wr_ne t v (by simp only [Reg.POOL_OPRES]; omega)
  rw [← resultWord_eq]
  unfold State.poolResult
  extract_lets noted counted
  have hnoted : noted.rd (Reg.POOL_OPRES (mid % 16)) = word (op * 0x10000000 + c * 0x1000000 + code * 0x10000) :=
    State.rd_wr_self ..
  have hcounted : counted.rd (Reg.POOL_OPRES (mid % 16)) = noted.rd (Reg.POOL_OPRES (mid % 16)) :=
    (hother (by decide) _).trans (hother (by decide) _)
  split
  · exact hnoted
  · split
    · exact hcounted.trans hnoted
    · exact (hother (by decide) _).trans ((hother (by decide) _).trans ((hother (by decide) _).trans (hcounted.trans hnoted)))

/-- An error is counted, and its event is set. -/
theorem poolResult_error (s : State) (op c mid aid : Nat) (h : Word) {code : Nat} (hcode : 0x10 ≤ code) :
    (s.poolResult op c code mid aid h).f Reg.POOL_ERRSTAT 16 16 = min (2 ^ 16 - 1) (s.f Reg.POOL_ERRSTAT 16 16 + 1) ∧
      (s.poolResult op c code mid aid h).bit Reg.POOL_IRQ 16 = true := by
  let noted := s.wr (Reg.POOL_OPRES (mid % 16)) (word (op * 0x10000000 + c * 0x1000000 + code * 0x10000))
  let counted := (noted.incSat Reg.POOL_ERRSTAT 16 16).setBit Reg.POOL_IRQ 16
  have hkept : noted.f Reg.POOL_ERRSTAT 16 16 = s.f Reg.POOL_ERRSTAT 16 16 :=
    congrArg (fld · 16 16) (State.rd_wr_ne _ _ (by simp only [Reg.POOL_OPRES, Reg.POOL_ERRSTAT]; omega))
  have hle : s.f Reg.POOL_ERRSTAT 16 16 ≤ 2 ^ 16 - 1 := Nat.le_of_lt_succ (fld_lt _ _ 16)
  have hcount : counted.f Reg.POOL_ERRSTAT 16 16 = min (2 ^ 16 - 1) (s.f Reg.POOL_ERRSTAT 16 16 + 1) := by
    have hinc : counted.f Reg.POOL_ERRSTAT 16 16 = satInc (2 ^ 16 - 1) (noted.f Reg.POOL_ERRSTAT 16 16) % 2 ^ 16 :=
      (congrArg (fld · 16 16) (State.rd_wr_ne _ _ (by decide))).trans (State.f_setF_self _ _ _ (by decide))
    rw [hinc, hkept, satInc_eq_min hle]
    omega
  have hevent : counted.bit Reg.POOL_IRQ 16 = true := State.bit_putBit_self _ _ _ (by decide)
  have hresult : s.poolResult op c code mid aid h = if counted.bit Reg.POOL_ERRSTAT 0 then counted else
      ((counted.wr Reg.POOL_ERRH h).wr Reg.POOL_ERRINFO
        (word (op * 0x10000000 + mid % 16 * 0x1000000 + aid % 2048 * 0x1000 + code))).setBit Reg.POOL_ERRSTAT 0 :=
    if_neg (by omega)
  rw [hresult]
  split
  · exact ⟨hcount, hevent⟩
  · rw [State.setBit, State.f_putBit_ne _ _ _ (by decide), State.bit, State.rd_putBit, if_neg (by decide)]
    simp only [State.f, State.rd_wr]
    exact ⟨hcount, hevent⟩

/-! ## What follows a command -/

/-- The registers of the pool manager follow no level of an input or a line. -/
theorem levelReg_poolReg {a : Nat} (h : poolReg a) : levelReg a = false := by
  have hout : a ≠ Reg.SAF_OUT := by simp only [Reg.SAF_OUT]; omega
  have hirq : a ≠ Reg.GPIO_IRQ := by simp only [Reg.GPIO_IRQ]; omega
  have hbell : ¬Reg.VIR_DB 0 ≤ a := by simp only [Reg.VIR_DB]; omega
  simp [levelReg, hout, hirq, hbell]

theorem settle_metaWord (s : State) (n : Nat) : s.settle.metaWord n = s.metaWord n := metaWord_congr (settle_pool s) n

theorem settle_usage (s : State) (aid : Nat) {c : Nat} (hc : c < 4) : s.settle.usage aid c = s.usage aid c :=
  usage_congr (settle_table s) (settle_rd _ _ (levelReg_poolReg (by simp only [poolReg, Reg.POOL_WRES]; omega))) aid

theorem settle_poolFreeCount (s : State) {c : Nat} (hc : c < 4) : s.settle.poolFreeCount c = s.poolFreeCount c :=
  settle_f _ _ _ _ (levelReg_poolReg (by simp only [poolReg, Reg.POOL_STAT]; omega))

/-- What an operation of the manager leaves, once its result is noted, the levels are evaluated and the command has ended. -/
def State.concluded (s : State) (op c code mid aid : Nat) (h : Word) : State :=
  (s.poolResult op c code mid aid h).poolEvaluate.settle

section

variable (s : State) (op c code mid aid : Nat) (h : Word)

theorem concluded_pool : (s.concluded op c code mid aid h).pool = s.pool := by
  rw [State.concluded, settle_pool, (poolEvaluate_leveled _).pool, poolResult_pool]

theorem concluded_metaWord (n : Nat) : (s.concluded op c code mid aid h).metaWord n = s.metaWord n :=
  metaWord_congr (concluded_pool ..) n

theorem concluded_usage (g : Nat) {k : Nat} (hk : k < 4) : (s.concluded op c code mid aid h).usage g k = s.usage g k := by
  rw [State.concluded, settle_usage _ _ hk]
  refine usage_congr (by rw [(poolEvaluate_leveled _).ten, poolResult_ten]) ?_ g
  rw [(poolEvaluate_leveled _).rd _ (by simp only [Reg.POOL_WRES, Reg.POOL_IRQ]; omega)
    (by simp only [statReg, Reg.POOL_WRES]; omega), poolResult_rd _ _ _ _ _ _ _ (by simp only [Reg.POOL_WRES]; omega)]

theorem concluded_poolFreeCount {k : Nat} (hk : k < 4) : (s.concluded op c code mid aid h).poolFreeCount k = s.poolFreeCount k := by
  rw [State.concluded, settle_poolFreeCount _ hk, (poolEvaluate_leveled _).free]
  exact congrArg (fld · 0 13) (poolResult_rd _ _ _ _ _ _ _ (by simp only [Reg.POOL_STAT]; omega))

theorem concluded_opres : (s.concluded op c code mid aid h).rd (Reg.POOL_OPRES (mid % 16)) =
    BitVec.ofNat 32 (op * 2 ^ 28 + c * 2 ^ 24 + code * 2 ^ 16) := by
  rw [State.concluded, settle_rd _ _ (levelReg_poolReg (by simp only [poolReg, Reg.POOL_OPRES]; omega)),
    (poolEvaluate_leveled _).rd _ (by simp only [Reg.POOL_OPRES, Reg.POOL_IRQ]; omega)
    (by simp only [statReg, Reg.POOL_OPRES]; omega), poolResult_opres]

theorem concluded_error (hcode : 0x10 ≤ code) :
    (s.concluded op c code mid aid h).f Reg.POOL_ERRSTAT 16 16 = min (2 ^ 16 - 1) (s.f Reg.POOL_ERRSTAT 16 16 + 1) ∧
      (s.concluded op c code mid aid h).bit Reg.POOL_IRQ 16 = true := by
  obtain ⟨hcount, hevent⟩ := poolResult_error s op c mid aid h hcode
  rw [State.concluded, settle_f _ _ _ _ (by decide), settle_bit _ _ _ (by decide), (poolEvaluate_leveled _).err, State.f,
    (poolEvaluate_leveled _).rd _ (by decide) (by decide)]
  exact ⟨hcount, hevent⟩

end

/-! ## Enabling and initialisation (R329) -/

/-- EN takes what is written. -/
theorem written_poolCtl_en (s : State) (v : Word) : wbit (s.written Reg.POOL_CTL v) 0 = v.getLsbD 0 := by
  have hdef : regDef? Reg.POOL_CTL = some ⟨0x20006000, 1, 4, 0, 0, 1, 0xC, 0x100, 0x20006000, 8, .store⟩ := rfl
  cases hlock : s.locked ⟨0x20006000, 1, 4, 0, 0, 1, 0xC, 0x100, 0x20006000, 8, .store⟩ <;>
    simp [State.written, hdef, hlock, wbit, word]

section

variable {s : State} (hs : s.awake) (hstore : s.domOn .store = true)
include hs hstore

theorem poolEnable_enables {v : Word} {wr : Writer} (hoff : s.bit Reg.POOL_CTL 0 = false) (hv : v.getLsbD 0 = true)
    (hcfg : s.poolCfgOk = true) (hlock : s.bit Reg.POOL_CTL 8 = false) :
    let base := 0x10000000 + 4096 * s.f Reg.POOL_BASE 0 8
    let b2 := base + s.poolCount 3 * 4096
    let b1 := b2 + s.poolCount 2 * 1024
    ∃ t, exec (.poolEnable v wr) s = .next t ∧ t.bit Reg.POOL_CTL 0 = true ∧ t.bit Reg.POOL_CTL 1 = true ∧
      t.rd (Reg.POOL_CLSBASE 3) = BitVec.ofNat 32 base ∧ t.rd (Reg.POOL_CLSBASE 2) = BitVec.ofNat 32 b2 ∧
      t.rd (Reg.POOL_CLSBASE 1) = BitVec.ofNat 32 b1 ∧
      t.rd (Reg.POOL_CLSBASE 0) = BitVec.ofNat 32 (b1 + s.poolCount 1 * 256) ∧ t.pool = s.pool := by
  intro base b2 b1
  let opened := (s.stdWrite Reg.POOL_CTL v).setBit Reg.POOL_CTL 1
  let u := (((opened.wr (Reg.POOL_CLSBASE 3) (word base)).wr (Reg.POOL_CLSBASE 2) (word b2)).wr (Reg.POOL_CLSBASE 1) (word b1)).wr
    (Reg.POOL_CLSBASE 0) (word (b1 + s.poolCount 1 * 256))
  have hwrite : s.writePoolCtl v = u := by
    simp only [State.writePoolCtl, show wbit v 0 = true from hv, hoff, hcfg, hlock]
    rfl
  have hpooled : Pooled s u :=
    ((((((Pooled.refl s).wr (a := Reg.POOL_CTL) (by decide) _).wr (a := Reg.POOL_CTL) (by decide) _).wr (by decide) _).wr
      (by decide) _).wr (by decide) _).wr (by decide) _
  have hctl (i : Nat) : u.bit Reg.POOL_CTL i = opened.bit Reg.POOL_CTL i := by
    simp only [u, State.bit, State.rd_wr]
    rfl
  refine ⟨_, leaves_pooled rfl hs (a := Reg.POOL_CTL) (by decide) hstore ((writeReg_poolCtl s v wr).trans hwrite) hpooled, ?_⟩
  rw [settle_bit _ _ _ (by decide), settle_bit _ _ _ (by decide), settle_rd _ _ (by decide), settle_rd _ _ (by decide),
    settle_rd _ _ (by decide), settle_rd _ _ (by decide), settle_pool, hctl, hctl]
  refine ⟨?_, State.bit_putBit_self _ _ _ (by decide), ?_, ?_, ?_, State.rd_wr_self .., rfl⟩
  · refine (State.bit_putBit_ne _ _ _ (by decide)).trans ?_
    rw [State.bit, State.rd_stdWrite, if_pos rfl, written_poolCtl_en, hv]
  · simp only [u, State.rd_wr]
    rfl
  · simp only [u, State.rd_wr]
    rfl
  · simp only [u, State.rd_wr]
    rfl

theorem poolEnable_refused {v : Word} {wr : Writer} (hoff : s.bit Reg.POOL_CTL 0 = false) (hv : v.getLsbD 0 = true)
    (hcfg : s.poolCfgOk = false) : Leaves (.poolEnable v wr) s (s.setBit Reg.POOL_CTL 2) := by
  have hwrite : s.writePoolCtl v = s.setBit Reg.POOL_CTL 2 := by
    simp [State.writePoolCtl, show wbit v 0 = true from hv, hoff, hcfg]
  exact leaves_pooled rfl hs (a := Reg.POOL_CTL) (by decide) hstore ((writeReg_poolCtl s v wr).trans hwrite)
    ((Pooled.refl s).wr (by decide) _)

end

/-- Initialisation as far as the metadata, USE, INIT and POOL_SHUSE (R329). -/
def State.poolCleared (s : State) : State :=
  ((({ s with pool := { words := [], undef := none, staged := [], cnt := (List.range 4).map s.poolCount } } :
    State).clearUse).clrBit Reg.POOL_CTL 1).shuse

/-- WUSE of a class becomes 0 and its free count the configured one. -/
def State.classCleared (s : State) (c n : Nat) : State := (s.setF (Reg.POOL_WRES c) 16 13 0).setF (Reg.POOL_STAT c) 0 13 n

theorem poolInitDone_eq {s : State} (hinit : s.bit Reg.POOL_CTL 1 = true) (hstore : s.domOn .store = true)
    (hpowered : s.powered = true) :
    s.poolInitDone = ((((s.poolCleared.classCleared 0 (s.poolCount 0)).classCleared 1 (s.poolCount 1)).classCleared 2
      (s.poolCount 2)).classCleared 3 (s.poolCount 3)).poolEvaluate := by
  unfold State.poolInitDone
  rw [if_pos (by simp [hinit, hstore, hpowered])]
  rfl

theorem poolCount_lt (s : State) (c : Nat) : s.poolCount c < 2 ^ 13 := by
  unfold State.poolCount
  split
  · exact fld_lt ..
  · exact (fld_lt ..).trans (by decide)
  · exact (fld_lt ..).trans (by decide)
  · exact (fld_lt ..).trans (by decide)

namespace Pooled

variable {s t : State}

theorem poolCleared (h : Pooled s t) : Pooled s t.poolCleared :=
  ((((h.pool _).ten _).wr (a := Reg.POOL_CTL) (by decide) _)).shuse

theorem classCleared (h : Pooled s t) {c : Nat} (hc : c < 4) (n : Nat) : Pooled s (t.classCleared c n) :=
  (h.wr (a := Reg.POOL_WRES c) (by simp only [poolReg, Reg.POOL_WRES]; omega) _).wr (a := Reg.POOL_STAT c)
    (by simp only [poolReg, Reg.POOL_STAT]; omega) _

end Pooled

theorem poolCleared_pool (s : State) :
    s.poolCleared.pool = { words := [], undef := none, staged := [], cnt := (List.range 4).map s.poolCount } := by
  rw [State.poolCleared, shuse_pool, State.clrBit_pool]
  rfl

/-- No record has a USE word. -/
theorem poolCleared_table (s : State) : s.poolCleared.ten.table = s.ten.table.filter fun p => decide (p.1 % 8 ≠ 4) := by
  rw [State.poolCleared, shuse_ten, State.clrBit_ten]
  rfl

theorem poolCleared_init (s : State) : s.poolCleared.bit Reg.POOL_CTL 1 = false := by
  rw [State.poolCleared, State.shuse, State.bit, State.rd_wr_ne _ _ (by decide)]
  exact State.bit_putBit_self _ _ _ (by decide)

theorem classCleared_pool (s : State) (c n : Nat) : (s.classCleared c n).pool = s.pool := by
  rw [State.classCleared, State.setF_pool, State.setF_pool]

theorem classCleared_ten (s : State) (c n : Nat) : (s.classCleared c n).ten = s.ten := by
  rw [State.classCleared, State.setF_ten, State.setF_ten]

theorem classCleared_ctl (s : State) (c n : Nat) : (s.classCleared c n).rd Reg.POOL_CTL = s.rd Reg.POOL_CTL := by
  have hwres : Reg.POOL_CTL ≠ Reg.POOL_WRES c := by simp only [Reg.POOL_CTL, Reg.POOL_WRES]; omega
  have hstat : Reg.POOL_CTL ≠ Reg.POOL_STAT c := by simp only [Reg.POOL_CTL, Reg.POOL_STAT]; omega
  rw [State.classCleared, State.rd_setF, if_neg hstat, State.rd_setF, if_neg hwres]

/-- Clearing a class sets its own two registers alone. -/
theorem classCleared_poolFreeCount (s : State) (c n k : Nat) (hc : c < 4) (hk : k < 4) (hn : n < 2 ^ 13) :
    (s.classCleared c n).poolFreeCount k = if k = c then n else s.poolFreeCount k := by
  have hwres : Reg.POOL_STAT k ≠ Reg.POOL_WRES c := by simp only [Reg.POOL_STAT, Reg.POOL_WRES]; omega
  split
  · next h =>
    subst h
    exact (State.f_setF_self _ _ _ (by decide)).trans (Nat.mod_eq_of_lt hn)
  · next h =>
    have hstat : Reg.POOL_STAT k ≠ Reg.POOL_STAT c := by simp only [Reg.POOL_STAT]; omega
    exact (State.f_setF_other _ _ hstat).trans (State.f_setF_other _ _ hwres)

theorem classCleared_wuse (s : State) (c n k : Nat) (hc : c < 4) (hk : k < 4) :
    (s.classCleared c n).f (Reg.POOL_WRES k) 16 13 = if k = c then 0 else s.f (Reg.POOL_WRES k) 16 13 := by
  have hstat : Reg.POOL_WRES k ≠ Reg.POOL_STAT c := by simp only [Reg.POOL_STAT, Reg.POOL_WRES]; omega
  rw [State.classCleared, State.f_setF_other _ _ hstat]
  split
  · next h =>
    subst h
    exact State.f_setF_self _ _ _ (by decide)
  · next h => exact State.f_setF_other _ _ (by simp only [Reg.POOL_WRES]; omega)

/-- Right after initialisation no metadata word is in use. -/
theorem metaUsed_initial {s : State} (hdef : s.pool.undef = none) (hwords : s.pool.words = []) (n : Nat) :
    metaUsed (s.metaWord n) = false := by
  simp only [State.metaWord, State.metaDefault, hdef, hwords, alGet_nil, Option.getD_none]
  split <;> decide

/-- A record without its USE word reads 0 there. -/
theorem alGet_filter_out {α : Type} {l : List (Nat × α)} {f : Nat → Bool} {k : Nat} (hk : f k = false) :
    alGet (l.filter fun p => f p.1) k = none := by
  induction l with
  | nil => rfl
  | cons p l ih =>
    by_cases hp : f p.1 = true
    · have hne : p.1 ≠ k := fun e => by simp [e, hk] at hp
      rw [List.filter_cons_of_pos (by exact hp), alGet, if_neg hne, ih]
    · rw [List.filter_cons_of_neg (by exact hp), ih]

theorem poolInitDone_frees {s : State} (hs : s.awake) (hstore : s.domOn .store = true) (hinit : s.bit Reg.POOL_CTL 1 = true) :
    ∃ t, exec .poolInitDone s = .next t ∧ t.bit Reg.POOL_CTL 1 = false ∧
      (∀ k, k < 4 → t.f (Reg.POOL_STAT k) 0 13 = s.poolCount k) ∧ (∀ k, metaUsed (t.metaWord k) = false) ∧
      (∀ g k, k < 4 → t.usage g k = 0) := by
  let u := (((s.poolCleared.classCleared 0 (s.poolCount 0)).classCleared 1 (s.poolCount 1)).classCleared 2
    (s.poolCount 2)).classCleared 3 (s.poolCount 3)
  have hdone : s.poolInitDone = u.poolEvaluate := poolInitDone_eq hinit hstore hs.1.1
  have hpooled : Pooled s u := (((((Pooled.refl s).poolCleared).classCleared (by decide) _).classCleared (by decide) _).classCleared
    (by decide) _).classCleared (by decide) _
  have hleveled := poolEvaluate_leveled u
  have hpool : u.poolEvaluate.settle.pool =
      { words := [], undef := none, staged := [], cnt := (List.range 4).map s.poolCount } := by
    rw [settle_pool, hleveled.pool, classCleared_pool, classCleared_pool, classCleared_pool, classCleared_pool, poolCleared_pool]
  have htable : u.poolEvaluate.ten.table = s.ten.table.filter fun p => decide (p.1 % 8 ≠ 4) := by
    rw [hleveled.ten, classCleared_ten, classCleared_ten, classCleared_ten, classCleared_ten, poolCleared_table]
  refine ⟨_, leaves_of_effect (f := State.poolInitDone) rfl hs.1 hdone hpooled.poolEvaluate.steady, ?_, ?_, ?_, ?_⟩
  · rw [settle_bit _ _ _ (by decide), State.bit, hleveled.rd _ (by decide) (by decide), classCleared_ctl, classCleared_ctl,
      classCleared_ctl, classCleared_ctl]
    exact poolCleared_init s
  · intro k hk
    rw [← State.poolFreeCount, settle_poolFreeCount _ hk, hleveled.free]
    simp only [u, classCleared_poolFreeCount _ _ _ k (show 3 < 4 by decide) hk (poolCount_lt ..),
      classCleared_poolFreeCount _ _ _ k (show 2 < 4 by decide) hk (poolCount_lt ..),
      classCleared_poolFreeCount _ _ _ k (show 1 < 4 by decide) hk (poolCount_lt ..),
      classCleared_poolFreeCount _ _ _ k (show 0 < 4 by decide) hk (poolCount_lt ..)]
    interval_cases k <;> simp
  · intro k
    exact metaUsed_initial (by rw [hpool]) (by rw [hpool]) k
  · intro g k hk
    rw [settle_usage _ _ hk]
    unfold State.usage
    split
    · have hnone : alGet (s.ten.table.filter fun p => decide (p.1 % 8 ≠ 4)) (8 * g + 4) = none :=
        alGet_filter_out (f := fun k => decide (k % 8 ≠ 4)) (decide_eq_false (by omega))
      rw [State.trec, htable, hnone]
      simp [fld]
    · rw [State.f, hleveled.rd _ (by simp only [Reg.POOL_WRES, Reg.POOL_IRQ]; omega) (by simp only [statReg, Reg.POOL_WRES]; omega),
        ← State.f]
      simp only [u, classCleared_wuse _ _ _ k (show 3 < 4 by decide) hk, classCleared_wuse _ _ _ k (show 2 < 4 by decide) hk,
        classCleared_wuse _ _ _ k (show 1 < 4 by decide) hk, classCleared_wuse _ _ _ k (show 0 < 4 by decide) hk]
      interval_cases k <;> simp

/-! ## Allocation (R334, R335) -/

theorem allocCode_le (s : State) (c mid aid : Nat) : s.allocCode c mid aid ≤ 6 := by
  unfold State.allocCode
  dsimp only
  split_ifs <;> decide

theorem poolAlloc_refused {s : State} {c mid aid : Nat} (hcode : s.allocCode c mid aid ≠ 0) :
    (s.poolAlloc c mid aid).s =
      ((s.incSat (Reg.POOL_DENY c) 0 16).poolResult 1 c (s.allocCode c mid aid) mid aid 0xFFFFFFFF).poolEvaluate := by
  obtain ⟨k, hk⟩ := Nat.exists_eq_succ_of_ne_zero hcode
  unfold State.poolAlloc
  simp only [hk]

/-- The buffer `n` of class `c` becomes the agent's, which is charged for it. -/
def State.poolTaken (s : State) (n c aid : Nat) : State :=
  (s.setMeta n (Sys2Proof.Machine.descWord aid 0 (metaGen (s.metaWord n)))).setUsage aid c (s.usage aid c + 1)

theorem Pooled.poolTaken {s t : State} (h : Pooled s t) {c : Nat} (hc : c < 4) (n aid : Nat) : Pooled s (t.poolTaken n c aid) :=
  (h.setMeta n _).setUsage hc aid _

theorem poolTaken_rd (s : State) (n aid : Nat) {c a : Nat} (h : a ≠ Reg.POOL_WRES c) : (s.poolTaken n c aid).rd a = s.rd a :=
  (setUsage_rd _ _ _ h).trans (setMeta_rd ..)

theorem poolTaken_usage (s : State) (n aid : Nat) {c : Nat} (hc : c < 4) :
    (s.poolTaken n c aid).usage aid c = min (if aid < 0x400 then 255 else 8191) (s.usage aid c + 1) := usage_setUsage _ _ hc _

theorem poolTaken_metaWord_self {s : State} (hdef : s.pool.undef = none) (n c aid : Nat) :
    (s.poolTaken n c aid).metaWord n = descWord aid 0 (metaGen (s.metaWord n)) := by
  rw [State.poolTaken, metaWord_congr (setUsage_pool ..), metaWord_setMeta_self hdef]

theorem poolTaken_metaWord_ne (s : State) {n k : Nat} (c aid : Nat) (h : k ≠ n) :
    (s.poolTaken n c aid).metaWord k = s.metaWord k := by
  rw [State.poolTaken, metaWord_congr (setUsage_pool ..), metaWord_setMeta_ne _ _ h]

/-- A grant of class `c` is noted, and the free count follows. -/
def State.poolGiven (s : State) (c mid aid : Nat) (h : Word) : State :=
  ((s.poolResult 1 c 0 mid aid h).setFree c (s.poolFreeCount c - 1)).poolEvaluate

theorem Pooled.poolGiven {s t : State} (h : Pooled s t) {c : Nat} (hc : c < 4) (mid aid : Nat) (handle : Word) :
    Pooled s (t.poolGiven c mid aid handle) :=
  ((h.poolResult _ _ _ _ _ _).setFree hc _).poolEvaluate

section

variable (s : State) {c : Nat} (hc : c < 4) (mid aid : Nat) (h : Word)
include hc

theorem poolGiven_pool : (s.poolGiven c mid aid h).pool = s.pool := by
  rw [State.poolGiven, (poolEvaluate_leveled _).pool, setFree_pool _ hc, poolResult_pool]

theorem poolGiven_usage (g : Nat) : (s.poolGiven c mid aid h).usage g c = s.usage g c := by
  have hirq : Reg.POOL_WRES c ≠ Reg.POOL_IRQ := by simp only [Reg.POOL_WRES, Reg.POOL_IRQ]; omega
  have hstat : ¬statReg (Reg.POOL_WRES c) := by simp only [statReg, Reg.POOL_WRES]; omega
  refine usage_congr ?_ ?_ g
  · rw [State.poolGiven, (poolEvaluate_leveled _).ten, setFree_ten _ hc, poolResult_ten]
  · rw [State.poolGiven, (poolEvaluate_leveled _).rd _ hirq hstat, setFree_rd _ hc _ hirq hstat,
      poolResult_rd _ _ _ _ _ _ _ (by simp only [Reg.POOL_WRES]; omega)]

theorem poolGiven_poolFreeCount : (s.poolGiven c mid aid h).poolFreeCount c = s.poolFreeCount c - 1 := by
  have hlt : s.poolFreeCount c < 2 ^ 13 := fld_lt ..
  rw [State.poolGiven, (poolEvaluate_leveled _).free, setFree_poolFreeCount _ hc, Nat.mod_eq_of_lt (by omega)]

theorem poolGiven_opres :
    (s.poolGiven c mid aid h).rd (Reg.POOL_OPRES (mid % 16)) = BitVec.ofNat 32 (2 ^ 28 + c * 2 ^ 24) := by
  have hirq : Reg.POOL_OPRES (mid % 16) ≠ Reg.POOL_IRQ := by simp only [Reg.POOL_OPRES, Reg.POOL_IRQ]; omega
  have hstat : ¬statReg (Reg.POOL_OPRES (mid % 16)) := by simp only [statReg, Reg.POOL_OPRES]; omega
  rw [State.poolGiven, (poolEvaluate_leveled _).rd _ hirq hstat, setFree_rd _ hc _ hirq hstat, poolResult_opres, Nat.one_mul,
    Nat.zero_mul, Nat.add_zero]

end

theorem poolAlloc_granted {s : State} {c mid aid i : Nat} (hcode : s.allocCode c mid aid = 0) (hi : i < s.pool.cnt.getD c 0)
    (hfree : metaUsed (s.metaWord (poolBase c + i)) = false)
    (hfirst : ∀ j, j < i → metaUsed (s.metaWord (poolBase c + j)) = true) :
    ∃ h, (s.poolAlloc c mid aid).s = (s.poolTaken (poolBase c + i) c aid).poolGiven c mid aid h := by
  have hidx : (List.range (s.pool.cnt.getD c 0)).find? (fun i => !(metaUsed (s.metaWord (poolBase c + i)))) = some i :=
    List.find?_range_eq_some.2 ⟨by simp [hfree], List.mem_range.2 hi, fun j hj => by simp [hfirst j hj]⟩
  refine ⟨word (metaGen (s.metaWord (poolBase c + i)) * 0x1000000 + c * 0x4000 + i), ?_⟩
  unfold State.poolAlloc
  simp only [hcode, hidx]
  rfl

section

variable {s : State} (hs : s.awake) (hstore : s.domOn .store = true)
include hs hstore

/-- What a read of POOL_ALLOCc leaves. -/
theorem leaves_allocated {cls : Fin 4} {wr : Writer} {t : State} (halloc : (s.poolAlloc cls.val wr.mid wr.aid).s = t)
    (ht : Pooled s t) : Leaves (.poolAlloc cls wr) s t :=
  leaves_of_read rfl hs.1 (regUp_pool (by have := cls.isLt; simp only [poolReg, Reg.POOL_ALLOC]; omega) hstore)
    ((congrArg Prod.fst (readReg_poolAlloc s cls.isLt wr)).trans halloc) ht.steady

theorem poolAlloc_denied {cls : Fin 4} {wr : Writer} (hcode : s.allocCode cls.val wr.mid wr.aid ≠ 0) :
    Leaves (.poolAlloc cls wr) s ((s.incSat (Reg.POOL_DENY cls.val) 0 16).wr (Reg.POOL_OPRES (wr.mid % 16))
      (BitVec.ofNat 32 (2 ^ 28 + cls.val * 2 ^ 24 + s.allocCode cls.val wr.mid wr.aid * 2 ^ 16))).poolEvaluate := by
  have hcls := cls.isLt
  have hle := allocCode_le s cls.val wr.mid wr.aid
  have halloc := poolAlloc_refused hcode
  rw [poolResult_ok _ _ _ _ _ _ (by omega), resultWord_eq, Nat.one_mul] at halloc
  exact leaves_allocated hs hstore halloc
    (((Pooled.refl s).wr (a := Reg.POOL_DENY cls.val) (by simp only [poolReg, Reg.POOL_DENY]; omega) _).wr
      (by simp only [poolReg, Reg.POOL_OPRES]; omega) _).poolEvaluate

theorem poolAlloc_grants {cls : Fin 4} {wr : Writer} {i : Nat} (hdef : s.pool.undef = none)
    (hcode : s.allocCode cls.val wr.mid wr.aid = 0) (hi : i < s.pool.cnt.getD cls.val 0)
    (hfree : metaUsed (s.metaWord (poolBase cls.val + i)) = false)
    (hfirst : ∀ j, j < i → metaUsed (s.metaWord (poolBase cls.val + j)) = true) :
    ∃ t, exec (.poolAlloc cls wr) s = .next t ∧
      t.metaWord (poolBase cls.val + i) = descWord wr.aid 0 (metaGen (s.metaWord (poolBase cls.val + i))) ∧
      (∀ k, k ≠ poolBase cls.val + i → t.metaWord k = s.metaWord k) ∧
      t.usage wr.aid cls.val = min (if wr.aid < 0x400 then 255 else 8191) (s.usage wr.aid cls.val + 1) ∧
      t.f (Reg.POOL_STAT cls.val) 0 13 = s.f (Reg.POOL_STAT cls.val) 0 13 - 1 ∧
      t.rd (Reg.POOL_OPRES (wr.mid % 16)) = BitVec.ofNat 32 (2 ^ 28 + cls.val * 2 ^ 24) ∧ t.core = s.core ∧ t.store = s.store := by
  have hc := cls.isLt
  obtain ⟨h, halloc⟩ := poolAlloc_granted hcode hi hfree hfirst
  have hpooled := ((Pooled.refl s).poolTaken hc (poolBase cls.val + i) wr.aid).poolGiven hc wr.mid wr.aid h
  have hpool := (settle_pool _).trans (poolGiven_pool (s.poolTaken (poolBase cls.val + i) cls.val wr.aid) hc wr.mid wr.aid h)
  refine ⟨_, leaves_allocated hs hstore halloc hpooled, ?_, fun k hk => ?_, ?_, ?_, ?_, ?_, ?_⟩
  · rw [metaWord_congr hpool, poolTaken_metaWord_self hdef]
  · rw [metaWord_congr hpool, poolTaken_metaWord_ne _ _ _ hk]
  · rw [settle_usage _ _ hc, poolGiven_usage _ hc, poolTaken_usage _ _ _ hc]
  · refine (settle_poolFreeCount _ hc).trans ((poolGiven_poolFreeCount _ hc _ _ _).trans (congrArg (· - 1) ?_))
    exact congrArg (fld · 0 13) (poolTaken_rd _ _ _ (by simp only [Reg.POOL_STAT, Reg.POOL_WRES]; omega))
  · rw [settle_rd _ _ (levelReg_poolReg (by simp only [poolReg, Reg.POOL_OPRES]; omega)), poolGiven_opres _ hc]
  · rw [settle_core, hpooled.core]
  · rw [settle_store, hpooled.store]

end

/-! ## Operations on a handle (R337) -/

section

variable {s : State} {op mid aid : Nat} {h : Word}

theorem handleCode_cases (s : State) (op : Nat) (h : Word) : s.handleCode op h = 0 ∨ 0x10 ≤ s.handleCode op h := by
  unfold State.handleCode
  dsimp only
  split_ifs <;> simp

theorem freeCode_cases (s : State) (n aid : Nat) : s.freeCode n aid = 0 ∨ 0x10 ≤ s.freeCode n aid := by
  unfold State.freeCode
  dsimp only
  split_ifs <;> simp

theorem freeCode_zero {n : Nat} (hcode : s.freeCode n aid = 0) : metaAid (s.metaWord n) = aid := by
  by_contra hne
  simp [State.freeCode, hne] at hcode

/-- An operation whose handle fails its checks changes nothing beyond its result. -/
theorem poolOp_handle_fails (hcode : s.handleCode op h ≠ 0) :
    s.poolOp op h mid aid = (s.poolResult op (hClass h) (s.handleCode op h) mid aid h).poolEvaluate := by
  simp only [State.poolOp, ne_eq, hcode, not_false_eq_true, if_true]

/-- FREE, and DONE without an entry, act as a free. -/
theorem poolOp_frees (hrelease : op = 2 ∨ op = 4 ∧ s.entryOf (hDesc h) aid = none) (hhandle : s.handleCode op h = 0)
    (hcode : s.freeCode (hDesc h) aid = 0) :
    s.poolOp op h mid aid = ((s.freeBuffer (hDesc h)).poolResult op (hClass h) 0 mid aid h).poolEvaluate := by
  obtain rfl | ⟨rfl, hnone⟩ := hrelease
  · simp [State.poolOp, hhandle, hcode]
  · simp [State.poolOp, hhandle, hcode, hnone]

theorem poolOp_free_fails (hhandle : s.handleCode 2 h = 0) (hcode : s.freeCode (hDesc h) aid ≠ 0) :
    s.poolOp 2 h mid aid = (s.poolResult 2 (hClass h) (s.freeCode (hDesc h) aid) mid aid h).poolEvaluate := by
  simp [State.poolOp, hhandle, hcode]

theorem poolOp_releases {e : Nat} (hhandle : s.handleCode 3 h = 0) (hentry : s.entryOf (hDesc h) aid = some e)
    (hshares : metaShares (s.metaWord (hDesc h)) ≠ 0) :
    s.poolOp 3 h mid aid = (((s.takeShares e 1).setShares (hDesc h) (metaShares (s.metaWord (hDesc h)) - 1)).poolResult 3
      (hClass h) 0 mid aid h).poolEvaluate := by
  simp [State.poolOp, hhandle, State.releaseCode, State.releaseShare, hentry, hshares]

/-! ## What a free leaves (R332) -/

theorem freeBuffer_metaWord (hdef : s.pool.undef = none) (n : Nat) :
    (s.freeBuffer n).metaWord n =
      BitVec.ofNat 32 (if 255 ≤ metaGen (s.metaWord n) then 1 else metaGen (s.metaWord n) + 1) := by
  unfold State.freeBuffer
  extract_lets d c gen charged freed
  rw [metaWord_congr (setFree_pool _ (poolClass_lt n) _),
    metaWord_setMeta_self (s := charged) ((congrArg Pool.undef (setUsage_pool ..)).trans hdef)]

theorem freeBuffer_usage (s : State) (n : Nat) :
    (s.freeBuffer n).usage (metaAid (s.metaWord n)) (poolClass n) = s.usage (metaAid (s.metaWord n)) (poolClass n) - 1 := by
  have hc := poolClass_lt n
  unfold State.freeBuffer
  extract_lets d c gen charged freed
  have hwres : (freed.setFree c (freed.poolFreeCount c + 1)).rd (Reg.POOL_WRES c) = charged.rd (Reg.POOL_WRES c) :=
    setFree_rd freed hc _ (by simp only [Reg.POOL_WRES, Reg.POOL_IRQ]; omega) (by simp only [statReg, Reg.POOL_WRES]; omega)
  have hten : (freed.setFree c (freed.poolFreeCount c + 1)).ten.table = charged.ten.table := by rw [setFree_ten _ hc]; rfl
  have hle := usage_le s (metaAid d) c
  rw [show metaAid (s.metaWord n) = metaAid d from rfl, show poolClass n = c from rfl, usage_congr hten hwres,
    show charged.usage (metaAid d) c = _ from usage_setUsage s _ hc _]
  omega

theorem freeBuffer_poolFreeCount (s : State) (n : Nat) :
    (s.freeBuffer n).poolFreeCount (poolClass n) = (s.poolFreeCount (poolClass n) + 1) % 2 ^ 13 := by
  unfold State.freeBuffer
  extract_lets d c gen charged freed
  have hkept : freed.poolFreeCount c = s.poolFreeCount c :=
    congrArg (fld · 0 13) (setUsage_rd s _ _ (by simp only [Reg.POOL_STAT, Reg.POOL_WRES]; omega))
  rw [show poolClass n = c from rfl, setFree_poolFreeCount _ (poolClass_lt n), hkept]

end

section

variable {s : State} (hs : s.awake) (hstore : s.domOn .store = true) {op a : Nat} {h : Word} {wr : Writer} {c : Instr}
  (hexec : exec c s = .next (s.cmd fun s => s.regRow a h wr)) (ha : poolReg a)
  (hwrite : s.writeReg a h wr = s.poolOp op h wr.mid wr.aid)
include hs hstore hexec ha hwrite

/-- An operation that is carried out, or that fails, ends with its result. -/
theorem poolOp_concludes {u : State} {code : Nat}
    (hop : s.poolOp op h wr.mid wr.aid = (u.poolResult op (hClass h) code wr.mid wr.aid h).poolEvaluate) (hu : Pooled s u) :
    exec c s = .next (u.concluded op (hClass h) code wr.mid wr.aid h) :=
  leaves_pooled hexec hs ha hstore (hwrite.trans hop) (hu.poolResult _ _ _ _ _ _).poolEvaluate

/-- An operation that fails changes nothing, and its error is counted. -/
theorem poolOp_denied {code : Nat} (hcode : 0x10 ≤ code)
    (hop : s.poolOp op h wr.mid wr.aid = (s.poolResult op (hClass h) code wr.mid wr.aid h).poolEvaluate) :
    ∃ t, exec c s = .next t ∧
      t.rd (Reg.POOL_OPRES (wr.mid % 16)) = BitVec.ofNat 32 (op * 2 ^ 28 + hClass h * 2 ^ 24 + code * 2 ^ 16) ∧
      (∀ k, t.metaWord k = s.metaWord k) ∧ t.f Reg.POOL_ERRSTAT 16 16 = min (2 ^ 16 - 1) (s.f Reg.POOL_ERRSTAT 16 16 + 1) ∧
      t.bit Reg.POOL_IRQ 16 = true := by
  refine ⟨_, poolOp_concludes hs hstore hexec ha hwrite hop (.refl s), concluded_opres .., fun k => concluded_metaWord .., ?_⟩
  exact concluded_error _ _ _ _ _ _ _ hcode

/-- The buffer is returned with its next GEN. -/
theorem poolOp_freed (hdef : s.pool.undef = none) (hrelease : op = 2 ∨ op = 4 ∧ s.entryOf (hDesc h) wr.aid = none)
    (hhandle : s.handleCode op h = 0) (hcode : s.freeCode (hDesc h) wr.aid = 0) (hclass : poolClass (hDesc h) = hClass h) :
    ∃ t, exec c s = .next t ∧
      t.metaWord (hDesc h) =
        BitVec.ofNat 32 (if 255 ≤ metaGen (s.metaWord (hDesc h)) then 1 else metaGen (s.metaWord (hDesc h)) + 1) ∧
      t.usage wr.aid (hClass h) = s.usage wr.aid (hClass h) - 1 ∧
      t.f (Reg.POOL_STAT (hClass h)) 0 13 = (s.f (Reg.POOL_STAT (hClass h)) 0 13 + 1) % 2 ^ 13 ∧
      t.rd (Reg.POOL_OPRES (wr.mid % 16)) = BitVec.ofNat 32 (op * 2 ^ 28 + hClass h * 2 ^ 24) := by
  refine ⟨_, poolOp_concludes hs hstore hexec ha hwrite (poolOp_frees hrelease hhandle hcode) ((Pooled.refl s).freeBuffer _), ?_,
    ?_, ?_, ?_⟩
  · rw [concluded_metaWord, freeBuffer_metaWord hdef]
  · rw [concluded_usage _ _ _ _ _ _ _ _ (hClass_lt h), ← freeCode_zero hcode, ← hclass, freeBuffer_usage]
  · refine (concluded_poolFreeCount _ _ _ _ _ _ _ (hClass_lt h)).trans ?_
    rw [← hclass, freeBuffer_poolFreeCount, State.poolFreeCount]
  · rw [concluded_opres, Nat.zero_mul, Nat.add_zero]

end

/-! ## What a release leaves -/

theorem takeShares_pool (s : State) (e k : Nat) :
    (s.takeShares e k).pool = (s.setMeta e (if metaShares (s.metaWord e) - k = 0 then 0
      else entryWord (metaAid (s.metaWord e)) (metaShares (s.metaWord e) - k) (fld (s.metaWord e) 0 13))).pool := by
  rw [State.takeShares, shuse_pool]

theorem poolRelease_gives {s : State} (hs : s.awake) (hstore : s.domOn .store = true) {h : Word} {wr : Writer} {e : Nat}
    (hdef : s.pool.undef = none) (hhandle : s.handleCode 3 h = 0) (hentry : s.entryOf (hDesc h) wr.aid = some e)
    (hshares : metaShares (s.metaWord (hDesc h)) ≠ 0) (hn : hDesc h < 7360) :
    let w := s.metaWord e
    ∃ t, exec (.poolRelease h wr) s = .next t ∧ metaShares (t.metaWord (hDesc h)) = metaShares (s.metaWord (hDesc h)) - 1 ∧
      t.metaWord e = (if metaShares w ≤ 1 then 0 else entryWord (metaAid w) (metaShares w - 1) (fld w 0 13)) ∧
      (∀ k, k ≠ hDesc h → k ≠ e → t.metaWord k = s.metaWord k) := by
  intro w
  have hlt : metaShares (s.metaWord (hDesc h)) < 8 := fld_lt ..
  have he := entryOf_ge hentry
  have hpool := takeShares_pool s e 1
  have hdefTaken : (s.takeShares e 1).pool.undef = none := by rw [hpool, setMeta_undef, hdef]
  refine ⟨_, poolOp_concludes hs hstore rfl (a := Reg.POOL_RELEASE) (by decide) (writeReg_poolRelease s h wr)
    (poolOp_releases hhandle hentry hshares) (((Pooled.refl s).takeShares _ _).setMeta _ _), ?_, ?_, fun k hk hke => ?_⟩
  · rw [concluded_metaWord, metaShares_setShares hdefTaken _ (by omega)]
  · rw [concluded_metaWord, State.setShares, metaWord_setMeta_ne _ _ (by omega), metaWord_congr hpool, metaWord_setMeta_self hdef]
    exact if_congr Nat.sub_eq_zero_iff_le rfl rfl
  · rw [concluded_metaWord, State.setShares, metaWord_setMeta_ne _ _ hk, metaWord_congr hpool, metaWord_setMeta_ne _ _ hke]

/-! ## The checks of a share (R338) -/

theorem poolReady_of_handleCode {s : State} {op : Nat} {h : Word} (hcode : s.handleCode op h = 0) : s.poolReady = true := by
  by_contra hoff
  simp [State.handleCode, Bool.eq_false_iff.2 hoff] at hcode

theorem shareCode_zero {s : State} {n aid newfin holder add : Nat} (hcode : s.shareCode n aid newfin holder add = 0) :
    metaAid (s.metaWord n) = aid ∧ metaShares (s.metaWord n) + add ≤ 7 ∧
      (newfin ≠ aid → newfin < 0x400 → s.usage newfin (poolClass n) < 255) := by
  have hmax := fld_lt (s.trec newfin 3) (8 * poolClass n) 8
  unfold State.shareCode at hcode
  extract_lets d fin c at hcode
  split_ifs at hcode with hfin _ hshares _ hquota
  refine ⟨not_not.1 hfin, not_lt.1 hshares, fun hne ht => ?_⟩
  have hfree : ¬fld (s.trec newfin 3) (8 * poolClass n) 8 ≤ s.usage newfin (poolClass n) :=
    fun hfull => hquota ⟨fun e => hne (e.trans (not_not.1 hfin)), ht, hfull⟩
  omega

/-! ## The steps of a share -/

/-- The staging of a master is consumed. -/
def State.unstaged (s : State) (mid : Nat) : State := { s with pool := { s.pool with staged := alDel s.pool.staged mid } }

/-- The staging plays no part in the checks. -/
theorem unstaged_handleCode (s : State) (mid op : Nat) (h : Word) : (s.unstaged mid).handleCode op h = s.handleCode op h := rfl

theorem unstaged_shareCode (s : State) (mid n aid newfin holder add : Nat) :
    (s.unstaged mid).shareCode n aid newfin holder add = s.shareCode n aid newfin holder add := rfl

theorem unstaged_metaWord (s : State) (mid n : Nat) : (s.unstaged mid).metaWord n = s.metaWord n := rfl

theorem unstaged_undef (s : State) (mid : Nat) : (s.unstaged mid).pool.undef = s.pool.undef := rfl

theorem unstaged_entryOf (s : State) (mid n holder : Nat) : (s.unstaged mid).entryOf n holder = s.entryOf n holder := rfl

theorem unstaged_freeEntry (s : State) (mid : Nat) : (s.unstaged mid).freeEntry = s.freeEntry := rfl

theorem unstaged_staged (s : State) (mid : Nat) : alGet (s.unstaged mid).pool.staged mid = none := alGet_alDel_self ..

theorem setMeta_staged (s : State) (n : Nat) (v : Word) : (s.setMeta n v).pool.staged = s.pool.staged := rfl

theorem unstaged_usage (s : State) (mid aid c : Nat) : (s.unstaged mid).usage aid c = s.usage aid c := rfl

/-- A share by the agent that staged the handle, once every check has passed. -/
theorem poolShare_passes {s : State} {v h : Word} {mid aid : Nat} (hstaged : alGet s.pool.staged mid = some (h, aid))
    (hhandle : s.handleCode 5 h = 0) (hshare : s.shareCode (hDesc h) aid (fld v 16 11) (fld v 0 11) (fld v 29 3) = 0) :
    s.poolShare v mid aid = ((((s.unstaged mid).giveShares (hDesc h) (fld v 0 11) (fld v 29 3)).moveFinisher (hDesc h)
      (fld v 16 11)).poolResult 5 (hClass h) 0 mid aid h).poolEvaluate := by
  have hready : (s.unstaged mid).poolReady = true := poolReady_of_handleCode hhandle
  rw [← unstaged_handleCode s mid] at hhandle
  rw [← unstaged_shareCode s mid] at hshare
  unfold State.unstaged at *
  simp [State.poolShare, hstaged, hready, hhandle, hshare]

theorem giveShares_none (s : State) (n holder : Nat) : s.giveShares n holder 0 = s := if_pos rfl

/-- Entry `e` is written for a holder of `add` shares of buffer `n`, which has as many more outstanding. -/
def State.shareEntered (s : State) (n holder add e : Nat) : State :=
  ((s.setMeta e (entryWord holder add n)).setShares n (metaShares (s.metaWord n) + add)).shuse

/-- A holder without an entry is given a new one. -/
theorem giveShares_new {s : State} {n holder add e : Nat} (hadd : add ≠ 0) (hnone : s.entryOf n holder = none)
    (hfree : s.freeEntry = some e) (hne : n ≠ e) : s.giveShares n holder add = s.shareEntered n holder add e := by
  rw [State.shareEntered, ← metaWord_setMeta_ne s (entryWord holder add n) hne]
  simp only [State.giveShares, if_neg hadd, hnone, hfree]

theorem Pooled.shareEntered {s t : State} (h : Pooled s t) (n holder add e : Nat) : Pooled s (t.shareEntered n holder add e) :=
  ((h.setMeta e _).setMeta n _).shuse

theorem shareEntered_shares {s : State} (hdef : s.pool.undef = none) {n add : Nat} (holder e : Nat)
    (hadd : metaShares (s.metaWord n) + add ≤ 7) :
    metaShares ((s.shareEntered n holder add e).metaWord n) = metaShares (s.metaWord n) + add := by
  rw [State.shareEntered, metaWord_congr (shuse_pool _), metaShares_setShares ((setMeta_undef ..).trans hdef) _ (by omega)]

section

variable {s : State} (hdef : s.pool.undef = none) {n e : Nat} (hne : n ≠ e) (holder add : Nat)
include hdef hne

theorem shareEntered_entry : (s.shareEntered n holder add e).metaWord e = entryWord holder add n := by
  rw [State.shareEntered, metaWord_congr (shuse_pool _), State.setShares, metaWord_setMeta_ne _ _ hne.symm,
    metaWord_setMeta_self hdef]

theorem shareEntered_aid : metaAid ((s.shareEntered n holder add e).metaWord n) = metaAid (s.metaWord n) := by
  rw [State.shareEntered, metaWord_congr (shuse_pool _), metaAid_setShares ((setMeta_undef ..).trans hdef),
    metaWord_setMeta_ne _ _ hne]

end

theorem shareEntered_staged (s : State) (n holder add e : Nat) : (s.shareEntered n holder add e).pool.staged = s.pool.staged := by
  rw [State.shareEntered, shuse_pool, State.setShares, setMeta_staged, setMeta_staged]

theorem moveFinisher_same {s : State} {n fin : Nat} (h : metaAid (s.metaWord n) = fin) : s.moveFinisher n fin = s := if_pos h

/-- One unit of usage moves from the old finisher of a buffer to the new one. -/
def State.usageMoved (s : State) (old fin c : Nat) : State :=
  let t := s.setUsage old c (s.usage old c - 1)
  t.setUsage fin c (t.usage fin c + 1)

theorem usageMoved_pool (s : State) (old fin c : Nat) : (s.usageMoved old fin c).pool = s.pool :=
  (setUsage_pool ..).trans (setUsage_pool ..)

theorem usageMoved_usage (s : State) {old fin c : Nat} (hc : c < 4) (hold : 0x400 ≤ old) (hfin : fin < 0x400)
    (hroom : s.usage fin c < 255) :
    (s.usageMoved old fin c).usage fin c = s.usage fin c + 1 ∧ (s.usageMoved old fin c).usage old c = s.usage old c - 1 := by
  have hle := usage_le s old c
  rw [if_neg (by omega)] at hle
  let charged := s.setUsage old c (s.usage old c - 1)
  obtain ⟨-, hkept⟩ := usage_setUsage_apart s hfin hold c (s.usage old c - 1)
  obtain ⟨hother, -⟩ := usage_setUsage_apart charged hfin hold c (charged.usage fin c + 1)
  refine ⟨(usage_setUsage charged fin hc _).trans ?_, hother.trans ((usage_setUsage s old hc _).trans ?_)⟩
  · rw [if_pos hfin, hkept]
    omega
  · rw [if_neg (by omega)]
    omega

/-- A buffer passes to an agent that holds no share of it. -/
theorem moveFinisher_moves {s : State} {n fin : Nat} (hne : metaAid (s.metaWord n) ≠ fin) (hn : n < 7360)
    (hnone : s.entryOf n fin = none) :
    let moved := s.usageMoved (metaAid (s.metaWord n)) fin (poolClass n)
    s.moveFinisher n fin = moved.setMeta n (setFld (moved.metaWord n) 20 11 fin) := by
  intro moved
  have hentry : (moved.setMeta n (setFld (moved.metaWord n) 20 11 fin)).entryOf n fin = none := by
    rw [entryOf_setMeta _ hn, entryOf_congr (usageMoved_pool ..), hnone]
  have hmove : s.moveFinisher n fin = (moved.setMeta n (setFld (moved.metaWord n) 20 11 fin)).absorb n fin := if_neg hne
  rw [hmove, State.absorb, hentry]

theorem Pooled.usageMoved {s t : State} (h : Pooled s t) {c : Nat} (hc : c < 4) (old fin : Nat) :
    Pooled s (t.usageMoved old fin c) :=
  (h.setUsage hc _ _).setUsage hc _ _

/-! ## The commands of a share -/

section

variable {s : State} (hs : s.awake) (hstore : s.domOn .store = true)
include hs hstore

theorem poolShareh_stages (v : Word) (wr : Writer) : Leaves (.poolShareh v wr) s
    (State.poolEvaluate { s with pool := { s.pool with staged := alInsert (alDel s.pool.staged wr.mid) wr.mid (v, wr.aid) } }) :=
  leaves_pooled rfl hs (a := Reg.POOL_SHAREH) (by decide) hstore (writeReg_poolShareh s v wr) ((Pooled.refl s).pool _).poolEvaluate

theorem exec_poolShare {v h : Word} {wr : Writer} {u : State}
    (hshare : s.poolShare v wr.mid wr.aid = (u.poolResult 5 (hClass h) 0 wr.mid wr.aid h).poolEvaluate) (hu : Pooled s u) :
    exec (.poolShare v wr) s = .next (u.concluded 5 (hClass h) 0 wr.mid wr.aid h) :=
  leaves_pooled rfl hs (a := Reg.POOL_SHARE) (by decide) hstore ((writeReg_poolShare s v wr).trans hshare)
    (hu.poolResult _ _ _ _ _ _).poolEvaluate

variable {v h : Word} {wr : Writer} (hdef : s.pool.undef = none) (hstaged : alGet s.pool.staged wr.mid = some (h, wr.aid))
  (hhandle : s.handleCode 5 h = 0) (hshare : s.shareCode (hDesc h) wr.aid (fld v 16 11) (fld v 0 11) (fld v 29 3) = 0)
  (hn : hDesc h < 7360)
include hdef hstaged hhandle hshare hn

/-- The finisher keeps its buffer and gives shares to an agent that held none. -/
theorem poolShare_gives {e : Nat} (hfin : fld v 16 11 = wr.aid) (hadd : fld v 29 3 ≠ 0)
    (hnone : s.entryOf (hDesc h) (fld v 0 11) = none) (hfree : s.freeEntry = some e) :
    ∃ t, exec (.poolShare v wr) s = .next t ∧ t.metaWord e = entryWord (fld v 0 11) (fld v 29 3) (hDesc h) ∧
      metaShares (t.metaWord (hDesc h)) = metaShares (s.metaWord (hDesc h)) + fld v 29 3 ∧ metaAid (t.metaWord (hDesc h)) = wr.aid ∧
      alGet t.pool.staged wr.mid = none := by
  obtain ⟨hfinisher, hshares, -⟩ := shareCode_zero hshare
  have he := freeEntry_ge hfree
  have hne : hDesc h ≠ e := by omega
  have hundef : (s.unstaged wr.mid).pool.undef = none := (unstaged_undef s _).trans hdef
  have hgive := giveShares_new hadd ((unstaged_entryOf s wr.mid ..).trans hnone) ((unstaged_freeEntry s wr.mid).trans hfree) hne
  have haid := shareEntered_aid hundef hne (fld v 0 11) (fld v 29 3)
  rw [unstaged_metaWord, hfinisher] at haid
  have hpass := poolShare_passes hstaged hhandle hshare
  rw [hgive, moveFinisher_same (haid.trans hfin.symm)] at hpass
  refine ⟨_, exec_poolShare hs hstore hpass (((Pooled.refl s).pool _).shareEntered ..), ?_, ?_, ?_, ?_⟩
  · rw [concluded_metaWord, shareEntered_entry hundef hne]
  · rw [concluded_metaWord, shareEntered_shares hundef _ _ hshares, unstaged_metaWord]
  · rw [concluded_metaWord, haid]
  · rw [concluded_pool, shareEntered_staged, unstaged_staged]

/-- The buffer passes from an agent that is no tenant to a tenant without a share of it. -/
theorem poolShare_passesOn (hfin : fld v 16 11 ≠ wr.aid) (hadd : fld v 29 3 = 0) (hten : fld v 16 11 < 0x400)
    (haid : 0x400 ≤ wr.aid) (hnone : s.entryOf (hDesc h) (fld v 16 11) = none) :
    ∃ t, exec (.poolShare v wr) s = .next t ∧ metaAid (t.metaWord (hDesc h)) = fld v 16 11 ∧
      t.usage (fld v 16 11) (poolClass (hDesc h)) = s.usage (fld v 16 11) (poolClass (hDesc h)) + 1 ∧
      t.usage wr.aid (poolClass (hDesc h)) = s.usage wr.aid (poolClass (hDesc h)) - 1 ∧ alGet t.pool.staged wr.mid = none := by
  have hc := poolClass_lt (hDesc h)
  obtain ⟨hfinisher, -, hroom⟩ := shareCode_zero hshare
  let u := s.unstaged wr.mid
  let moved := u.usageMoved wr.aid (fld v 16 11) (poolClass (hDesc h))
  obtain ⟨hnew, hold⟩ := usageMoved_usage u hc haid hten (hroom hfin hten)
  have hpool : moved.pool = u.pool := usageMoved_pool ..
  have hmove : u.moveFinisher (hDesc h) (fld v 16 11) =
      moved.setMeta (hDesc h) (setFld (moved.metaWord (hDesc h)) 20 11 (fld v 16 11)) := by
    have hmoves := moveFinisher_moves (s := u) (fun e => hfin (e.symm.trans hfinisher)) hn hnone
    rwa [unstaged_metaWord, hfinisher] at hmoves
  have hpass := poolShare_passes hstaged hhandle hshare
  rw [hadd, giveShares_none, hmove] at hpass
  refine ⟨_, exec_poolShare hs hstore hpass ((((Pooled.refl s).pool _).usageMoved hc _ _).setMeta _ _), ?_, ?_, ?_, ?_⟩
  · rw [concluded_metaWord, metaWord_setMeta_self (by rw [hpool]; exact hdef), metaAid, fld_setFld_self _ _ _ _ (by decide),
      Nat.mod_eq_of_lt (by omega)]
  · rw [concluded_usage _ _ _ _ _ _ _ _ hc, setMeta_usage, hnew, unstaged_usage]
  · rw [concluded_usage _ _ _ _ _ _ _ _ hc, setMeta_usage, hold, unstaged_usage]
  · rw [concluded_pool, setMeta_staged, hpool, unstaged_staged]

end

/-! ## Thresholds and the error count (R343, R347) -/

section

variable {s : State} (hs : s.awake) (hstore : s.domOn .store = true)
include hs hstore

/-- A write of POOL_THRAc or POOL_THRBc leaves what the check of its order leaves. -/
theorem leaves_poolThr {cls : Fin 4} {second : Bool} {v : Word} {wr : Writer} {t : State}
    (hwrite : s.writePoolThr cls.val second v = t) (ht : Pooled s t) : Leaves (.poolThrWrite cls second v wr) s t := by
  have hreg : poolReg (if second then Reg.POOL_THRB cls.val else Reg.POOL_THRA cls.val) := by
    have hc := cls.isLt
    split <;> simp only [poolReg, Reg.POOL_THRA, Reg.POOL_THRB] <;> omega
  exact leaves_pooled rfl hs hreg hstore ((writeReg_poolThr s cls second v wr).trans hwrite) ht

theorem poolErrClr_clears {v : Word} {wr : Writer} (hv : v.getLsbD 1 = true) : Leaves (.poolErrClr v wr) s
    ((s.wr Reg.POOL_ERRSTAT (s.written Reg.POOL_ERRSTAT v)).setF Reg.POOL_ERRSTAT 16 16 0) :=
  leaves_pooled rfl hs (a := Reg.POOL_ERRSTAT) (by decide) hstore ((writeReg_poolErrstat s v wr).trans (if_pos hv))
    (((Pooled.refl s).wr (by decide) _).wr (by decide) _)

end

/-- Settles O35: each command is one operation of the manager, which changes the manager's state alone (`Pooled`); its result and
the levels are noted beside the metadata, the usage and the free counts that it leaves (`State.concluded`). -/
theorem poolManager : Obligations.PoolManager := by
  unfold Obligations.PoolManager
  intro s cls second v h wr i e hs hstore c aid opres denied n d freed inRange cfg thrA thrB
  refine ⟨fun ⟨hoff, hv⟩ hcfg hlock => ?_, fun ⟨hoff, hv⟩ hcfg => ?_, fun hinit => ?_, fun hcode => ?_,
    fun hdef hcode hi hfree hfirst => ?_, fun hdef hhandle hcode hrange => ?_, fun hhandle hcode => ?_,
    fun hdef hhandle hnone hcode hrange => ?_, fun hdef hhandle hentry hshares hn => ?_, fun hcode => ?_, ?_, ?_, fun horder => ?_,
    fun horder => ?_, fun hv => ?_⟩
  · exact poolEnable_enables hs hstore hoff hv hcfg hlock
  · exact poolEnable_refused hs hstore hoff hv hcfg
  · exact poolInitDone_frees hs hstore hinit
  · exact poolAlloc_denied hs hstore hcode
  · exact poolAlloc_grants hs hstore hdef hcode hi hfree hfirst
  · exact poolOp_freed hs hstore rfl (a := Reg.POOL_FREE) (by decide) (writeReg_poolFree s v wr) hdef (.inl rfl) hhandle hcode
      hrange.2
  · exact poolOp_denied hs hstore rfl (a := Reg.POOL_FREE) (by decide) (writeReg_poolFree s v wr)
      ((freeCode_cases s n aid).resolve_left hcode) (poolOp_free_fails hhandle hcode)
  · exact poolOp_freed hs hstore rfl (a := Reg.POOL_DONE) (by decide) (writeReg_poolDone s v wr) hdef (.inr ⟨rfl, hnone⟩) hhandle
      hcode hrange.2
  · exact poolRelease_gives hs hstore hdef hhandle hentry hshares hn
  · exact poolOp_denied hs hstore rfl (a := Reg.POOL_RELEASE) (by decide) (writeReg_poolRelease s v wr)
      ((handleCode_cases s 3 v).resolve_left hcode) (poolOp_handle_fails hcode)
  · exact poolShareh_stages hs hstore v wr
  · intro add fin holder m hdef hstaged hhandle hshare hm
    have hadd : fld v 29 3 = add := (fld_eq_div_mod v 29 3).trans (Nat.mod_eq_of_lt (by omega))
    have hfin : fld v 16 11 = fin := fld_eq_div_mod v 16 11
    have hholder : fld v 0 11 = holder := (fld_eq_div_mod v 0 11).trans (by rw [Nat.pow_zero, Nat.div_one])
    rw [← hadd, ← hfin, ← hholder] at hshare ⊢
    exact ⟨poolShare_gives hs hstore hdef hstaged hhandle hshare hm, poolShare_passesOn hs hstore hdef hstaged hhandle hshare hm⟩
  · exact leaves_poolThr hs hstore (if_pos horder) (((Pooled.refl s).wr (by simp only [poolReg, Reg.POOL_THRA]; omega) _).wr
      (by simp only [poolReg, Reg.POOL_THRB]; omega) _).poolEvaluate
  · exact leaves_poolThr hs hstore (if_neg (Bool.eq_false_iff.1 horder)) ((Pooled.refl s).wr (by decide) _)
  · exact poolErrClr_clears hs hstore hv

end Sys2Proof.Machine
